-- ==== Sys2Proof/Word.lean ====
section
/-!
DEFINITION. Word types. Registers are 32 bits wide (spec/00_scope.md, Register access), a short stamp and a Gloss are
64-bit words (R21, R36), descriptors and records are bytes. A field of a register is held as a natural number below
2^width; a whole register, a stamp or a Gloss word as the spec's word.
-/

namespace Sys2Proof

/-- A 32-bit register word. -/
abbrev Word := BitVec 32

/-- A 64-bit word: short stamp (R21), Gloss (R36). -/
abbrev Word64 := BitVec 64

/-- A byte. -/
abbrev Byte := BitVec 8

end Sys2Proof
end

