-- ==== Sys2Proof/Syntax.lean ====
section
/-!
DEFINITION. The commands of the block: one constructor of `Instr` per row of spec/opcode_table.json, with the row's
operands. What the spec does not compute (the code a delay line reads, a solver's solution, a received frame, what a
sensor or a supply reads) is an operand of the command that brings it in. Instance numbers are bounded by their type.
-/

namespace Sys2Proof

/-- A command descriptor as its ring carries it (R401), but for OPCODE and PHASE: ring, FLAGS byte, byte 3, TAG,
EFFECTIVE_TIME and the operand bytes 16–63. -/
structure Desc where
  ring : Fin 64
  flags : Byte
  byte3 : Byte
  tag : Word
  eff : Word64
  op : List Byte
  deriving DecidableEq, Repr

/-- The accumulations of a channel's seven correlators (R98), each (I, Q). -/
structure Corr where
  ve : Int × Int
  e : Int × Int
  p : Int × Int
  l : Int × Int
  vl : Int × Int
  ma : Int × Int
  mb : Int × Int
  deriving DecidableEq, Repr

/-- What a tracking channel latches at a solution epoch: C/N0 (dB-Hz), elevation (degrees), its correlators, and its code and carrier
measurements (ps). The code measurement is the instant of reception in the second of the time base less the instant of transmission
in the second `tow` of system time (SatIn). -/
structure ChanIn where
  ch : Fin 128
  cn0 : Nat
  elev : Int
  corr : Corr
  code : Int
  carrier : Int
  deriving DecidableEq, Repr

/-- The UTC parameters a satellite broadcasts: Δt_LS, system time less UTC (but for whole seconds) at the epoch in ps, and a leap (T_L,
inserted). -/
structure UtcPar where
  dtLS : Int
  off : Int
  leap : Option (Nat × Bool)
  deriving DecidableEq, Repr

/-- A satellite the channel manager knows of: constellation (0 GPS, 1 Galileo, 2 BeiDou, 3 QZSS), number and elevation. -/
structure SkySat where
  con : Fin 4
  svid : Byte
  elev : Int
  deriving DecidableEq, Repr

/-- A satellite at an epoch: its constellation and channels, its health, the broadcast week and second of week of the epoch's second,
the pseudorange modelled at the point EpochIn.at with a receiver clock of no offset (ps), the unit vector towards it (2⁻³⁰), its
ionospheric delays in L1 and L5 by the broadcast model of TSYS (ps), and the UTC parameters decoded from it. -/
structure SatIn where
  con : Fin 4
  l1 : Option (Fin 128)
  l5 : Option (Fin 128)
  healthy : Bool
  week : Nat
  tow : Nat
  range : Int
  los : Int × Int × Int
  ion1 : Nat
  ion5 : Nat
  utc : Option UtcPar
  deriving DecidableEq, Repr

/-- A solution epoch: the channels and satellites, the point the ranges are modelled at (1/256 m), the position residual of reference 16
(m), and the achieved σ_pos of a survey's average (mm). -/
structure EpochIn where
  chans : List ChanIn
  sats : List SatIn
  at0 : Int × Int × Int
  posRes : Nat
  surveySig : Nat
  deriving DecidableEq, Repr

/-- An Announce message (IEEE 1588-2019): sender, its MAC address as received (0 in what the Q9600 sends), the grandmaster data set, steps removed, and the time properties. -/
structure Ann where
  ident : Nat
  mac : Nat
  prio1 : Nat
  cls : Nat
  acc : Nat
  oslv : Nat
  prio2 : Nat
  localPrio : Nat
  gm : Nat
  steps : Nat
  tsrc : Nat
  timeTrace : Bool
  freqTrace : Bool
  utc : Int
  utcValid : Bool
  leap61 : Bool
  leap59 : Bool
  deriving DecidableEq, Repr


/-- The AUTHENTICATION TLV of a received message (R379, R380): keyID, securityParameterPointer, bytes of RES, and whether the
disclosedKey flag is set. -/
structure AuthIn where
  keyId : Nat
  spp : Nat
  resLen : Nat
  disclosed : Bool
  deriving DecidableEq, Repr

/-- A unicast negotiation TLV (R339): 0 request, 1 cancel, 2 grant, 3 acknowledge cancel; messageType; logInterMessagePeriod;
durationField. -/
structure SigTlv where
  op : Nat
  type : Nat
  logInt : Int
  dur : Nat
  deriving DecidableEq, Repr

/-- An ORGANIZATION_EXTENSION TLV of lengthField 14: organizationId, organizationSubType, dataField (bit 63 first). -/
structure OrgTlv where
  orgId : Nat
  sub : Nat
  data : Word64
  deriving DecidableEq, Repr

/-- A PTP message as the classifier parses it (R324, R352): messageType, versionPTP, domainNumber, whether its length, type or
TLVs are malformed, sequenceId, correctionField (2⁻¹⁶ ns), sourcePortIdentity, twoStepFlag, the timestamp it carries (ns),
requestingPortIdentity, and its TLVs. -/
structure PtpIn where
  type : Nat
  version : Nat
  domain : Nat
  malformed : Bool
  seqId : Nat
  corr : Int
  sender : Nat
  twoStep : Bool
  stamp : Nat
  reqPort : Nat
  ann : Option Ann
  orgs : List OrgTlv
  auth : Option AuthIn
  sigs : List SigTlv
  deriving DecidableEq, Repr

/-- The NTS fields of a request (R373, R374): whether the structure rules hold, the cookie's KEY_ID, the bytes of the Unique
Identifier's body, of the NTP header and the fields before the Authenticator field, of its nonce and of its ciphertext. -/
structure NtsIn where
  wellFormed : Bool
  keyId : Nat
  uidLen : Nat
  ad : Nat
  nonceLen : Nat
  ctLen : Nat
  deriving DecidableEq, Repr

/-- An NTP request as the classifier parses it: bytes of UDP payload, version, mode, poll, transmit timestamp, whether its
extension fields are malformed, the types of the extension fields it carries, and its NTS fields. -/
structure NtpIn where
  len : Nat
  vn : Nat
  mode : Nat
  poll : Nat
  xmt : Nat
  malformed : Bool
  exts : List Nat
  nts : Option NtsIn
  deriving DecidableEq, Repr

/-- What a frame carries (R324). The transport is 0 L2, 1 UDP over IPv4, 2 UDP over IPv6. -/
inductive Pay where
  | ntp (transport : Nat) (m : NtpIn)
  | ptp (transport : Nat) (m : PtpIn)
  | ntsKe
  | addr
  | pause
  | pfc
  | other
  deriving DecidableEq, Repr

/-- A PRP trailer or HSR tag (R279–R282): HSR or PRP, malformed, LanId, sequence number. -/
structure RedIn where
  hsr : Bool
  malformed : Bool
  lan : Nat
  seq : Nat
  deriving DecidableEq, Repr

/-- Where a message timestamp point lies (R298): the word edge, in 2⁻¹⁶ ns from the start of the TB cycle in progress as the lane's phase
detector interpolates it (below 0 before), and the bit position of the point in the word. -/
structure Edge where
  frac : Int
  bit : Nat
  deriving DecidableEq, Repr

/-- A received marker: the edge that stamps it and the unit interval of the lane's recovered clock (2⁻³² ns). -/
structure MarkerIn where
  edge : Edge
  ui : Nat
  deriving DecidableEq, Repr

/-- The start positions the TSU predicts on a port (R304): one of them in TB, in 2⁻³² ns, and the numbers, counted from it, of the grid
positions that a marker or ordered set would overlap. -/
structure StartGrid where
  origin : Int
  blocked : List Int
  deriving DecidableEq, Repr

/-- A frame received on a port: where its timestamp point lies and the unit interval of the recovered clock (2⁻³² ns), octets from destination address to FCS, what the line code and the FCS show, addresses, VLAN tags (TPID, TCI), IP and
UDP checks, source address in IPv6 form, redundancy tag, room in the packet buffer, contents, and the octets without FCS. -/
structure FrameIn where
  edge : Edge
  ui : Nat
  len : Nat
  fcsOk : Bool
  codeErr : Bool
  fecUncorr : Bool
  da : Nat
  sa : Nat
  tags : List (Nat × Nat)
  ipErr : Bool
  l4Err : Bool
  frag : Bool
  ip : Nat
  red : Option RedIn
  room : Bool
  pay : Pay
  octets : List Byte
  deriving DecidableEq, Repr

/-! ### Conjunction link frames (R493, R494) -/

/-- A HEARTBEAT's payload: UNIT_ID, device mode, role, pair state, flags, time-scale state. -/
structure HbPay where
  unit : Nat
  mode : Nat
  role : Nat
  pstate : Nat
  flags : Nat
  ts : Nat
  deriving DecidableEq, Repr

/-- What a STATE frame says of its sender beside the stamps: core Gloss, TAI_UTC, its flags (bit 0 UTC_VALID, bit 1 LEAP61, bit 2
LEAP59), the clockClasses, timeSource, the traceable bits, verdict, stepsRemoved and NTP reference ID. -/
structure PeerState where
  gloss : Nat
  tai : Int
  utc : Nat
  clsT : Nat
  clsD : Nat
  tsrc : Nat
  trc : Nat
  verdict : Nat
  steps : Nat
  refId : Nat
  deriving DecidableEq, Repr

/-- An IDENT's payload: part, stepping, UNIT_ID, Flielm release, Q58, CFG_DIGEST. -/
structure IdentPay where
  part : Nat
  stepping : Nat
  unit : Nat
  release : Nat
  q58 : Bool
  digest : Nat
  deriving DecidableEq, Repr

/-- The payloads of R494. Stamps of a STATE frame are in 2⁻¹⁶ ns, those of KEY and KEY_ACK are short stamps. -/
inductive LinkPay where
  | heartbeat (h : HbPay)
  | state (sent rcvd : Nat) (p : PeerState)
  | ident (p : IdentPay)
  | key (k : Nat) (adopt : Nat)
  | keyAck (adopt : Nat)
  | notice (src cls flags stamp : Nat)
  deriving DecidableEq, Repr

/-- A frame on lane `lane`: FSEQ, CSEQ, payload. -/
structure LinkFrame where
  lane : Nat
  fseq : Nat
  cseq : Nat
  pay : LinkPay
  deriving DecidableEq, Repr

/-- The header of a frame received: the LANE it names, FSEQ, CSEQ. -/
structure LinkHdr where
  lane : Fin 2
  fseq : BitVec 16
  cseq : Word
  deriving DecidableEq, Repr

/-- What verifying one image of a set finds: its RELEASE, and a cause as FIRMWARE_STAGE gives it (0 verified, 2 digest, 3 signature,
4 rollback, 5 release mismatch, 6 DMA, 7 flash). -/
structure ImageIn where
  release : BitVec 16
  cause : Fin 8
  deriving DecidableEq, Repr

/-- The three images of a slot: SUP, TNS and SVC (R558). -/
structure ImageSet where
  sup : ImageIn
  tns : ImageIn
  svc : ImageIn
  deriving DecidableEq, Repr

/-- The commands, in the order of spec/opcode_table.json: each constructor names its row's rule, and the meaning of its operands
stands at its meaning. -/
inductive Instr where
  /-- Row REGISTER_WRITE (R12). -/
  | registerWrite (r : BitVec 22) (v : Word)
  /-- Row UNALIGNED_ACCESS (R15). -/
  | unalignedAccess
  /-- Row W1C_FLAG_WRITE (R14). -/
  | w1cFlagWrite (r : BitVec 22) (v : Word)
  /-- Row FF_HELD_RELEASE (R474). -/
  | ffHeldRelease
  /-- Row GLOSS_PUBLICATION (R44). -/
  | glossPublication (tc1 : Option Word64) (steer : Bool) (other : Bool)
  /-- Row CSEQ_SLOT_END (R32). -/
  | cseqSlotEnd
  /-- Row TB_CLOCK_STOP (R19). -/
  | tbClockStop
  /-- Row OSCIN_LOSS (R204). -/
  | oscinLoss
  /-- Row APLL_LOSS_OF_LOCK (R212). -/
  | apllLossOfLock (k : Fin 3)
  /-- Row APLL_LOCK (R204). -/
  | apllLock (k : Fin 3)
  /-- Row LEAP_APPLIED (R29). -/
  | leapApplied
  /-- Row LEAP_ARMED (R190). -/
  | leapArmed
  /-- Row INPUT_EDGE (R65). -/
  | inputEdge (c : Fin 16) (code : BitVec 12) (isGlitch : Bool)
  /-- Row EVT_EDGE (R77). -/
  | evtEdge (k : Fin 8) (code : Nat) (glitch : Bool)
  /-- Row TDC_CALIBRATION (R69). -/
  | tdcCalibration (c : Fin 16) (c1 : BitVec 12) (c2 : BitVec 12)
  /-- Row EVT_CALIBRATION (R71). -/
  | evtCalibration (e : Fin 8) (c1 : BitVec 12) (c2 : BitVec 12)
  /-- Row WINDOW_CLOSE (R74). -/
  | windowClose (c : Fin 24)
  /-- Row TOD_MESSAGE (R80). -/
  | todMessage (framed : Bool) (good : Bool) (known : Bool) (sec : BitVec 48) (utcOfs : BitVec 16) (l61 : Bool) (l59 : Bool) (utcv : Bool) (qual : Byte)
  /-- Row TOD_INTERVAL_END (R81). -/
  | todIntervalEnd
  /-- Row REFIN_CH_WRITE (R604). -/
  | refinChWrite (c : Fin 24) (k : Fin 7) (v : Word)
  /-- Row REFIN_SET (R86). -/
  | refinSet (d : Desc)
  /-- Row EFFECTIVE_TIME_REACHED (R405). -/
  | effectiveTimeReached
  /-- Row BAND_STUCK (R94). -/
  | bandStuck (b : Fin 2) (bits : Byte)
  /-- Row STUCK_CLEAR (R94). -/
  | stuckClear (b : Fin 2)
  /-- Row SIDE_PEAK_SLIP (R99). -/
  | sidePeakSlip (n : Fin 128) (run : List Corr)
  /-- Row GNSS_SOLUTION (R101). -/
  | gnssSolution (e : EpochIn)
  /-- Row JAM_TRIP (R116). -/
  | jamTrip (b : Fin 2) (powers : List Int)
  /-- Row GNSS_CHECK_CLEAR (R117). -/
  | gnssCheckClear (c : Fin 7)
  /-- Row SNAP_CAPTURED (R119). -/
  | snapCaptured (l1 : List (Fin 16 × Fin 16)) (l5 : List (Fin 16 × Fin 16))
  /-- Row SURVEY_IN (R111). -/
  | surveyIn (d : Desc)
  /-- Row SURVEY_DONE (R112). -/
  | surveyDone
  /-- Row SURVEY_SUSPEND_EXPIRY (R113). -/
  | surveySuspendExpiry
  /-- Row GNSS_POS_SET (R114). -/
  | gnssPosSet (d : Desc)
  /-- Row GNSS_SNAPSHOT (R122). -/
  | gnssSnapshot (d : Desc)
  /-- Row SNAP_EXPORT (R123). -/
  | snapExport (d : Desc)
  /-- Row SNAP_EXPORT_DONE (R123). -/
  | snapExportDone (k : Fin 3)
  /-- Row SNAP_RELEASE (R123). -/
  | snapRelease (d : Desc)
  /-- Row GNSS_SET (R125). -/
  | gnssSet (d : Desc)
  /-- Row QUAL_HOLDOFF_EXPIRY (R134). -/
  | qualHoldoffExpiry (i : Fin 32)
  /-- Row DQ_HOLDOFF_EXPIRY (R132). -/
  | dqHoldoffExpiry (i : Fin 32)
  /-- Row REF_LOS_TIMEOUT (R136). -/
  | refLosTimeout (i : Fin 32)
  /-- Row DRIFT_SAMPLE (R142). -/
  | driftSample
  /-- Row WAIT_TO_RESTORE (R149). -/
  | waitToRestore
  /-- Row ESMC_PDU_RX (R156). -/
  | esmcPduRx (p : Fin 8) (ssm : BitVec 4) (essm : Option Byte) (eeec : Byte) (eec : Byte)
  /-- Row ESMC_TIMEOUT (R156). -/
  | esmcTimeout (p : Fin 8)
  /-- Row PTP_CLIENT_RX (R155). -/
  | ptpClientRx (p : Fin 8) (f : FrameIn) (ok : Bool)
  /-- Row SEL_SET (R157). -/
  | selSet (d : Desc)
  /-- Row SEL_FORCE (R159). -/
  | selForce (d : Desc)
  /-- Row LEARN_SAMPLE (R173). -/
  | learnSample
  /-- Row ROLLING_FIT (R175). -/
  | rollingFit
  /-- Row EFC_CENTRING (R195). -/
  | efcCentring
  /-- Row EFC_FRAME_END (R195). -/
  | efcFrameEnd
  /-- Row TEMP_READ (R196). -/
  | tempRead
  /-- Row TEMP_READ_DONE (R196). -/
  | tempReadDone (raw : Option (BitVec 16))
  /-- Row TNS_STEP (R186). -/
  | tnsStep (d : Desc)
  /-- Row TNS_HOST_TIME (R187). -/
  | tnsHostTime (d : Desc)
  /-- Row TNS_UTC (R188). -/
  | tnsUtc (d : Desc)
  /-- Row TNS_SET (R197). -/
  | tnsSet (d : Desc)
  /-- Row HOLDOVER_LEARN (R176). -/
  | holdoverLearn (d : Desc)
  /-- Row HOLDOVER_LEARN_DONE (R176). -/
  | holdoverLearnDone
  /-- Row HO_MODEL_LOAD (R198). -/
  | hoModelLoad (d : Desc)
  /-- Row TC_REJOIN (R201). -/
  | tcRejoin (k : Fin 2)
  /-- Row GLOSS_STALE (R201). -/
  | glossStale
  /-- Row DPLL_UPDATE (R206). -/
  | dpllUpdate (k : Fin 3) (e : Int) (dem : Int) (clocks : List (Fin 8 × Int))
  /-- Row ESMC_INFO_TX (R222). -/
  | esmcInfoTx (p : Fin 8)
  /-- Row OUTPUT_START (R213). -/
  | outputStart (n : Fin 12)
  /-- Row OUTPUT_STOP (R213). -/
  | outputStop (n : Fin 12)
  /-- Row OUTPUT_SLEW_END (R216). -/
  | outputSlewEnd (n : Fin 12)
  /-- Row OUT_EN_WRITE (R227). -/
  | outEnWrite (n : Fin 12) (v : Word)
  /-- Row SYN_SET (R223). -/
  | synSet (d : Desc)
  /-- Row OUT_CTL (R225). -/
  | outCtl (d : Desc)
  /-- Row SCHED_COMMIT (R236). -/
  | schedCommit (i : Fin 2048)
  /-- Row SCHED_OCCURRENCE (R235). -/
  | schedOccurrence (i : Fin 2048)
  /-- Row PULSE_END (R235). -/
  | pulseEnd (n : Fin 24)
  /-- Row IRIG_FRAME (R239). -/
  | irigFrame (n : Fin 24)
  /-- Row TOD_TX_MESSAGE (R243). -/
  | todTxMessage
  /-- Row PLS_SCHED (R247). -/
  | plsSched (d : Desc)
  /-- Row PLS_SET (R248). -/
  | plsSet (d : Desc)
  /-- Row PLS_ALIGN (R244). -/
  | plsAlign (d : Desc)
  /-- Row ALIGN_QUIET_INSTANT (R246). -/
  | alignQuietInstant (n : Fin 24)
  /-- Row ALIGN_SLEW_END (R246). -/
  | alignSlewEnd (n : Fin 24)
  /-- Row ALIGN_TIMEOUT (R246). -/
  | alignTimeout (n : Fin 24)
  /-- Row PLS_SCH_READ (R233). -/
  | plsSchRead (i : Fin 2048)
  /-- Row PLS_SCH_WRITE (R233). -/
  | plsSchWrite (i : Fin 2048)
  /-- Row SIGNAL_DETECT (R264). -/
  | signalDetect (p : Fin 8)
  /-- Row POLARITY_TIMEOUT (R265). -/
  | polarityTimeout (l : Fin 16)
  /-- Row BRINGUP_COMPLETE (R264). -/
  | bringupComplete (p : Fin 8) (map : Byte) (skew : Fin 181) (anDone : Bool)
  /-- Row BRINGUP_FAIL (R264). -/
  | bringupFail (p : Fin 8) (lost : Bool)
  /-- Row BRINGUP_RETRY (R264). -/
  | bringupRetry (p : Fin 8)
  /-- Row LINK_LOSS (R264). -/
  | linkLoss (p : Fin 8) (cause : Fin 7)
  /-- Row LINK_FAULT_RX (R263). -/
  | linkFaultRx (p : Fin 8) (k : Fin 3)
  /-- Row FRAME_RX (R275). -/
  | frameRx (p : Fin 8) (f : FrameIn)
  /-- Row PAUSE_RX (R283). -/
  | pauseRx (p : Fin 8) (quanta : List (Fin 9 × BitVec 16))
  /-- Row PAUSE_EXPIRY (R283). -/
  | pauseExpiry (p : Fin 8) (c : Fin 9)
  /-- Row PAUSE_WATCHDOG (R285). -/
  | pauseWatchdog (p : Fin 8) (c : Fin 9)
  /-- Row PWD_HOLD_EXPIRY (R285). -/
  | pwdHoldExpiry (p : Fin 8) (c : Fin 9)
  /-- Row EYE_MEASURE (R271). -/
  | eyeMeasure (l : Fin 18) (h : BitVec 16) (v : BitVec 16)
  /-- Row SUPERVISION_TX (R282). -/
  | supervisionTx (g : Fin 4)
  /-- Row PORT_DISTURB (R291). -/
  | portDisturb (p : Fin 8)
  /-- Row PORT_SET (R290). -/
  | portSet (d : Desc)
  /-- Row LANE_SET (R292). -/
  | laneSet (d : Desc)
  /-- Row PORT_LOOPBACK (R293). -/
  | portLoopback (d : Desc)
  /-- Row RG_SET (R294). -/
  | rgSet (d : Desc)
  /-- Row TSU_PD_CALIBRATION (R298). -/
  | tsuPdCalibration (p : Fin 8)
  /-- Row TTX_GRANT (R306). -/
  | ttxGrant (e : Fin 16) (c : Fin 4) (len : Nat) (grid : StartGrid) (gridB : StartGrid)
  /-- Row FRAME_COMMIT (R308). -/
  | frameCommit (e : Fin 16) (c : Fin 4) (len : Nat)
  /-- Row FRAME_ARM (R308). -/
  | frameArm (p : Fin 8)
  /-- Row FRAME_LAUNCH (R308). -/
  | frameLaunch (p : Fin 8)
  /-- Row EGRESS_VERIFY (R310). -/
  | egressVerify (p : Fin 8) (edge : Edge)
  /-- Row UNBOOKED_TX (R309). -/
  | unbookedTx (p : Fin 8) (edge : Edge)
  /-- Row PORT_CALIBRATE (R315). -/
  | portCalibrate (d : Desc)
  /-- Row CAL_PROBE (R316). -/
  | calProbe (p : Fin 8) (tx : Int) (rx : Int)
  /-- Row PORT_CALIBRATE_DONE (R317). -/
  | portCalibrateDone (p : Fin 8)
  /-- Row TSU_SET (R319). -/
  | tsuSet (d : Desc)
  /-- Row REQUEST_DISPATCH (R322). -/
  | requestDispatch (e : Fin 16)
  /-- Row AEAD_COMPLETE (R364). -/
  | aeadComplete (e : Fin 16) (c : Fin 4) (ok : Bool) (intact : Bool)
  /-- Row STREAM_PREPARE (R333). -/
  | streamPrepare (i : Fin 512) (ann : Bool)
  /-- Row FOLLOW_UP_PREPARE (R333). -/
  | followUpPrepare
  /-- Row SIGNALING_RX (R339). -/
  | signalingRx (ok : Bool) (len : Nat)
  /-- Row GRANT_WALK (R340). -/
  | grantWalk (late : List Nat) (bad : List Nat)
  /-- Row DELAY_REQ_TX (R341). -/
  | delayReqTx (p : Fin 8)
  /-- Row ADMISSION_REFRESH (R344). -/
  | admissionRefresh
  /-- Row RECONF_DRAIN_END (R349). -/
  | reconfDrainEnd
  /-- Row SVC_VIOLATION (R361). -/
  | svcViolation
  /-- Row GRANT_SUMMARY (R361). -/
  | grantSummary
  /-- Row INJECT_ENTRY (R354). -/
  | injectEntry (r : Fin 64) (header : List Byte) (frame : List Byte)
  /-- Row ENGINE_REJOIN (R360). -/
  | engineRejoin (e : Fin 16)
  /-- Row CLA_SET (R355). -/
  | claSet (d : Desc)
  /-- Row CLA_RULE (R356). -/
  | claRule (d : Desc)
  /-- Row STREAM_SET (R356). -/
  | streamSet (d : Desc)
  /-- Row CLA_SEQKEY (R357). -/
  | claSeqkey (d : Desc)
  /-- Row CLA_STR_READ (R331). -/
  | claStrRead (i : Fin 512)
  /-- Row CLA_STR_WRITE (R331). -/
  | claStrWrite (i : Fin 512)
  /-- Row CLA_RULE_READ (R325). -/
  | claRuleRead (i : Fin 4096)
  /-- Row CLA_RULE_WRITE (R325). -/
  | claRuleWrite (i : Fin 4096)
  /-- Row DRBG_RESEED (R365). -/
  | drbgReseed (healthy : Bool)
  /-- Row SAT_EXPIRY (R370). -/
  | satExpiry (i : Fin 8192)
  /-- Row SAT_INSTALL (R383). -/
  | satInstall (d : Desc)
  /-- Row SAT_ROTATE (R384). -/
  | satRotate (d : Desc)
  /-- Row SAT_REKEY (R385). -/
  | satRekey (d : Desc)
  /-- Row SAT_REKEY_RECORD (R385). -/
  | satRekeyRecord (r : List Byte)
  /-- Row SAT_INST_GO (R368). -/
  | satInstGo
  /-- Row SAT_QRY_GO (R372). -/
  | satQryGo (i : Fin 8192)
  /-- Row DOORBELL (R400). -/
  | doorbell (r : Fin 64) (v : Word)
  /-- Row DESCRIPTOR_ACCEPT (R403). -/
  | descriptorAccept (opcode : BitVec 16) (phase : Bool) (d : Desc)
  /-- Row PHASE_RETRY (R402). -/
  | phaseRetry (opcode : BitVec 16) (phase : Bool) (d : Desc)
  /-- Row COAL_TIMEOUT (R395). -/
  | coalTimeout (r : Fin 64)
  /-- Row DMA_ERROR (R393). -/
  | dmaError (r : Fin 64)
  /-- Row PCIE_FLR (R392). -/
  | pcieFlr
  /-- Row PCIE_BME_CLEAR (R392). -/
  | pcieBmeClear
  /-- Row PCIE_D3HOT (R392). -/
  | pcieD3hot
  /-- Row PCIE_LINK_DOWN (R392). -/
  | pcieLinkDown
  /-- Row PCIE_LINK_UP (R429). -/
  | pcieLinkUp (speed : Fin 6) (width : Fin 9)
  /-- Row PERST (R554). -/
  | perst
  /-- Row PF1_FLR (R392). -/
  | pf1Flr
  /-- Row NOP (R412). -/
  | nop (d : Desc)
  /-- Row MODE_SET (R413). -/
  | modeSet (d : Desc)
  /-- Row RING_SET (R414). -/
  | ringSet (d : Desc)
  /-- Row LONG_CTL (R416). -/
  | longCtl (d : Desc)
  /-- Row ABORT (R419). -/
  | abort (d : Desc)
  /-- Row HIF_ABORT_ENGINE (R420). -/
  | hifAbortEngine (e : Fin 32)
  /-- Row HIF_ABORT_RING (R420). -/
  | hifAbortRing (r : Fin 64)
  /-- Row SMB_IDENT (R426). -/
  | smbIdent
  /-- Row SMB_STATUS (R426). -/
  | smbStatus
  /-- Row SMB_GLOSS (R426). -/
  | smbGloss
  /-- Row SMB_TIME (R426). -/
  | smbTime
  /-- Row SMB_TEMP (R426). -/
  | smbTemp
  /-- Row SMB_POWER (R426). -/
  | smbPower
  /-- Row SMB_FIRST_FAULT (R426). -/
  | smbFirstFault
  /-- Row SMB_MARGIN (R426). -/
  | smbMargin
  /-- Row SMB_PORTS (R426). -/
  | smbPorts
  /-- Row SMB_PAIR (R426). -/
  | smbPair
  /-- Row SMB_ARBITER (R514). -/
  | smbArbiter (v : Byte)
  /-- Row SMB_ALERT_MASK_READ (R426). -/
  | smbAlertMaskRead
  /-- Row SMB_ALERT_MASK_WRITE (R426). -/
  | smbAlertMaskWrite (v : Byte)
  /-- Row SMB_ALERT_RESPONSE (R427). -/
  | smbAlertResponse
  /-- Row FABRIC_TRANSFER (R434). -/
  | fabricTransfer (m : Fin 23) (a : Word64) (acc : Fin 8) (n : Fin 16) (beats : List (BitVec 256 × Word)) (ext : List (BitVec 256)) (sym : Fin 33) (done : Fin 17)
  /-- Row LOCK_TIMEOUT (R437). -/
  | lockTimeout (t : Fin 8)
  /-- Row RESULT_LANDING (R440). -/
  | resultLanding (land : Option (Fin 20 × Fin 3))
  /-- Row SCRUB_READ (R443). -/
  | scrubRead (mem : Fin 6) (a : BitVec 64) (sym : Fin 33)
  /-- Row SPEED_WINDOW (R445). -/
  | speedWindow (n : List Word) (ro : List Word) (tj : List (BitVec 16)) (power : BitVec 16)
  /-- Row PLANNER_EVALUATE (R450). -/
  | plannerEvaluate
  /-- Row AVS_READBACK (R451). -/
  | avsReadback (vread : BitVec 10) (iread : BitVec 16) (alert : Bool) (answered : Bool)
  /-- Row MARGIN_REPLAN (R453). -/
  | marginReplan
  /-- Row TREND_UPDATE (R455). -/
  | trendUpdate
  /-- Row MARGIN_SWEEP (R457). -/
  | marginSweep (d : Desc)
  /-- Row SWEEP_DONE (R458). -/
  | sweepDone (mus : List (BitVec 16))
  /-- Row FAB_SET (R459). -/
  | fabSet (d : Desc)
  /-- Row MARGIN_REPORT (R460). -/
  | marginReport (d : Desc)
  /-- Row FAULT_EVENT (R467). -/
  | faultEvent (src : Byte) (addr : BitVec 64) (master : Byte) (access : Fin 8) (info : BitVec 32)
  /-- Row FAULT_DECISION (R468). -/
  | faultDecision
  /-- Row SAFE_STATE_ASSERT (R479). -/
  | safeStateAssert
  /-- Row SUPPRESSION_WINDOW_CLOSE (R477). -/
  | suppressionWindowClose
  /-- Row ENG_WDOG (R470). -/
  | engWdog (e : Fin 20) (pc : BitVec 64)
  /-- Row SUPPLY_EXCURSION (R577). -/
  | supplyExcursion (r : Fin 6) (mv : BitVec 16)
  /-- Row TJ_CRIT (R465). -/
  | tjCrit
  /-- Row XO_SAFE_LOSS (R481). -/
  | xoSafeLoss
  /-- Row FLT_SET (R484). -/
  | fltSet (d : Desc)
  /-- Row FLT_INJECT (R485). -/
  | fltInject (d : Desc)
  /-- Row FLT_SAFE (R486). -/
  | fltSafe (d : Desc)
  /-- Row HEARTBEAT_TX (R494). -/
  | heartbeatTx
  /-- Row HEARTBEAT_RX (R494). -/
  | heartbeatRx (l : Fin 2) (h : LinkHdr) (p : HbPay)
  /-- Row HB_IN_EDGE (R496). -/
  | hbInEdge
  /-- Row PEER_ABSENCE_TIMEOUT (R496). -/
  | peerAbsenceTimeout
  /-- Row IDENT_TX (R494). -/
  | identTx
  /-- Row IDENT_RX (R498). -/
  | identRx (l : Fin 2) (h : LinkHdr) (p : IdentPay)
  /-- Row EPOCH_MARKER_TX (R500). -/
  | epochMarkerTx (x0 : Edge) (x1 : Edge)
  /-- Row EPOCH_MARKER_RX (R261). -/
  | epochMarkerRx (l : Fin 2) (x : MarkerIn)
  /-- Row STATE_FRAME_RX (R501). -/
  | stateFrameRx (l : Fin 2) (h : LinkHdr) (t3 : Nat) (t2 : Nat) (p : PeerState)
  /-- Row LINK_VIOLATION (R495). -/
  | linkViolation (l : Fin 2)
  /-- Row LANE_RESTART (R495). -/
  | laneRestart (l : Fin 2)
  /-- Row LANE_SYNC_CHANGE (R492). -/
  | laneSyncChange (l : Fin 2) (sync : Bool)
  /-- Row KEY_TX (R505). -/
  | keyTx
  /-- Row KEY_RX (R505). -/
  | keyRx (l : Fin 2) (h : LinkHdr) (k : BitVec 128) (adopt : Word64)
  /-- Row KEY_ACK_RX (R505). -/
  | keyAckRx (l : Fin 2) (h : LinkHdr) (adopt : Word64)
  /-- Row KEY_ADOPTION (R505). -/
  | keyAdoption
  /-- Row NOTICE_TX (R518). -/
  | noticeTx
  /-- Row NOTICE_RX (R518). -/
  | noticeRx (l : Fin 2) (h : LinkHdr) (src : Byte) (cls : Fin 4) (flags : Byte) (stamp : Nat)
  /-- Row SUBJ_IN_CHANGE (R509). -/
  | subjInChange (level : Bool)
  /-- Row ARB_VALID_CHANGE (R514). -/
  | arbValidChange (sel : Option Bool)
  /-- Row ROLE_DECISION_CHANGE (R508). -/
  | roleDecisionChange
  /-- Row GUARD_EXPIRY (R508). -/
  | guardExpiry (undriven : Nat)
  /-- Row TAKE_HOLD_EXPIRY (R508). -/
  | takeHoldExpiry
  /-- Row DRIVER_INACTIVE_INSTANT (R508). -/
  | driverInactiveInstant (n : Fin 12)
  /-- Row URGENT_RELEASE (R508). -/
  | urgentRelease
  /-- Row REHEARSAL_START (R517). -/
  | rehearsalStart
  /-- Row REH_DWELL_EXPIRY (R517). -/
  | rehDwellExpiry
  /-- Row REH_LIM_EXPIRY (R517). -/
  | rehLimExpiry
  /-- Row CNJ_SET (R519). -/
  | cnjSet (d : Desc)
  /-- Row CNJ_HANDOVER (R520). -/
  | cnjHandover (d : Desc)
  /-- Row SAMPLE_CAPTURE (R533). -/
  | sampleCapture (e : Fin 16) (n : BitVec 24) (ctx : Fin 4) (wait : Fin 5) (addr : Word) (insn : Word) (lat : Word) (target : Fin 8)
  /-- Row BANDWIDTH_WINDOW (R530). -/
  | bandwidthWindow (p : Fin 8)
  /-- Row TRACE_FRAME_TX (R542). -/
  | traceFrameTx
  /-- Row TRACE_DMA (R540). -/
  | traceDma
  /-- Row OBS_TRC_FIFO_READ (R541). -/
  | obsTrcFifoRead
  /-- Row OBS_JRNL_WADDR (R538). -/
  | obsJrnlWaddr (j : Word)
  /-- Row OBS_SMP_WADDR (R535). -/
  | obsSmpWaddr (i : BitVec 12)
  /-- Row OBS_PC_SNAP (R529). -/
  | obsPcSnap
  /-- Row OBS_PC_FREEZE (R529). -/
  | obsPcFreeze (b : Bool)
  /-- Row PF1_PAGE_READ (R532). -/
  | pf1PageRead (page : Fin 1024) (word : Fin 1024)
  /-- Row OBS_SET (R543). -/
  | obsSet (d : Desc)
  /-- Row OBS_SNAP (R544). -/
  | obsSnap (d : Desc)
  /-- Row OBS_GRANT (R545). -/
  | obsGrant (d : Desc)
  /-- Row JOURNAL_EXPORT (R546). -/
  | journalExport (d : Desc)
  /-- Row JOURNAL_EXPORT_BURST (R546). -/
  | journalExportBurst (n : Fin 16)
  /-- Row AO_POWER_ON (R554). -/
  | aoPowerOn
  /-- Row RESET_ASSERT (R555). -/
  | resetAssert
  /-- Row RESET_RELEASE (R556). -/
  | resetRelease (v : BitVec 7)
  /-- Row BOOT_HEADER_READ (R557). -/
  | bootHeaderRead (primary : List Byte) (copy : List Byte) (osc : BitVec 32)
  /-- Row IMAGE_VERIFIED (R559). -/
  | imageVerified (a : ImageSet) (b : ImageSet) (p : ImageSet) (kat : Bool)
  /-- Row BOOT_PCI_GO (R560). -/
  | bootPciGo
  /-- Row GEN_MODE_REQ_GO (R561). -/
  | genModeReqGo (target : Fin 8)
  /-- Row MODE_GO_EVALUATE (R562). -/
  | modeGoEvaluate
  /-- Row FIRMWARE_STAGE (R570). -/
  | firmwareStage (d : Desc)
  /-- Row FIRMWARE_STAGE_DONE (R571). -/
  | firmwareStageDone (cause : Fin 8) (release : BitVec 16)
  /-- Row TREND_SAVE (R572). -/
  | trendSave (bad : Bool)
  /-- Row LINK_HEARTBEAT_TIMEOUT (R492). -/
  | linkHeartbeatTimeout (l : Fin 2)
  /-- Row CHANNEL_ACQUIRED (R96). -/
  | channelAcquired (sky : List SkySat) (sick : List (Fin 4 × Byte)) (n : Fin 128) (st : Fin 5) (cn0 : Byte) (peak : Bool)
  /-- Row UNICAST_GRANT_REQUEST (R341). -/
  | unicastGrantRequest (p : Fin 8) (len : Nat)
  /-- Row INJECT_TIMEOUT (R485). -/
  | injectTimeout
  /-- Row DMA_PERMITTED (R392). -/
  | dmaPermitted
  /-- Row VDD_AO_LOW (R577). -/
  | vddAoLow
  /-- Row OSCIN_RETURN (R212). -/
  | oscinReturn
  /-- Row SUPERVISOR_REJOIN (R419). -/
  | supervisorRejoin (k : Fin 2)
  /-- Row RELEASE_DEADLINE (R508). -/
  | releaseDeadline
  /-- Row PRBS_LOCK (R270). -/
  | prbsLock (l : Fin 16) (errs : BitVec 48)
  deriving DecidableEq, Repr

end Sys2Proof
end

