-- ==== Sys2Proof/Config.lean ====
section
/-!
DEFINITION. Config: what production or the part fixes, and the FREE VALUES of the model. Each is a constant with no body,
so nothing in Lean can evaluate it or prove a value of it: whatever is proved holds for every value. Each names the
assumption-log entry that says why it is open.
-/

namespace Sys2Proof.Config

/-- GEN_ID.GRADE, fused (R597). Log 10. -/
opaque grade : Nat
/-- GEN_FW.ROM, fused (R597). Log 10. -/
opaque romVersion : Nat
/-- GEN_SERIAL, fused (R597). Log 10. -/
opaque serial : Nat
/-- N_nom of replica monitor k, programmed in production (R445). Log 10. -/
opaque nNom : Nat → Nat
/-- FAB_PLAN_CAL.K_V, programmed in production (R450). Log 10. -/
opaque kV : Nat
/-- FAB_PLAN_CAL.K_T, programmed in production (R454, R455). Log 10. -/
opaque kT : Nat

/-- k_pin of channel c: production-calibrated delay from ball to TDC, 2⁻⁹ ns (R72). Log 10. -/
opaque kPin : Nat → Int

/-- Production count of ring oscillator j (R447). Log 10. -/
opaque roNom : Nat → Nat
/-- t^(AGE_N/100) for t days (R455): a real power, whose rounding the spec does not give. Log 15. -/
opaque agePow : Nat → Nat → Rat

/-- k_dir of port p, receive (false) or transmit: production-calibrated delay between the word edge and the ball (R298), 2⁻¹⁶ ns.
Log 10. -/
opaque kDir : Nat → Bool → Int
/-- Production loop delay k_loop of port p's own loop (R316), 2⁻⁹ ns. Log 10. -/
opaque kLoop : Nat → Int

/-- Hash of source address and sequence number that picks a slot of the duplicate-discard cache (R281). Log 31. -/
opaque dupHash : Nat → Nat → Nat

/-- CRC-32 over a unit's shared settings (R506): the spec does not say how they are laid out as bytes. Log 32. -/
opaque cfgDigest : List Nat → Nat

/-- 2π as the loop uses it (R166); the spec does not give its rounding. Log 21. -/
opaque twoPi : Rat
/-- φ̂ in ps, formed from the prediction and the innovation over Δt s (R166): the spec gives no gain. The arguments are the
prediction, the innovation, Δt, the formal standard deviation before, and the number of updates. Log 21. -/
opaque estPhase : Rat → Rat → Rat → Rat → Nat → Rat
/-- ŷ, formed from the previous ŷ, the innovation, Δt, the formal standard deviation before, an FSRC observation and its
uncertainty (0 and 0 for none), and the number of updates (R166). Log 21. -/
opaque estFreq : Rat → Rat → Rat → Rat → Rat → Rat → Nat → Rat
/-- The formal standard deviation of ŷ after an update (R167), from that before, Δt, the observation's uncertainty and the
number of updates. Log 21. -/
opaque estSd : Rat → Rat → Rat → Nat → Rat

/-- y_st at the next update while holdover is assisted, from y_st, FSRC's frequency, ω and the elapsed seconds (R179): the
spec gives the bandwidth and no formula. Log 21. -/
opaque assist : Rat → Rat → Rat → Rat → Rat

/-- The variance in ps² of a code measurement by its SIG, C/N0 and elevation (R105): the spec names the C/N0-weighted noise model and
gives no formula. Log 73. -/
opaque noiseVar : Nat → Nat → Int → Rat
/-- The limit of the mean square of the weighted residuals of n measurements in the residual test (R103): the spec gives none. Log 73. -/
opaque residualLimit : Nat → Rat
/-- The code-phase error in ps of a slope pair of the leading edge (R100): SIG, DSPC, and the two correlator ratios. The spec gives no
formula. Log 73. -/
opaque slopeError : Nat → Nat → Rat → Rat → Rat
/-- The smoothed code measurement (R99): from the smoothed one before, the code measurement, the change of the carrier measurement and the
epochs smoothed over. Log 73. -/
opaque codeSmooth : Rat → Rat → Rat → Nat → Rat
/-- What the conjugate of a sample whose Q is −8 holds in Q, where +8 does not fit (R93). Log 74. -/
opaque conjLimit : Nat

/-- The next value of an output's 32-bit LFSR (R217): the spec gives no polynomial. Log 81. -/
opaque lfsrNext : Nat → Nat
/-- The dither an output's modulator draws from a value of its LFSR, in interpolator steps (R217): the spec gives no amplitude. Log 81. -/
opaque ditherOf : Nat → Int
/-- Where between its old and its new frequency an output's SET_FREQ slew stands, at an elapsed instant (R210, R211): the spec bounds it
and gives no course. Log 82. -/
opaque slewFreq : Nat → Rat
/-- The clockIdentity of port p in its ESMC PDUs (R222): the spec gives one to bindings, and none to a port. Log 83. -/
opaque portIdentity : Nat → Nat

/-- The Announce receipt timeout of a profile TYPE in ns, given LOG_ANNREQ (R136): the spec names the profile's, and gives no number.
Log 36. -/
opaque announceTimeout : Nat → Int → Nat

/-- A free value: the n-th value the spec leaves open (undefined, not stated) that the machine takes. Log 4. -/
opaque freeNat : Nat → Nat

end Sys2Proof.Config
end

