-- ==== Sys2Proof/Machine/Arith.lean ====
section
/-!
DEFINITION. The arithmetic helpers of the model: two's complement fields, clamps and store rules, exact rounding up, and
saturation. Quantities are exact integers; a result is narrowed only where the spec gives a width.
-/

namespace Sys2Proof.Machine

/-- A write outside lo–hi stores the limit ("stored within lo–hi"). -/
def clampN (lo hi v : Nat) : Nat := if v < lo then lo else if hi < v then hi else v

/-- The `w` low bits of a natural number, read as a signed number. -/
def signed (w v : Nat) : Int :=
  let u := v % 2 ^ w
  if u < 2 ^ (w - 1) then (u : Int) else (u : Int) - 2 ^ w

/-- A signed number as the `w`-bit two's complement field that holds it. -/
def unsigned (w : Nat) (x : Int) : Nat := (x % (2 ^ w : Nat)).toNat

/-- Integer limits. -/
def clampI (lo hi x : Int) : Int := if x < lo then lo else if hi < x then hi else x

/-- A signed field of `w` bits stored within lo–hi. -/
def clampS (w : Nat) (lo hi : Int) (v : Nat) : Nat := unsigned w (clampI lo hi (signed w v))

/-- A signed result held in a `w`-bit field, saturating. -/
def satS (w : Nat) (x : Int) : Nat := unsigned w (clampI (-(2 ^ (w - 1) : Int)) (2 ^ (w - 1) - 1) x)

/-- An unsigned result held in a `w`-bit field, saturating. -/
def satU (w v : Nat) : Nat := if 2 ^ w ≤ v then 2 ^ w - 1 else v

/-- ⌈a / b⌉ (0 for b = 0). -/
def ceilDiv (a b : Nat) : Nat := if b = 0 then 0 else (a + b - 1) / b

/-- A rational rounded up to an integer. -/
def ceilQ (q : Rat) : Int := -((-q.num) / (q.den : Int))

/-- A rational rounded down to an integer. -/
def floorQ (q : Rat) : Int := q.num / (q.den : Int)

/-- A rational rounded to the nearest integer, ties away from zero. -/
def roundQ (q : Rat) : Int := if q < 0 then -floorQ (-q + 1 / 2) else floorQ (q + 1 / 2)

/-- Absolute value of a rational. -/
def absQ (q : Rat) : Rat := if q < 0 then -q else q

/-- A rational limited to lo–hi. -/
def clampQ (lo hi q : Rat) : Rat := if q < lo then lo else if hi < q then hi else q

/-- The arithmetic mean (0 for an empty list). -/
def meanQ (l : List Rat) : Rat := if l.isEmpty then 0 else l.sum / (l.length : Nat)

/-- Insert into an ascending list. -/
def insertQ (q : Rat) : List Rat → List Rat
  | [] => [q]
  | p :: l => if q ≤ p then q :: p :: l else p :: insertQ q l

/-- The list in ascending order. -/
def sortQ : List Rat → List Rat
  | [] => []
  | q :: l => insertQ q (sortQ l)

/-- The median; for an even count the mean of the two middle values. -/
def medianQ (l : List Rat) : Rat :=
  let s := sortQ l
  let n := s.length
  if n % 2 = 1 then s.getD (n / 2) 0 else (s.getD (n / 2 - 1) 0 + s.getD (n / 2) 0) / 2

/-- A non-negative rational rounded up to a natural number. -/
def ceilNatQ (q : Rat) : Nat := (ceilQ q).toNat

/-- The least natural number whose square is at least n (the square root rounded up). -/
def ceilSqrt (n : Nat) : Nat := let r := Nat.sqrt n; if r * r = n then r else r + 1

/-- The square root of a non-negative rational, rounded up to an integer. -/
def ceilSqrtQ (q : Rat) : Nat := ceilSqrt (ceilQ q).toNat

/-- Absolute value as a natural number. -/
def absN (x : Int) : Nat := x.natAbs

/-- Whether bit `k` of `v` is 1. -/
def bitOf (v k : Nat) : Bool := v / 2 ^ k % 2 = 1

/-- `v` with bit `k` set to `b`. -/
def setBit (v k : Nat) (b : Bool) : Nat :=
  let r := v - (if bitOf v k then 2 ^ k else 0)
  if b then r + 2 ^ k else r

/-- Number of 1 bits below bit `n`. -/
def popCount : Nat → Nat → Nat
  | 0, _ => 0
  | n + 1, v => popCount n v + (if bitOf v n then 1 else 0)

/-- Bits hi–lo of a natural number. -/
def bitsOf (v hi lo : Nat) : Nat := v / 2 ^ lo % 2 ^ (hi + 1 - lo)

/-- 1 for true. -/
def b2n (b : Bool) : Nat := if b then 1 else 0

/-- Little-endian value of `n` bytes from offset `o` of a byte list (missing bytes count as 0). -/
def leNat (bs : List Byte) (o : Nat) : Nat → Nat
  | 0 => 0
  | n + 1 => (bs.getD o 0).toNat + 256 * leNat bs (o + 1) n

/-- The `n` little-endian bytes of a natural number. -/
def leBytes : Nat → Nat → List Byte
  | 0, _ => []
  | n + 1, v => BitVec.ofNat 8 v :: leBytes n (v / 256)

/-! ### Least squares -/

/-- Dot product. -/
def dotQ (a b : List Rat) : Rat := ((a.zip b).map (fun p => p.1 * p.2)).sum

/-- Row `r` less `k` times row `p`. -/
def rowSub (r p : List Rat) (k : Rat) : List Rat := (r.zip p).map (fun x => x.1 - k * x.2)

/-- Gauss–Jordan elimination of column `c` of the rows, by a row not yet used as pivot; none for a singular matrix. -/
def eliminate (rows : List (Bool × List Rat)) (c : Nat) : Option (List (Bool × List Rat)) :=
  match rows.findIdx? (fun r => !r.1 && r.2.getD c 0 != 0) with
  | none => none
  | some k =>
    let piv := (rows.getD k (false, [])).2
    let piv := piv.map (· / piv.getD c 0)
    let rows := rows.mapIdx (fun j r => if j = k then (true, piv) else (r.1, rowSub r.2 piv (r.2.getD c 0)))
    some rows

/-- The inverse of a square matrix, by Gauss–Jordan elimination; none when it is singular. -/
def inverseQ (m : List (List Rat)) : Option (List (List Rat)) :=
  let n := m.length
  let aug := m.mapIdx (fun i r => (false, r ++ (List.range n).map (fun j => if i = j then (1 : Rat) else 0)))
  match (List.range n).foldl (fun o c => o.bind (fun r => eliminate r c)) (some aug) with
  | none => none
  | some rows =>
    some ((List.range n).map (fun c =>
      match rows.find? (fun r => r.2.getD c 0 = 1 && (List.range n).all (fun j => j = c || r.2.getD j 0 = 0)) with
      | some r => r.2.drop n
      | none => []))

/-- A least-squares fit with weights `ws`: coefficients, the inverse of XᵀWX, and the residuals; none when it is singular. -/
def fitW (xs : List (List Rat)) (ys ws : List Rat) : Option (List Rat × List (List Rat) × List Rat) :=
  let n := (xs.headD []).length
  let col (j : Nat) := xs.map (fun r => r.getD j 0)
  let wcol (j : Nat) := ((col j).zip ws).map (fun p => p.1 * p.2)
  let xwx := (List.range n).map (fun i => (List.range n).map (fun j => dotQ (wcol i) (col j)))
  match inverseQ xwx with
  | none => none
  | some inv =>
    let xwy := (List.range n).map (fun i => dotQ (wcol i) ys)
    let beta := inv.map (fun r => dotQ r xwy)
    some (beta, inv, (xs.zip ys).map (fun p => p.2 - dotQ p.1 beta))

/-- An unweighted least-squares fit. -/
def fitQ (xs : List (List Rat)) (ys : List Rat) : Option (List Rat × List (List Rat) × List Rat) :=
  fitW xs ys (xs.map (fun _ => 1))

/-- xᵀ M x. -/
def quadQ (m : List (List Rat)) (x : List Rat) : Rat := dotQ x (m.map (fun r => dotQ r x))

/-! ### CRC-32 -/

/-- One bit of the reflected CRC-32 of IEEE 802.3. -/
def crcBit (c : Nat) : Nat := if c % 2 = 1 then (c / 2) ^^^ 0xEDB88320 else c / 2

/-- `n` bits. -/
def crcBits : Nat → Nat → Nat
  | 0, c => c
  | n + 1, c => crcBits n (crcBit c)

/-- CRC-32 (IEEE 802.3) of bytes. -/
def crc32 (bs : List Byte) : Nat := (bs.foldl (fun c b => crcBits 8 (c ^^^ b.toNat)) 0xFFFFFFFF) ^^^ 0xFFFFFFFF

end Sys2Proof.Machine
end

