-- ==== Sys2Proof/Machine/Aes.lean ====
section
/-!
DEFINITION. AES-256 (FIPS 197), of which the model computes the key check value KCV (R372): bytes are numbers, the state is a list of 16
in column order.
-/

namespace Sys2Proof.Machine

/-- The S-box. -/
def aesBox : List Nat :=
     [99, 124, 119, 123, 242, 107, 111, 197, 48, 1, 103, 43, 254, 215, 171, 118, 202, 130, 201, 125, 250, 89, 71, 240, 173, 212, 162, 175, 156, 164, 114, 192]
  ++ [183, 253, 147, 38, 54, 63, 247, 204, 52, 165, 229, 241, 113, 216, 49, 21, 4, 199, 35, 195, 24, 150, 5, 154, 7, 18, 128, 226, 235, 39, 178, 117]
  ++ [9, 131, 44, 26, 27, 110, 90, 160, 82, 59, 214, 179, 41, 227, 47, 132, 83, 209, 0, 237, 32, 252, 177, 91, 106, 203, 190, 57, 74, 76, 88, 207]
  ++ [208, 239, 170, 251, 67, 77, 51, 133, 69, 249, 2, 127, 80, 60, 159, 168, 81, 163, 64, 143, 146, 157, 56, 245, 188, 182, 218, 33, 16, 255, 243, 210]
  ++ [205, 12, 19, 236, 95, 151, 68, 23, 196, 167, 126, 61, 100, 93, 25, 115, 96, 129, 79, 220, 34, 42, 144, 136, 70, 238, 184, 20, 222, 94, 11, 219]
  ++ [224, 50, 58, 10, 73, 6, 36, 92, 194, 211, 172, 98, 145, 149, 228, 121, 231, 200, 55, 109, 141, 213, 78, 169, 108, 86, 244, 234, 101, 122, 174, 8]
  ++ [186, 120, 37, 46, 28, 166, 180, 198, 232, 221, 116, 31, 75, 189, 139, 138, 112, 62, 181, 102, 72, 3, 246, 14, 97, 53, 87, 185, 134, 193, 29, 158]
  ++ [225, 248, 152, 17, 105, 217, 142, 148, 155, 30, 135, 233, 206, 85, 40, 223, 140, 161, 137, 13, 191, 230, 66, 104, 65, 153, 45, 15, 176, 84, 187, 22]

/-- SubBytes of one byte. -/
def subByte (x : Nat) : Nat := aesBox.getD x 0

/-- Multiplication by x in GF(2⁸). -/
def xtime (x : Nat) : Nat := (2 * x % 256) ^^^ (if 128 ≤ x then 0x1B else 0)

/-- XOR of two byte lists. -/
def xorBytes (a b : List Nat) : List Nat := (a.zip b).map (fun p => p.1 ^^^ p.2)

/-- ShiftRows: byte i of the result is byte 5i mod 16 of the state. -/
def shiftRows (a : List Nat) : List Nat := (List.range 16).map (fun i => a.getD (5 * i % 16) 0)

/-- MixColumns of one column. -/
def mixColumn : List Nat → List Nat
  | [a, b, c, d] =>
    [xtime a ^^^ xtime b ^^^ b ^^^ c ^^^ d, a ^^^ xtime b ^^^ xtime c ^^^ c ^^^ d, a ^^^ b ^^^ xtime c ^^^ xtime d ^^^ d,
     xtime a ^^^ a ^^^ b ^^^ c ^^^ xtime d]
  | l => l

/-- MixColumns. -/
def mixColumns (a : List Nat) : List Nat := (List.range 4).flatMap (fun k => mixColumn ((a.drop (4 * k)).take 4))

/-- The next eight words of the key schedule from the last eight (32 bytes), with the round constant `rc`. -/
def nextKey (k : List Nat) (rc : Nat) : List Nat :=
  let w (i : Nat) : List Nat := (k.drop (4 * i)).take 4
  let t := match w 7 with | [a, b, c, d] => [subByte b ^^^ rc, subByte c, subByte d, subByte a] | l => l
  let w0 := xorBytes (w 0) t
  let w1 := xorBytes (w 1) w0
  let w2 := xorBytes (w 2) w1
  let w3 := xorBytes (w 3) w2
  let w4 := xorBytes (w 4) (w3.map subByte)
  let w5 := xorBytes (w 5) w4
  let w6 := xorBytes (w 6) w5
  w0 ++ w1 ++ w2 ++ w3 ++ w4 ++ w5 ++ w6 ++ xorBytes (w 7) w6

/-- The key schedule: `n` more blocks of eight words. -/
def keySchedule : Nat → List Nat → Nat → List Nat
  | 0, k, _ => k
  | n + 1, k, rc => k ++ keySchedule n (nextKey k rc) (xtime rc)

/-- Rounds 1 to 13 and the last, over the round keys that remain. -/
def aesRounds : Nat → List Nat → List Nat → List Nat
  | 0, st, rk => xorBytes (shiftRows (st.map subByte)) rk
  | n + 1, st, rk => aesRounds n (xorBytes (mixColumns (shiftRows (st.map subByte))) rk) (rk.drop 16)

/-- AES-256 of one block. -/
def aes256 (key block : List Nat) : List Nat :=
  let ks := keySchedule 7 key 1
  aesRounds 13 (xorBytes block ks) (ks.drop 16)

/-- KCV (R372): the first 24 bits of the encryption of the all-zero block. -/
def kcvOf (key : List Byte) : Nat :=
  match aes256 (key.map (·.toNat)) (List.replicate 16 0) with
  | a :: b :: c :: _ => a * 65536 + b * 256 + c
  | _ => 0

end Sys2Proof.Machine
end

