-- ==== Sys2Proof/Machine/SMap.lean ====
section
/-!
DEFINITION. SMap: a map from Nat with a default value at every key, kept as plain data in ONE canonical form: keys strictly
rising, and no entry equal to the default of its key, so that equal maps are equal lists. Every array of the machine (the
registers, table entries, ring slots, memories) is one of these; what an unlisted key reads as is the default `d`.
-/

namespace Sys2Proof.Machine

/-- A map from Nat with default values, as a list of (key, value) pairs. -/
abbrev SMap (α : Type) := List (Nat × α)

/-- The value at key `k`: the listed one, or the default of that key. -/
def SMap.get {α : Type} (d : Nat → α) : SMap α → Nat → α
  | [], k => d k
  | p :: m, k => if p.1 = k then p.2 else SMap.get d m k

/-- The map without key `k`. -/
def SMap.erase {α : Type} (k : Nat) : SMap α → SMap α
  | [] => []
  | p :: m => if p.1 = k then SMap.erase k m else p :: SMap.erase k m

/-- Insert before the first larger key. -/
def SMap.insert {α : Type} (k : Nat) (v : α) : SMap α → SMap α
  | [] => [(k, v)]
  | p :: m => if k < p.1 then (k, v) :: p :: m else p :: SMap.insert k v m

/-- Write `v` at key `k`, keeping the canonical form: writing the default removes the entry. -/
def SMap.set {α : Type} [DecidableEq α] (d : Nat → α) (k : Nat) (v : α) (m : SMap α) : SMap α :=
  if v = d k then SMap.erase k m else SMap.insert k v (SMap.erase k m)

/-- The keys rise strictly, and every key is above `b`. -/
def SMap.sortedAbove {α : Type} : Nat → SMap α → Bool
  | _, [] => true
  | b, p :: m => b < p.1 && SMap.sortedAbove p.1 m

/-- The canonical form: keys strictly rising, no entry equal to the default of its key. -/
def SMap.wf {α : Type} [DecidableEq α] (d : Nat → α) (m : SMap α) : Bool :=
  (match m with
   | [] => true
   | p :: r => SMap.sortedAbove p.1 r) && m.all (fun p => !(decide (p.2 = d p.1)))

end Sys2Proof.Machine
end

