-- ==== Sys2Proof/Machine/RegRules.lean ====
section
/-!
DEFINITION. What a row of the register map says: access types (R12), fields, groups (R596), and the reset values and store
rules that depend on the instance.
-/

namespace Sys2Proof.Machine

/-- Access types of R12. -/
inductive Access where
  | ro | rw | rws | w1c | w1s | wo | rc
  deriving DecidableEq, Repr

/-- A field of a register: byte address in BAR0, lowest bit, width. -/
structure Field where
  addr : Nat
  lo : Nat
  w : Nat
  deriving DecidableEq, Repr

/-- The key a field is stored under: its first bit, counted from bit 0 of address 0. -/
def Field.key (f : Field) : Nat := f.addr * 32 + f.lo

/-- A W1C flag and its companion 16-bit event count (R14). -/
structure FlagBit where
  bit : Field
  cnt : Field
  deriving DecidableEq, Repr

/-- One row of the register map: `n` fields at `off`, `off + step`, … inside a group. `reset` gives the reset value and
`store` the value stored for a written one, both from the instance number. -/
structure FieldSpec where
  off : Nat
  n : Nat
  step : Nat
  lo : Nat
  w : Nat
  acc : Access
  reset : Nat → Nat
  store : Nat → Nat → Nat

/-- A group of registers: instance i lies at `base + stride × i` (R596). -/
structure GroupSpec where
  base : Nat
  stride : Nat
  count : Nat
  live : Nat → Bool
  fields : List FieldSpec

/-- Every instance of the group is assigned. -/
def allLive (_ : Nat) : Bool := true

/-- A write stores the written value. -/
def keep (_ v : Nat) : Nat := v

/-- CH_CFG.TYPE: TYPE 3 on a REFIN channel stores 0, TYPE 1 or 2 on an EVT channel stores 3 (R63). -/
def chTypeStored (i v : Nat) : Nat :=
  if i < 16 then (if v = 3 then 0 else v) else if v = 1 ∨ v = 2 then 3 else v

/-- ENT_CFG.TRACE: IDs 0–15 store 1, 2, 6 or 7, and other values store 7; RO elsewhere (R48). -/
def entTraceStored (i v : Nat) : Nat := if i < 16 then (if v = 1 ∨ v = 2 ∨ v = 6 then v else 7) else 7

/-- ENT_CFG.TRACE of IDs 16–31 is RO and reads the class in use: no write stores it (R157). -/
def roField (a lo : Nat) : Bool := lo = 18 && 0x071800 ≤ a && a < 0x072000 && (a - 0x071000) % 0x80 = 0

/-- ENT_LOSINT.LOSINT at reset, by reference ID. -/
def entLosint (i : Nat) : Nat :=
  if 16 ≤ i ∧ i ≤ 18 then 1200 else if 20 ≤ i ∧ i ≤ 27 then 500 else if i = 30 then 10000 else 0

/-- DPLL_CFG.EN at reset: DPLL0 reads 1. -/
def dpllEnReset (i : Nat) : Nat := if i = 0 then 1 else 0

/-- DPLL_CFG.REF at reset: 31 on DPLL0, 32 (TS) elsewhere. -/
def dpllRefReset (i : Nat) : Nat := if i = 0 then 31 else 32

/-- DPLL_CFG.REF: 0–31, 32 TS, 33 FSRC (DPLL1 only); other values store 32; 31 on DPLL0. -/
def dpllRefStored (i v : Nat) : Nat :=
  if i = 0 then 31 else if v ≤ 32 then v else if v = 33 ∧ i = 1 then 33 else 32

/-- DPLL_CFG.BW at reset: 3 on DPLL1, 4 on DPLL2–3. For DPLL0 the table states none: 4 (log 3). -/
def dpllBwReset (i : Nat) : Nat := if i = 1 then 3 else 4

/-- FAB_PARK: 0–22 a master, 30 last served, 31 none; other values store 31 (R436). -/
def parkStored (v : Nat) : Nat := if v ≤ 22 ∨ v = 30 then v else 31

/-- A fault class (R464): 0 CORRECTED, 1 CONTAINED, 2 FATAL. -/
structure SrcSpec where
  first : Nat
  last : Nat
  dflt : Nat
  least : Nat
  most : Nat
  deriving DecidableEq, Repr

/-- The fault sources, their default class and permitted range (R465). -/
def srcTable : List SrcSpec := [
  ⟨0x00, 0x00, 0, 0, 0⟩, ⟨0x01, 0x04, 2, 2, 2⟩, ⟨0x05, 0x06, 1, 1, 2⟩, ⟨0x07, 0x07, 0, 0, 2⟩,
  ⟨0x08, 0x08, 1, 0, 2⟩, ⟨0x09, 0x0F, 0, 0, 2⟩, ⟨0x10, 0x17, 1, 0, 2⟩, ⟨0x18, 0x1A, 0, 0, 2⟩,
  ⟨0x1B, 0x1D, 1, 0, 2⟩, ⟨0x1E, 0x22, 0, 0, 2⟩, ⟨0x23, 0x23, 1, 0, 2⟩, ⟨0x24, 0x24, 0, 0, 2⟩,
  ⟨0x25, 0x25, 1, 0, 2⟩, ⟨0x26, 0x26, 0, 0, 2⟩, ⟨0x28, 0x3F, 0, 0, 2⟩, ⟨0x40, 0x47, 1, 0, 2⟩,
  ⟨0x48, 0x5B, 0, 0, 2⟩, ⟨0x60, 0x73, 1, 1, 2⟩, ⟨0x78, 0x78, 0, 0, 2⟩, ⟨0x79, 0x7A, 2, 2, 2⟩,
  ⟨0x80, 0x82, 2, 2, 2⟩]

/-- The row of R465 that lists source `i`. -/
def srcRow (i : Nat) : Option SrcSpec := srcTable.find? (fun r => r.first ≤ i && i ≤ r.last)

/-- FLT_SRC_STAT.VALID: the source is listed. -/
def srcValid (i : Nat) : Nat := if (srcRow i).isSome then 1 else 0

/-- FLT_SRC_STAT.FIXED: the permitted range is FATAL alone (R466). -/
def srcFixed (i : Nat) : Nat := match srcRow i with | some r => if r.least = 2 then 1 else 0 | none => 0

/-- FLT_SRC_CFG.CLASS at reset (R465). -/
def srcClassReset (i : Nat) : Nat := match srcRow i with | some r => r.dflt | none => 0

/-- FLT_SRC_CFG.N at reset: 1, 3 or 8 by default class (R471); an unlisted source's group reads 0 (R596). -/
def srcNReset (i : Nat) : Nat :=
  match srcRow i with | some r => if r.dflt = 2 then 1 else if r.dflt = 1 then 3 else 8 | none => 0

/-- FLT_SRC_CFG.W at reset (R471). -/
def srcWReset (i : Nat) : Nat := if (srcRow i).isSome then 600 else 0

/-- FLT_SRC_STAT.CAUSE at reset: 0xFF for a listed source. -/
def srcCauseReset (i : Nat) : Nat := if (srcRow i).isSome then 0xFF else 0

/-- FLT_SRC_CFG.CLASS: the nearest permitted class, 3 stored as 2 (R466). -/
def srcClassStored (i v : Nat) : Nat :=
  match srcRow i with | some r => clampN r.least r.most (if v = 3 then 2 else v) | none => 0

end Sys2Proof.Machine
end

