-- ==== Sys2Proof/Machine/Regs.lean ====
section
/-!
DEFINITION. The register map of BAR0 of PF0 (spec/19_register_index.md R595, R596 and the register tables of the
owning chapters): one row per field, with its place, its access type (R12), its reset value and its store rule, and one
name per field. A field is written register.FIELD in the spec and `Reg.<REGISTER>_<FIELD>` here; an instance group takes
the instance number, an array inside a group the element number after it.
-/

namespace Sys2Proof.Machine

/-- Registers of GEN at 0x0 (R597,R561). -/
def regGroup_GEN_1 : GroupSpec := ⟨0x0, 0x28, 1, allLive, [
  ⟨0x0, 1, 4, 16, 16, .ro, (fun _ => 0x9600), keep⟩,
  ⟨0x0, 1, 4, 8, 8, .ro, (fun _ => 0x20), keep⟩,
  ⟨0x0, 1, 4, 0, 8, .ro, (fun _ => Config.grade), keep⟩,
  ⟨0x4, 1, 4, 8, 8, .ro, (fun _ => 1), keep⟩,
  ⟨0x4, 1, 4, 0, 8, .ro, (fun _ => 0), keep⟩,
  ⟨0x8, 1, 4, 16, 16, .ro, (fun _ => 0), keep⟩,
  ⟨0x8, 1, 4, 0, 16, .ro, (fun _ => Config.romVersion), keep⟩,
  ⟨0xc, 1, 4, 0, 32, .ro, (fun _ => Config.serial), keep⟩,
  ⟨0x10, 1, 4, 6, 1, .ro, (fun _ => 0), keep⟩,
  ⟨0x10, 1, 4, 4, 2, .ro, (fun _ => 0), keep⟩,
  ⟨0x10, 1, 4, 2, 2, .ro, (fun _ => 0), keep⟩,
  ⟨0x10, 1, 4, 1, 1, .ro, (fun _ => 0), keep⟩,
  ⟨0x10, 1, 4, 0, 1, .ro, (fun _ => 0), keep⟩,
  ⟨0x14, 1, 4, 31, 1, .ro, (fun _ => 0), keep⟩,
  ⟨0x14, 1, 4, 28, 3, .ro, (fun _ => 0), keep⟩,
  ⟨0x14, 1, 4, 25, 3, .ro, (fun _ => 0), keep⟩,
  ⟨0x14, 1, 4, 24, 1, .ro, (fun _ => 0), keep⟩,
  ⟨0x14, 1, 4, 16, 7, .ro, (fun _ => 0), keep⟩,
  ⟨0x14, 1, 4, 0, 8, .ro, (fun _ => 0), keep⟩,
  ⟨0x18, 1, 4, 31, 1, .rws, (fun _ => 0), keep⟩,
  ⟨0x18, 1, 4, 0, 3, .rws, (fun _ => 0), keep⟩,
  ⟨0x20, 1, 4, 0, 1, .w1c, (fun _ => 0), keep⟩,
  ⟨0x24, 1, 4, 0, 16, .ro, (fun _ => 0), keep⟩,
  ⟨0x20, 1, 4, 1, 1, .w1c, (fun _ => 0), keep⟩,
  ⟨0x24, 1, 4, 16, 16, .ro, (fun _ => 0), keep⟩]⟩

/-- Registers of BOOT at 0x10000 (R560,R567). -/
def regGroup_BOOT_2 : GroupSpec := ⟨0x10000, 0x28, 1, allLive, [
  ⟨0x0, 1, 4, 31, 1, .ro, (fun _ => 0), keep⟩,
  ⟨0x0, 1, 4, 28, 3, .ro, (fun _ => 0), keep⟩,
  ⟨0x0, 1, 4, 27, 1, .ro, (fun _ => 0), keep⟩,
  ⟨0x0, 1, 4, 26, 1, .ro, (fun _ => 0), keep⟩,
  ⟨0x0, 1, 4, 24, 2, .ro, (fun _ => 0), keep⟩,
  ⟨0x0, 1, 4, 23, 1, .ro, (fun _ => 0), keep⟩,
  ⟨0x0, 1, 4, 16, 4, .ro, (fun _ => 0), keep⟩,
  ⟨0x0, 1, 4, 0, 16, .ro, (fun _ => 0), keep⟩,
  ⟨0x4, 1, 4, 1, 1, .ro, (fun _ => 0), keep⟩,
  ⟨0x4, 1, 4, 0, 1, .ro, (fun _ => 0), keep⟩,
  ⟨0x10, 1, 4, 0, 27, .rw, (fun _ => 0), keep⟩,
  ⟨0x14, 1, 4, 0, 10, .rw, (fun _ => 750), (fun _ v => clampN 650 850 v)⟩,
  ⟨0x18, 1, 4, 12, 20, .rw, (fun _ => 0), keep⟩,
  ⟨0x1c, 1, 4, 0, 32, .rw, (fun _ => 0), keep⟩,
  ⟨0x20, 1, 4, 0, 23, .rw, (fun _ => 0), (fun _ v => if 4194304 < v then 4194304 else v)⟩,
  ⟨0x24, 1, 4, 0, 1, .wo, (fun _ => 0), keep⟩]⟩

/-- Registers of HIF at 0x20000 (R390,R399,R403,R420). -/
def regGroup_HIF_3 : GroupSpec := ⟨0x20000, 0x68, 1, allLive, [
  ⟨0x0, 1, 4, 0, 7, .rws, (fun _ => 16), (fun _ v => clampN 1 64 v)⟩,
  ⟨0x4, 1, 4, 31, 1, .ro, (fun _ => 0), keep⟩,
  ⟨0x4, 1, 4, 30, 1, .ro, (fun _ => 0), keep⟩,
  ⟨0x4, 1, 4, 29, 1, .ro, (fun _ => 0), keep⟩,
  ⟨0x4, 1, 4, 24, 4, .ro, (fun _ => 0), keep⟩,
  ⟨0x4, 1, 4, 16, 4, .ro, (fun _ => 0), keep⟩,
  ⟨0x4, 1, 4, 0, 8, .ro, (fun _ => 0), keep⟩,
  ⟨0x40, 1, 4, 31, 1, .wo, (fun _ => 0), keep⟩,
  ⟨0x40, 1, 4, 24, 2, .wo, (fun _ => 0), keep⟩,
  ⟨0x40, 1, 4, 16, 5, .wo, (fun _ => 0), keep⟩,
  ⟨0x40, 1, 4, 0, 6, .wo, (fun _ => 0), keep⟩,
  ⟨0x44, 1, 4, 31, 1, .ro, (fun _ => 0), keep⟩,
  ⟨0x44, 1, 4, 30, 1, .ro, (fun _ => 0), keep⟩,
  ⟨0x44, 1, 4, 29, 1, .ro, (fun _ => 0), keep⟩,
  ⟨0x44, 1, 4, 0, 8, .ro, (fun _ => 0), keep⟩,
  ⟨0x48, 1, 4, 16, 16, .ro, (fun _ => 0), keep⟩,
  ⟨0x48, 1, 4, 0, 16, .ro, (fun _ => 0), keep⟩,
  ⟨0x60, 1, 4, 0, 13, .ro, (fun _ => 0), keep⟩,
  ⟨0x64, 1, 4, 0, 32, .ro, (fun _ => 0), keep⟩,
  ⟨0x10, 1, 4, 0, 1, .w1c, (fun _ => 0), keep⟩,
  ⟨0x14, 1, 4, 0, 16, .ro, (fun _ => 0), keep⟩,
  ⟨0x10, 1, 4, 1, 1, .w1c, (fun _ => 0), keep⟩,
  ⟨0x14, 1, 4, 16, 16, .ro, (fun _ => 0), keep⟩,
  ⟨0x10, 1, 4, 2, 1, .w1c, (fun _ => 0), keep⟩,
  ⟨0x18, 1, 4, 0, 16, .ro, (fun _ => 0), keep⟩,
  ⟨0x10, 1, 4, 3, 1, .w1c, (fun _ => 0), keep⟩,
  ⟨0x18, 1, 4, 16, 16, .ro, (fun _ => 0), keep⟩,
  ⟨0x10, 1, 4, 4, 1, .w1c, (fun _ => 0), keep⟩,
  ⟨0x1c, 1, 4, 0, 16, .ro, (fun _ => 0), keep⟩,
  ⟨0x10, 1, 4, 5, 1, .w1c, (fun _ => 0), keep⟩,
  ⟨0x1c, 1, 4, 16, 16, .ro, (fun _ => 0), keep⟩,
  ⟨0x10, 1, 4, 6, 1, .w1c, (fun _ => 0), keep⟩,
  ⟨0x20, 1, 4, 0, 16, .ro, (fun _ => 0), keep⟩]⟩

/-- Registers of HIF at 0x21000 (R399,R400). -/
def regGroup_HIF_4 : GroupSpec := ⟨0x21000, 0x40, 64, allLive, [
  ⟨0x0, 1, 4, 12, 20, .rws, (fun _ => 0), keep⟩,
  ⟨0x4, 1, 4, 0, 32, .rws, (fun _ => 0), keep⟩,
  ⟨0x8, 1, 4, 31, 1, .rws, (fun _ => 0), keep⟩,
  ⟨0x8, 1, 4, 28, 3, .rws, (fun _ => 0), (fun _ v => if 5 < v then 0 else v)⟩,
  ⟨0x8, 1, 4, 16, 5, .rws, (fun _ => 6), (fun _ v => clampN 6 16 v)⟩,
  ⟨0x8, 1, 4, 12, 2, .rws, (fun _ => 0), (fun _ v => if 2 < v then 2 else v)⟩,
  ⟨0x8, 1, 4, 0, 6, .rws, (fun _ => 0), keep⟩,
  ⟨0xc, 1, 4, 3, 29, .rws, (fun _ => 0), keep⟩,
  ⟨0x10, 1, 4, 0, 32, .rws, (fun _ => 0), keep⟩,
  ⟨0x14, 1, 4, 16, 16, .rws, (fun _ => 1), (fun _ v => if v = 0 then 1 else v)⟩,
  ⟨0x14, 1, 4, 0, 16, .rws, (fun _ => 0), keep⟩,
  ⟨0x20, 1, 4, 31, 1, .ro, (fun _ => 0), keep⟩,
  ⟨0x20, 1, 4, 28, 3, .ro, (fun _ => 0), keep⟩,
  ⟨0x20, 1, 4, 24, 4, .ro, (fun _ => 0), keep⟩,
  ⟨0x20, 1, 4, 0, 8, .ro, (fun _ => 0), keep⟩,
  ⟨0x24, 1, 4, 16, 8, .ro, (fun _ => 0), keep⟩,
  ⟨0x24, 1, 4, 0, 16, .ro, (fun _ => 0), keep⟩,
  ⟨0x28, 1, 4, 16, 8, .ro, (fun _ => 0), keep⟩,
  ⟨0x28, 1, 4, 0, 16, .ro, (fun _ => 0), keep⟩,
  ⟨0x2c, 1, 4, 0, 16, .ro, (fun _ => 0), keep⟩,
  ⟨0x30, 1, 4, 0, 32, .ro, (fun _ => 0), keep⟩,
  ⟨0x34, 1, 4, 0, 16, .ro, (fun _ => 0), keep⟩,
  ⟨0x38, 1, 4, 0, 17, .ro, (fun _ => 0), keep⟩]⟩

/-- Registers of HIF at 0x28000 (R391). -/
def regGroup_HIF_5 : GroupSpec := ⟨0x28000, 0x10, 72, allLive, [
  ⟨0x0, 1, 4, 2, 30, .rw, (fun _ => 0), keep⟩,
  ⟨0x4, 1, 4, 0, 32, .rw, (fun _ => 0), keep⟩,
  ⟨0x8, 1, 4, 0, 32, .rw, (fun _ => 0), keep⟩,
  ⟨0xc, 1, 4, 0, 1, .rw, (fun _ => 1), keep⟩]⟩

/-- Registers of HIF at 0x29000 (R391). -/
def regGroup_HIF_6 : GroupSpec := ⟨0x29000, 0x4, 3, allLive, [
  ⟨0x0, 1, 4, 0, 32, .ro, (fun _ => 0), keep⟩]⟩

/-- Registers of REFIN at 0x40000 (R76,R79). -/
def regGroup_REFIN_7 : GroupSpec := ⟨0x40000, 0x4030, 1, allLive, [
  ⟨0x0, 1, 4, 0, 24, .ro, (fun _ => 0xFFFFFF), keep⟩,
  ⟨0x4000, 1, 4, 8, 1, .rws, (fun _ => 0), keep⟩,
  ⟨0x4000, 1, 4, 5, 3, .rws, (fun _ => 0), (fun _ v => if 4 < v then 0 else v)⟩,
  ⟨0x4000, 1, 4, 1, 4, .rws, (fun _ => 0), keep⟩,
  ⟨0x4000, 1, 4, 0, 1, .rws, (fun _ => 0), keep⟩,
  ⟨0x4004, 1, 4, 31, 1, .ro, (fun _ => 0), keep⟩,
  ⟨0x4004, 1, 4, 30, 1, .ro, (fun _ => 0), keep⟩,
  ⟨0x4004, 1, 4, 8, 8, .ro, (fun _ => 0), keep⟩,
  ⟨0x4004, 1, 4, 0, 8, .ro, (fun _ => 0), keep⟩,
  ⟨0x4008, 1, 4, 0, 32, .ro, (fun _ => 0), keep⟩,
  ⟨0x400c, 1, 4, 0, 16, .ro, (fun _ => 0), keep⟩,
  ⟨0x4010, 1, 4, 18, 1, .ro, (fun _ => 0), keep⟩,
  ⟨0x4010, 1, 4, 17, 1, .ro, (fun _ => 0), keep⟩,
  ⟨0x4010, 1, 4, 16, 1, .ro, (fun _ => 0), keep⟩,
  ⟨0x4010, 1, 4, 0, 16, .ro, (fun _ => 0), keep⟩,
  ⟨0x4014, 1, 4, 0, 32, .ro, (fun _ => 0), keep⟩,
  ⟨0x4018, 1, 4, 0, 16, .ro, (fun _ => 0), keep⟩,
  ⟨0x401c, 1, 4, 0, 1, .w1c, (fun _ => 0), keep⟩,
  ⟨0x4020, 1, 4, 0, 16, .ro, (fun _ => 0), keep⟩,
  ⟨0x401c, 1, 4, 1, 1, .w1c, (fun _ => 0), keep⟩,
  ⟨0x4020, 1, 4, 16, 16, .ro, (fun _ => 0), keep⟩,
  ⟨0x401c, 1, 4, 2, 1, .w1c, (fun _ => 0), keep⟩,
  ⟨0x4024, 1, 4, 0, 16, .ro, (fun _ => 0), keep⟩,
  ⟨0x401c, 1, 4, 3, 1, .w1c, (fun _ => 0), keep⟩,
  ⟨0x4024, 1, 4, 16, 16, .ro, (fun _ => 0), keep⟩,
  ⟨0x401c, 1, 4, 4, 1, .w1c, (fun _ => 0), keep⟩,
  ⟨0x4028, 1, 4, 0, 16, .ro, (fun _ => 0), keep⟩,
  ⟨0x401c, 1, 4, 5, 1, .w1c, (fun _ => 0), keep⟩,
  ⟨0x4028, 1, 4, 16, 16, .ro, (fun _ => 0), keep⟩,
  ⟨0x401c, 1, 4, 6, 1, .w1c, (fun _ => 0), keep⟩,
  ⟨0x402c, 1, 4, 0, 16, .ro, (fun _ => 0), keep⟩]⟩

/-- Registers of REFIN at 0x41000 (R62,R84). -/
def regGroup_REFIN_8 : GroupSpec := ⟨0x41000, 0x200, 24, allLive, [
  ⟨0x0, 1, 4, 12, 6, .rws, (fun _ => 0), keep⟩,
  ⟨0x0, 1, 4, 11, 1, .rws, (fun _ => 0), keep⟩,
  ⟨0x0, 1, 4, 8, 3, .rws, (fun _ => 0), (fun _ v => if 3 < v then 3 else v)⟩,
  ⟨0x0, 1, 4, 7, 1, .rws, (fun _ => 0), (fun i v => (if i < 16 then 0 else v))⟩,
  ⟨0x0, 1, 4, 5, 2, .rws, (fun _ => 1), keep⟩,
  ⟨0x0, 1, 4, 4, 1, .rws, (fun _ => 0), (fun i v => (if i < 16 then v else 0))⟩,
  ⟨0x0, 1, 4, 2, 2, .rws, (fun _ => 0), (fun _ v => if 2 < v then 0 else v)⟩,
  ⟨0x0, 1, 4, 0, 2, .rws, (fun _ => 0), (fun i v => (chTypeStored i v))⟩,
  ⟨0x4, 1, 4, 0, 9, .rws, (fun _ => 250), (fun _ v => if 500 < v then 500 else v)⟩,
  ⟨0x8, 1, 4, 0, 10, .rws, (fun _ => 1000), (fun _ v => (if 1000 % v = 0 then v else 1000))⟩,
  ⟨0xc, 1, 4, 0, 20, .rws, (fun _ => 1), (fun _ v => if v = 0 then 1 else v)⟩,
  ⟨0x10, 1, 4, 0, 32, .rws, (fun _ => 0), keep⟩,
  ⟨0x14, 1, 4, 0, 8, .rws, (fun _ => 0), keep⟩,
  ⟨0x18, 1, 4, 30, 1, .rws, (fun _ => 1), keep⟩,
  ⟨0x18, 1, 4, 0, 30, .rws, (fun _ => 0), keep⟩,
  ⟨0x40, 1, 4, 31, 1, .ro, (fun _ => 0), keep⟩,
  ⟨0x40, 1, 4, 30, 1, .ro, (fun _ => 0), keep⟩,
  ⟨0x40, 1, 4, 29, 1, .ro, (fun _ => 0), keep⟩,
  ⟨0x40, 1, 4, 28, 1, .ro, (fun _ => 0), keep⟩,
  ⟨0x40, 1, 4, 27, 1, .ro, (fun _ => 0), keep⟩,
  ⟨0x40, 1, 4, 26, 1, .ro, (fun _ => 0), keep⟩,
  ⟨0x40, 1, 4, 25, 1, .ro, (fun _ => 0), keep⟩,
  ⟨0x40, 1, 4, 24, 1, .ro, (fun _ => 0), keep⟩,
  ⟨0x40, 1, 4, 16, 6, .ro, (fun _ => 0), keep⟩,
  ⟨0x40, 1, 4, 0, 8, .ro, (fun _ => 0), keep⟩,
  ⟨0x44, 1, 4, 0, 32, .ro, (fun _ => 0), keep⟩,
  ⟨0x48, 1, 4, 0, 32, .ro, (fun _ => 0), keep⟩,
  ⟨0x4c, 1, 4, 0, 32, .ro, (fun _ => 0), keep⟩,
  ⟨0x50, 1, 4, 0, 32, .ro, (fun _ => 0), keep⟩,
  ⟨0x54, 1, 4, 0, 32, .ro, (fun _ => 0), keep⟩,
  ⟨0x58, 1, 4, 0, 16, .ro, (fun _ => 0), keep⟩,
  ⟨0x5c, 1, 4, 0, 32, .ro, (fun _ => 0), keep⟩,
  ⟨0x60, 1, 4, 0, 16, .ro, (fun _ => 0), keep⟩,
  ⟨0x64, 1, 4, 16, 12, .ro, (fun _ => 0), keep⟩,
  ⟨0x64, 1, 4, 0, 12, .ro, (fun _ => 0), keep⟩,
  ⟨0x100, 32, 8, 0, 32, .ro, (fun _ => 0), keep⟩,
  ⟨0x104, 32, 8, 0, 16, .ro, (fun _ => 0), keep⟩,
  ⟨0x70, 1, 4, 0, 1, .w1c, (fun _ => 0), keep⟩,
  ⟨0x74, 1, 4, 0, 16, .ro, (fun _ => 0), keep⟩,
  ⟨0x70, 1, 4, 1, 1, .w1c, (fun _ => 0), keep⟩,
  ⟨0x74, 1, 4, 16, 16, .ro, (fun _ => 0), keep⟩,
  ⟨0x70, 1, 4, 2, 1, .w1c, (fun _ => 0), keep⟩,
  ⟨0x78, 1, 4, 0, 16, .ro, (fun _ => 0), keep⟩,
  ⟨0x70, 1, 4, 3, 1, .w1c, (fun _ => 0), keep⟩,
  ⟨0x78, 1, 4, 16, 16, .ro, (fun _ => 0), keep⟩,
  ⟨0x70, 1, 4, 4, 1, .w1c, (fun _ => 0), keep⟩,
  ⟨0x7c, 1, 4, 0, 16, .ro, (fun _ => 0), keep⟩,
  ⟨0x70, 1, 4, 5, 1, .w1c, (fun _ => 0), keep⟩,
  ⟨0x7c, 1, 4, 16, 16, .ro, (fun _ => 0), keep⟩,
  ⟨0x70, 1, 4, 6, 1, .w1c, (fun _ => 0), keep⟩,
  ⟨0x80, 1, 4, 0, 16, .ro, (fun _ => 0), keep⟩]⟩

/-- Registers of GNSS at 0x50000 (R109,R125). -/
def regGroup_GNSS_9 : GroupSpec := ⟨0x50000, 0x1d8, 1, allLive, [
  ⟨0x0, 1, 4, 18, 6, .rws, (fun _ => 0), keep⟩,
  ⟨0x0, 1, 4, 16, 2, .rws, (fun _ => 0), (fun _ v => if 2 < v then 0 else v)⟩,
  ⟨0x0, 1, 4, 15, 1, .rws, (fun _ => 0), keep⟩,
  ⟨0x0, 1, 4, 14, 1, .rws, (fun _ => 1), keep⟩,
  ⟨0x0, 1, 4, 10, 4, .rws, (fun _ => 15), keep⟩,
  ⟨0x0, 1, 4, 9, 1, .rws, (fun _ => 0), keep⟩,
  ⟨0x0, 1, 4, 8, 1, .rws, (fun _ => 0), keep⟩,
  ⟨0x0, 1, 4, 2, 1, .rws, (fun _ => 0), keep⟩,
  ⟨0x0, 1, 4, 1, 1, .rws, (fun _ => 0), keep⟩,
  ⟨0x0, 1, 4, 0, 1, .rws, (fun _ => 0), keep⟩,
  ⟨0x4, 1, 4, 31, 1, .rws, (fun _ => 0), keep⟩,
  ⟨0x4, 1, 4, 0, 26, .rws, (fun _ => 0), (fun _ v => clampS 26 (-20000000) 20000000 v)⟩,
  ⟨0x8, 1, 4, 31, 1, .rws, (fun _ => 0), keep⟩,
  ⟨0x8, 1, 4, 0, 26, .rws, (fun _ => 0), (fun _ v => clampS 26 (-20000000) 20000000 v)⟩,
  ⟨0xc, 1, 4, 0, 32, .rws, (fun _ => 0), (fun _ v => clampS 32 (-655360000) 655360000 v)⟩,
  ⟨0x10, 1, 4, 0, 32, .rws, (fun _ => 0), (fun _ v => clampS 32 (-655360000) 655360000 v)⟩,
  ⟨0x14, 1, 4, 20, 4, .rws, (fun _ => 4), (fun _ v => clampN 1 12 v)⟩,
  ⟨0x14, 1, 4, 8, 8, .rws, (fun _ => 30), keep⟩,
  ⟨0x14, 1, 4, 0, 8, .rws, (fun _ => 10), (fun _ v => if 60 < v then 60 else v)⟩,
  ⟨0x18, 1, 4, 8, 8, .rws, (fun _ => 32), (fun _ v => clampN 8 128 v)⟩,
  ⟨0x18, 1, 4, 0, 8, .rws, (fun _ => 32), (fun _ v => clampN 8 128 v)⟩,
  ⟨0x1c, 1, 4, 16, 16, .rws, (fun _ => 6000), keep⟩,
  ⟨0x1c, 1, 4, 4, 12, .rws, (fun _ => 1000), keep⟩,
  ⟨0x1c, 1, 4, 0, 4, .rws, (fun _ => 6), (fun _ v => clampN 3 8 v)⟩,
  ⟨0x20, 1, 4, 0, 32, .rws, (fun _ => 20000), keep⟩,
  ⟨0x24, 1, 4, 16, 16, .rws, (fun _ => 5000), keep⟩,
  ⟨0x24, 1, 4, 0, 8, .rws, (fun _ => 8), keep⟩,
  ⟨0x28, 1, 4, 0, 16, .rws, (fun _ => 2304), keep⟩,
  ⟨0x30, 1, 4, 0, 32, .rws, (fun _ => 0), keep⟩,
  ⟨0x34, 1, 4, 0, 32, .rws, (fun _ => 0), keep⟩,
  ⟨0x38, 1, 4, 0, 32, .rws, (fun _ => 0), keep⟩,
  ⟨0x3c, 1, 4, 31, 1, .rws, (fun _ => 0), keep⟩,
  ⟨0x3c, 1, 4, 0, 16, .rws, (fun _ => 0), keep⟩,
  ⟨0x40, 1, 4, 0, 32, .rws, (fun _ => 3600), keep⟩,
  ⟨0x44, 1, 4, 0, 32, .rws, (fun _ => 86400), keep⟩,
  ⟨0x48, 1, 4, 16, 1, .rws, (fun _ => 1), keep⟩,
  ⟨0x48, 1, 4, 0, 16, .rws, (fun _ => 50), keep⟩,
  ⟨0x60, 1, 4, 8, 8, .rws, (fun _ => 20), keep⟩,
  ⟨0x60, 1, 4, 0, 8, .rws, (fun _ => 100), keep⟩,
  ⟨0x64, 1, 4, 8, 8, .rws, (fun _ => 55), keep⟩,
  ⟨0x64, 1, 4, 0, 8, .rws, (fun _ => 6), keep⟩,
  ⟨0x68, 1, 4, 8, 8, .rws, (fun _ => 38), keep⟩,
  ⟨0x68, 1, 4, 0, 4, .rws, (fun _ => 3), keep⟩,
  ⟨0x6c, 1, 4, 16, 16, .rws, (fun _ => 100), keep⟩,
  ⟨0x6c, 1, 4, 8, 8, .rws, (fun _ => 3), keep⟩,
  ⟨0x6c, 1, 4, 0, 8, .rws, (fun _ => 10), keep⟩,
  ⟨0x70, 1, 4, 8, 16, .rws, (fun _ => 60), keep⟩,
  ⟨0x70, 1, 4, 6, 2, .rws, (fun _ => 2), (fun _ v => if 2 < v then 2 else v)⟩,
  ⟨0x70, 1, 4, 4, 2, .rws, (fun _ => 2), (fun _ v => if 2 < v then 2 else v)⟩,
  ⟨0x70, 1, 4, 2, 2, .rws, (fun _ => 2), (fun _ v => if 2 < v then 2 else v)⟩,
  ⟨0x70, 1, 4, 0, 2, .rws, (fun _ => 2), (fun _ v => if 2 < v then 2 else v)⟩,
  ⟨0x74, 1, 4, 4, 1, .rws, (fun _ => 0), keep⟩,
  ⟨0x74, 1, 4, 0, 4, .rws, (fun _ => 8), keep⟩,
  ⟨0x78, 1, 4, 0, 16, .rws, (fun _ => 1000), keep⟩,
  ⟨0x180, 1, 4, 0, 32, .ro, (fun _ => 0), keep⟩,
  ⟨0x184, 1, 4, 0, 32, .ro, (fun _ => 0), keep⟩,
  ⟨0x188, 1, 4, 0, 32, .ro, (fun _ => 0), keep⟩,
  ⟨0x18c, 1, 4, 17, 1, .ro, (fun _ => 0), keep⟩,
  ⟨0x18c, 1, 4, 16, 1, .ro, (fun _ => 0), keep⟩,
  ⟨0x18c, 1, 4, 0, 16, .ro, (fun _ => 0), keep⟩,
  ⟨0x1a0, 2, 4, 16, 16, .ro, (fun _ => 0), keep⟩,
  ⟨0x1a0, 2, 4, 8, 8, .ro, (fun _ => 0), keep⟩,
  ⟨0x1a0, 2, 4, 1, 7, .ro, (fun _ => 0), keep⟩,
  ⟨0x1a0, 2, 4, 0, 1, .ro, (fun _ => 0), keep⟩,
  ⟨0x1c4, 1, 4, 0, 7, .ro, (fun _ => 0), keep⟩,
  ⟨0x1c0, 1, 4, 0, 1, .w1c, (fun _ => 0), keep⟩,
  ⟨0x1c8, 1, 4, 0, 16, .ro, (fun _ => 0), keep⟩,
  ⟨0x1c0, 1, 4, 1, 1, .w1c, (fun _ => 0), keep⟩,
  ⟨0x1c8, 1, 4, 16, 16, .ro, (fun _ => 0), keep⟩,
  ⟨0x1c0, 1, 4, 2, 1, .w1c, (fun _ => 0), keep⟩,
  ⟨0x1cc, 1, 4, 0, 16, .ro, (fun _ => 0), keep⟩,
  ⟨0x1c0, 1, 4, 3, 1, .w1c, (fun _ => 0), keep⟩,
  ⟨0x1cc, 1, 4, 16, 16, .ro, (fun _ => 0), keep⟩,
  ⟨0x1c0, 1, 4, 4, 1, .w1c, (fun _ => 0), keep⟩,
  ⟨0x1d0, 1, 4, 0, 16, .ro, (fun _ => 0), keep⟩,
  ⟨0x1c0, 1, 4, 5, 1, .w1c, (fun _ => 0), keep⟩,
  ⟨0x1d0, 1, 4, 16, 16, .ro, (fun _ => 0), keep⟩,
  ⟨0x1c0, 1, 4, 6, 1, .w1c, (fun _ => 0), keep⟩,
  ⟨0x1d4, 1, 4, 0, 16, .ro, (fun _ => 0), keep⟩,
  ⟨0x1c0, 1, 4, 7, 1, .w1c, (fun _ => 0), keep⟩,
  ⟨0x1d4, 1, 4, 16, 16, .ro, (fun _ => 0), keep⟩]⟩

/-- Registers of GNSS at 0x50100 (R104,R106). -/
def regGroup_GNSS_10 : GroupSpec := ⟨0x50100, 0x20, 3, allLive, [
  ⟨0x0, 1, 4, 31, 1, .ro, (fun _ => 0), keep⟩,
  ⟨0x0, 1, 4, 30, 1, .ro, (fun _ => 0), keep⟩,
  ⟨0x0, 1, 4, 29, 1, .ro, (fun _ => 0), keep⟩,
  ⟨0x0, 1, 4, 16, 8, .ro, (fun _ => 0), keep⟩,
  ⟨0x0, 1, 4, 12, 2, .ro, (fun _ => 0), keep⟩,
  ⟨0x0, 1, 4, 0, 8, .ro, (fun _ => 0), keep⟩,
  ⟨0x4, 1, 4, 0, 32, .ro, (fun _ => 0), keep⟩,
  ⟨0x8, 1, 4, 0, 32, .ro, (fun _ => 0), keep⟩,
  ⟨0xc, 1, 4, 0, 16, .ro, (fun _ => 0), keep⟩,
  ⟨0x10, 1, 4, 0, 32, .ro, (fun _ => 0), keep⟩,
  ⟨0x14, 1, 4, 0, 32, .ro, (fun _ => 0), keep⟩,
  ⟨0x18, 1, 4, 0, 32, .ro, (fun _ => 0), keep⟩]⟩

/-- Registers of GNSS at 0x50200 (R120). -/
def regGroup_GNSS_11 : GroupSpec := ⟨0x50200, 0x10, 3, allLive, [
  ⟨0x0, 1, 4, 31, 1, .ro, (fun _ => 0), keep⟩,
  ⟨0x0, 1, 4, 30, 1, .ro, (fun _ => 0), keep⟩,
  ⟨0x0, 1, 4, 29, 1, .ro, (fun _ => 0), keep⟩,
  ⟨0x0, 1, 4, 0, 16, .ro, (fun _ => 0), keep⟩,
  ⟨0x4, 1, 4, 0, 32, .ro, (fun _ => 0), keep⟩,
  ⟨0x8, 1, 4, 0, 32, .ro, (fun _ => 0), keep⟩,
  ⟨0xc, 1, 4, 0, 32, .ro, (fun _ => 0), keep⟩]⟩

/-- Registers of GNSS at 0x51000 (R96). -/
def regGroup_GNSS_12 : GroupSpec := ⟨0x51000, 0x40, 128, allLive, [
  ⟨0x0, 1, 4, 29, 3, .ro, (fun _ => 0), keep⟩,
  ⟨0x0, 1, 4, 26, 3, .ro, (fun _ => 0), keep⟩,
  ⟨0x0, 1, 4, 25, 1, .ro, (fun _ => 0), keep⟩,
  ⟨0x0, 1, 4, 24, 1, .ro, (fun _ => 0), keep⟩,
  ⟨0x0, 1, 4, 16, 8, .ro, (fun _ => 0), keep⟩,
  ⟨0x0, 1, 4, 8, 8, .ro, (fun _ => 0), keep⟩,
  ⟨0x0, 1, 4, 0, 8, .ro, (fun _ => 0), keep⟩,
  ⟨0x4, 1, 4, 16, 16, .ro, (fun _ => 0), keep⟩,
  ⟨0x4, 1, 4, 0, 16, .ro, (fun _ => 0), keep⟩,
  ⟨0x8, 1, 4, 0, 8, .ro, (fun _ => 0), keep⟩]⟩

/-- Registers of SEL at 0x70000 (R146,R149,R157). -/
def regGroup_SEL_13 : GroupSpec := ⟨0x70000, 0x30, 1, allLive, [
  ⟨0x0, 1, 4, 16, 16, .rws, (fun _ => 300), keep⟩,
  ⟨0x0, 1, 4, 8, 8, .rws, (fun _ => 100), keep⟩,
  ⟨0x0, 1, 4, 0, 1, .rws, (fun _ => 0), keep⟩,
  ⟨0x4, 1, 4, 0, 32, .rws, (fun _ => 100), keep⟩,
  ⟨0x10, 1, 4, 31, 1, .ro, (fun _ => 0), keep⟩,
  ⟨0x10, 1, 4, 30, 1, .ro, (fun _ => 0), keep⟩,
  ⟨0x10, 1, 4, 29, 1, .ro, (fun _ => 0), keep⟩,
  ⟨0x10, 1, 4, 28, 1, .ro, (fun _ => 0), keep⟩,
  ⟨0x10, 1, 4, 27, 1, .ro, (fun _ => 0), keep⟩,
  ⟨0x10, 1, 4, 21, 1, .ro, (fun _ => 0), keep⟩,
  ⟨0x10, 1, 4, 16, 5, .ro, (fun _ => 0), keep⟩,
  ⟨0x10, 1, 4, 13, 1, .ro, (fun _ => 0), keep⟩,
  ⟨0x10, 1, 4, 8, 5, .ro, (fun _ => 0), keep⟩,
  ⟨0x10, 1, 4, 0, 8, .ro, (fun _ => 0), keep⟩,
  ⟨0x14, 1, 4, 0, 32, .ro, (fun _ => 0), keep⟩,
  ⟨0x18, 1, 4, 0, 32, .ro, (fun _ => 0xFFFFFFFF), keep⟩,
  ⟨0x1c, 1, 4, 0, 32, .rws, (fun _ => 0), (fun _ v => (v &&& 0x7FF7FFFF))⟩,
  ⟨0x20, 1, 4, 0, 1, .w1c, (fun _ => 0), keep⟩,
  ⟨0x24, 1, 4, 0, 16, .ro, (fun _ => 0), keep⟩,
  ⟨0x20, 1, 4, 1, 1, .w1c, (fun _ => 0), keep⟩,
  ⟨0x24, 1, 4, 16, 16, .ro, (fun _ => 0), keep⟩,
  ⟨0x20, 1, 4, 2, 1, .w1c, (fun _ => 0), keep⟩,
  ⟨0x28, 1, 4, 0, 16, .ro, (fun _ => 0), keep⟩,
  ⟨0x20, 1, 4, 3, 1, .w1c, (fun _ => 0), keep⟩,
  ⟨0x28, 1, 4, 16, 16, .ro, (fun _ => 0), keep⟩,
  ⟨0x20, 1, 4, 4, 1, .w1c, (fun _ => 0), keep⟩,
  ⟨0x2c, 1, 4, 0, 16, .ro, (fun _ => 0), keep⟩,
  ⟨0x20, 1, 4, 5, 1, .w1c, (fun _ => 0), keep⟩,
  ⟨0x2c, 1, 4, 16, 16, .ro, (fun _ => 0), keep⟩]⟩

/-- Registers of SEL at 0x71000 (R129,R134). -/
def regGroup_SEL_14 : GroupSpec := ⟨0x71000, 0x80, 32, allLive, [
  ⟨0x0, 1, 4, 31, 1, .rws, (fun _ => 0), (fun i v => (if i = 19 ∨ i = 31 then 0 else v))⟩,
  ⟨0x0, 1, 4, 24, 4, .rws, (fun _ => 8), keep⟩,
  ⟨0x0, 1, 4, 22, 2, .rws, (fun _ => 0), (fun _ v => if 2 < v then 0 else v)⟩,
  ⟨0x0, 1, 4, 18, 4, .rws, (fun _ => 7), (fun i v => (entTraceStored i v))⟩,
  ⟨0x0, 1, 4, 8, 8, .rws, (fun _ => 0), keep⟩,
  ⟨0x0, 1, 4, 0, 8, .rws, (fun _ => 20), keep⟩,
  ⟨0x4, 1, 4, 0, 32, .rws, (fun _ => 0), keep⟩,
  ⟨0x8, 1, 4, 0, 32, .rws, (fun _ => 0), keep⟩,
  ⟨0xc, 1, 4, 0, 32, .rws, (fun _ => 10000000), keep⟩,
  ⟨0x10, 1, 4, 0, 32, .rws, (fun _ => 4600000), keep⟩,
  ⟨0x14, 1, 4, 0, 16, .rws, (fun _ => 100), keep⟩,
  ⟨0x18, 1, 4, 0, 32, .rws, (fun _ => 1000000), keep⟩,
  ⟨0x1c, 1, 4, 0, 32, .rws, (fun _ => 5000), keep⟩,
  ⟨0x20, 1, 4, 16, 16, .rws, (fun _ => 1000), (fun _ v => (clampN 100 65534 (v - v % 2)))⟩,
  ⟨0x20, 1, 4, 8, 8, .rws, (fun _ => 10), (fun _ v => clampN 2 255 v)⟩,
  ⟨0x20, 1, 4, 0, 4, .rws, (fun _ => 8), (fun _ v => clampN 1 15 v)⟩,
  ⟨0x24, 1, 4, 0, 16, .rws, (fun i => entLosint i), keep⟩,
  ⟨0x28, 1, 4, 30, 2, .rws, (fun _ => 0), (fun i v => (if i < 20 ∨ 27 < i then 0 else if v = 3 then 0 else v))⟩,
  ⟨0x28, 1, 4, 24, 4, .rws, (fun _ => 3), keep⟩,
  ⟨0x28, 1, 4, 16, 8, .rws, (fun _ => 7), keep⟩,
  ⟨0x28, 1, 4, 0, 8, .rws, (fun _ => 1), (fun _ v => clampN 1 128 v)⟩,
  ⟨0x40, 1, 4, 31, 1, .ro, (fun _ => 0), keep⟩,
  ⟨0x40, 1, 4, 28, 3, .ro, (fun _ => 0), keep⟩,
  ⟨0x40, 1, 4, 24, 4, .ro, (fun _ => 0), keep⟩,
  ⟨0x40, 1, 4, 23, 1, .ro, (fun _ => 1), keep⟩,
  ⟨0x40, 1, 4, 22, 1, .ro, (fun _ => 0), keep⟩,
  ⟨0x40, 1, 4, 20, 2, .ro, (fun _ => 0), keep⟩,
  ⟨0x40, 1, 4, 16, 4, .ro, (fun _ => 0), keep⟩,
  ⟨0x40, 1, 4, 8, 8, .ro, (fun _ => 0), keep⟩,
  ⟨0x40, 1, 4, 0, 8, .ro, (fun _ => 0), keep⟩,
  ⟨0x44, 1, 4, 0, 32, .ro, (fun _ => 0), keep⟩,
  ⟨0x48, 1, 4, 0, 16, .ro, (fun _ => 0), keep⟩,
  ⟨0x4c, 1, 4, 0, 32, .ro, (fun _ => 0), keep⟩,
  ⟨0x50, 1, 4, 0, 32, .ro, (fun _ => 0), keep⟩,
  ⟨0x54, 1, 4, 0, 32, .ro, (fun _ => 0), keep⟩,
  ⟨0x58, 1, 4, 0, 32, .ro, (fun _ => 0), keep⟩,
  ⟨0x5c, 1, 4, 0, 32, .ro, (fun _ => 0), keep⟩,
  ⟨0x60, 1, 4, 0, 16, .ro, (fun _ => 0), keep⟩,
  ⟨0x64, 1, 4, 28, 4, .ro, (fun _ => 8), keep⟩,
  ⟨0x64, 1, 4, 27, 1, .ro, (fun _ => 0), keep⟩,
  ⟨0x64, 1, 4, 26, 1, .ro, (fun _ => 0), keep⟩,
  ⟨0x64, 1, 4, 16, 8, .ro, (fun _ => 0), keep⟩,
  ⟨0x64, 1, 4, 8, 8, .ro, (fun _ => 0), keep⟩,
  ⟨0x64, 1, 4, 0, 1, .ro, (fun _ => 0), keep⟩]⟩

/-- Registers of TNS at 0x80000 (R56,R197). -/
def regGroup_TNS_15 : GroupSpec := ⟨0x80000, 0x254, 1, allLive, [
  ⟨0x0, 1, 4, 31, 1, .ro, (fun _ => 0), keep⟩,
  ⟨0x0, 1, 4, 0, 8, .ro, (fun _ => 0), keep⟩,
  ⟨0x4, 1, 4, 0, 32, .ro, (fun _ => 0), keep⟩,
  ⟨0x8, 1, 4, 0, 32, .ro, (fun _ => 0), keep⟩,
  ⟨0xc, 1, 4, 16, 16, .ro, (fun _ => 0), keep⟩,
  ⟨0xc, 1, 4, 0, 16, .ro, (fun _ => 0), keep⟩,
  ⟨0x10, 1, 4, 0, 32, .ro, (fun _ => 0), keep⟩,
  ⟨0x14, 1, 4, 0, 32, .ro, (fun _ => 0xFFFFFFFF), keep⟩,
  ⟨0x18, 1, 4, 0, 32, .ro, (fun _ => 0xF800), keep⟩,
  ⟨0x1c, 1, 4, 19, 1, .ro, (fun _ => 0), keep⟩,
  ⟨0x1c, 1, 4, 18, 1, .ro, (fun _ => 0), keep⟩,
  ⟨0x1c, 1, 4, 17, 1, .ro, (fun _ => 0), keep⟩,
  ⟨0x1c, 1, 4, 16, 1, .ro, (fun _ => 0), keep⟩,
  ⟨0x1c, 1, 4, 0, 16, .ro, (fun _ => 0), keep⟩,
  ⟨0x20, 1, 4, 0, 32, .ro, (fun _ => 0), keep⟩,
  ⟨0x40, 1, 4, 8, 1, .rws, (fun _ => 1), keep⟩,
  ⟨0x40, 1, 4, 0, 4, .rws, (fun _ => 5), (fun _ v => clampN 3 8 v)⟩,
  ⟨0x44, 1, 4, 0, 24, .rws, (fun _ => 0), keep⟩,
  ⟨0x48, 1, 4, 0, 16, .rws, (fun _ => 0), keep⟩,
  ⟨0x100, 1, 4, 28, 1, .rws, (fun _ => 1), keep⟩,
  ⟨0x100, 1, 4, 26, 2, .rws, (fun _ => 0), (fun _ v => if 2 < v then 0 else v)⟩,
  ⟨0x100, 1, 4, 25, 1, .rws, (fun _ => 0), keep⟩,
  ⟨0x100, 1, 4, 24, 1, .rws, (fun _ => 1), keep⟩,
  ⟨0x100, 1, 4, 22, 2, .rws, (fun _ => 0), keep⟩,
  ⟨0x100, 1, 4, 8, 4, .rws, (fun _ => 3), (fun _ v => clampN 0 14 v)⟩,
  ⟨0x100, 1, 4, 0, 4, .rws, (fun _ => 7), (fun _ v => clampN 0 14 v)⟩,
  ⟨0x104, 1, 4, 0, 20, .rws, (fun _ => 50000), (fun _ v => clampN 1000 1000000 v)⟩,
  ⟨0x108, 1, 4, 0, 24, .rws, (fun _ => 100), (fun _ v => clampN 1 1000000 v)⟩,
  ⟨0x10c, 1, 4, 0, 32, .rws, (fun _ => 1000), (fun _ v => if v = 0 then 1 else v)⟩,
  ⟨0x110, 1, 4, 24, 8, .rws, (fun _ => 16), (fun _ v => if v = 0 then 1 else v)⟩,
  ⟨0x110, 1, 4, 0, 24, .rws, (fun _ => 20), keep⟩,
  ⟨0x114, 1, 4, 0, 32, .rws, (fun _ => 1000000), keep⟩,
  ⟨0x118, 1, 4, 0, 16, .rws, (fun _ => 1000), (fun _ v => if v = 0 then 1 else v)⟩,
  ⟨0x11c, 1, 4, 16, 16, .rws, (fun _ => 48), (fun _ v => clampN 1 720 v)⟩,
  ⟨0x11c, 1, 4, 0, 16, .rws, (fun _ => 12), (fun _ v => clampN 1 720 v)⟩,
  ⟨0x120, 1, 4, 0, 32, .rws, (fun _ => 50000), keep⟩,
  ⟨0x124, 1, 4, 0, 32, .rws, (fun _ => 1000000), keep⟩,
  ⟨0x128, 1, 4, 0, 32, .rws, (fun _ => 1000000), keep⟩,
  ⟨0x12c, 1, 4, 0, 32, .rws, (fun _ => 10000), keep⟩,
  ⟨0x130, 1, 4, 0, 17, .rws, (fun _ => 43200), (fun _ v => clampN 60 86400 v)⟩,
  ⟨0x134, 1, 4, 28, 4, .rws, (fun _ => 3), keep⟩,
  ⟨0x134, 1, 4, 24, 4, .rws, (fun _ => 1), keep⟩,
  ⟨0x134, 1, 4, 20, 2, .rws, (fun _ => 0), (fun _ v => if 2 < v then 0 else v)⟩,
  ⟨0x134, 1, 4, 0, 20, .rws, (fun _ => 0x8000), keep⟩,
  ⟨0x138, 1, 4, 0, 32, .rws, (fun _ => 0), keep⟩,
  ⟨0x140, 1, 4, 0, 20, .rws, (fun _ => 0), keep⟩,
  ⟨0x144, 1, 4, 0, 20, .rws, (fun _ => 0xFFFFF), keep⟩,
  ⟨0x148, 1, 4, 16, 16, .rws, (fun _ => 600), keep⟩,
  ⟨0x148, 1, 4, 0, 8, .rws, (fun _ => 16), keep⟩,
  ⟨0x14c, 1, 4, 0, 32, .rws, (fun _ => 100000), keep⟩,
  ⟨0x150, 1, 4, 16, 7, .rws, (fun _ => 0x48), keep⟩,
  ⟨0x150, 1, 4, 8, 8, .rws, (fun _ => 0), keep⟩,
  ⟨0x150, 1, 4, 0, 4, .rws, (fun _ => 7), keep⟩,
  ⟨0x154, 1, 4, 24, 8, .rws, (fun _ => 6), keep⟩,
  ⟨0x154, 1, 4, 16, 8, .rws, (fun _ => 7), keep⟩,
  ⟨0x154, 1, 4, 8, 8, .rws, (fun _ => 52), keep⟩,
  ⟨0x154, 1, 4, 0, 8, .rws, (fun _ => 13), keep⟩,
  ⟨0x158, 1, 4, 0, 32, .rws, (fun _ => 0x4C4F434C), keep⟩,
  ⟨0x180, 1, 4, 31, 1, .ro, (fun _ => 0), keep⟩,
  ⟨0x180, 1, 4, 28, 3, .ro, (fun _ => 0), keep⟩,
  ⟨0x180, 1, 4, 27, 1, .ro, (fun _ => 0), keep⟩,
  ⟨0x180, 1, 4, 26, 1, .ro, (fun _ => 0), keep⟩,
  ⟨0x180, 1, 4, 25, 1, .ro, (fun _ => 0), keep⟩,
  ⟨0x180, 1, 4, 24, 1, .ro, (fun _ => 0), keep⟩,
  ⟨0x180, 1, 4, 22, 2, .ro, (fun _ => 0), keep⟩,
  ⟨0x180, 1, 4, 21, 1, .ro, (fun _ => 0), keep⟩,
  ⟨0x180, 1, 4, 20, 1, .ro, (fun _ => 0), keep⟩,
  ⟨0x180, 1, 4, 19, 1, .ro, (fun _ => 0), keep⟩,
  ⟨0x180, 1, 4, 8, 5, .ro, (fun _ => 0), keep⟩,
  ⟨0x180, 1, 4, 0, 8, .ro, (fun _ => 0), keep⟩,
  ⟨0x184, 1, 4, 0, 32, .ro, (fun _ => 0), keep⟩,
  ⟨0x188, 1, 4, 0, 8, .ro, (fun _ => 0), keep⟩,
  ⟨0x18c, 1, 4, 0, 32, .ro, (fun _ => 0), keep⟩,
  ⟨0x190, 1, 4, 0, 32, .ro, (fun _ => 0), keep⟩,
  ⟨0x194, 1, 4, 0, 32, .ro, (fun _ => 0), keep⟩,
  ⟨0x198, 1, 4, 0, 32, .ro, (fun _ => 0), keep⟩,
  ⟨0x19c, 1, 4, 0, 32, .ro, (fun _ => 0), keep⟩,
  ⟨0x1a0, 1, 4, 0, 32, .ro, (fun _ => 0), keep⟩,
  ⟨0x1a4, 1, 4, 0, 16, .ro, (fun _ => 0), keep⟩,
  ⟨0x1a8, 1, 4, 0, 20, .ro, (fun _ => 0), keep⟩,
  ⟨0x200, 1, 4, 0, 32, .ro, (fun _ => 0), keep⟩,
  ⟨0x204, 1, 4, 0, 32, .ro, (fun _ => 0), keep⟩,
  ⟨0x208, 1, 4, 0, 32, .ro, (fun _ => 0), keep⟩,
  ⟨0x20c, 1, 4, 0, 16, .ro, (fun _ => 0), keep⟩,
  ⟨0x210, 1, 4, 16, 16, .ro, (fun _ => 0), keep⟩,
  ⟨0x210, 1, 4, 0, 16, .ro, (fun _ => 0), keep⟩,
  ⟨0x214, 1, 4, 0, 32, .ro, (fun _ => 50000), keep⟩,
  ⟨0x218, 1, 4, 0, 32, .ro, (fun _ => 1000000), keep⟩,
  ⟨0x21c, 1, 4, 0, 32, .ro, (fun _ => 1000000), keep⟩,
  ⟨0x220, 1, 4, 0, 32, .ro, (fun _ => 0), keep⟩,
  ⟨0x240, 1, 4, 0, 1, .w1c, (fun _ => 0), keep⟩,
  ⟨0x244, 1, 4, 0, 16, .ro, (fun _ => 0), keep⟩,
  ⟨0x240, 1, 4, 1, 1, .w1c, (fun _ => 0), keep⟩,
  ⟨0x244, 1, 4, 16, 16, .ro, (fun _ => 0), keep⟩,
  ⟨0x240, 1, 4, 2, 1, .w1c, (fun _ => 0), keep⟩,
  ⟨0x248, 1, 4, 0, 16, .ro, (fun _ => 0), keep⟩,
  ⟨0x240, 1, 4, 3, 1, .w1c, (fun _ => 0), keep⟩,
  ⟨0x248, 1, 4, 16, 16, .ro, (fun _ => 0), keep⟩,
  ⟨0x240, 1, 4, 4, 1, .w1c, (fun _ => 0), keep⟩,
  ⟨0x24c, 1, 4, 0, 16, .ro, (fun _ => 0), keep⟩,
  ⟨0x240, 1, 4, 5, 1, .w1c, (fun _ => 0), keep⟩,
  ⟨0x24c, 1, 4, 16, 16, .ro, (fun _ => 0), keep⟩,
  ⟨0x240, 1, 4, 6, 1, .w1c, (fun _ => 0), keep⟩,
  ⟨0x250, 1, 4, 0, 16, .ro, (fun _ => 0), keep⟩]⟩

/-- Registers of SYN at 0x90000 (R204,R218,R222). -/
def regGroup_SYN_16 : GroupSpec := ⟨0x90000, 0x30, 1, allLive, [
  ⟨0x0, 1, 4, 31, 1, .ro, (fun _ => 0), keep⟩,
  ⟨0x0, 1, 4, 0, 27, .ro, (fun _ => 0), keep⟩,
  ⟨0x4, 1, 4, 16, 3, .ro, (fun _ => 0), keep⟩,
  ⟨0x4, 1, 4, 0, 3, .ro, (fun _ => 0), keep⟩,
  ⟨0x8, 1, 4, 16, 2, .ro, (fun _ => 0), keep⟩,
  ⟨0x8, 1, 4, 0, 2, .rws, (fun _ => 3), keep⟩,
  ⟨0xc, 1, 4, 0, 10, .rws, (fun _ => 200), (fun _ v => clampN 1 1000 v)⟩,
  ⟨0x10, 1, 4, 28, 4, .rws, (fun _ => 1), (fun _ v => if 8 < v then 8 else v)⟩,
  ⟨0x10, 1, 4, 24, 4, .rws, (fun _ => 4), (fun _ v => if 8 < v then 8 else v)⟩,
  ⟨0x10, 1, 4, 20, 4, .rws, (fun _ => 6), (fun _ v => if 8 < v then 8 else v)⟩,
  ⟨0x10, 1, 4, 16, 4, .rws, (fun _ => 6), (fun _ v => if 8 < v then 8 else v)⟩,
  ⟨0x10, 1, 4, 12, 4, .rws, (fun _ => 8), (fun _ v => if 8 < v then 8 else v)⟩,
  ⟨0x10, 1, 4, 0, 8, .rws, (fun _ => 0), keep⟩,
  ⟨0x20, 1, 4, 0, 1, .w1c, (fun _ => 0), keep⟩,
  ⟨0x24, 1, 4, 0, 16, .ro, (fun _ => 0), keep⟩,
  ⟨0x20, 1, 4, 1, 1, .w1c, (fun _ => 0), keep⟩,
  ⟨0x24, 1, 4, 16, 16, .ro, (fun _ => 0), keep⟩,
  ⟨0x20, 1, 4, 2, 1, .w1c, (fun _ => 0), keep⟩,
  ⟨0x28, 1, 4, 0, 16, .ro, (fun _ => 0), keep⟩,
  ⟨0x20, 1, 4, 3, 1, .w1c, (fun _ => 0), keep⟩,
  ⟨0x28, 1, 4, 16, 16, .ro, (fun _ => 0), keep⟩,
  ⟨0x20, 1, 4, 4, 1, .w1c, (fun _ => 0), keep⟩,
  ⟨0x2c, 1, 4, 0, 16, .ro, (fun _ => 0), keep⟩]⟩

/-- Registers of SYN at 0x90100 (R206,R210). -/
def regGroup_SYN_17 : GroupSpec := ⟨0x90100, 0x40, 4, allLive, [
  ⟨0x0, 1, 4, 31, 1, .rws, (fun i => dpllEnReset i), (fun i v => (if i = 0 then 1 else v))⟩,
  ⟨0x0, 1, 4, 24, 6, .rws, (fun i => dpllRefReset i), (fun i v => (dpllRefStored i v))⟩,
  ⟨0x0, 1, 4, 16, 4, .rws, (fun i => dpllBwReset i), (fun _ v => clampN 0 14 v)⟩,
  ⟨0x0, 1, 4, 0, 8, .rws, (fun _ => 10), (fun _ v => if v = 0 then 1 else v)⟩,
  ⟨0x4, 1, 4, 24, 8, .rws, (fun _ => 16), (fun _ v => if v = 0 then 1 else v)⟩,
  ⟨0x4, 1, 4, 0, 24, .rws, (fun _ => 2000), keep⟩,
  ⟨0x8, 1, 4, 0, 32, .rws, (fun _ => 10000), (fun _ v => clampN 1 1000000 v)⟩,
  ⟨0x20, 1, 4, 31, 1, .ro, (fun _ => 0), keep⟩,
  ⟨0x20, 1, 4, 28, 3, .ro, (fun _ => 0), keep⟩,
  ⟨0x20, 1, 4, 27, 1, .ro, (fun _ => 0), keep⟩,
  ⟨0x20, 1, 4, 26, 1, .ro, (fun _ => 0), keep⟩,
  ⟨0x20, 1, 4, 8, 6, .ro, (fun _ => 0), keep⟩,
  ⟨0x20, 1, 4, 0, 8, .ro, (fun _ => 0), keep⟩,
  ⟨0x24, 1, 4, 0, 32, .ro, (fun _ => 0), keep⟩,
  ⟨0x28, 1, 4, 0, 32, .ro, (fun _ => 0), keep⟩]⟩

/-- Registers of SYN at 0x91000 (R213,R219). -/
def regGroup_SYN_18 : GroupSpec := ⟨0x91000, 0x80, 12, allLive, [
  ⟨0x0, 1, 4, 31, 1, .rws, (fun _ => 0), keep⟩,
  ⟨0x0, 1, 4, 30, 1, .rws, (fun _ => 0), keep⟩,
  ⟨0x0, 1, 4, 29, 1, .rws, (fun _ => 1), keep⟩,
  ⟨0x0, 1, 4, 26, 3, .rws, (fun _ => 0), (fun i v => (if 5 < v then 0 else if v = 4 ∧ i < 8 then 0 else v))⟩,
  ⟨0x0, 1, 4, 23, 3, .rws, (fun _ => 0), (fun _ v => if 5 < v then 0 else v)⟩,
  ⟨0x0, 1, 4, 22, 1, .rws, (fun _ => 0), keep⟩,
  ⟨0x4, 1, 4, 0, 32, .rws, (fun _ => 10000000), (fun _ v => if v = 0 then 1 else v)⟩,
  ⟨0x8, 1, 4, 0, 16, .rws, (fun _ => 1), (fun _ v => if v = 0 then 1 else v)⟩,
  ⟨0xc, 1, 4, 0, 32, .rws, (fun _ => 0), keep⟩,
  ⟨0x10, 1, 4, 0, 16, .rws, (fun _ => 0), keep⟩,
  ⟨0x14, 1, 4, 0, 32, .rws, (fun _ => 0), keep⟩,
  ⟨0x18, 1, 4, 0, 32, .rws, (fun _ => 1), (fun _ v => if v = 0 then 1 else v)⟩,
  ⟨0x1c, 1, 4, 0, 32, .rws, (fun _ => 0), keep⟩,
  ⟨0x40, 1, 4, 31, 1, .ro, (fun _ => 0), keep⟩,
  ⟨0x40, 1, 4, 28, 3, .ro, (fun _ => 0), keep⟩,
  ⟨0x40, 1, 4, 27, 1, .ro, (fun _ => 0), keep⟩,
  ⟨0x40, 1, 4, 26, 1, .ro, (fun _ => 0), keep⟩,
  ⟨0x40, 1, 4, 25, 1, .ro, (fun _ => 0), keep⟩,
  ⟨0x40, 1, 4, 0, 8, .ro, (fun _ => 0), keep⟩,
  ⟨0x44, 1, 4, 0, 1, .w1c, (fun _ => 0), keep⟩,
  ⟨0x48, 1, 4, 0, 16, .ro, (fun _ => 0), keep⟩,
  ⟨0x44, 1, 4, 1, 1, .w1c, (fun _ => 0), keep⟩,
  ⟨0x48, 1, 4, 16, 16, .ro, (fun _ => 0), keep⟩,
  ⟨0x44, 1, 4, 2, 1, .w1c, (fun _ => 0), keep⟩,
  ⟨0x4c, 1, 4, 0, 16, .ro, (fun _ => 0), keep⟩,
  ⟨0x44, 1, 4, 3, 1, .w1c, (fun _ => 0), keep⟩,
  ⟨0x4c, 1, 4, 16, 16, .ro, (fun _ => 0), keep⟩]⟩

/-- Registers of PLS at 0xa0000 (R233,R242). -/
def regGroup_PLS_19 : GroupSpec := ⟨0xa0000, 0x200, 1, allLive, [
  ⟨0x0, 1, 4, 0, 1, .rws, (fun _ => 1), keep⟩,
  ⟨0x4, 1, 4, 0, 20, .rws, (fun _ => 50000), (fun _ v => clampN 1000 1000000 v)⟩,
  ⟨0x40, 1, 4, 31, 1, .ro, (fun _ => 0), keep⟩,
  ⟨0x40, 1, 4, 30, 1, .ro, (fun _ => 0), keep⟩,
  ⟨0x40, 1, 4, 16, 2, .wo, (fun _ => 0), keep⟩,
  ⟨0x40, 1, 4, 0, 11, .rw, (fun _ => 0), keep⟩,
  ⟨0x44, 8, 4, 0, 32, .rw, (fun _ => 0), keep⟩,
  ⟨0x80, 1, 4, 16, 10, .rws, (fun _ => 10), (fun _ v => clampN 10 900 v)⟩,
  ⟨0x80, 1, 4, 7, 3, .rws, (fun _ => 0), (fun _ v => if 4 < v then 0 else v)⟩,
  ⟨0x80, 1, 4, 6, 1, .rws, (fun _ => 0), keep⟩,
  ⟨0x80, 1, 4, 1, 5, .rws, (fun _ => 0), keep⟩,
  ⟨0x80, 1, 4, 0, 1, .rws, (fun _ => 0), keep⟩,
  ⟨0x84, 1, 4, 31, 1, .ro, (fun _ => 0), keep⟩,
  ⟨0x84, 1, 4, 30, 1, .ro, (fun _ => 0), keep⟩,
  ⟨0x84, 1, 4, 0, 8, .ro, (fun _ => 0), keep⟩,
  ⟨0x88, 1, 4, 0, 32, .ro, (fun _ => 0), keep⟩,
  ⟨0x100, 64, 4, 0, 32, .ro, (fun _ => 0), keep⟩,
  ⟨0x10, 1, 4, 0, 1, .w1c, (fun _ => 0), keep⟩,
  ⟨0x14, 1, 4, 0, 16, .ro, (fun _ => 0), keep⟩,
  ⟨0x10, 1, 4, 1, 1, .w1c, (fun _ => 0), keep⟩,
  ⟨0x14, 1, 4, 16, 16, .ro, (fun _ => 0), keep⟩,
  ⟨0x10, 1, 4, 2, 1, .w1c, (fun _ => 0), keep⟩,
  ⟨0x18, 1, 4, 0, 16, .ro, (fun _ => 0), keep⟩,
  ⟨0x10, 1, 4, 3, 1, .w1c, (fun _ => 0), keep⟩,
  ⟨0x18, 1, 4, 16, 16, .ro, (fun _ => 0), keep⟩,
  ⟨0x10, 1, 4, 4, 1, .w1c, (fun _ => 0), keep⟩,
  ⟨0x1c, 1, 4, 0, 16, .ro, (fun _ => 0), keep⟩,
  ⟨0x10, 1, 4, 5, 1, .w1c, (fun _ => 0), keep⟩,
  ⟨0x1c, 1, 4, 16, 16, .ro, (fun _ => 0), keep⟩,
  ⟨0x10, 1, 4, 6, 1, .w1c, (fun _ => 0), keep⟩,
  ⟨0x20, 1, 4, 0, 16, .ro, (fun _ => 0), keep⟩,
  ⟨0x10, 1, 4, 7, 1, .w1c, (fun _ => 0), keep⟩,
  ⟨0x20, 1, 4, 16, 16, .ro, (fun _ => 0), keep⟩]⟩

/-- Registers of PLS at 0xa1000 (R231,R240,R252). -/
def regGroup_PLS_20 : GroupSpec := ⟨0xa1000, 0x40, 24, (fun i => i < 12 || 15 < i), [
  ⟨0x0, 1, 4, 4, 1, .rws, (fun _ => 0), keep⟩,
  ⟨0x0, 1, 4, 0, 2, .rws, (fun _ => 0), (fun _ v => if 2 < v then 0 else v)⟩,
  ⟨0x4, 1, 4, 0, 32, .rws, (fun _ => 0), (fun i v => (if i < 16 then 0 else v))⟩,
  ⟨0x8, 1, 4, 16, 7, .rws, (fun _ => 0), (fun _ v => clampS 7 (-31) 31 v)⟩,
  ⟨0x8, 1, 4, 9, 1, .rws, (fun _ => 0), keep⟩,
  ⟨0x8, 1, 4, 8, 1, .rws, (fun _ => 0), keep⟩,
  ⟨0x8, 1, 4, 6, 1, .rws, (fun _ => 0), keep⟩,
  ⟨0x8, 1, 4, 4, 2, .rws, (fun _ => 0), (fun _ v => if 2 < v then 0 else v)⟩,
  ⟨0x8, 1, 4, 0, 3, .rws, (fun _ => 4), keep⟩,
  ⟨0xc, 1, 4, 0, 16, .rws, (fun _ => 500), keep⟩,
  ⟨0x20, 1, 4, 31, 1, .ro, (fun _ => 0), keep⟩,
  ⟨0x20, 1, 4, 28, 3, .ro, (fun _ => 0), keep⟩,
  ⟨0x20, 1, 4, 27, 1, .ro, (fun _ => 0), keep⟩,
  ⟨0x20, 1, 4, 26, 1, .ro, (fun _ => 0), keep⟩,
  ⟨0x20, 1, 4, 25, 1, .ro, (fun _ => 0), keep⟩,
  ⟨0x20, 1, 4, 24, 1, .ro, (fun _ => 0), keep⟩,
  ⟨0x20, 1, 4, 0, 8, .ro, (fun _ => 0), keep⟩,
  ⟨0x24, 1, 4, 0, 32, .ro, (fun _ => 0), keep⟩,
  ⟨0x28, 1, 4, 0, 32, .ro, (fun _ => 0), keep⟩,
  ⟨0x2c, 1, 4, 0, 32, .ro, (fun _ => 0), keep⟩,
  ⟨0x30, 1, 4, 0, 32, .ro, (fun _ => 0), keep⟩,
  ⟨0x34, 1, 4, 0, 32, .ro, (fun _ => 0), keep⟩,
  ⟨0x38, 1, 4, 0, 16, .ro, (fun _ => 0), keep⟩]⟩

/-- Registers of LANE at 0xb0000 (R264). -/
def regGroup_LANE_21 : GroupSpec := ⟨0xb0000, 0x4, 1, allLive, [
  ⟨0x0, 1, 4, 0, 18, .ro, (fun _ => 0), keep⟩]⟩

/-- Registers of LANE at 0xb1000 (R264,R270). -/
def regGroup_LANE_22 : GroupSpec := ⟨0xb1000, 0x100, 18, allLive, [
  ⟨0x0, 1, 4, 31, 1, .rws, (fun _ => 0), keep⟩,
  ⟨0x0, 1, 4, 30, 1, .rws, (fun _ => 1), keep⟩,
  ⟨0x0, 1, 4, 29, 1, .rws, (fun _ => 0), keep⟩,
  ⟨0x0, 1, 4, 28, 1, .rws, (fun _ => 0), keep⟩,
  ⟨0x0, 1, 4, 24, 2, .rws, (fun _ => 0), keep⟩,
  ⟨0x4, 1, 4, 16, 6, .rws, (fun _ => 4), keep⟩,
  ⟨0x4, 1, 4, 8, 6, .rws, (fun _ => 48), keep⟩,
  ⟨0x4, 1, 4, 0, 6, .rws, (fun _ => 8), keep⟩,
  ⟨0x8, 1, 4, 16, 16, .rws, (fun _ => 10), keep⟩,
  ⟨0x8, 1, 4, 8, 8, .rws, (fun _ => 64), keep⟩,
  ⟨0x8, 1, 4, 0, 8, .rws, (fun _ => 12), keep⟩,
  ⟨0x40, 1, 4, 31, 1, .ro, (fun _ => 0), keep⟩,
  ⟨0x40, 1, 4, 28, 3, .ro, (fun _ => 0), keep⟩,
  ⟨0x40, 1, 4, 27, 1, .ro, (fun _ => 0), keep⟩,
  ⟨0x40, 1, 4, 26, 1, .ro, (fun _ => 0), keep⟩,
  ⟨0x40, 1, 4, 25, 1, .ro, (fun _ => 0), keep⟩,
  ⟨0x40, 1, 4, 24, 1, .ro, (fun _ => 0), keep⟩,
  ⟨0x40, 1, 4, 20, 2, .ro, (fun _ => 0), keep⟩,
  ⟨0x40, 1, 4, 0, 8, .ro, (fun _ => 0), keep⟩,
  ⟨0x44, 1, 4, 16, 16, .ro, (fun _ => 0), keep⟩,
  ⟨0x44, 1, 4, 0, 16, .ro, (fun _ => 0), keep⟩,
  ⟨0x48, 1, 4, 0, 32, .ro, (fun _ => 0), keep⟩,
  ⟨0x4c, 1, 4, 0, 16, .ro, (fun _ => 0), keep⟩,
  ⟨0x50, 1, 4, 0, 1, .w1c, (fun _ => 0), keep⟩,
  ⟨0x54, 1, 4, 0, 16, .ro, (fun _ => 0), keep⟩,
  ⟨0x50, 1, 4, 1, 1, .w1c, (fun _ => 0), keep⟩,
  ⟨0x54, 1, 4, 16, 16, .ro, (fun _ => 0), keep⟩,
  ⟨0x50, 1, 4, 2, 1, .w1c, (fun _ => 0), keep⟩,
  ⟨0x58, 1, 4, 0, 16, .ro, (fun _ => 0), keep⟩]⟩

/-- Registers of MAC at 0xc0000 (R256,R286). -/
def regGroup_MAC_23 : GroupSpec := ⟨0xc0000, 0x2000, 8, allLive, [
  ⟨0x0, 1, 4, 31, 1, .rws, (fun _ => 0), keep⟩,
  ⟨0x0, 1, 4, 28, 2, .rws, (fun _ => 2), keep⟩,
  ⟨0x0, 1, 4, 26, 2, .rws, (fun _ => 2), (fun _ v => if 2 < v then 0 else v)⟩,
  ⟨0x0, 1, 4, 25, 1, .rws, (fun _ => 1), keep⟩,
  ⟨0x0, 1, 4, 24, 1, .rws, (fun _ => 0), keep⟩,
  ⟨0x0, 1, 4, 23, 1, .rws, (fun _ => 0), keep⟩,
  ⟨0x0, 1, 4, 0, 14, .rws, (fun _ => 2000), (fun _ v => clampN 64 9600 v)⟩,
  ⟨0x4, 1, 4, 0, 32, .rws, (fun _ => 0), keep⟩,
  ⟨0x8, 1, 4, 0, 16, .rws, (fun _ => 0), keep⟩,
  ⟨0xc, 1, 4, 4, 1, .rws, (fun _ => 0), keep⟩,
  ⟨0xc, 1, 4, 3, 1, .rws, (fun _ => 0), keep⟩,
  ⟨0xc, 1, 4, 2, 1, .rws, (fun _ => 1), keep⟩,
  ⟨0xc, 1, 4, 1, 1, .rws, (fun _ => 1), keep⟩,
  ⟨0x10, 1, 4, 16, 16, .rws, (fun _ => 0x88A8), keep⟩,
  ⟨0x10, 1, 4, 0, 16, .rws, (fun _ => 0x8100), keep⟩,
  ⟨0x14, 1, 4, 16, 1, .rws, (fun _ => 1), keep⟩,
  ⟨0x14, 1, 4, 8, 1, .rws, (fun _ => 1), keep⟩,
  ⟨0x14, 1, 4, 0, 8, .rws, (fun _ => 0xFF), keep⟩,
  ⟨0x18, 1, 4, 16, 16, .rws, (fun _ => 1000), keep⟩,
  ⟨0x18, 1, 4, 0, 16, .rws, (fun _ => 10), (fun _ v => clampN 1 1000 v)⟩,
  ⟨0x1c, 1, 4, 7, 1, .rws, (fun _ => 0), keep⟩,
  ⟨0x1c, 1, 4, 0, 6, .rws, (fun _ => 0), keep⟩,
  ⟨0x40, 1, 4, 31, 1, .ro, (fun _ => 0), keep⟩,
  ⟨0x40, 1, 4, 28, 3, .ro, (fun _ => 0), keep⟩,
  ⟨0x40, 1, 4, 27, 1, .ro, (fun _ => 0), keep⟩,
  ⟨0x40, 1, 4, 26, 1, .ro, (fun _ => 0), keep⟩,
  ⟨0x40, 1, 4, 25, 1, .ro, (fun _ => 0), keep⟩,
  ⟨0x40, 1, 4, 24, 1, .ro, (fun _ => 0), keep⟩,
  ⟨0x40, 1, 4, 23, 1, .ro, (fun _ => 0), keep⟩,
  ⟨0x40, 1, 4, 22, 1, .ro, (fun _ => 0), keep⟩,
  ⟨0x40, 1, 4, 16, 4, .ro, (fun _ => 0), keep⟩,
  ⟨0x40, 1, 4, 8, 8, .ro, (fun _ => 0), keep⟩,
  ⟨0x40, 1, 4, 0, 8, .ro, (fun _ => 0), keep⟩,
  ⟨0x44, 1, 4, 0, 16, .ro, (fun _ => 0), keep⟩,
  ⟨0x48, 1, 4, 16, 9, .ro, (fun _ => 0), keep⟩,
  ⟨0x48, 1, 4, 0, 9, .ro, (fun _ => 0), keep⟩,
  ⟨0x1000, 44, 8, 0, 32, .ro, (fun _ => 0), keep⟩,
  ⟨0x1004, 44, 8, 0, 16, .ro, (fun _ => 0), keep⟩,
  ⟨0x50, 1, 4, 0, 1, .w1c, (fun _ => 0), keep⟩,
  ⟨0x54, 1, 4, 0, 16, .ro, (fun _ => 0), keep⟩,
  ⟨0x50, 1, 4, 1, 1, .w1c, (fun _ => 0), keep⟩,
  ⟨0x54, 1, 4, 16, 16, .ro, (fun _ => 0), keep⟩,
  ⟨0x50, 1, 4, 2, 1, .w1c, (fun _ => 0), keep⟩,
  ⟨0x58, 1, 4, 0, 16, .ro, (fun _ => 0), keep⟩,
  ⟨0x50, 1, 4, 3, 1, .w1c, (fun _ => 0), keep⟩,
  ⟨0x58, 1, 4, 16, 16, .ro, (fun _ => 0), keep⟩,
  ⟨0x50, 1, 4, 4, 1, .w1c, (fun _ => 0), keep⟩,
  ⟨0x5c, 1, 4, 0, 16, .ro, (fun _ => 0), keep⟩,
  ⟨0x50, 1, 4, 5, 1, .w1c, (fun _ => 0), keep⟩,
  ⟨0x5c, 1, 4, 16, 16, .ro, (fun _ => 0), keep⟩,
  ⟨0x50, 1, 4, 6, 1, .w1c, (fun _ => 0), keep⟩,
  ⟨0x60, 1, 4, 0, 16, .ro, (fun _ => 0), keep⟩,
  ⟨0x50, 1, 4, 7, 1, .w1c, (fun _ => 0), keep⟩,
  ⟨0x60, 1, 4, 16, 16, .ro, (fun _ => 0), keep⟩]⟩

/-- Registers of MAC at 0xd0000 (R278). -/
def regGroup_MAC_24 : GroupSpec := ⟨0xd0000, 0x20, 4, allLive, [
  ⟨0x0, 1, 4, 30, 2, .rws, (fun _ => 0), (fun _ v => if 2 < v then 0 else v)⟩,
  ⟨0x0, 1, 4, 29, 1, .rws, (fun _ => 0), keep⟩,
  ⟨0x0, 1, 4, 24, 3, .rws, (fun i => 2 * i), keep⟩,
  ⟨0x0, 1, 4, 20, 3, .rws, (fun i => 2 * i + 1), keep⟩,
  ⟨0x0, 1, 4, 16, 3, .rws, (fun _ => 0), keep⟩,
  ⟨0x0, 1, 4, 0, 10, .rws, (fun _ => 400), (fun _ v => clampN 1 1000 v)⟩,
  ⟨0x4, 1, 4, 0, 16, .rws, (fun _ => 2000), (fun _ v => if v = 0 then 1 else v)⟩,
  ⟨0x8, 1, 4, 31, 1, .ro, (fun _ => 0), keep⟩,
  ⟨0x8, 1, 4, 30, 1, .ro, (fun _ => 0), keep⟩,
  ⟨0x8, 1, 4, 8, 16, .ro, (fun _ => 0), keep⟩,
  ⟨0x8, 1, 4, 0, 8, .ro, (fun _ => 0), keep⟩]⟩

/-- Registers of TSU at 0xe0000 (R306,R310). -/
def regGroup_TSU_25 : GroupSpec := ⟨0xe0000, 0x8, 1, allLive, [
  ⟨0x0, 1, 4, 20, 12, .rws, (fun _ => 256), keep⟩,
  ⟨0x0, 1, 4, 0, 14, .rws, (fun _ => 500), (fun _ v => clampN 200 10000 v)⟩,
  ⟨0x4, 1, 4, 0, 8, .ro, (fun _ => 64), keep⟩]⟩

/-- Registers of TSU at 0xe1000 (R297,R300,R312). -/
def regGroup_TSU_26 : GroupSpec := ⟨0xe1000, 0x100, 8, allLive, [
  ⟨0x0, 1, 4, 0, 14, .rws, (fun _ => 0), (fun _ v => clampN 0 10240 v)⟩,
  ⟨0x4, 1, 4, 0, 14, .rws, (fun _ => 0), (fun _ v => clampN 0 10240 v)⟩,
  ⟨0x8, 1, 4, 0, 32, .rws, (fun _ => 0), keep⟩,
  ⟨0xc, 1, 4, 0, 16, .rws, (fun _ => 0), keep⟩,
  ⟨0x10, 1, 4, 16, 16, .ro, (fun _ => 0), keep⟩,
  ⟨0x10, 1, 4, 0, 16, .ro, (fun _ => 0), keep⟩,
  ⟨0x14, 1, 4, 0, 16, .ro, (fun _ => 0), keep⟩,
  ⟨0x18, 1, 4, 0, 16, .ro, (fun _ => 0), keep⟩,
  ⟨0x40, 1, 4, 31, 1, .ro, (fun _ => 0), keep⟩,
  ⟨0x40, 1, 4, 30, 1, .ro, (fun _ => 0), keep⟩,
  ⟨0x40, 1, 4, 29, 1, .ro, (fun _ => 0), keep⟩,
  ⟨0x40, 1, 4, 28, 1, .ro, (fun _ => 0), keep⟩,
  ⟨0x40, 1, 4, 25, 2, .ro, (fun _ => 0), keep⟩,
  ⟨0x40, 1, 4, 0, 8, .ro, (fun _ => 0), keep⟩,
  ⟨0x44, 1, 4, 0, 32, .ro, (fun _ => 0), keep⟩,
  ⟨0x48, 1, 4, 0, 32, .ro, (fun _ => 0), keep⟩,
  ⟨0x4c, 1, 4, 0, 32, .ro, (fun _ => 0), keep⟩,
  ⟨0x80, 10, 8, 0, 32, .ro, (fun _ => 0), keep⟩,
  ⟨0x84, 10, 8, 0, 16, .ro, (fun _ => 0), keep⟩,
  ⟨0x50, 1, 4, 0, 1, .w1c, (fun _ => 0), keep⟩,
  ⟨0x54, 1, 4, 0, 16, .ro, (fun _ => 0), keep⟩,
  ⟨0x50, 1, 4, 1, 1, .w1c, (fun _ => 0), keep⟩,
  ⟨0x54, 1, 4, 16, 16, .ro, (fun _ => 0), keep⟩,
  ⟨0x50, 1, 4, 2, 1, .w1c, (fun _ => 0), keep⟩,
  ⟨0x58, 1, 4, 0, 16, .ro, (fun _ => 0), keep⟩,
  ⟨0x50, 1, 4, 3, 1, .w1c, (fun _ => 0), keep⟩,
  ⟨0x58, 1, 4, 16, 16, .ro, (fun _ => 0), keep⟩]⟩

/-- Registers of CLA at 0x100000 (R323,R326,R342). -/
def regGroup_CLA_27 : GroupSpec := ⟨0x100000, 0x280, 1, allLive, [
  ⟨0x0, 1, 4, 30, 2, .rws, (fun _ => 1), (fun _ v => if 2 < v then 1 else v)⟩,
  ⟨0x0, 1, 4, 24, 6, .rws, (fun _ => 0), keep⟩,
  ⟨0x0, 1, 4, 16, 6, .rws, (fun _ => 0), keep⟩,
  ⟨0x4, 2, 4, 0, 32, .rws, (fun _ => 0xFFFFFFFF), keep⟩,
  ⟨0xc, 1, 4, 16, 16, .rws, (fun _ => 100), (fun _ v => if v = 0 then 1 else v)⟩,
  ⟨0xc, 1, 4, 8, 8, .rws, (fun _ => 50), (fun _ v => if 200 < v then 200 else v)⟩,
  ⟨0xc, 1, 4, 0, 7, .rws, (fun _ => 80), (fun _ v => clampN 50 100 v)⟩,
  ⟨0x10, 1, 4, 0, 24, .rws, (fun _ => 10000), keep⟩,
  ⟨0x14, 1, 4, 8, 24, .rws, (fun _ => 100000), keep⟩,
  ⟨0x14, 1, 4, 7, 1, .rws, (fun _ => 0), keep⟩,
  ⟨0x14, 1, 4, 0, 6, .rws, (fun _ => 0), keep⟩,
  ⟨0x18, 1, 4, 7, 1, .rws, (fun _ => 0), keep⟩,
  ⟨0x18, 1, 4, 0, 6, .rws, (fun _ => 0), keep⟩,
  ⟨0x1c, 1, 4, 24, 8, .rws, (fun _ => 50), (fun _ v => clampN 1 255 v)⟩,
  ⟨0x1c, 1, 4, 12, 12, .rws, (fun _ => 200), (fun _ v => clampN 20 4000 v)⟩,
  ⟨0x1c, 1, 4, 0, 9, .rws, (fun _ => 256), (fun _ v => clampN 1 511 v)⟩,
  ⟨0x20, 1, 4, 12, 20, .rws, (fun _ => 0), keep⟩,
  ⟨0x24, 1, 4, 0, 32, .rws, (fun _ => 0), keep⟩,
  ⟨0x28, 1, 4, 31, 1, .rws, (fun _ => 0), keep⟩,
  ⟨0x28, 1, 4, 16, 5, .rws, (fun _ => 10), (fun _ v => clampN 4 16 v)⟩,
  ⟨0x28, 1, 4, 8, 4, .rws, (fun _ => 9), keep⟩,
  ⟨0x28, 1, 4, 4, 4, .rws, (fun _ => 0xD), keep⟩,
  ⟨0x2c, 1, 4, 0, 16, .rws, (fun _ => 300), (fun _ v => clampN 10 1000 v)⟩,
  ⟨0x30, 4, 4, 0, 32, .wo, (fun _ => 0), keep⟩,
  ⟨0x40, 1, 4, 31, 1, .ro, (fun _ => 0), keep⟩,
  ⟨0x40, 1, 4, 30, 1, .ro, (fun _ => 0), keep⟩,
  ⟨0x40, 1, 4, 29, 1, .ro, (fun _ => 0), keep⟩,
  ⟨0x40, 1, 4, 16, 4, .ro, (fun _ => 0), keep⟩,
  ⟨0x40, 1, 4, 0, 8, .ro, (fun _ => 0), keep⟩,
  ⟨0x44, 1, 4, 0, 16, .ro, (fun _ => 0), keep⟩,
  ⟨0x60, 1, 4, 31, 1, .ro, (fun _ => 0), keep⟩,
  ⟨0x60, 1, 4, 30, 1, .ro, (fun _ => 0), keep⟩,
  ⟨0x60, 1, 4, 16, 2, .wo, (fun _ => 0), keep⟩,
  ⟨0x60, 1, 4, 0, 9, .rw, (fun _ => 0), keep⟩,
  ⟨0x64, 8, 4, 0, 32, .rw, (fun _ => 0), keep⟩,
  ⟨0x90, 1, 4, 31, 1, .ro, (fun _ => 0), keep⟩,
  ⟨0x90, 1, 4, 30, 1, .ro, (fun _ => 0), keep⟩,
  ⟨0x90, 1, 4, 16, 2, .wo, (fun _ => 0), keep⟩,
  ⟨0x90, 1, 4, 0, 12, .rw, (fun _ => 0), keep⟩,
  ⟨0x94, 8, 4, 0, 32, .rw, (fun _ => 0), keep⟩,
  ⟨0x200, 16, 8, 0, 32, .ro, (fun _ => 0), keep⟩,
  ⟨0x204, 16, 8, 0, 16, .ro, (fun _ => 0), keep⟩,
  ⟨0x50, 1, 4, 0, 1, .w1c, (fun _ => 0), keep⟩,
  ⟨0x54, 1, 4, 0, 16, .ro, (fun _ => 0), keep⟩,
  ⟨0x50, 1, 4, 1, 1, .w1c, (fun _ => 0), keep⟩,
  ⟨0x54, 1, 4, 16, 16, .ro, (fun _ => 0), keep⟩,
  ⟨0x50, 1, 4, 2, 1, .w1c, (fun _ => 0), keep⟩,
  ⟨0x58, 1, 4, 0, 16, .ro, (fun _ => 0), keep⟩,
  ⟨0x50, 1, 4, 3, 1, .w1c, (fun _ => 0), keep⟩,
  ⟨0x58, 1, 4, 16, 16, .ro, (fun _ => 0), keep⟩,
  ⟨0x50, 1, 4, 4, 1, .w1c, (fun _ => 0), keep⟩,
  ⟨0x5c, 1, 4, 0, 16, .ro, (fun _ => 0), keep⟩,
  ⟨0x50, 1, 4, 5, 1, .w1c, (fun _ => 0), keep⟩,
  ⟨0x5c, 1, 4, 16, 16, .ro, (fun _ => 0), keep⟩]⟩

/-- Registers of CLA at 0x100100 (R342,R344). -/
def regGroup_CLA_28 : GroupSpec := ⟨0x100100, 0x40, 4, allLive, [
  ⟨0x0, 1, 4, 0, 9, .rws, (fun _ => 32), (fun _ v => clampN 1 256 v)⟩,
  ⟨0x4, 1, 4, 31, 1, .ro, (fun _ => 0), keep⟩,
  ⟨0x4, 1, 4, 24, 5, .ro, (fun _ => 0), keep⟩,
  ⟨0x4, 1, 4, 16, 5, .ro, (fun _ => 0), keep⟩,
  ⟨0x4, 1, 4, 0, 8, .ro, (fun _ => 0), keep⟩,
  ⟨0x8, 1, 4, 16, 9, .ro, (fun _ => 0), keep⟩,
  ⟨0x8, 1, 4, 0, 9, .ro, (fun _ => 0), keep⟩,
  ⟨0xc, 1, 4, 16, 9, .ro, (fun _ => 0), keep⟩,
  ⟨0xc, 1, 4, 0, 9, .ro, (fun _ => 0), keep⟩,
  ⟨0x10, 4, 4, 0, 20, .ro, (fun _ => 0), keep⟩,
  ⟨0x20, 1, 4, 0, 20, .ro, (fun _ => 0), keep⟩,
  ⟨0x24, 1, 4, 0, 9, .ro, (fun _ => 0), keep⟩]⟩

/-- Registers of CLA at 0x100300 (R345). -/
def regGroup_CLA_29 : GroupSpec := ⟨0x100300, 0x20, 4, allLive, [
  ⟨0x0, 4, 8, 0, 32, .ro, (fun _ => 0), keep⟩,
  ⟨0x4, 4, 8, 0, 16, .ro, (fun _ => 0), keep⟩]⟩

/-- Registers of CLA at 0x100400 (R327). -/
def regGroup_CLA_30 : GroupSpec := ⟨0x100400, 0x10, 64, allLive, [
  ⟨0x0, 1, 4, 0, 32, .rws, (fun _ => 0), keep⟩,
  ⟨0x4, 1, 4, 0, 16, .rws, (fun _ => 64), (fun _ v => if v = 0 then 1 else v)⟩,
  ⟨0x8, 1, 4, 0, 32, .ro, (fun _ => 0), keep⟩,
  ⟨0xc, 1, 4, 0, 16, .ro, (fun _ => 0), keep⟩]⟩

/-- Registers of CLA at 0x100c00 (R341). -/
def regGroup_CLA_31 : GroupSpec := ⟨0x100c00, 0x40, 8, allLive, [
  ⟨0x0, 1, 4, 31, 1, .rws, (fun _ => 0), keep⟩,
  ⟨0x0, 1, 4, 24, 6, .rws, (fun _ => 0), keep⟩,
  ⟨0x0, 1, 4, 23, 1, .rws, (fun _ => 0), keep⟩,
  ⟨0x0, 1, 4, 8, 8, .rws, (fun _ => 0xFC), keep⟩,
  ⟨0x0, 1, 4, 0, 8, .rws, (fun _ => 0), keep⟩,
  ⟨0x4, 1, 4, 0, 32, .rws, (fun _ => 0), keep⟩,
  ⟨0x8, 1, 4, 0, 32, .rws, (fun _ => 0), keep⟩,
  ⟨0xc, 4, 4, 0, 32, .rws, (fun _ => 0), keep⟩,
  ⟨0x20, 1, 4, 31, 1, .ro, (fun _ => 0), keep⟩,
  ⟨0x20, 1, 4, 30, 1, .ro, (fun _ => 0), keep⟩,
  ⟨0x20, 1, 4, 0, 8, .ro, (fun _ => 0), keep⟩,
  ⟨0x24, 1, 4, 0, 32, .ro, (fun _ => 0), keep⟩,
  ⟨0x28, 1, 4, 0, 32, .ro, (fun _ => 0), keep⟩]⟩

/-- Registers of CLA at 0x101000 (R329,R330). -/
def regGroup_CLA_32 : GroupSpec := ⟨0x101000, 0x40, 64, allLive, [
  ⟨0x0, 1, 4, 31, 1, .rws, (fun _ => 0), keep⟩,
  ⟨0x0, 1, 4, 27, 4, .rws, (fun _ => 0), (fun _ v => if 6 < v then 0 else v)⟩,
  ⟨0x0, 1, 4, 25, 2, .rws, (fun _ => 0), (fun _ v => if 2 < v then 0 else v)⟩,
  ⟨0x0, 1, 4, 24, 1, .rws, (fun _ => 0), keep⟩,
  ⟨0x0, 1, 4, 23, 1, .rws, (fun _ => 0), keep⟩,
  ⟨0x0, 1, 4, 21, 2, .rws, (fun _ => 1), (fun _ v => if 2 < v then 1 else v)⟩,
  ⟨0x0, 1, 4, 20, 1, .rws, (fun _ => 0), keep⟩,
  ⟨0x0, 1, 4, 0, 8, .rws, (fun _ => 0), keep⟩,
  ⟨0x4, 1, 4, 24, 8, .rws, (fun _ => 128), keep⟩,
  ⟨0x4, 1, 4, 16, 8, .rws, (fun _ => 128), keep⟩,
  ⟨0x4, 1, 4, 8, 8, .rws, (fun _ => 128), keep⟩,
  ⟨0x8, 1, 4, 0, 16, .rws, (fun _ => 0xFFFF), keep⟩,
  ⟨0xc, 1, 4, 0, 12, .rws, (fun _ => 0), keep⟩,
  ⟨0x10, 1, 4, 0, 32, .rws, (fun _ => 0), keep⟩,
  ⟨0x14, 1, 4, 0, 32, .rws, (fun _ => 0), keep⟩,
  ⟨0x18, 1, 4, 0, 8, .rws, (fun _ => 0), keep⟩,
  ⟨0x1c, 1, 4, 0, 8, .rws, (fun _ => 0), keep⟩]⟩

/-- Registers of SAT at 0x120000 (R367,R377). -/
def regGroup_SAT_33 : GroupSpec := ⟨0x120000, 0x250, 1, allLive, [
  ⟨0x0, 1, 4, 0, 1, .rws, (fun _ => 1), keep⟩,
  ⟨0x4, 1, 4, 31, 1, .rws, (fun _ => 0), keep⟩,
  ⟨0x4, 1, 4, 0, 13, .rws, (fun _ => 0), keep⟩,
  ⟨0x8, 1, 4, 31, 1, .rws, (fun _ => 0), keep⟩,
  ⟨0x8, 1, 4, 0, 13, .rws, (fun _ => 0), keep⟩,
  ⟨0x10, 1, 4, 31, 1, .ro, (fun _ => 0), keep⟩,
  ⟨0x10, 1, 4, 30, 1, .ro, (fun _ => 0), keep⟩,
  ⟨0x10, 1, 4, 29, 1, .ro, (fun _ => 0), keep⟩,
  ⟨0x10, 1, 4, 28, 1, .ro, (fun _ => 0), keep⟩,
  ⟨0x10, 1, 4, 27, 1, .ro, (fun _ => 0), keep⟩,
  ⟨0x10, 1, 4, 26, 1, .ro, (fun _ => 0), keep⟩,
  ⟨0x10, 1, 4, 0, 8, .ro, (fun _ => 0), keep⟩,
  ⟨0x14, 1, 4, 0, 14, .ro, (fun _ => 0), keep⟩,
  ⟨0x20, 1, 4, 31, 1, .ro, (fun _ => 0), keep⟩,
  ⟨0x20, 1, 4, 30, 1, .ro, (fun _ => 0), keep⟩,
  ⟨0x20, 1, 4, 16, 1, .wo, (fun _ => 0), keep⟩,
  ⟨0x24, 12, 4, 0, 32, .wo, (fun _ => 0), keep⟩,
  ⟨0x60, 1, 4, 31, 1, .ro, (fun _ => 0), keep⟩,
  ⟨0x60, 1, 4, 30, 1, .ro, (fun _ => 0), keep⟩,
  ⟨0x60, 1, 4, 16, 1, .wo, (fun _ => 0), keep⟩,
  ⟨0x60, 1, 4, 0, 13, .rw, (fun _ => 0), keep⟩,
  ⟨0x64, 1, 4, 31, 1, .ro, (fun _ => 0), keep⟩,
  ⟨0x64, 1, 4, 30, 1, .ro, (fun _ => 0), keep⟩,
  ⟨0x64, 1, 4, 16, 8, .ro, (fun _ => 0), keep⟩,
  ⟨0x64, 1, 4, 8, 8, .ro, (fun _ => 0), keep⟩,
  ⟨0x64, 1, 4, 0, 8, .ro, (fun _ => 0), keep⟩,
  ⟨0x68, 1, 4, 0, 32, .ro, (fun _ => 0), keep⟩,
  ⟨0x6c, 1, 4, 0, 32, .ro, (fun _ => 0), keep⟩,
  ⟨0x70, 1, 4, 0, 24, .ro, (fun _ => 0), keep⟩,
  ⟨0x100, 64, 4, 31, 1, .rws, (fun _ => 0), keep⟩,
  ⟨0x100, 64, 4, 0, 13, .rws, (fun _ => 0), keep⟩,
  ⟨0x200, 10, 8, 0, 32, .ro, (fun _ => 0), keep⟩,
  ⟨0x204, 10, 8, 0, 16, .ro, (fun _ => 0), keep⟩,
  ⟨0x80, 1, 4, 0, 1, .w1c, (fun _ => 0), keep⟩,
  ⟨0x84, 1, 4, 0, 16, .ro, (fun _ => 0), keep⟩,
  ⟨0x80, 1, 4, 1, 1, .w1c, (fun _ => 0), keep⟩,
  ⟨0x84, 1, 4, 16, 16, .ro, (fun _ => 0), keep⟩,
  ⟨0x80, 1, 4, 2, 1, .w1c, (fun _ => 0), keep⟩,
  ⟨0x88, 1, 4, 0, 16, .ro, (fun _ => 0), keep⟩,
  ⟨0x80, 1, 4, 3, 1, .w1c, (fun _ => 0), keep⟩,
  ⟨0x88, 1, 4, 16, 16, .ro, (fun _ => 0), keep⟩,
  ⟨0x80, 1, 4, 4, 1, .w1c, (fun _ => 0), keep⟩,
  ⟨0x8c, 1, 4, 0, 16, .ro, (fun _ => 0), keep⟩,
  ⟨0x80, 1, 4, 5, 1, .w1c, (fun _ => 0), keep⟩,
  ⟨0x8c, 1, 4, 16, 16, .ro, (fun _ => 0), keep⟩,
  ⟨0x80, 1, 4, 6, 1, .w1c, (fun _ => 0), keep⟩,
  ⟨0x90, 1, 4, 0, 16, .ro, (fun _ => 0), keep⟩,
  ⟨0x80, 1, 4, 7, 1, .w1c, (fun _ => 0), keep⟩,
  ⟨0x90, 1, 4, 16, 16, .ro, (fun _ => 0), keep⟩]⟩

/-- Registers of FAB at 0x130000 (R436,R437,R443). -/
def regGroup_FAB_34 : GroupSpec := ⟨0x130000, 0x2040, 1, allLive, [
  ⟨0x0, 1, 4, 16, 8, .rws, (fun _ => 4), (fun _ v => clampN 1 255 v)⟩,
  ⟨0x0, 1, 4, 1, 1, .rws, (fun _ => 1), keep⟩,
  ⟨0x0, 1, 4, 0, 1, .ro, (fun _ => 0), keep⟩,
  ⟨0x4, 1, 4, 31, 1, .ro, (fun _ => 0), keep⟩,
  ⟨0x4, 1, 4, 16, 5, .ro, (fun _ => 0), keep⟩,
  ⟨0x4, 1, 4, 0, 8, .ro, (fun _ => 0), keep⟩,
  ⟨0x8, 1, 4, 24, 8, .rws, (fun _ => 30), (fun _ v => (parkStored v))⟩,
  ⟨0x8, 1, 4, 16, 8, .rws, (fun _ => 30), (fun _ v => (parkStored v))⟩,
  ⟨0x8, 1, 4, 8, 8, .rws, (fun _ => 18), (fun _ v => (parkStored v))⟩,
  ⟨0x8, 1, 4, 0, 8, .rws, (fun _ => 30), (fun _ v => (parkStored v))⟩,
  ⟨0xc, 1, 4, 24, 8, .rws, (fun _ => 20), (fun _ v => (parkStored v))⟩,
  ⟨0xc, 1, 4, 16, 8, .rws, (fun _ => 18), (fun _ v => (parkStored v))⟩,
  ⟨0xc, 1, 4, 8, 8, .rws, (fun _ => 18), (fun _ v => (parkStored v))⟩,
  ⟨0xc, 1, 4, 0, 8, .rws, (fun _ => 18), (fun _ v => (parkStored v))⟩,
  ⟨0x10, 1, 4, 0, 16, .rws, (fun _ => 60), (fun _ v => clampN 10 1440 v)⟩,
  ⟨0x34, 1, 4, 0, 32, .ro, (fun _ => 0), keep⟩,
  ⟨0x38, 1, 4, 0, 32, .ro, (fun _ => 0), keep⟩,
  ⟨0x40, 1, 4, 31, 1, .ro, (fun _ => 0), keep⟩,
  ⟨0x40, 1, 4, 24, 6, .ro, (fun _ => 0), keep⟩,
  ⟨0x40, 1, 4, 16, 8, .ro, (fun _ => 0), keep⟩,
  ⟨0x40, 1, 4, 0, 16, .ro, (fun _ => 0), keep⟩,
  ⟨0x44, 1, 4, 0, 16, .ro, (fun _ => 0), keep⟩,
  ⟨0x48, 1, 4, 0, 32, .ro, (fun _ => 0), keep⟩,
  ⟨0x4c, 1, 4, 0, 32, .ro, (fun _ => 0), keep⟩,
  ⟨0x200, 1, 4, 31, 1, .rws, (fun _ => 1), keep⟩,
  ⟨0x200, 1, 4, 30, 1, .rws, (fun _ => 1), keep⟩,
  ⟨0x200, 1, 4, 24, 6, .rws, (fun _ => 24), (fun _ v => clampN 1 63 v)⟩,
  ⟨0x200, 1, 4, 16, 8, .rws, (fun _ => 5), keep⟩,
  ⟨0x200, 1, 4, 0, 8, .rws, (fun _ => 110), (fun _ v => clampN 50 160 v)⟩,
  ⟨0x204, 1, 4, 24, 8, .rws, (fun _ => 20), (fun _ v => clampN 5 100 v)⟩,
  ⟨0x204, 1, 4, 16, 8, .rws, (fun _ => 105), (fun _ v => clampN 60 105 v)⟩,
  ⟨0x204, 1, 4, 0, 16, .rws, (fun _ => 365), keep⟩,
  ⟨0x208, 1, 4, 16, 16, .ro, (fun _ => Config.kV), keep⟩,
  ⟨0x208, 1, 4, 0, 16, .ro, (fun _ => Config.kT), keep⟩,
  ⟨0x20c, 1, 4, 0, 8, .ro, (fun _ => 200), keep⟩,
  ⟨0x220, 1, 4, 31, 1, .ro, (fun _ => 0), keep⟩,
  ⟨0x220, 1, 4, 30, 1, .ro, (fun _ => 0), keep⟩,
  ⟨0x220, 1, 4, 16, 4, .ro, (fun _ => 0), keep⟩,
  ⟨0x220, 1, 4, 0, 8, .ro, (fun _ => 0), keep⟩,
  ⟨0x224, 1, 4, 16, 16, .ro, (fun _ => 0xFFFF), keep⟩,
  ⟨0x224, 1, 4, 0, 16, .ro, (fun _ => 0xFFFF), keep⟩,
  ⟨0x228, 1, 4, 0, 16, .ro, (fun _ => 0), keep⟩,
  ⟨0x22c, 1, 4, 0, 32, .ro, (fun _ => 0), keep⟩,
  ⟨0x230, 1, 4, 0, 32, .ro, (fun _ => 0), keep⟩,
  ⟨0x234, 1, 4, 0, 24, .ro, (fun _ => 0), keep⟩,
  ⟨0x2000, 16, 4, 0, 32, .ro, (fun _ => 0), keep⟩,
  ⟨0x20, 1, 4, 0, 1, .w1c, (fun _ => 0), keep⟩,
  ⟨0x24, 1, 4, 0, 16, .ro, (fun _ => 0), keep⟩,
  ⟨0x20, 1, 4, 1, 1, .w1c, (fun _ => 0), keep⟩,
  ⟨0x24, 1, 4, 16, 16, .ro, (fun _ => 0), keep⟩,
  ⟨0x20, 1, 4, 2, 1, .w1c, (fun _ => 0), keep⟩,
  ⟨0x28, 1, 4, 0, 16, .ro, (fun _ => 0), keep⟩,
  ⟨0x20, 1, 4, 3, 1, .w1c, (fun _ => 0), keep⟩,
  ⟨0x28, 1, 4, 16, 16, .ro, (fun _ => 0), keep⟩,
  ⟨0x20, 1, 4, 4, 1, .w1c, (fun _ => 0), keep⟩,
  ⟨0x2c, 1, 4, 0, 16, .ro, (fun _ => 0), keep⟩,
  ⟨0x20, 1, 4, 5, 1, .w1c, (fun _ => 0), keep⟩,
  ⟨0x2c, 1, 4, 16, 16, .ro, (fun _ => 0), keep⟩,
  ⟨0x20, 1, 4, 6, 1, .w1c, (fun _ => 0), keep⟩,
  ⟨0x30, 1, 4, 0, 16, .ro, (fun _ => 0), keep⟩,
  ⟨0x20, 1, 4, 7, 1, .w1c, (fun _ => 0), keep⟩,
  ⟨0x30, 1, 4, 16, 16, .ro, (fun _ => 0), keep⟩]⟩

/-- Registers of FAB at 0x130100 (R444). -/
def regGroup_FAB_35 : GroupSpec := ⟨0x130100, 0x20, 6, allLive, [
  ⟨0x0, 1, 4, 0, 32, .ro, (fun _ => 0), keep⟩,
  ⟨0x4, 1, 4, 0, 16, .ro, (fun _ => 0), keep⟩,
  ⟨0x8, 1, 4, 0, 32, .ro, (fun _ => 0), keep⟩,
  ⟨0xc, 1, 4, 0, 16, .ro, (fun _ => 0), keep⟩,
  ⟨0x10, 1, 4, 0, 32, .ro, (fun _ => 0), keep⟩,
  ⟨0x14, 1, 4, 0, 32, .ro, (fun _ => 0), keep⟩]⟩

/-- Registers of FAB at 0x131000 (R445,R447,R458). -/
def regGroup_FAB_36 : GroupSpec := ⟨0x131000, 0x10, 64, allLive, [
  ⟨0x0, 1, 4, 31, 1, .ro, (fun _ => 0), keep⟩,
  ⟨0x0, 1, 4, 0, 16, .ro, (fun _ => 0), keep⟩,
  ⟨0x4, 1, 4, 0, 32, .ro, (fun _ => 0), keep⟩,
  ⟨0x8, 1, 4, 16, 16, .ro, (fun i => Config.nNom i / 4294967296), keep⟩,
  ⟨0x8, 1, 4, 0, 16, .ro, (fun _ => 32768), keep⟩,
  ⟨0xc, 1, 4, 16, 16, .ro, (fun i => Config.nNom i % 65536), keep⟩,
  ⟨0xc, 1, 4, 0, 16, .ro, (fun _ => 0xFFFF), keep⟩]⟩

/-- Registers of FAB at 0x133000 (R445). -/
def regGroup_FAB_37 : GroupSpec := ⟨0x133000, 0x4, 64, allLive, [
  ⟨0x0, 1, 4, 0, 16, .ro, (fun i => Config.nNom i / 65536 % 65536), keep⟩]⟩

/-- Registers of FLT at 0x140000 (R464,R472). -/
def regGroup_FLT_38 : GroupSpec := ⟨0x140000, 0xa0, 1, allLive, [
  ⟨0x0, 1, 4, 16, 2, .rws, (fun _ => 1), (fun _ v => if 2 < v then 2 else v)⟩,
  ⟨0x0, 1, 4, 0, 16, .rws, (fun _ => 50), (fun _ v => clampN 10 80 v)⟩,
  ⟨0x4, 1, 4, 31, 1, .ro, (fun _ => 0), keep⟩,
  ⟨0x4, 1, 4, 30, 1, .ro, (fun _ => 0), keep⟩,
  ⟨0x4, 1, 4, 29, 1, .ro, (fun _ => 0), keep⟩,
  ⟨0x4, 1, 4, 28, 1, .ro, (fun _ => 0), keep⟩,
  ⟨0x4, 1, 4, 0, 8, .ro, (fun _ => 0), keep⟩,
  ⟨0x40, 1, 4, 31, 1, .ro, (fun _ => 0), keep⟩,
  ⟨0x40, 1, 4, 30, 1, .w1c, (fun _ => 0), keep⟩,
  ⟨0x40, 1, 4, 29, 1, .ro, (fun _ => 0), keep⟩,
  ⟨0x40, 1, 4, 28, 1, .ro, (fun _ => 0), keep⟩,
  ⟨0x40, 1, 4, 24, 3, .ro, (fun _ => 0), keep⟩,
  ⟨0x40, 1, 4, 16, 8, .ro, (fun _ => 0), keep⟩,
  ⟨0x40, 1, 4, 8, 8, .ro, (fun _ => 0), keep⟩,
  ⟨0x40, 1, 4, 0, 8, .ro, (fun _ => 0), keep⟩,
  ⟨0x44, 1, 4, 0, 32, .ro, (fun _ => 0), keep⟩,
  ⟨0x48, 1, 4, 0, 32, .ro, (fun _ => 0), keep⟩,
  ⟨0x4c, 1, 4, 12, 4, .ro, (fun _ => 0), keep⟩,
  ⟨0x50, 1, 4, 0, 32, .ro, (fun _ => 0), keep⟩,
  ⟨0x54, 1, 4, 0, 32, .ro, (fun _ => 0), keep⟩,
  ⟨0x58, 1, 4, 0, 32, .ro, (fun _ => 0), keep⟩,
  ⟨0x5c, 1, 4, 8, 8, .ro, (fun _ => 0xFF), keep⟩,
  ⟨0x5c, 1, 4, 0, 4, .ro, (fun _ => 0), keep⟩,
  ⟨0x60, 1, 4, 0, 32, .ro, (fun _ => 0), keep⟩,
  ⟨0x64, 1, 4, 0, 16, .ro, (fun _ => 0), keep⟩,
  ⟨0x80, 8, 4, 0, 32, .ro, (fun _ => 0), keep⟩,
  ⟨0x10, 1, 4, 0, 1, .w1c, (fun _ => 0), keep⟩,
  ⟨0x14, 1, 4, 0, 16, .ro, (fun _ => 0), keep⟩,
  ⟨0x10, 1, 4, 1, 1, .w1c, (fun _ => 0), keep⟩,
  ⟨0x14, 1, 4, 16, 16, .ro, (fun _ => 0), keep⟩,
  ⟨0x10, 1, 4, 2, 1, .w1c, (fun _ => 0), keep⟩,
  ⟨0x18, 1, 4, 0, 16, .ro, (fun _ => 0), keep⟩,
  ⟨0x10, 1, 4, 3, 1, .w1c, (fun _ => 0), keep⟩,
  ⟨0x18, 1, 4, 16, 16, .ro, (fun _ => 0), keep⟩,
  ⟨0x10, 1, 4, 4, 1, .w1c, (fun _ => 0), keep⟩,
  ⟨0x1c, 1, 4, 0, 16, .ro, (fun _ => 0), keep⟩,
  ⟨0x10, 1, 4, 5, 1, .w1c, (fun _ => 0), keep⟩,
  ⟨0x1c, 1, 4, 16, 16, .ro, (fun _ => 0), keep⟩,
  ⟨0x10, 1, 4, 6, 1, .w1c, (fun _ => 0), keep⟩,
  ⟨0x20, 1, 4, 0, 16, .ro, (fun _ => 0), keep⟩,
  ⟨0x10, 1, 4, 7, 1, .w1c, (fun _ => 0), keep⟩,
  ⟨0x20, 1, 4, 16, 16, .ro, (fun _ => 0), keep⟩]⟩

/-- Registers of FLT at 0x141000 (R465,R466,R471). -/
def regGroup_FLT_39 : GroupSpec := ⟨0x141000, 0x10, 256, allLive, [
  ⟨0x0, 1, 4, 16, 16, .rws, (fun i => srcWReset i), (fun i v => (if srcValid i = 0 then 0 else if v = 0 then 1 else v))⟩,
  ⟨0x0, 1, 4, 8, 4, .rws, (fun i => srcNReset i), (fun i v => (if srcValid i = 0 then 0 else clampN 1 8 v))⟩,
  ⟨0x0, 1, 4, 0, 2, .rws, (fun i => srcClassReset i), (fun i v => (srcClassStored i v))⟩,
  ⟨0x4, 1, 4, 31, 1, .ro, (fun i => srcValid i), keep⟩,
  ⟨0x4, 1, 4, 30, 1, .ro, (fun _ => 0), keep⟩,
  ⟨0x4, 1, 4, 29, 1, .ro, (fun i => srcFixed i), keep⟩,
  ⟨0x4, 1, 4, 16, 8, .ro, (fun i => srcCauseReset i), keep⟩,
  ⟨0x4, 1, 4, 0, 8, .ro, (fun _ => 0), keep⟩,
  ⟨0x8, 1, 4, 0, 32, .ro, (fun _ => 0), keep⟩,
  ⟨0xc, 1, 4, 0, 32, .ro, (fun _ => 0), keep⟩]⟩

/-- Registers of CNJ at 0x150000 (R492,R506,R514,R517). -/
def regGroup_CNJ_40 : GroupSpec := ⟨0x150000, 0x98, 1, allLive, [
  ⟨0x0, 1, 4, 8, 4, .rws, (fun _ => 0), keep⟩,
  ⟨0x0, 1, 4, 4, 1, .rws, (fun _ => 0), keep⟩,
  ⟨0x0, 1, 4, 3, 1, .rws, (fun _ => 1), keep⟩,
  ⟨0x0, 1, 4, 2, 1, .rws, (fun _ => 0), keep⟩,
  ⟨0x0, 1, 4, 1, 1, .rws, (fun _ => 0), keep⟩,
  ⟨0x0, 1, 4, 0, 1, .rws, (fun _ => 0), keep⟩,
  ⟨0x4, 1, 4, 16, 10, .rws, (fun _ => 100), (fun _ v => clampN 10 1000 v)⟩,
  ⟨0x4, 1, 4, 0, 10, .rws, (fun _ => 200), (fun _ v => clampN 50 1000 v)⟩,
  ⟨0x8, 1, 4, 28, 4, .rws, (fun _ => 3), (fun _ v => if v = 0 then 1 else v)⟩,
  ⟨0x8, 1, 4, 0, 24, .rws, (fun _ => 100), (fun _ v => clampN 1 1000000 v)⟩,
  ⟨0xc, 1, 4, 0, 24, .rws, (fun _ => 100), keep⟩,
  ⟨0x10, 2, 4, 0, 32, .rws, (fun _ => 0), keep⟩,
  ⟨0x18, 1, 4, 16, 16, .rws, (fun _ => 200), keep⟩,
  ⟨0x18, 1, 4, 0, 8, .rws, (fun _ => 16), (fun _ v => if v = 0 then 1 else v)⟩,
  ⟨0x1c, 1, 4, 24, 8, .rws, (fun _ => 24), (fun _ v => clampN 1 168 v)⟩,
  ⟨0x1c, 1, 4, 0, 17, .rws, (fun _ => 10800), keep⟩,
  ⟨0x20, 1, 4, 0, 30, .rws, (fun _ => 500000000), (fun _ v => if 999999999 < v then 999999999 else v)⟩,
  ⟨0x24, 1, 4, 16, 16, .rws, (fun _ => 10), (fun _ v => clampN 1 1000 v)⟩,
  ⟨0x24, 1, 4, 0, 16, .rws, (fun _ => 10), (fun _ v => clampN 1 3600 v)⟩,
  ⟨0x28, 1, 4, 31, 1, .ro, (fun _ => 0), keep⟩,
  ⟨0x28, 1, 4, 0, 8, .ro, (fun _ => 0xFF), keep⟩,
  ⟨0x40, 1, 4, 31, 1, .ro, (fun _ => 0), keep⟩,
  ⟨0x40, 1, 4, 28, 3, .ro, (fun _ => 0), keep⟩,
  ⟨0x40, 1, 4, 26, 2, .ro, (fun _ => 0), keep⟩,
  ⟨0x40, 1, 4, 24, 2, .ro, (fun _ => 0), keep⟩,
  ⟨0x40, 1, 4, 23, 1, .ro, (fun _ => 0), keep⟩,
  ⟨0x40, 1, 4, 22, 1, .ro, (fun _ => 0), keep⟩,
  ⟨0x40, 1, 4, 20, 2, .ro, (fun _ => 0), keep⟩,
  ⟨0x40, 1, 4, 19, 1, .ro, (fun _ => 0), keep⟩,
  ⟨0x40, 1, 4, 18, 1, .ro, (fun _ => 0), keep⟩,
  ⟨0x40, 1, 4, 17, 1, .ro, (fun _ => 0), keep⟩,
  ⟨0x40, 1, 4, 16, 1, .ro, (fun _ => 0), keep⟩,
  ⟨0x40, 1, 4, 15, 1, .ro, (fun _ => 0), keep⟩,
  ⟨0x40, 1, 4, 12, 3, .ro, (fun _ => 0), keep⟩,
  ⟨0x40, 1, 4, 0, 8, .ro, (fun _ => 0), keep⟩,
  ⟨0x44, 1, 4, 0, 32, .ro, (fun _ => 0), keep⟩,
  ⟨0x48, 1, 4, 0, 16, .ro, (fun _ => 0), keep⟩,
  ⟨0x4c, 2, 4, 0, 32, .ro, (fun _ => 0), keep⟩,
  ⟨0x54, 1, 4, 0, 32, .ro, (fun _ => 0), keep⟩,
  ⟨0x58, 1, 4, 0, 32, .ro, (fun _ => 0), keep⟩,
  ⟨0x60, 2, 4, 31, 1, .ro, (fun _ => 0), keep⟩,
  ⟨0x60, 2, 4, 30, 1, .ro, (fun _ => 0), keep⟩,
  ⟨0x60, 2, 4, 29, 1, .ro, (fun _ => 0), keep⟩,
  ⟨0x60, 2, 4, 0, 16, .ro, (fun _ => 0), keep⟩,
  ⟨0x68, 1, 4, 0, 32, .ro, (fun _ => 0), keep⟩,
  ⟨0x6c, 1, 4, 0, 32, .ro, (fun _ => 0), keep⟩,
  ⟨0x70, 1, 4, 31, 1, .ro, (fun _ => 0), keep⟩,
  ⟨0x70, 1, 4, 24, 2, .ro, (fun _ => 0), keep⟩,
  ⟨0x70, 1, 4, 0, 8, .ro, (fun _ => 0), keep⟩,
  ⟨0x74, 1, 4, 16, 16, .ro, (fun _ => 0), keep⟩,
  ⟨0x74, 1, 4, 0, 16, .ro, (fun _ => 0), keep⟩,
  ⟨0x80, 1, 4, 0, 1, .w1c, (fun _ => 0), keep⟩,
  ⟨0x84, 1, 4, 0, 16, .ro, (fun _ => 0), keep⟩,
  ⟨0x80, 1, 4, 1, 1, .w1c, (fun _ => 0), keep⟩,
  ⟨0x84, 1, 4, 16, 16, .ro, (fun _ => 0), keep⟩,
  ⟨0x80, 1, 4, 2, 1, .w1c, (fun _ => 0), keep⟩,
  ⟨0x88, 1, 4, 0, 16, .ro, (fun _ => 0), keep⟩,
  ⟨0x80, 1, 4, 3, 1, .w1c, (fun _ => 0), keep⟩,
  ⟨0x88, 1, 4, 16, 16, .ro, (fun _ => 0), keep⟩,
  ⟨0x80, 1, 4, 4, 1, .w1c, (fun _ => 0), keep⟩,
  ⟨0x8c, 1, 4, 0, 16, .ro, (fun _ => 0), keep⟩,
  ⟨0x80, 1, 4, 5, 1, .w1c, (fun _ => 0), keep⟩,
  ⟨0x8c, 1, 4, 16, 16, .ro, (fun _ => 0), keep⟩,
  ⟨0x80, 1, 4, 6, 1, .w1c, (fun _ => 0), keep⟩,
  ⟨0x90, 1, 4, 0, 16, .ro, (fun _ => 0), keep⟩,
  ⟨0x80, 1, 4, 7, 1, .w1c, (fun _ => 0), keep⟩,
  ⟨0x90, 1, 4, 16, 16, .ro, (fun _ => 0), keep⟩,
  ⟨0x80, 1, 4, 8, 1, .w1c, (fun _ => 0), keep⟩,
  ⟨0x94, 1, 4, 0, 16, .ro, (fun _ => 0), keep⟩,
  ⟨0x80, 1, 4, 9, 1, .w1c, (fun _ => 0), keep⟩,
  ⟨0x94, 1, 4, 16, 16, .ro, (fun _ => 0), keep⟩]⟩

/-- Registers of OBS at 0x160000 (R525,R529,R536). -/
def regGroup_OBS_41 : GroupSpec := ⟨0x160000, 0x140, 1, allLive, [
  ⟨0x0, 1, 4, 1, 1, .rws, (fun _ => 0), keep⟩,
  ⟨0x0, 1, 4, 0, 1, .wo, (fun _ => 0), keep⟩,
  ⟨0x4, 1, 4, 31, 1, .ro, (fun _ => 0), keep⟩,
  ⟨0x4, 1, 4, 30, 1, .ro, (fun _ => 0), keep⟩,
  ⟨0x4, 1, 4, 29, 1, .ro, (fun _ => 0), keep⟩,
  ⟨0x4, 1, 4, 0, 8, .ro, (fun _ => 0), keep⟩,
  ⟨0x20, 1, 4, 31, 1, .ro, (fun _ => 0), keep⟩,
  ⟨0x20, 1, 4, 0, 8, .ro, (fun _ => 0), keep⟩,
  ⟨0x24, 1, 4, 0, 32, .ro, (fun _ => 0), keep⟩,
  ⟨0x28, 1, 4, 0, 32, .ro, (fun _ => 0), keep⟩,
  ⟨0x2c, 1, 4, 0, 32, .ro, (fun _ => 0), keep⟩,
  ⟨0x40, 1, 4, 0, 10, .rws, (fun _ => 100), (fun _ v => (if 1000 % v = 0 then v else 1000))⟩,
  ⟨0x44, 1, 4, 7, 1, .rws, (fun _ => 0), keep⟩,
  ⟨0x44, 1, 4, 0, 6, .rws, (fun _ => 0), keep⟩,
  ⟨0x48, 1, 4, 0, 32, .ro, (fun _ => 0), keep⟩,
  ⟨0x60, 5, 4, 0, 32, .rws, (fun _ => 0), (fun i v => (if i = 4 then v % 512 else v))⟩,
  ⟨0x80, 1, 4, 31, 1, .rws, (fun _ => 0), keep⟩,
  ⟨0x80, 1, 4, 30, 1, .rws, (fun _ => 0), keep⟩,
  ⟨0x80, 1, 4, 29, 1, .rws, (fun _ => 0), keep⟩,
  ⟨0x80, 1, 4, 16, 6, .rws, (fun _ => 0), keep⟩,
  ⟨0x80, 1, 4, 1, 7, .rws, (fun _ => 0x7F), keep⟩,
  ⟨0x84, 1, 4, 30, 2, .rws, (fun _ => 2), keep⟩,
  ⟨0x84, 1, 4, 0, 24, .rws, (fun _ => 1024), (fun _ v => if v = 0 then 1 else v)⟩,
  ⟨0x88, 1, 4, 0, 17, .ro, (fun _ => 0), keep⟩,
  ⟨0x8c, 1, 4, 0, 32, .rc, (fun _ => 0), keep⟩,
  ⟨0x90, 1, 4, 0, 32, .ro, (fun _ => 0), keep⟩,
  ⟨0x94, 1, 4, 0, 16, .ro, (fun _ => 0), keep⟩,
  ⟨0xc0, 1, 4, 0, 32, .ro, (fun _ => 0), keep⟩,
  ⟨0xc4, 1, 4, 0, 32, .ro, (fun _ => 0), keep⟩,
  ⟨0xc8, 1, 4, 0, 32, .ro, (fun _ => 0), keep⟩,
  ⟨0xcc, 1, 4, 0, 16, .ro, (fun _ => 0), keep⟩,
  ⟨0xd0, 1, 4, 0, 32, .rw, (fun _ => 0), keep⟩,
  ⟨0xd4, 1, 4, 31, 1, .ro, (fun _ => 0), keep⟩,
  ⟨0xd4, 1, 4, 30, 1, .ro, (fun _ => 0), keep⟩,
  ⟨0xe0, 8, 4, 0, 32, .ro, (fun _ => 0), keep⟩,
  ⟨0x100, 1, 4, 31, 1, .rws, (fun _ => 0), keep⟩,
  ⟨0x100, 1, 4, 30, 1, .rws, (fun _ => 0), keep⟩,
  ⟨0x100, 1, 4, 29, 1, .rws, (fun _ => 0), keep⟩,
  ⟨0x100, 1, 4, 0, 16, .rws, (fun _ => 0), keep⟩,
  ⟨0x104, 1, 4, 0, 24, .rws, (fun _ => 65536), (fun _ v => clampN 64 16777215 v)⟩,
  ⟨0x108, 1, 4, 0, 32, .ro, (fun _ => 0), keep⟩,
  ⟨0x110, 1, 4, 0, 12, .rw, (fun _ => 0), keep⟩,
  ⟨0x114, 1, 4, 31, 1, .ro, (fun _ => 0), keep⟩,
  ⟨0x114, 1, 4, 30, 1, .ro, (fun _ => 0), keep⟩,
  ⟨0x120, 8, 4, 0, 32, .ro, (fun _ => 0), keep⟩,
  ⟨0x10, 1, 4, 0, 1, .w1c, (fun _ => 0), keep⟩,
  ⟨0x14, 1, 4, 0, 16, .ro, (fun _ => 0), keep⟩,
  ⟨0x10, 1, 4, 1, 1, .w1c, (fun _ => 0), keep⟩,
  ⟨0x14, 1, 4, 16, 16, .ro, (fun _ => 0), keep⟩,
  ⟨0x10, 1, 4, 2, 1, .w1c, (fun _ => 0), keep⟩,
  ⟨0x18, 1, 4, 0, 16, .ro, (fun _ => 0), keep⟩,
  ⟨0x10, 1, 4, 3, 1, .w1c, (fun _ => 0), keep⟩,
  ⟨0x18, 1, 4, 16, 16, .ro, (fun _ => 0), keep⟩,
  ⟨0x10, 1, 4, 4, 1, .w1c, (fun _ => 0), keep⟩,
  ⟨0x1c, 1, 4, 0, 16, .ro, (fun _ => 0), keep⟩,
  ⟨0x10, 1, 4, 5, 1, .w1c, (fun _ => 0), keep⟩,
  ⟨0x1c, 1, 4, 16, 16, .ro, (fun _ => 0), keep⟩]⟩

/-- Registers of OBS at 0x160400 (R530). -/
def regGroup_OBS_42 : GroupSpec := ⟨0x160400, 0x20, 8, allLive, [
  ⟨0x0, 1, 4, 31, 1, .ro, (fun _ => 0), keep⟩,
  ⟨0x0, 1, 4, 30, 1, .ro, (fun _ => 0), keep⟩,
  ⟨0x0, 1, 4, 0, 8, .ro, (fun _ => 0), keep⟩,
  ⟨0x4, 1, 4, 0, 32, .ro, (fun _ => 0), keep⟩,
  ⟨0x8, 1, 4, 0, 16, .ro, (fun _ => 0), keep⟩,
  ⟨0xc, 1, 4, 0, 32, .ro, (fun _ => 0), keep⟩,
  ⟨0x10, 1, 4, 0, 16, .ro, (fun _ => 0), keep⟩,
  ⟨0x14, 1, 4, 0, 32, .ro, (fun _ => 0), keep⟩,
  ⟨0x18, 1, 4, 0, 32, .ro, (fun _ => 0), keep⟩,
  ⟨0x1c, 1, 4, 0, 32, .ro, (fun _ => 0), keep⟩]⟩

/-- Registers of OBS at 0x161000 (R525,R526). -/
def regGroup_OBS_43 : GroupSpec := ⟨0x161000, 0x10, 1024, allLive, [
  ⟨0x0, 1, 4, 30, 2, .rws, (fun _ => 0), keep⟩,
  ⟨0x0, 1, 4, 16, 8, .rws, (fun _ => 0), keep⟩,
  ⟨0x0, 1, 4, 0, 12, .rws, (fun _ => 0), keep⟩,
  ⟨0x4, 1, 4, 0, 16, .rws, (fun _ => 0), keep⟩,
  ⟨0x8, 1, 4, 0, 32, .ro, (fun _ => 0), keep⟩,
  ⟨0xc, 1, 4, 0, 16, .ro, (fun _ => 0), keep⟩]⟩

/-- Registers of OBS at 0x168000 (R529). -/
def regGroup_OBS_44 : GroupSpec := ⟨0x168000, 0x8, 1024, allLive, [
  ⟨0x0, 1, 4, 0, 32, .ro, (fun _ => 0), keep⟩,
  ⟨0x4, 1, 4, 0, 16, .ro, (fun _ => 0), keep⟩]⟩

/-- Registers of OBS at 0x16a000 (R529). -/
def regGroup_OBS_45 : GroupSpec := ⟨0x16a000, 0x200, 8, allLive, [
  ⟨0x0, 44, 8, 0, 32, .ro, (fun _ => 0), keep⟩,
  ⟨0x4, 44, 8, 0, 16, .ro, (fun _ => 0), keep⟩]⟩

/-- Registers of PWR at 0x170000 (R449,R451). -/
def regGroup_PWR_46 : GroupSpec := ⟨0x170000, 0x58, 1, allLive, [
  ⟨0x0, 1, 4, 24, 4, .rws, (fun _ => 5), (fun _ v => clampN 1 10 v)⟩,
  ⟨0x0, 1, 4, 16, 8, .rws, (fun _ => 10), (fun _ v => clampN 1 255 v)⟩,
  ⟨0x0, 1, 4, 0, 10, .rws, (fun _ => 750), (fun _ v => clampN 650 850 v)⟩,
  ⟨0x4, 1, 4, 16, 10, .rws, (fun _ => 850), (fun _ v => clampN 650 850 v)⟩,
  ⟨0x4, 1, 4, 0, 10, .rws, (fun _ => 700), (fun _ v => clampN 650 850 v)⟩,
  ⟨0x10, 1, 4, 31, 1, .ro, (fun _ => 0), keep⟩,
  ⟨0x10, 1, 4, 30, 1, .ro, (fun _ => 0), keep⟩,
  ⟨0x10, 1, 4, 20, 10, .ro, (fun _ => 0), keep⟩,
  ⟨0x10, 1, 4, 0, 8, .ro, (fun _ => 0), keep⟩,
  ⟨0x14, 1, 4, 16, 10, .ro, (fun _ => 0), keep⟩,
  ⟨0x14, 1, 4, 0, 16, .ro, (fun _ => 0), keep⟩,
  ⟨0x20, 8, 4, 0, 16, .ro, (fun _ => 0), keep⟩,
  ⟨0x40, 1, 4, 0, 16, .ro, (fun _ => 0), keep⟩,
  ⟨0x44, 1, 4, 0, 16, .ro, (fun _ => 0), keep⟩,
  ⟨0x50, 1, 4, 0, 1, .w1c, (fun _ => 0), keep⟩,
  ⟨0x54, 1, 4, 0, 16, .ro, (fun _ => 0), keep⟩,
  ⟨0x50, 1, 4, 1, 1, .w1c, (fun _ => 0), keep⟩,
  ⟨0x54, 1, 4, 16, 16, .ro, (fun _ => 0), keep⟩]⟩

/-- Every group of registers of BAR0, as R596 lists them. -/
def regMap : List GroupSpec := [
  regGroup_GEN_1, regGroup_BOOT_2, regGroup_HIF_3, regGroup_HIF_4, regGroup_HIF_5,
  regGroup_HIF_6, regGroup_REFIN_7, regGroup_REFIN_8, regGroup_GNSS_9, regGroup_GNSS_10,
  regGroup_GNSS_11, regGroup_GNSS_12, regGroup_SEL_13, regGroup_SEL_14, regGroup_TNS_15,
  regGroup_SYN_16, regGroup_SYN_17, regGroup_SYN_18, regGroup_PLS_19, regGroup_PLS_20,
  regGroup_LANE_21, regGroup_LANE_22, regGroup_MAC_23, regGroup_MAC_24, regGroup_TSU_25,
  regGroup_TSU_26, regGroup_CLA_27, regGroup_CLA_28, regGroup_CLA_29, regGroup_CLA_30,
  regGroup_CLA_31, regGroup_CLA_32, regGroup_SAT_33, regGroup_FAB_34, regGroup_FAB_35,
  regGroup_FAB_36, regGroup_FAB_37, regGroup_FLT_38, regGroup_FLT_39, regGroup_CNJ_40,
  regGroup_OBS_41, regGroup_OBS_42, regGroup_OBS_43, regGroup_OBS_44, regGroup_OBS_45,
  regGroup_PWR_46]

namespace Reg

/-- GEN_ID.PART. -/
def GEN_ID_PART : Field := ⟨0x0, 16, 16⟩
/-- GEN_ID.STEPPING. -/
def GEN_ID_STEPPING : Field := ⟨0x0, 8, 8⟩
/-- GEN_ID.GRADE. -/
def GEN_ID_GRADE : Field := ⟨0x0, 0, 8⟩
/-- GEN_MAP.MAJOR. -/
def GEN_MAP_MAJOR : Field := ⟨0x4, 8, 8⟩
/-- GEN_MAP.MINOR. -/
def GEN_MAP_MINOR : Field := ⟨0x4, 0, 8⟩
/-- GEN_FW.RELEASE. -/
def GEN_FW_RELEASE : Field := ⟨0x8, 16, 16⟩
/-- GEN_FW.ROM. -/
def GEN_FW_ROM : Field := ⟨0x8, 0, 16⟩
/-- GEN_SERIAL.SERIAL. -/
def GEN_SERIAL_SERIAL : Field := ⟨0xc, 0, 32⟩
/-- GEN_STRAP.TEST_MODE. -/
def GEN_STRAP_TEST_MODE : Field := ⟨0x10, 6, 1⟩
/-- GEN_STRAP.ADDR_SEL. -/
def GEN_STRAP_ADDR_SEL : Field := ⟨0x10, 4, 2⟩
/-- GEN_STRAP.BOOT_SRC. -/
def GEN_STRAP_BOOT_SRC : Field := ⟨0x10, 2, 2⟩
/-- GEN_STRAP.PAIR_EN. -/
def GEN_STRAP_PAIR_EN : Field := ⟨0x10, 1, 1⟩
/-- GEN_STRAP.UNIT_ID. -/
def GEN_STRAP_UNIT_ID : Field := ⟨0x10, 0, 1⟩
/-- GEN_MODE.VALID. -/
def GEN_MODE_VALID : Field := ⟨0x14, 31, 1⟩
/-- GEN_MODE.MODE. -/
def GEN_MODE_MODE : Field := ⟨0x14, 28, 3⟩
/-- GEN_MODE.PREV. -/
def GEN_MODE_PREV : Field := ⟨0x14, 25, 3⟩
/-- GEN_MODE.ROM_REC. -/
def GEN_MODE_ROM_REC : Field := ⟨0x14, 24, 1⟩
/-- GEN_MODE.REFUSE. -/
def GEN_MODE_REFUSE : Field := ⟨0x14, 16, 7⟩
/-- GEN_MODE.SEQ. -/
def GEN_MODE_SEQ : Field := ⟨0x14, 0, 8⟩
/-- GEN_MODE_REQ.GO. -/
def GEN_MODE_REQ_GO : Field := ⟨0x18, 31, 1⟩
/-- GEN_MODE_REQ.TARGET. -/
def GEN_MODE_REQ_TARGET : Field := ⟨0x18, 0, 3⟩
/-- BOOT_STAT.VALID. -/
def BOOT_STAT_VALID : Field := ⟨0x10000, 31, 1⟩
/-- BOOT_STAT.PHASE. -/
def BOOT_STAT_PHASE : Field := ⟨0x10000, 28, 3⟩
/-- BOOT_STAT.WAIT_HOST. -/
def BOOT_STAT_WAIT_HOST : Field := ⟨0x10000, 27, 1⟩
/-- BOOT_STAT.ROM_REC. -/
def BOOT_STAT_ROM_REC : Field := ⟨0x10000, 26, 1⟩
/-- BOOT_STAT.SLOT. -/
def BOOT_STAT_SLOT : Field := ⟨0x10000, 24, 2⟩
/-- BOOT_STAT.FALLBACK. -/
def BOOT_STAT_FALLBACK : Field := ⟨0x10000, 23, 1⟩
/-- BOOT_STAT.CAUSE. -/
def BOOT_STAT_CAUSE : Field := ⟨0x10000, 16, 4⟩
/-- BOOT_STAT.RELEASE. -/
def BOOT_STAT_RELEASE : Field := ⟨0x10000, 0, 16⟩
/-- BOOT_RSTC.AO_POR. -/
def BOOT_RSTC_AO_POR : Field := ⟨0x10004, 1, 1⟩
/-- BOOT_RSTC.PIN. -/
def BOOT_RSTC_PIN : Field := ⟨0x10004, 0, 1⟩
/-- BOOT_PCI_OSC.FREQ. -/
def BOOT_PCI_OSC_FREQ : Field := ⟨0x10010, 0, 27⟩
/-- BOOT_PCI_VFAB.VFAB. -/
def BOOT_PCI_VFAB_VFAB : Field := ⟨0x10014, 0, 10⟩
/-- BOOT_PCI_ADDR_LO.ADDR. -/
def BOOT_PCI_ADDR_LO_ADDR : Field := ⟨0x10018, 12, 20⟩
/-- BOOT_PCI_ADDR_HI.ADDR. -/
def BOOT_PCI_ADDR_HI_ADDR : Field := ⟨0x1001c, 0, 32⟩
/-- BOOT_PCI_LEN.LEN. -/
def BOOT_PCI_LEN_LEN : Field := ⟨0x10020, 0, 23⟩
/-- BOOT_PCI_GO.GO. -/
def BOOT_PCI_GO_GO : Field := ⟨0x10024, 0, 1⟩
/-- HIF_CFG.FETCH_MAX. -/
def HIF_CFG_FETCH_MAX : Field := ⟨0x20000, 0, 7⟩
/-- HIF_STAT.VALID. -/
def HIF_STAT_VALID : Field := ⟨0x20004, 31, 1⟩
/-- HIF_STAT.BME. -/
def HIF_STAT_BME : Field := ⟨0x20004, 30, 1⟩
/-- HIF_STAT.LINK_UP. -/
def HIF_STAT_LINK_UP : Field := ⟨0x20004, 29, 1⟩
/-- HIF_STAT.SPEED. -/
def HIF_STAT_SPEED : Field := ⟨0x20004, 24, 4⟩
/-- HIF_STAT.WIDTH. -/
def HIF_STAT_WIDTH : Field := ⟨0x20004, 16, 4⟩
/-- HIF_STAT.SEQ. -/
def HIF_STAT_SEQ : Field := ⟨0x20004, 0, 8⟩
/-- HIF_ABORT.GO. -/
def HIF_ABORT_GO : Field := ⟨0x20040, 31, 1⟩
/-- HIF_ABORT.KIND. -/
def HIF_ABORT_KIND : Field := ⟨0x20040, 24, 2⟩
/-- HIF_ABORT.ENGINE. -/
def HIF_ABORT_ENGINE : Field := ⟨0x20040, 16, 5⟩
/-- HIF_ABORT.RING. -/
def HIF_ABORT_RING : Field := ⟨0x20040, 0, 6⟩
/-- HIF_ABORT_STAT.VALID. -/
def HIF_ABORT_STAT_VALID : Field := ⟨0x20044, 31, 1⟩
/-- HIF_ABORT_STAT.BUSY. -/
def HIF_ABORT_STAT_BUSY : Field := ⟨0x20044, 30, 1⟩
/-- HIF_ABORT_STAT.ERR. -/
def HIF_ABORT_STAT_ERR : Field := ⟨0x20044, 29, 1⟩
/-- HIF_ABORT_STAT.SEQ. -/
def HIF_ABORT_STAT_SEQ : Field := ⟨0x20044, 0, 8⟩
/-- HIF_ABORT_RES.DESCS. -/
def HIF_ABORT_RES_DESCS : Field := ⟨0x20048, 16, 16⟩
/-- HIF_ABORT_RES.DROPPED. -/
def HIF_ABORT_RES_DROPPED : Field := ⟨0x20048, 0, 16⟩
/-- HIF_PEND.PEND. -/
def HIF_PEND_PEND : Field := ⟨0x20060, 0, 13⟩
/-- HIF_ASEQ.ASEQ. -/
def HIF_ASEQ_ASEQ : Field := ⟨0x20064, 0, 32⟩
/-- HR_BASE_LO.BASE. -/
def HR_BASE_LO_BASE (i : Nat) : Field := ⟨0x21000 + 0x40 * i, 12, 20⟩
/-- HR_BASE_HI.BASE. -/
def HR_BASE_HI_BASE (i : Nat) : Field := ⟨0x21004 + 0x40 * i, 0, 32⟩
/-- HR_CFG.EN. -/
def HR_CFG_EN (i : Nat) : Field := ⟨0x21008 + 0x40 * i, 31, 1⟩
/-- HR_CFG.TYPE. -/
def HR_CFG_TYPE (i : Nat) : Field := ⟨0x21008 + 0x40 * i, 28, 3⟩
/-- HR_CFG.LOG2_SIZE. -/
def HR_CFG_LOG2_SIZE (i : Nat) : Field := ⟨0x21008 + 0x40 * i, 16, 5⟩
/-- HR_CFG.ESZ. -/
def HR_CFG_ESZ (i : Nat) : Field := ⟨0x21008 + 0x40 * i, 12, 2⟩
/-- HR_CFG.CQ. -/
def HR_CFG_CQ (i : Nat) : Field := ⟨0x21008 + 0x40 * i, 0, 6⟩
/-- HR_WB_LO.WB. -/
def HR_WB_LO_WB (i : Nat) : Field := ⟨0x2100c + 0x40 * i, 3, 29⟩
/-- HR_WB_HI.WB. -/
def HR_WB_HI_WB (i : Nat) : Field := ⟨0x21010 + 0x40 * i, 0, 32⟩
/-- HR_COAL.CNT. -/
def HR_COAL_CNT (i : Nat) : Field := ⟨0x21014 + 0x40 * i, 16, 16⟩
/-- HR_COAL.US. -/
def HR_COAL_US (i : Nat) : Field := ⟨0x21014 + 0x40 * i, 0, 16⟩
/-- HR_STAT.VALID. -/
def HR_STAT_VALID (i : Nat) : Field := ⟨0x21020 + 0x40 * i, 31, 1⟩
/-- HR_STAT.STATE. -/
def HR_STAT_STATE (i : Nat) : Field := ⟨0x21020 + 0x40 * i, 28, 3⟩
/-- HR_STAT.ERR_CAUSE. -/
def HR_STAT_ERR_CAUSE (i : Nat) : Field := ⟨0x21020 + 0x40 * i, 24, 4⟩
/-- HR_STAT.SEQ. -/
def HR_STAT_SEQ (i : Nat) : Field := ⟨0x21020 + 0x40 * i, 0, 8⟩
/-- HR_PROD.GEN. -/
def HR_PROD_GEN (i : Nat) : Field := ⟨0x21024 + 0x40 * i, 16, 8⟩
/-- HR_PROD.IDX. -/
def HR_PROD_IDX (i : Nat) : Field := ⟨0x21024 + 0x40 * i, 0, 16⟩
/-- HR_CONS.GEN. -/
def HR_CONS_GEN (i : Nat) : Field := ⟨0x21028 + 0x40 * i, 16, 8⟩
/-- HR_CONS.IDX. -/
def HR_CONS_IDX (i : Nat) : Field := ⟨0x21028 + 0x40 * i, 0, 16⟩
/-- HR_ERRIDX.SLOT. -/
def HR_ERRIDX_SLOT (i : Nat) : Field := ⟨0x2102c + 0x40 * i, 0, 16⟩
/-- HR_DROP_LO.DROP. -/
def HR_DROP_LO_DROP (i : Nat) : Field := ⟨0x21030 + 0x40 * i, 0, 32⟩
/-- HR_DROP_HI.DROP. -/
def HR_DROP_HI_DROP (i : Nat) : Field := ⟨0x21034 + 0x40 * i, 0, 16⟩
/-- HR_RSV.RSV. -/
def HR_RSV_RSV (i : Nat) : Field := ⟨0x21038 + 0x40 * i, 0, 17⟩
/-- MSIX_ADDR_LO.ADDR. -/
def MSIX_ADDR_LO_ADDR (i : Nat) : Field := ⟨0x28000 + 0x10 * i, 2, 30⟩
/-- MSIX_ADDR_HI.ADDR. -/
def MSIX_ADDR_HI_ADDR (i : Nat) : Field := ⟨0x28004 + 0x10 * i, 0, 32⟩
/-- MSIX_DATA.DATA. -/
def MSIX_DATA_DATA (i : Nat) : Field := ⟨0x28008 + 0x10 * i, 0, 32⟩
/-- MSIX_CTL.MASK. -/
def MSIX_CTL_MASK (i : Nat) : Field := ⟨0x2800c + 0x10 * i, 0, 1⟩
/-- MSIX_PBA.PENDING. -/
def MSIX_PBA_PENDING (i : Nat) : Field := ⟨0x29000 + 0x4 * i, 0, 32⟩
/-- REFIN_LOS.LOS. -/
def REFIN_LOS_LOS : Field := ⟨0x40000, 0, 24⟩
/-- TOD_CFG.LABEL. -/
def TOD_CFG_LABEL : Field := ⟨0x44000, 8, 1⟩
/-- TOD_CFG.BAUD. -/
def TOD_CFG_BAUD : Field := ⟨0x44000, 5, 3⟩
/-- TOD_CFG.PPS_CH. -/
def TOD_CFG_PPS_CH : Field := ⟨0x44000, 1, 4⟩
/-- TOD_CFG.EN. -/
def TOD_CFG_EN : Field := ⟨0x44000, 0, 1⟩
/-- TOD_STAT.VALID. -/
def TOD_STAT_VALID : Field := ⟨0x44004, 31, 1⟩
/-- TOD_STAT.TOD_OK. -/
def TOD_STAT_TOD_OK : Field := ⟨0x44004, 30, 1⟩
/-- TOD_STAT.QUAL. -/
def TOD_STAT_QUAL : Field := ⟨0x44004, 8, 8⟩
/-- TOD_STAT.SEQ. -/
def TOD_STAT_SEQ : Field := ⟨0x44004, 0, 8⟩
/-- TOD_SECL.SEC. -/
def TOD_SECL_SEC : Field := ⟨0x44008, 0, 32⟩
/-- TOD_SECH.SEC. -/
def TOD_SECH_SEC : Field := ⟨0x4400c, 0, 16⟩
/-- TOD_UTC.UTCV. -/
def TOD_UTC_UTCV : Field := ⟨0x44010, 18, 1⟩
/-- TOD_UTC.LEAP59. -/
def TOD_UTC_LEAP59 : Field := ⟨0x44010, 17, 1⟩
/-- TOD_UTC.LEAP61. -/
def TOD_UTC_LEAP61 : Field := ⟨0x44010, 16, 1⟩
/-- TOD_UTC.UTC_OFS. -/
def TOD_UTC_UTC_OFS : Field := ⟨0x44010, 0, 16⟩
/-- TOD_PHL.PH. -/
def TOD_PHL_PH : Field := ⟨0x44014, 0, 32⟩
/-- TOD_PHH.PH. -/
def TOD_PHH_PH : Field := ⟨0x44018, 0, 16⟩
/-- CH_CFG.EVRING. -/
def CH_CFG_EVRING (i : Nat) : Field := ⟨0x41000 + 0x200 * i, 12, 6⟩
/-- CH_CFG.POST. -/
def CH_CFG_POST (i : Nat) : Field := ⟨0x41000 + 0x200 * i, 11, 1⟩
/-- CH_CFG.WIN. -/
def CH_CFG_WIN (i : Nat) : Field := ⟨0x41000 + 0x200 * i, 8, 3⟩
/-- CH_CFG.DIR. -/
def CH_CFG_DIR (i : Nat) : Field := ⟨0x41000 + 0x200 * i, 7, 1⟩
/-- CH_CFG.HYST. -/
def CH_CFG_HYST (i : Nat) : Field := ⟨0x41000 + 0x200 * i, 5, 2⟩
/-- CH_CFG.DIFF. -/
def CH_CFG_DIFF (i : Nat) : Field := ⟨0x41000 + 0x200 * i, 4, 1⟩
/-- CH_CFG.SLOPE. -/
def CH_CFG_SLOPE (i : Nat) : Field := ⟨0x41000 + 0x200 * i, 2, 2⟩
/-- CH_CFG.TYPE. -/
def CH_CFG_TYPE (i : Nat) : Field := ⟨0x41000 + 0x200 * i, 0, 2⟩
/-- CH_THR.THR. -/
def CH_THR_THR (i : Nat) : Field := ⟨0x41004 + 0x200 * i, 0, 9⟩
/-- CH_PER.PER. -/
def CH_PER_PER (i : Nat) : Field := ⟨0x41008 + 0x200 * i, 0, 10⟩
/-- CH_DIV.DIV. -/
def CH_DIV_DIV (i : Nat) : Field := ⟨0x4100c + 0x200 * i, 0, 20⟩
/-- CH_DLY.DLY. -/
def CH_DLY_DLY (i : Nat) : Field := ⟨0x41010 + 0x200 * i, 0, 32⟩
/-- CH_MINW.MINW. -/
def CH_MINW_MINW (i : Nat) : Field := ⟨0x41014 + 0x200 * i, 0, 8⟩
/-- CH_EPOFS.AUTO. -/
def CH_EPOFS_AUTO (i : Nat) : Field := ⟨0x41018 + 0x200 * i, 30, 1⟩
/-- CH_EPOFS.EPOFS. -/
def CH_EPOFS_EPOFS (i : Nat) : Field := ⟨0x41018 + 0x200 * i, 0, 30⟩
/-- RES_STAT.VALID. -/
def RES_STAT_VALID (i : Nat) : Field := ⟨0x41040 + 0x200 * i, 31, 1⟩
/-- RES_STAT.PHV. -/
def RES_STAT_PHV (i : Nat) : Field := ⟨0x41040 + 0x200 * i, 30, 1⟩
/-- RES_STAT.CALOK. -/
def RES_STAT_CALOK (i : Nat) : Field := ⟨0x41040 + 0x200 * i, 29, 1⟩
/-- RES_STAT.SHORT. -/
def RES_STAT_SHORT (i : Nat) : Field := ⟨0x41040 + 0x200 * i, 28, 1⟩
/-- RES_STAT.BLIND. -/
def RES_STAT_BLIND (i : Nat) : Field := ⟨0x41040 + 0x200 * i, 27, 1⟩
/-- RES_STAT.MISSED. -/
def RES_STAT_MISSED (i : Nat) : Field := ⟨0x41040 + 0x200 * i, 26, 1⟩
/-- RES_STAT.EXTRA. -/
def RES_STAT_EXTRA (i : Nat) : Field := ⟨0x41040 + 0x200 * i, 25, 1⟩
/-- RES_STAT.GLITCH. -/
def RES_STAT_GLITCH (i : Nat) : Field := ⟨0x41040 + 0x200 * i, 24, 1⟩
/-- RES_STAT.NSTOP. -/
def RES_STAT_NSTOP (i : Nat) : Field := ⟨0x41040 + 0x200 * i, 16, 6⟩
/-- RES_STAT.SEQ. -/
def RES_STAT_SEQ (i : Nat) : Field := ⟨0x41040 + 0x200 * i, 0, 8⟩
/-- RES_EPNS.NS. -/
def RES_EPNS_NS (i : Nat) : Field := ⟨0x41044 + 0x200 * i, 0, 32⟩
/-- RES_EPSEC.SEC. -/
def RES_EPSEC_SEC (i : Nat) : Field := ⟨0x41048 + 0x200 * i, 0, 32⟩
/-- RES_EDGES.EDGES. -/
def RES_EDGES_EDGES (i : Nat) : Field := ⟨0x4104c + 0x200 * i, 0, 32⟩
/-- RES_NSPAN.NSPAN. -/
def RES_NSPAN_NSPAN (i : Nat) : Field := ⟨0x41050 + 0x200 * i, 0, 32⟩
/-- RES_SPANL.SPAN. -/
def RES_SPANL_SPAN (i : Nat) : Field := ⟨0x41054 + 0x200 * i, 0, 32⟩
/-- RES_SPANH.SPAN. -/
def RES_SPANH_SPAN (i : Nat) : Field := ⟨0x41058 + 0x200 * i, 0, 16⟩
/-- RES_PHL.PH. -/
def RES_PHL_PH (i : Nat) : Field := ⟨0x4105c + 0x200 * i, 0, 32⟩
/-- RES_PHH.PH. -/
def RES_PHH_PH (i : Nat) : Field := ⟨0x41060 + 0x200 * i, 0, 16⟩
/-- RES_CAL.C2. -/
def RES_CAL_C2 (i : Nat) : Field := ⟨0x41064 + 0x200 * i, 16, 12⟩
/-- RES_CAL.C1. -/
def RES_CAL_C1 (i : Nat) : Field := ⟨0x41064 + 0x200 * i, 0, 12⟩
/-- CH_STOP_LO.OFS. -/
def CH_STOP_LO_OFS (i k : Nat) : Field := ⟨0x41100 + 0x200 * i + 8 * k, 0, 32⟩
/-- CH_STOP_HI.OFS. -/
def CH_STOP_HI_OFS (i k : Nat) : Field := ⟨0x41104 + 0x200 * i + 8 * k, 0, 16⟩
/-- GNSS_CFG.SAMPLE_LAT. -/
def GNSS_CFG_SAMPLE_LAT : Field := ⟨0x50000, 18, 6⟩
/-- GNSS_CFG.TSYS. -/
def GNSS_CFG_TSYS : Field := ⟨0x50000, 16, 2⟩
/-- GNSS_CFG.TMODE. -/
def GNSS_CFG_TMODE : Field := ⟨0x50000, 15, 1⟩
/-- GNSS_CFG.AUTO_SURVEY. -/
def GNSS_CFG_AUTO_SURVEY : Field := ⟨0x50000, 14, 1⟩
/-- GNSS_CFG.CONST_EN. -/
def GNSS_CFG_CONST_EN : Field := ⟨0x50000, 10, 4⟩
/-- GNSS_CFG.FMT. -/
def GNSS_CFG_FMT : Field := ⟨0x50000, 9, 1⟩
/-- GNSS_CFG.REFOUT_DIV. -/
def GNSS_CFG_REFOUT_DIV : Field := ⟨0x50000, 8, 1⟩
/-- GNSS_CFG.REFOUT_EN. -/
def GNSS_CFG_REFOUT_EN : Field := ⟨0x50000, 2, 1⟩
/-- GNSS_CFG.EN_L5. -/
def GNSS_CFG_EN_L5 : Field := ⟨0x50000, 1, 1⟩
/-- GNSS_CFG.EN_L1. -/
def GNSS_CFG_EN_L1 : Field := ⟨0x50000, 0, 1⟩
/-- GNSS_IF_L1.INV. -/
def GNSS_IF_L1_INV : Field := ⟨0x50004, 31, 1⟩
/-- GNSS_IF_L1.IF. -/
def GNSS_IF_L1_IF : Field := ⟨0x50004, 0, 26⟩
/-- GNSS_IF_L5.INV. -/
def GNSS_IF_L5_INV : Field := ⟨0x50008, 31, 1⟩
/-- GNSS_IF_L5.IF. -/
def GNSS_IF_L5_IF : Field := ⟨0x50008, 0, 26⟩
/-- GNSS_DLY_L1.DLY. -/
def GNSS_DLY_L1_DLY : Field := ⟨0x5000c, 0, 32⟩
/-- GNSS_DLY_L5.DLY. -/
def GNSS_DLY_L5_DLY : Field := ⟨0x50010, 0, 32⟩
/-- GNSS_MASK.N_MIN. -/
def GNSS_MASK_N_MIN : Field := ⟨0x50014, 20, 4⟩
/-- GNSS_MASK.CN0_MASK. -/
def GNSS_MASK_CN0_MASK : Field := ⟨0x50014, 8, 8⟩
/-- GNSS_MASK.ELEV_MASK. -/
def GNSS_MASK_ELEV_MASK : Field := ⟨0x50014, 0, 8⟩
/-- GNSS_TRK.DSPC_L5. -/
def GNSS_TRK_DSPC_L5 : Field := ⟨0x50018, 8, 8⟩
/-- GNSS_TRK.DSPC_L1. -/
def GNSS_TRK_DSPC_L1 : Field := ⟨0x50018, 0, 8⟩
/-- GNSS_BND.U_SYS. -/
def GNSS_BND_U_SYS : Field := ⟨0x5001c, 16, 16⟩
/-- GNSS_BND.MP_FLOOR. -/
def GNSS_BND_MP_FLOOR : Field := ⟨0x5001c, 4, 12⟩
/-- GNSS_BND.K_G. -/
def GNSS_BND_K_G : Field := ⟨0x5001c, 0, 4⟩
/-- GNSS_UBC.U_BCAST. -/
def GNSS_UBC_U_BCAST : Field := ⟨0x50020, 0, 32⟩
/-- GNSS_ION.ION_FLOOR. -/
def GNSS_ION_ION_FLOOR : Field := ⟨0x50024, 16, 16⟩
/-- GNSS_ION.ION_K. -/
def GNSS_ION_ION_K : Field := ⟨0x50024, 0, 8⟩
/-- GNSS_WEEK.WEEK_FLOOR. -/
def GNSS_WEEK_WEEK_FLOOR : Field := ⟨0x50028, 0, 16⟩
/-- GNSS_FIXX.X. -/
def GNSS_FIXX_X : Field := ⟨0x50030, 0, 32⟩
/-- GNSS_FIXY.Y. -/
def GNSS_FIXY_Y : Field := ⟨0x50034, 0, 32⟩
/-- GNSS_FIXZ.Z. -/
def GNSS_FIXZ_Z : Field := ⟨0x50038, 0, 32⟩
/-- GNSS_FIXSIG.FIXV. -/
def GNSS_FIXSIG_FIXV : Field := ⟨0x5003c, 31, 1⟩
/-- GNSS_FIXSIG.SIG. -/
def GNSS_FIXSIG_SIG : Field := ⟨0x5003c, 0, 16⟩
/-- GNSS_SURV_MIN.MIN_S. -/
def GNSS_SURV_MIN_MIN_S : Field := ⟨0x50040, 0, 32⟩
/-- GNSS_SURV_MAX.MAX_S. -/
def GNSS_SURV_MAX_MAX_S : Field := ⟨0x50044, 0, 32⟩
/-- GNSS_SURV_TGT.ADOPT_PARTIAL. -/
def GNSS_SURV_TGT_ADOPT_PARTIAL : Field := ⟨0x50048, 16, 1⟩
/-- GNSS_SURV_TGT.TARGET. -/
def GNSS_SURV_TGT_TARGET : Field := ⟨0x50048, 0, 16⟩
/-- GNSS_JAM_CFG.JAM_THR. -/
def GNSS_JAM_CFG_JAM_THR : Field := ⟨0x50060, 8, 8⟩
/-- GNSS_JAM_CFG.JAM_HOLD. -/
def GNSS_JAM_CFG_JAM_HOLD : Field := ⟨0x50060, 0, 8⟩
/-- GNSS_PWR_CFG.CN0_MAX. -/
def GNSS_PWR_CFG_CN0_MAX : Field := ⟨0x50064, 8, 8⟩
/-- GNSS_PWR_CFG.CN0_STEP. -/
def GNSS_PWR_CFG_CN0_STEP : Field := ⟨0x50064, 0, 8⟩
/-- GNSS_SHAPE_CFG.SHAPE_THR. -/
def GNSS_SHAPE_CFG_SHAPE_THR : Field := ⟨0x50068, 8, 8⟩
/-- GNSS_SHAPE_CFG.SHAPE_N. -/
def GNSS_SHAPE_CFG_SHAPE_N : Field := ⟨0x50068, 0, 4⟩
/-- GNSS_XREF_CFG.XREF_THR. -/
def GNSS_XREF_CFG_XREF_THR : Field := ⟨0x5006c, 16, 16⟩
/-- GNSS_XREF_CFG.XREF_N. -/
def GNSS_XREF_CFG_XREF_N : Field := ⟨0x5006c, 8, 8⟩
/-- GNSS_XREF_CFG.POS_THR. -/
def GNSS_XREF_CFG_POS_THR : Field := ⟨0x5006c, 0, 8⟩
/-- GNSS_CHK_ACT.CLR_HOLD. -/
def GNSS_CHK_ACT_CLR_HOLD : Field := ⟨0x50070, 8, 16⟩
/-- GNSS_CHK_ACT.XREF. -/
def GNSS_CHK_ACT_XREF : Field := ⟨0x50070, 6, 2⟩
/-- GNSS_CHK_ACT.SHAPE. -/
def GNSS_CHK_ACT_SHAPE : Field := ⟨0x50070, 4, 2⟩
/-- GNSS_CHK_ACT.PWR. -/
def GNSS_CHK_ACT_PWR : Field := ⟨0x50070, 2, 2⟩
/-- GNSS_CHK_ACT.JAM. -/
def GNSS_CHK_ACT_JAM : Field := ⟨0x50070, 0, 2⟩
/-- GNSS_SNAP_CFG.POLICY. -/
def GNSS_SNAP_CFG_POLICY : Field := ⟨0x50074, 4, 1⟩
/-- GNSS_SNAP_CFG.PRE. -/
def GNSS_SNAP_CFG_PRE : Field := ⟨0x50074, 0, 4⟩
/-- GNSS_POS_TOL.TOL. -/
def GNSS_POS_TOL_TOL : Field := ⟨0x50078, 0, 16⟩
/-- GNSS_POSX.X. -/
def GNSS_POSX_X : Field := ⟨0x50180, 0, 32⟩
/-- GNSS_POSY.Y. -/
def GNSS_POSY_Y : Field := ⟨0x50184, 0, 32⟩
/-- GNSS_POSZ.Z. -/
def GNSS_POSZ_Z : Field := ⟨0x50188, 0, 32⟩
/-- GNSS_POSSIG.SURVEY_RUN. -/
def GNSS_POSSIG_SURVEY_RUN : Field := ⟨0x5018c, 17, 1⟩
/-- GNSS_POSSIG.FIXED. -/
def GNSS_POSSIG_FIXED : Field := ⟨0x5018c, 16, 1⟩
/-- GNSS_POSSIG.SIG. -/
def GNSS_POSSIG_SIG : Field := ⟨0x5018c, 0, 16⟩
/-- GNSS_BAND.POWER. -/
def GNSS_BAND_POWER (k : Nat) : Field := ⟨0x501a0 + 4 * k, 16, 16⟩
/-- GNSS_BAND.NCH. -/
def GNSS_BAND_NCH (k : Nat) : Field := ⟨0x501a0 + 4 * k, 8, 8⟩
/-- GNSS_BAND.CN0. -/
def GNSS_BAND_CN0 (k : Nat) : Field := ⟨0x501a0 + 4 * k, 1, 7⟩
/-- GNSS_BAND.STUCK. -/
def GNSS_BAND_STUCK (k : Nat) : Field := ⟨0x501a0 + 4 * k, 0, 1⟩
/-- GNSS_CHK_ACTIVE.ACTIVE. -/
def GNSS_CHK_ACTIVE_ACTIVE : Field := ⟨0x501c4, 0, 7⟩
/-- SOL_STAT.VALID. -/
def SOL_STAT_VALID (i : Nat) : Field := ⟨0x50100 + 0x20 * i, 31, 1⟩
/-- SOL_STAT.TRUST. -/
def SOL_STAT_TRUST (i : Nat) : Field := ⟨0x50100 + 0x20 * i, 30, 1⟩
/-- SOL_STAT.SURVEYING. -/
def SOL_STAT_SURVEYING (i : Nat) : Field := ⟨0x50100 + 0x20 * i, 29, 1⟩
/-- SOL_STAT.NSAT. -/
def SOL_STAT_NSAT (i : Nat) : Field := ⟨0x50100 + 0x20 * i, 16, 8⟩
/-- SOL_STAT.NEXCL. -/
def SOL_STAT_NEXCL (i : Nat) : Field := ⟨0x50100 + 0x20 * i, 12, 2⟩
/-- SOL_STAT.SEQ. -/
def SOL_STAT_SEQ (i : Nat) : Field := ⟨0x50100 + 0x20 * i, 0, 8⟩
/-- SOL_EPSEC.SEC. -/
def SOL_EPSEC_SEC (i : Nat) : Field := ⟨0x50104 + 0x20 * i, 0, 32⟩
/-- SOL_PHL.PH. -/
def SOL_PHL_PH (i : Nat) : Field := ⟨0x50108 + 0x20 * i, 0, 32⟩
/-- SOL_PHH.PH. -/
def SOL_PHH_PH (i : Nat) : Field := ⟨0x5010c + 0x20 * i, 0, 16⟩
/-- SOL_BND.B_SOL. -/
def SOL_BND_B_SOL (i : Nat) : Field := ⟨0x50110 + 0x20 * i, 0, 32⟩
/-- SOL_SIGT.SIGMA_T. -/
def SOL_SIGT_SIGMA_T (i : Nat) : Field := ⟨0x50114 + 0x20 * i, 0, 32⟩
/-- SOL_UMP.U_MP. -/
def SOL_UMP_U_MP (i : Nat) : Field := ⟨0x50118 + 0x20 * i, 0, 32⟩
/-- SNAP_STAT.FULL. -/
def SNAP_STAT_FULL (i : Nat) : Field := ⟨0x50200 + 0x10 * i, 31, 1⟩
/-- SNAP_STAT.LOCK. -/
def SNAP_STAT_LOCK (i : Nat) : Field := ⟨0x50200 + 0x10 * i, 30, 1⟩
/-- SNAP_STAT.LIVE. -/
def SNAP_STAT_LIVE (i : Nat) : Field := ⟨0x50200 + 0x10 * i, 29, 1⟩
/-- SNAP_STAT.CAUSE. -/
def SNAP_STAT_CAUSE (i : Nat) : Field := ⟨0x50200 + 0x10 * i, 0, 16⟩
/-- SNAP_TRIGNS.NS. -/
def SNAP_TRIGNS_NS (i : Nat) : Field := ⟨0x50204 + 0x10 * i, 0, 32⟩
/-- SNAP_TRIGSEC.SEC. -/
def SNAP_TRIGSEC_SEC (i : Nat) : Field := ⟨0x50208 + 0x10 * i, 0, 32⟩
/-- SNAP_CSEQ.CSEQ. -/
def SNAP_CSEQ_CSEQ (i : Nat) : Field := ⟨0x5020c + 0x10 * i, 0, 32⟩
/-- CHN_STAT.STATE. -/
def CHN_STAT_STATE (i : Nat) : Field := ⟨0x51000 + 0x40 * i, 29, 3⟩
/-- CHN_STAT.SIG. -/
def CHN_STAT_SIG (i : Nat) : Field := ⟨0x51000 + 0x40 * i, 26, 3⟩
/-- CHN_STAT.USED. -/
def CHN_STAT_USED (i : Nat) : Field := ⟨0x51000 + 0x40 * i, 25, 1⟩
/-- CHN_STAT.EXCL. -/
def CHN_STAT_EXCL (i : Nat) : Field := ⟨0x51000 + 0x40 * i, 24, 1⟩
/-- CHN_STAT.SVID. -/
def CHN_STAT_SVID (i : Nat) : Field := ⟨0x51000 + 0x40 * i, 16, 8⟩
/-- CHN_STAT.CN0. -/
def CHN_STAT_CN0 (i : Nat) : Field := ⟨0x51000 + 0x40 * i, 8, 8⟩
/-- CHN_STAT.ELEV. -/
def CHN_STAT_ELEV (i : Nat) : Field := ⟨0x51000 + 0x40 * i, 0, 8⟩
/-- CHN_MP.RES. -/
def CHN_MP_RES (i : Nat) : Field := ⟨0x51004 + 0x40 * i, 16, 16⟩
/-- CHN_MP.MP. -/
def CHN_MP_MP (i : Nat) : Field := ⟨0x51004 + 0x40 * i, 0, 16⟩
/-- CHN_SHAPE.SHAPE. -/
def CHN_SHAPE_SHAPE (i : Nat) : Field := ⟨0x51008 + 0x40 * i, 0, 8⟩
/-- SEL_CFG.WTR. -/
def SEL_CFG_WTR : Field := ⟨0x70000, 16, 16⟩
/-- SEL_CFG.DIS_MARG. -/
def SEL_CFG_DIS_MARG : Field := ⟨0x70000, 8, 8⟩
/-- SEL_CFG.REVERT. -/
def SEL_CFG_REVERT : Field := ⟨0x70000, 0, 1⟩
/-- SEL_FAGREE.FAGREE. -/
def SEL_FAGREE_FAGREE : Field := ⟨0x70004, 0, 32⟩
/-- SEL_STAT.VALID. -/
def SEL_STAT_VALID : Field := ⟨0x70010, 31, 1⟩
/-- SEL_STAT.DISAGREE. -/
def SEL_STAT_DISAGREE : Field := ⟨0x70010, 30, 1⟩
/-- SEL_STAT.FDISAGREE. -/
def SEL_STAT_FDISAGREE : Field := ⟨0x70010, 29, 1⟩
/-- SEL_STAT.MANUAL_T. -/
def SEL_STAT_MANUAL_T : Field := ⟨0x70010, 28, 1⟩
/-- SEL_STAT.MANUAL_F. -/
def SEL_STAT_MANUAL_F : Field := ⟨0x70010, 27, 1⟩
/-- SEL_STAT.FSRC_V. -/
def SEL_STAT_FSRC_V : Field := ⟨0x70010, 21, 1⟩
/-- SEL_STAT.FSRC. -/
def SEL_STAT_FSRC : Field := ⟨0x70010, 16, 5⟩
/-- SEL_STAT.SRC_V. -/
def SEL_STAT_SRC_V : Field := ⟨0x70010, 13, 1⟩
/-- SEL_STAT.SRC. -/
def SEL_STAT_SRC : Field := ⟨0x70010, 8, 5⟩
/-- SEL_STAT.SEQ. -/
def SEL_STAT_SEQ : Field := ⟨0x70010, 0, 8⟩
/-- SEL_QUAL.QUAL. -/
def SEL_QUAL_QUAL : Field := ⟨0x70014, 0, 32⟩
/-- SEL_LOS.LOS. -/
def SEL_LOS_LOS : Field := ⟨0x70018, 0, 32⟩
/-- SEL_LOCK.LOCKOUT. -/
def SEL_LOCK_LOCKOUT : Field := ⟨0x7001c, 0, 32⟩
/-- ENT_CFG.EN. -/
def ENT_CFG_EN (i : Nat) : Field := ⟨0x71000 + 0x80 * i, 31, 1⟩
/-- ENT_CFG.RANK. -/
def ENT_CFG_RANK (i : Nat) : Field := ⟨0x71000 + 0x80 * i, 24, 4⟩
/-- ENT_CFG.POLICY. -/
def ENT_CFG_POLICY (i : Nat) : Field := ⟨0x71000 + 0x80 * i, 22, 2⟩
/-- ENT_CFG.TRACE. -/
def ENT_CFG_TRACE (i : Nat) : Field := ⟨0x71000 + 0x80 * i, 18, 4⟩
/-- ENT_CFG.QUAL_HOLD. -/
def ENT_CFG_QUAL_HOLD (i : Nat) : Field := ⟨0x71000 + 0x80 * i, 8, 8⟩
/-- ENT_CFG.DQ_HOLD. -/
def ENT_CFG_DQ_HOLD (i : Nat) : Field := ⟨0x71000 + 0x80 * i, 0, 8⟩
/-- ENT_UPATH.U_PATH. -/
def ENT_UPATH_U_PATH (i : Nat) : Field := ⟨0x71004 + 0x80 * i, 0, 32⟩
/-- ENT_UREF.U_REF. -/
def ENT_UREF_U_REF (i : Nat) : Field := ⟨0x71008 + 0x80 * i, 0, 32⟩
/-- ENT_FNOM.F_NOM. -/
def ENT_FNOM_F_NOM (i : Nat) : Field := ⟨0x7100c + 0x80 * i, 0, 32⟩
/-- ENT_FLIM.FLIM. -/
def ENT_FLIM_FLIM (i : Nat) : Field := ⟨0x71010 + 0x80 * i, 0, 32⟩
/-- ENT_PMARG.PMARG. -/
def ENT_PMARG_PMARG (i : Nat) : Field := ⟨0x71014 + 0x80 * i, 0, 16⟩
/-- ENT_SDLIM.SDLIM. -/
def ENT_SDLIM_SDLIM (i : Nat) : Field := ⟨0x71018 + 0x80 * i, 0, 32⟩
/-- ENT_LDLIM.LDLIM. -/
def ENT_LDLIM_LDLIM (i : Nat) : Field := ⟨0x7101c + 0x80 * i, 0, 32⟩
/-- ENT_WIN.LW. -/
def ENT_WIN_LW (i : Nat) : Field := ⟨0x71020 + 0x80 * i, 16, 16⟩
/-- ENT_WIN.SW. -/
def ENT_WIN_SW (i : Nat) : Field := ⟨0x71020 + 0x80 * i, 8, 8⟩
/-- ENT_WIN.HYS. -/
def ENT_WIN_HYS (i : Nat) : Field := ⟨0x71020 + 0x80 * i, 0, 4⟩
/-- ENT_LOSINT.LOSINT. -/
def ENT_LOSINT_LOSINT (i : Nat) : Field := ⟨0x71024 + 0x80 * i, 0, 16⟩
/-- ENT_NET.NETMODE. -/
def ENT_NET_NETMODE (i : Nat) : Field := ⟨0x71028 + 0x80 * i, 30, 2⟩
/-- ENT_NET.QL_MIN. -/
def ENT_NET_QL_MIN (i : Nat) : Field := ⟨0x71028 + 0x80 * i, 24, 4⟩
/-- ENT_NET.CLASS_MAX. -/
def ENT_NET_CLASS_MAX (i : Nat) : Field := ⟨0x71028 + 0x80 * i, 16, 8⟩
/-- ENT_NET.PSEL. -/
def ENT_NET_PSEL (i : Nat) : Field := ⟨0x71028 + 0x80 * i, 0, 8⟩
/-- ENT_STAT.VALID. -/
def ENT_STAT_VALID (i : Nat) : Field := ⟨0x71040 + 0x80 * i, 31, 1⟩
/-- ENT_STAT.STATE. -/
def ENT_STAT_STATE (i : Nat) : Field := ⟨0x71040 + 0x80 * i, 28, 3⟩
/-- ENT_STAT.CAUSE. -/
def ENT_STAT_CAUSE (i : Nat) : Field := ⟨0x71040 + 0x80 * i, 24, 4⟩
/-- ENT_STAT.LOS. -/
def ENT_STAT_LOS (i : Nat) : Field := ⟨0x71040 + 0x80 * i, 23, 1⟩
/-- ENT_STAT.LOCKOUT. -/
def ENT_STAT_LOCKOUT (i : Nat) : Field := ⟨0x71040 + 0x80 * i, 22, 1⟩
/-- ENT_STAT.CLASS. -/
def ENT_STAT_CLASS (i : Nat) : Field := ⟨0x71040 + 0x80 * i, 20, 2⟩
/-- ENT_STAT.TRACE. -/
def ENT_STAT_TRACE (i : Nat) : Field := ⟨0x71040 + 0x80 * i, 16, 4⟩
/-- ENT_STAT.MON. -/
def ENT_STAT_MON (i : Nat) : Field := ⟨0x71040 + 0x80 * i, 8, 8⟩
/-- ENT_STAT.SEQ. -/
def ENT_STAT_SEQ (i : Nat) : Field := ⟨0x71040 + 0x80 * i, 0, 8⟩
/-- ENT_PHL.PH. -/
def ENT_PHL_PH (i : Nat) : Field := ⟨0x71044 + 0x80 * i, 0, 32⟩
/-- ENT_PHH.PH. -/
def ENT_PHH_PH (i : Nat) : Field := ⟨0x71048 + 0x80 * i, 0, 16⟩
/-- ENT_EDIFF.E_DIFF. -/
def ENT_EDIFF_E_DIFF (i : Nat) : Field := ⟨0x7104c + 0x80 * i, 0, 32⟩
/-- ENT_FREQ.Y. -/
def ENT_FREQ_Y (i : Nat) : Field := ⟨0x71050 + 0x80 * i, 0, 32⟩
/-- ENT_SDRIFT.R_S. -/
def ENT_SDRIFT_R_S (i : Nat) : Field := ⟨0x71054 + 0x80 * i, 0, 32⟩
/-- ENT_LDRIFT.R_L. -/
def ENT_LDRIFT_R_L (i : Nat) : Field := ⟨0x71058 + 0x80 * i, 0, 32⟩
/-- ENT_BND.E_REF. -/
def ENT_BND_E_REF (i : Nat) : Field := ⟨0x7105c + 0x80 * i, 0, 32⟩
/-- ENT_TIMER.TIMER. -/
def ENT_TIMER_TIMER (i : Nat) : Field := ⟨0x71060 + 0x80 * i, 0, 16⟩
/-- ENT_NETSTAT.QL. -/
def ENT_NETSTAT_QL (i : Nat) : Field := ⟨0x71064 + 0x80 * i, 28, 4⟩
/-- ENT_NETSTAT.SYNCE_OK. -/
def ENT_NETSTAT_SYNCE_OK (i : Nat) : Field := ⟨0x71064 + 0x80 * i, 27, 1⟩
/-- ENT_NETSTAT.PTP_OK. -/
def ENT_NETSTAT_PTP_OK (i : Nat) : Field := ⟨0x71064 + 0x80 * i, 26, 1⟩
/-- ENT_NETSTAT.CLASS_RX. -/
def ENT_NETSTAT_CLASS_RX (i : Nat) : Field := ⟨0x71064 + 0x80 * i, 16, 8⟩
/-- ENT_NETSTAT.ACC_RX. -/
def ENT_NETSTAT_ACC_RX (i : Nat) : Field := ⟨0x71064 + 0x80 * i, 8, 8⟩
/-- ENT_NETSTAT.GLS_TLV. -/
def ENT_NETSTAT_GLS_TLV (i : Nat) : Field := ⟨0x71064 + 0x80 * i, 0, 1⟩
/-- TNS_TBS_STAT.VALID. -/
def TNS_TBS_STAT_VALID : Field := ⟨0x80000, 31, 1⟩
/-- TNS_TBS_STAT.SEQ. -/
def TNS_TBS_STAT_SEQ : Field := ⟨0x80000, 0, 8⟩
/-- TNS_TBS_NS.NS. -/
def TNS_TBS_NS_NS : Field := ⟨0x80004, 0, 32⟩
/-- TNS_TBS_SECL.SEC. -/
def TNS_TBS_SECL_SEC : Field := ⟨0x80008, 0, 32⟩
/-- TNS_TBS_SECH.FRAC. -/
def TNS_TBS_SECH_FRAC : Field := ⟨0x8000c, 16, 16⟩
/-- TNS_TBS_SECH.SEC. -/
def TNS_TBS_SECH_SEC : Field := ⟨0x8000c, 0, 16⟩
/-- TNS_TBS_CSEQ.CSEQ. -/
def TNS_TBS_CSEQ_CSEQ : Field := ⟨0x80010, 0, 32⟩
/-- TNS_TBS_GLSL.GLOSS. -/
def TNS_TBS_GLSL_GLOSS : Field := ⟨0x80014, 0, 32⟩
/-- TNS_TBS_GLSH.GLOSS. -/
def TNS_TBS_GLSH_GLOSS : Field := ⟨0x80018, 0, 32⟩
/-- TNS_UTC_STAT.IN_LEAP. -/
def TNS_UTC_STAT_IN_LEAP : Field := ⟨0x8001c, 19, 1⟩
/-- TNS_UTC_STAT.LEAP59. -/
def TNS_UTC_STAT_LEAP59 : Field := ⟨0x8001c, 18, 1⟩
/-- TNS_UTC_STAT.LEAP61. -/
def TNS_UTC_STAT_LEAP61 : Field := ⟨0x8001c, 17, 1⟩
/-- TNS_UTC_STAT.UTC_VALID. -/
def TNS_UTC_STAT_UTC_VALID : Field := ⟨0x8001c, 16, 1⟩
/-- TNS_UTC_STAT.TAI_UTC. -/
def TNS_UTC_STAT_TAI_UTC : Field := ⟨0x8001c, 0, 16⟩
/-- TNS_LEAP_SECL.T_L. -/
def TNS_LEAP_SECL_T_L : Field := ⟨0x80020, 0, 32⟩
/-- TNS_GLS_CFG.TICK_EN. -/
def TNS_GLS_CFG_TICK_EN : Field := ⟨0x80040, 8, 1⟩
/-- TNS_GLS_CFG.K_SIG. -/
def TNS_GLS_CFG_K_SIG : Field := ⟨0x80040, 0, 4⟩
/-- TNS_GLS_ORGID.ORGID. -/
def TNS_GLS_ORGID_ORGID : Field := ⟨0x80044, 0, 24⟩
/-- TNS_GLS_NTPEF.EFTYPE. -/
def TNS_GLS_NTPEF_EFTYPE : Field := ⟨0x80048, 0, 16⟩
/-- TNS_CFG.AUTO_LEARN. -/
def TNS_CFG_AUTO_LEARN : Field := ⟨0x80100, 28, 1⟩
/-- TNS_CFG.EFC_MODE. -/
def TNS_CFG_EFC_MODE : Field := ⟨0x80100, 26, 2⟩
/-- TNS_CFG.TEMP_EN. -/
def TNS_CFG_TEMP_EN : Field := ⟨0x80100, 25, 1⟩
/-- TNS_CFG.ASSIST. -/
def TNS_CFG_ASSIST : Field := ⟨0x80100, 24, 1⟩
/-- TNS_CFG.OSC_CLASS. -/
def TNS_CFG_OSC_CLASS : Field := ⟨0x80100, 22, 2⟩
/-- TNS_CFG.ACQ_BW. -/
def TNS_CFG_ACQ_BW : Field := ⟨0x80100, 8, 4⟩
/-- TNS_CFG.LOOP_BW. -/
def TNS_CFG_LOOP_BW : Field := ⟨0x80100, 0, 4⟩
/-- TNS_SLEW.SLEW_LIM. -/
def TNS_SLEW_SLEW_LIM : Field := ⟨0x80104, 0, 20⟩
/-- TNS_JUMP.THETA_JUMP. -/
def TNS_JUMP_THETA_JUMP : Field := ⟨0x80108, 0, 24⟩
/-- TNS_GLIM.G_LIM. -/
def TNS_GLIM_G_LIM : Field := ⟨0x8010c, 0, 32⟩
/-- TNS_LOCK.LOCK_N. -/
def TNS_LOCK_LOCK_N : Field := ⟨0x80110, 24, 8⟩
/-- TNS_LOCK.LOCK_PH. -/
def TNS_LOCK_LOCK_PH : Field := ⟨0x80110, 0, 24⟩
/-- TNS_LOCKFR.LOCK_FR. -/
def TNS_LOCKFR_LOCK_FR : Field := ⟨0x80114, 0, 32⟩
/-- TNS_HO_CFG.HO_AVG. -/
def TNS_HO_CFG_HO_AVG : Field := ⟨0x80118, 0, 16⟩
/-- TNS_HO_WIN.HO_WIN. -/
def TNS_HO_WIN_HO_WIN : Field := ⟨0x8011c, 16, 16⟩
/-- TNS_HO_WIN.HO_MIN. -/
def TNS_HO_WIN_HO_MIN : Field := ⟨0x8011c, 0, 16⟩
/-- TNS_HO_DEF0.U_M_DEF. -/
def TNS_HO_DEF0_U_M_DEF : Field := ⟨0x80120, 0, 32⟩
/-- TNS_HO_DEF1.U_A_DEF. -/
def TNS_HO_DEF1_U_A_DEF : Field := ⟨0x80124, 0, 32⟩
/-- TNS_HO_DEF2.U_T_DEF. -/
def TNS_HO_DEF2_U_T_DEF : Field := ⟨0x80128, 0, 32⟩
/-- TNS_ASSIST.U_S_REFIN. -/
def TNS_ASSIST_U_S_REFIN : Field := ⟨0x8012c, 0, 32⟩
/-- TNS_LEAP_CFG.ARM_WIN. -/
def TNS_LEAP_CFG_ARM_WIN : Field := ⟨0x80130, 0, 17⟩
/-- TNS_EFC_CFG.CMD. -/
def TNS_EFC_CFG_CMD : Field := ⟨0x80134, 28, 4⟩
/-- TNS_EFC_CFG.SCLK_DIV. -/
def TNS_EFC_CFG_SCLK_DIV : Field := ⟨0x80134, 24, 4⟩
/-- TNS_EFC_CFG.WIDTH. -/
def TNS_EFC_CFG_WIDTH : Field := ⟨0x80134, 20, 2⟩
/-- TNS_EFC_CFG.INIT. -/
def TNS_EFC_CFG_INIT : Field := ⟨0x80134, 0, 20⟩
/-- TNS_EFC_GAIN.GAIN. -/
def TNS_EFC_GAIN_GAIN : Field := ⟨0x80138, 0, 32⟩
/-- TNS_EFC_MIN.MIN. -/
def TNS_EFC_MIN_MIN : Field := ⟨0x80140, 0, 20⟩
/-- TNS_EFC_MAX.MAX. -/
def TNS_EFC_MAX_MAX : Field := ⟨0x80144, 0, 20⟩
/-- TNS_EFC_CTL.EFC_INT. -/
def TNS_EFC_CTL_EFC_INT : Field := ⟨0x80148, 16, 16⟩
/-- TNS_EFC_CTL.EFC_STEP. -/
def TNS_EFC_CTL_EFC_STEP : Field := ⟨0x80148, 0, 8⟩
/-- TNS_EFC_BAND.EFC_BAND. -/
def TNS_EFC_BAND_EFC_BAND : Field := ⟨0x8014c, 0, 32⟩
/-- TNS_TSENS.ADDR. -/
def TNS_TSENS_ADDR : Field := ⟨0x80150, 16, 7⟩
/-- TNS_TSENS.POINTER. -/
def TNS_TSENS_POINTER : Field := ⟨0x80150, 8, 8⟩
/-- TNS_TSENS.LSB_SH. -/
def TNS_TSENS_LSB_SH : Field := ⟨0x80150, 0, 4⟩
/-- TNS_CLS_DEF.CLS_LOCKED. -/
def TNS_CLS_DEF_CLS_LOCKED : Field := ⟨0x80154, 24, 8⟩
/-- TNS_CLS_DEF.CLS_HOLD. -/
def TNS_CLS_DEF_CLS_HOLD : Field := ⟨0x80154, 16, 8⟩
/-- TNS_CLS_DEF.CLS_LOST. -/
def TNS_CLS_DEF_CLS_LOST : Field := ⟨0x80154, 8, 8⟩
/-- TNS_CLS_DEF.CLS_HOST. -/
def TNS_CLS_DEF_CLS_HOST : Field := ⟨0x80154, 0, 8⟩
/-- TNS_NTP_REF7.REFID7. -/
def TNS_NTP_REF7_REFID7 : Field := ⟨0x80158, 0, 32⟩
/-- TNS_STAT.VALID. -/
def TNS_STAT_VALID : Field := ⟨0x80180, 31, 1⟩
/-- TNS_STAT.STATE. -/
def TNS_STAT_STATE : Field := ⟨0x80180, 28, 3⟩
/-- TNS_STAT.JREF. -/
def TNS_STAT_JREF : Field := ⟨0x80180, 27, 1⟩
/-- TNS_STAT.SLEW. -/
def TNS_STAT_SLEW : Field := ⟨0x80180, 26, 1⟩
/-- TNS_STAT.ASSISTED. -/
def TNS_STAT_ASSISTED : Field := ⟨0x80180, 25, 1⟩
/-- TNS_STAT.TEMP_OK. -/
def TNS_STAT_TEMP_OK : Field := ⟨0x80180, 24, 1⟩
/-- TNS_STAT.MODEL. -/
def TNS_STAT_MODEL : Field := ⟨0x80180, 22, 2⟩
/-- TNS_STAT.LEARN_RUN. -/
def TNS_STAT_LEARN_RUN : Field := ⟨0x80180, 21, 1⟩
/-- TNS_STAT.STEER_SAT. -/
def TNS_STAT_STEER_SAT : Field := ⟨0x80180, 20, 1⟩
/-- TNS_STAT.TC_SOLO. -/
def TNS_STAT_TC_SOLO : Field := ⟨0x80180, 19, 1⟩
/-- TNS_STAT.RET_ID. -/
def TNS_STAT_RET_ID : Field := ⟨0x80180, 8, 5⟩
/-- TNS_STAT.SEQ. -/
def TNS_STAT_SEQ : Field := ⟨0x80180, 0, 8⟩
/-- TNS_FSTL.FST. -/
def TNS_FSTL_FST : Field := ⟨0x80184, 0, 32⟩
/-- TNS_FSTH.FST. -/
def TNS_FSTH_FST : Field := ⟨0x80188, 0, 8⟩
/-- TNS_PHRES.PHI_RES. -/
def TNS_PHRES_PHI_RES : Field := ⟨0x8018c, 0, 32⟩
/-- TNS_SIGPH.SIGMA_PHI. -/
def TNS_SIGPH_SIGMA_PHI : Field := ⟨0x80190, 0, 32⟩
/-- TNS_UY.U_Y. -/
def TNS_UY_U_Y : Field := ⟨0x80194, 0, 32⟩
/-- TNS_EHOLD.E_HOLD. -/
def TNS_EHOLD_E_HOLD : Field := ⟨0x80198, 0, 32⟩
/-- TNS_DREM.D_REM. -/
def TNS_DREM_D_REM : Field := ⟨0x8019c, 0, 32⟩
/-- TNS_DJ.D_J. -/
def TNS_DJ_D_J : Field := ⟨0x801a0, 0, 32⟩
/-- TNS_TEMP.TEMP. -/
def TNS_TEMP_TEMP : Field := ⟨0x801a4, 0, 16⟩
/-- TNS_EFC_STAT.CODE. -/
def TNS_EFC_STAT_CODE : Field := ⟨0x801a8, 0, 20⟩
/-- TNS_MOD_A.A. -/
def TNS_MOD_A_A : Field := ⟨0x80200, 0, 32⟩
/-- TNS_MOD_K1.K1. -/
def TNS_MOD_K1_K1 : Field := ⟨0x80204, 0, 32⟩
/-- TNS_MOD_K2.K2. -/
def TNS_MOD_K2_K2 : Field := ⟨0x80208, 0, 32⟩
/-- TNS_MOD_T0.T0. -/
def TNS_MOD_T0_T0 : Field := ⟨0x8020c, 0, 16⟩
/-- TNS_MOD_TRANGE.T_MAX. -/
def TNS_MOD_TRANGE_T_MAX : Field := ⟨0x80210, 16, 16⟩
/-- TNS_MOD_TRANGE.T_MIN. -/
def TNS_MOD_TRANGE_T_MIN : Field := ⟨0x80210, 0, 16⟩
/-- TNS_MOD_UM.U_M. -/
def TNS_MOD_UM_U_M : Field := ⟨0x80214, 0, 32⟩
/-- TNS_MOD_UA.U_A. -/
def TNS_MOD_UA_U_A : Field := ⟨0x80218, 0, 32⟩
/-- TNS_MOD_UT.U_T. -/
def TNS_MOD_UT_U_T : Field := ⟨0x8021c, 0, 32⟩
/-- TNS_MOD_SPAN.SPAN. -/
def TNS_MOD_SPAN_SPAN : Field := ⟨0x80220, 0, 32⟩
/-- SYN_OSC.OSCIN_OK. -/
def SYN_OSC_OSCIN_OK : Field := ⟨0x90000, 31, 1⟩
/-- SYN_OSC.FREQ. -/
def SYN_OSC_FREQ : Field := ⟨0x90000, 0, 27⟩
/-- SYN_APLL_STAT.RELOCK. -/
def SYN_APLL_STAT_RELOCK : Field := ⟨0x90004, 16, 3⟩
/-- SYN_APLL_STAT.LOCK. -/
def SYN_APLL_STAT_LOCK : Field := ⟨0x90004, 0, 3⟩
/-- SYN_APLL1_CFG.REFMUL_USED. -/
def SYN_APLL1_CFG_REFMUL_USED : Field := ⟨0x90008, 16, 2⟩
/-- SYN_APLL1_CFG.REFMUL. -/
def SYN_APLL1_CFG_REFMUL : Field := ⟨0x90008, 0, 2⟩
/-- SYN_RELOCK.FOVR_LIM. -/
def SYN_RELOCK_FOVR_LIM : Field := ⟨0x9000c, 0, 10⟩
/-- SYN_SYNCE_CFG.QL_TX_LOCK. -/
def SYN_SYNCE_CFG_QL_TX_LOCK : Field := ⟨0x90010, 28, 4⟩
/-- SYN_SYNCE_CFG.QL_TX_HOLD. -/
def SYN_SYNCE_CFG_QL_TX_HOLD : Field := ⟨0x90010, 24, 4⟩
/-- SYN_SYNCE_CFG.QL_TX_FREE. -/
def SYN_SYNCE_CFG_QL_TX_FREE : Field := ⟨0x90010, 20, 4⟩
/-- SYN_SYNCE_CFG.QL_TX_HOLD1. -/
def SYN_SYNCE_CFG_QL_TX_HOLD1 : Field := ⟨0x90010, 16, 4⟩
/-- SYN_SYNCE_CFG.QL_REFIN. -/
def SYN_SYNCE_CFG_QL_REFIN : Field := ⟨0x90010, 12, 4⟩
/-- SYN_SYNCE_CFG.ESMC_EN. -/
def SYN_SYNCE_CFG_ESMC_EN : Field := ⟨0x90010, 0, 8⟩
/-- DPLL_CFG.EN. -/
def DPLL_CFG_EN (i : Nat) : Field := ⟨0x90100 + 0x40 * i, 31, 1⟩
/-- DPLL_CFG.REF. -/
def DPLL_CFG_REF (i : Nat) : Field := ⟨0x90100 + 0x40 * i, 24, 6⟩
/-- DPLL_CFG.BW. -/
def DPLL_CFG_BW (i : Nat) : Field := ⟨0x90100 + 0x40 * i, 16, 4⟩
/-- DPLL_CFG.DHO_AVG. -/
def DPLL_CFG_DHO_AVG (i : Nat) : Field := ⟨0x90100 + 0x40 * i, 0, 8⟩
/-- DPLL_LOCK.LOCK_CNT. -/
def DPLL_LOCK_LOCK_CNT (i : Nat) : Field := ⟨0x90104 + 0x40 * i, 24, 8⟩
/-- DPLL_LOCK.LOCK_WIN. -/
def DPLL_LOCK_LOCK_WIN (i : Nat) : Field := ⟨0x90104 + 0x40 * i, 0, 24⟩
/-- DPLL_FSLEW.FSLEW. -/
def DPLL_FSLEW_FSLEW (i : Nat) : Field := ⟨0x90108 + 0x40 * i, 0, 32⟩
/-- DPLL_STAT.VALID. -/
def DPLL_STAT_VALID (i : Nat) : Field := ⟨0x90120 + 0x40 * i, 31, 1⟩
/-- DPLL_STAT.STATE. -/
def DPLL_STAT_STATE (i : Nat) : Field := ⟨0x90120 + 0x40 * i, 28, 3⟩
/-- DPLL_STAT.CLAMP. -/
def DPLL_STAT_CLAMP (i : Nat) : Field := ⟨0x90120 + 0x40 * i, 27, 1⟩
/-- DPLL_STAT.SLEWING. -/
def DPLL_STAT_SLEWING (i : Nat) : Field := ⟨0x90120 + 0x40 * i, 26, 1⟩
/-- DPLL_STAT.REF_USE. -/
def DPLL_STAT_REF_USE (i : Nat) : Field := ⟨0x90120 + 0x40 * i, 8, 6⟩
/-- DPLL_STAT.SEQ. -/
def DPLL_STAT_SEQ (i : Nat) : Field := ⟨0x90120 + 0x40 * i, 0, 8⟩
/-- DPLL_PHERR.E. -/
def DPLL_PHERR_E (i : Nat) : Field := ⟨0x90124 + 0x40 * i, 0, 32⟩
/-- DPLL_FOFS.Y. -/
def DPLL_FOFS_Y (i : Nat) : Field := ⟨0x90128 + 0x40 * i, 0, 32⟩
/-- OUT_CFG.EN. -/
def OUT_CFG_EN (i : Nat) : Field := ⟨0x91000 + 0x80 * i, 31, 1⟩
/-- OUT_CFG.SHARED. -/
def OUT_CFG_SHARED (i : Nat) : Field := ⟨0x91000 + 0x80 * i, 30, 1⟩
/-- OUT_CFG.DITHER. -/
def OUT_CFG_DITHER (i : Nat) : Field := ⟨0x91000 + 0x80 * i, 29, 1⟩
/-- OUT_CFG.SRC. -/
def OUT_CFG_SRC (i : Nat) : Field := ⟨0x91000 + 0x80 * i, 26, 3⟩
/-- OUT_CFG.ELEC. -/
def OUT_CFG_ELEC (i : Nat) : Field := ⟨0x91000 + 0x80 * i, 23, 3⟩
/-- OUT_CFG.INV. -/
def OUT_CFG_INV (i : Nat) : Field := ⟨0x91000 + 0x80 * i, 22, 1⟩
/-- OUT_FN.FN. -/
def OUT_FN_FN (i : Nat) : Field := ⟨0x91004 + 0x80 * i, 0, 32⟩
/-- OUT_FD.FD. -/
def OUT_FD_FD (i : Nat) : Field := ⟨0x91008 + 0x80 * i, 0, 16⟩
/-- OUT_PHOFS_LO.PHOFS. -/
def OUT_PHOFS_LO_PHOFS (i : Nat) : Field := ⟨0x9100c + 0x80 * i, 0, 32⟩
/-- OUT_PHOFS_HI.PHOFS. -/
def OUT_PHOFS_HI_PHOFS (i : Nat) : Field := ⟨0x91010 + 0x80 * i, 0, 16⟩
/-- OUT_DLY.DLY. -/
def OUT_DLY_DLY (i : Nat) : Field := ⟨0x91014 + 0x80 * i, 0, 32⟩
/-- OUT_SEED.SEED. -/
def OUT_SEED_SEED (i : Nat) : Field := ⟨0x91018 + 0x80 * i, 0, 32⟩
/-- OUT_UDIST.U_DIST. -/
def OUT_UDIST_U_DIST (i : Nat) : Field := ⟨0x9101c + 0x80 * i, 0, 32⟩
/-- OUT_STAT.VALID. -/
def OUT_STAT_VALID (i : Nat) : Field := ⟨0x91040 + 0x80 * i, 31, 1⟩
/-- OUT_STAT.STATE. -/
def OUT_STAT_STATE (i : Nat) : Field := ⟨0x91040 + 0x80 * i, 28, 3⟩
/-- OUT_STAT.ALIGNED. -/
def OUT_STAT_ALIGNED (i : Nat) : Field := ⟨0x91040 + 0x80 * i, 27, 1⟩
/-- OUT_STAT.DRV. -/
def OUT_STAT_DRV (i : Nat) : Field := ⟨0x91040 + 0x80 * i, 26, 1⟩
/-- OUT_STAT.CFGERR. -/
def OUT_STAT_CFGERR (i : Nat) : Field := ⟨0x91040 + 0x80 * i, 25, 1⟩
/-- OUT_STAT.SEQ. -/
def OUT_STAT_SEQ (i : Nat) : Field := ⟨0x91040 + 0x80 * i, 0, 8⟩
/-- PLS_CFG.SCHED_EN. -/
def PLS_CFG_SCHED_EN : Field := ⟨0xa0000, 0, 1⟩
/-- PLS_SLEW.ALIGN_SLEW. -/
def PLS_SLEW_ALIGN_SLEW : Field := ⟨0xa0004, 0, 20⟩
/-- PLS_SCH_ADDR.BUSY. -/
def PLS_SCH_ADDR_BUSY : Field := ⟨0xa0040, 31, 1⟩
/-- PLS_SCH_ADDR.ERR. -/
def PLS_SCH_ADDR_ERR : Field := ⟨0xa0040, 30, 1⟩
/-- PLS_SCH_ADDR.CMD. -/
def PLS_SCH_ADDR_CMD : Field := ⟨0xa0040, 16, 2⟩
/-- PLS_SCH_ADDR.INDEX. -/
def PLS_SCH_ADDR_INDEX : Field := ⟨0xa0040, 0, 11⟩
/-- PLS_SCH_DATA.DATA. -/
def PLS_SCH_DATA_DATA (k : Nat) : Field := ⟨0xa0044 + 4 * k, 0, 32⟩
/-- PLS_TOD_CFG.TX_OFS. -/
def PLS_TOD_CFG_TX_OFS : Field := ⟨0xa0080, 16, 10⟩
/-- PLS_TOD_CFG.BAUD. -/
def PLS_TOD_CFG_BAUD : Field := ⟨0xa0080, 7, 3⟩
/-- PLS_TOD_CFG.LABEL. -/
def PLS_TOD_CFG_LABEL : Field := ⟨0xa0080, 6, 1⟩
/-- PLS_TOD_CFG.GEN. -/
def PLS_TOD_CFG_GEN : Field := ⟨0xa0080, 1, 5⟩
/-- PLS_TOD_CFG.EN. -/
def PLS_TOD_CFG_EN : Field := ⟨0xa0080, 0, 1⟩
/-- PLS_TOD_STAT.VALID. -/
def PLS_TOD_STAT_VALID : Field := ⟨0xa0084, 31, 1⟩
/-- PLS_TOD_STAT.CFGERR. -/
def PLS_TOD_STAT_CFGERR : Field := ⟨0xa0084, 30, 1⟩
/-- PLS_TOD_STAT.SEQ. -/
def PLS_TOD_STAT_SEQ : Field := ⟨0xa0084, 0, 8⟩
/-- PLS_TOD_SECL.SEC. -/
def PLS_TOD_SECL_SEC : Field := ⟨0xa0088, 0, 32⟩
/-- PLS_SCH_EN.EN. -/
def PLS_SCH_EN_EN (k : Nat) : Field := ⟨0xa0100 + 4 * k, 0, 32⟩
/-- GEN_CFG.JRNL_EDGE. -/
def GEN_CFG_JRNL_EDGE (i : Nat) : Field := ⟨0xa1000 + 0x40 * i, 4, 1⟩
/-- GEN_CFG.MODE. -/
def GEN_CFG_MODE (i : Nat) : Field := ⟨0xa1000 + 0x40 * i, 0, 2⟩
/-- GEN_UDIST.U_DIST. -/
def GEN_UDIST_U_DIST (i : Nat) : Field := ⟨0xa1004 + 0x40 * i, 0, 32⟩
/-- GEN_IRIG.LOC_OFS. -/
def GEN_IRIG_LOC_OFS (i : Nat) : Field := ⟨0xa1008 + 0x40 * i, 16, 7⟩
/-- GEN_IRIG.DSP. -/
def GEN_IRIG_DSP (i : Nat) : Field := ⟨0xa1008 + 0x40 * i, 9, 1⟩
/-- GEN_IRIG.DST. -/
def GEN_IRIG_DST (i : Nat) : Field := ⟨0xa1008 + 0x40 * i, 8, 1⟩
/-- GEN_IRIG.TQ_MODE. -/
def GEN_IRIG_TQ_MODE (i : Nat) : Field := ⟨0xa1008 + 0x40 * i, 6, 1⟩
/-- GEN_IRIG.EXT. -/
def GEN_IRIG_EXT (i : Nat) : Field := ⟨0xa1008 + 0x40 * i, 4, 2⟩
/-- GEN_IRIG.FORMAT. -/
def GEN_IRIG_FORMAT (i : Nat) : Field := ⟨0xa1008 + 0x40 * i, 0, 3⟩
/-- GEN_TOL.EDGE_TOL. -/
def GEN_TOL_EDGE_TOL (i : Nat) : Field := ⟨0xa100c + 0x40 * i, 0, 16⟩
/-- GEN_STAT.VALID. -/
def GEN_STAT_VALID (i : Nat) : Field := ⟨0xa1020 + 0x40 * i, 31, 1⟩
/-- GEN_STAT.STATE. -/
def GEN_STAT_STATE (i : Nat) : Field := ⟨0xa1020 + 0x40 * i, 28, 3⟩
/-- GEN_STAT.LEVEL. -/
def GEN_STAT_LEVEL (i : Nat) : Field := ⟨0xa1020 + 0x40 * i, 27, 1⟩
/-- GEN_STAT.DRV. -/
def GEN_STAT_DRV (i : Nat) : Field := ⟨0xa1020 + 0x40 * i, 26, 1⟩
/-- GEN_STAT.H_SAT. -/
def GEN_STAT_H_SAT (i : Nat) : Field := ⟨0xa1020 + 0x40 * i, 25, 1⟩
/-- GEN_STAT.CFGERR. -/
def GEN_STAT_CFGERR (i : Nat) : Field := ⟨0xa1020 + 0x40 * i, 24, 1⟩
/-- GEN_STAT.SEQ. -/
def GEN_STAT_SEQ (i : Nat) : Field := ⟨0xa1020 + 0x40 * i, 0, 8⟩
/-- GEN_HELD_LO.H. -/
def GEN_HELD_LO_H (i : Nat) : Field := ⟨0xa1024 + 0x40 * i, 0, 32⟩
/-- GEN_HELD_HI.H. -/
def GEN_HELD_HI_H (i : Nat) : Field := ⟨0xa1028 + 0x40 * i, 0, 32⟩
/-- GEN_EVTCAL.CAL. -/
def GEN_EVTCAL_CAL (i : Nat) : Field := ⟨0xa102c + 0x40 * i, 0, 32⟩
/-- GEN_LAST_LO.LAST. -/
def GEN_LAST_LO_LAST (i : Nat) : Field := ⟨0xa1030 + 0x40 * i, 0, 32⟩
/-- GEN_LAST_HI.LAST. -/
def GEN_LAST_HI_LAST (i : Nat) : Field := ⟨0xa1034 + 0x40 * i, 0, 32⟩
/-- GEN_JDROP.JRNL_DROP. -/
def GEN_JDROP_JRNL_DROP (i : Nat) : Field := ⟨0xa1038 + 0x40 * i, 0, 16⟩
/-- LANE_SUM.UP. -/
def LANE_SUM_UP : Field := ⟨0xb0000, 0, 18⟩
/-- LN_CFG.TX_INV. -/
def LN_CFG_TX_INV (i : Nat) : Field := ⟨0xb1000 + 0x100 * i, 31, 1⟩
/-- LN_CFG.RX_POL_AUTO. -/
def LN_CFG_RX_POL_AUTO (i : Nat) : Field := ⟨0xb1000 + 0x100 * i, 30, 1⟩
/-- LN_CFG.RX_INV. -/
def LN_CFG_RX_INV (i : Nat) : Field := ⟨0xb1000 + 0x100 * i, 29, 1⟩
/-- LN_CFG.RATE28. -/
def LN_CFG_RATE28 (i : Nat) : Field := ⟨0xb1000 + 0x100 * i, 28, 1⟩
/-- LN_CFG.PRBS. -/
def LN_CFG_PRBS (i : Nat) : Field := ⟨0xb1000 + 0x100 * i, 24, 2⟩
/-- LN_TXEQ.PRE. -/
def LN_TXEQ_PRE (i : Nat) : Field := ⟨0xb1004 + 0x100 * i, 16, 6⟩
/-- LN_TXEQ.MAIN. -/
def LN_TXEQ_MAIN (i : Nat) : Field := ⟨0xb1004 + 0x100 * i, 8, 6⟩
/-- LN_TXEQ.POST. -/
def LN_TXEQ_POST (i : Nat) : Field := ⟨0xb1004 + 0x100 * i, 0, 6⟩
/-- LN_EYE_CFG.EYE_INT. -/
def LN_EYE_CFG_EYE_INT (i : Nat) : Field := ⟨0xb1008 + 0x100 * i, 16, 16⟩
/-- LN_EYE_CFG.EYE_MIN_H. -/
def LN_EYE_CFG_EYE_MIN_H (i : Nat) : Field := ⟨0xb1008 + 0x100 * i, 8, 8⟩
/-- LN_EYE_CFG.EYE_MIN_V. -/
def LN_EYE_CFG_EYE_MIN_V (i : Nat) : Field := ⟨0xb1008 + 0x100 * i, 0, 8⟩
/-- LN_STAT.VALID. -/
def LN_STAT_VALID (i : Nat) : Field := ⟨0xb1040 + 0x100 * i, 31, 1⟩
/-- LN_STAT.STATE. -/
def LN_STAT_STATE (i : Nat) : Field := ⟨0xb1040 + 0x100 * i, 28, 3⟩
/-- LN_STAT.SIG_DET. -/
def LN_STAT_SIG_DET (i : Nat) : Field := ⟨0xb1040 + 0x100 * i, 27, 1⟩
/-- LN_STAT.CDR_LOCK. -/
def LN_STAT_CDR_LOCK (i : Nat) : Field := ⟨0xb1040 + 0x100 * i, 26, 1⟩
/-- LN_STAT.RX_INV_DET. -/
def LN_STAT_RX_INV_DET (i : Nat) : Field := ⟨0xb1040 + 0x100 * i, 25, 1⟩
/-- LN_STAT.PRBS_LOCK. -/
def LN_STAT_PRBS_LOCK (i : Nat) : Field := ⟨0xb1040 + 0x100 * i, 24, 1⟩
/-- LN_STAT.FEC_LANE. -/
def LN_STAT_FEC_LANE (i : Nat) : Field := ⟨0xb1040 + 0x100 * i, 20, 2⟩
/-- LN_STAT.SEQ. -/
def LN_STAT_SEQ (i : Nat) : Field := ⟨0xb1040 + 0x100 * i, 0, 8⟩
/-- LN_EYE.EYE_H. -/
def LN_EYE_EYE_H (i : Nat) : Field := ⟨0xb1044 + 0x100 * i, 16, 16⟩
/-- LN_EYE.EYE_V. -/
def LN_EYE_EYE_V (i : Nat) : Field := ⟨0xb1044 + 0x100 * i, 0, 16⟩
/-- LN_PRBS_LO.ERR. -/
def LN_PRBS_LO_ERR (i : Nat) : Field := ⟨0xb1048 + 0x100 * i, 0, 32⟩
/-- LN_PRBS_HI.ERR. -/
def LN_PRBS_HI_ERR (i : Nat) : Field := ⟨0xb104c + 0x100 * i, 0, 16⟩
/-- MAC_MODE.EN. -/
def MAC_MODE_EN (i : Nat) : Field := ⟨0xc0000 + 0x2000 * i, 31, 1⟩
/-- MAC_MODE.MODE. -/
def MAC_MODE_MODE (i : Nat) : Field := ⟨0xc0000 + 0x2000 * i, 28, 2⟩
/-- MAC_MODE.FEC. -/
def MAC_MODE_FEC (i : Nat) : Field := ⟨0xc0000 + 0x2000 * i, 26, 2⟩
/-- MAC_MODE.AN_EN. -/
def MAC_MODE_AN_EN (i : Nat) : Field := ⟨0xc0000 + 0x2000 * i, 25, 1⟩
/-- MAC_MODE.TX_REV. -/
def MAC_MODE_TX_REV (i : Nat) : Field := ⟨0xc0000 + 0x2000 * i, 24, 1⟩
/-- MAC_MODE.SQ_SAFE. -/
def MAC_MODE_SQ_SAFE (i : Nat) : Field := ⟨0xc0000 + 0x2000 * i, 23, 1⟩
/-- MAC_MODE.MAX_LEN. -/
def MAC_MODE_MAX_LEN (i : Nat) : Field := ⟨0xc0000 + 0x2000 * i, 0, 14⟩
/-- MAC_ADDR_LO.ADDR. -/
def MAC_ADDR_LO_ADDR (i : Nat) : Field := ⟨0xc0004 + 0x2000 * i, 0, 32⟩
/-- MAC_ADDR_HI.ADDR. -/
def MAC_ADDR_HI_ADDR (i : Nat) : Field := ⟨0xc0008 + 0x2000 * i, 0, 16⟩
/-- MAC_RXF.PROMISC. -/
def MAC_RXF_PROMISC (i : Nat) : Field := ⟨0xc000c + 0x2000 * i, 4, 1⟩
/-- MAC_RXF.MCAST_ALL. -/
def MAC_RXF_MCAST_ALL (i : Nat) : Field := ⟨0xc000c + 0x2000 * i, 3, 1⟩
/-- MAC_RXF.PTP_L2. -/
def MAC_RXF_PTP_L2 (i : Nat) : Field := ⟨0xc000c + 0x2000 * i, 2, 1⟩
/-- MAC_RXF.BCAST. -/
def MAC_RXF_BCAST (i : Nat) : Field := ⟨0xc000c + 0x2000 * i, 1, 1⟩
/-- MAC_VLAN.STPID. -/
def MAC_VLAN_STPID (i : Nat) : Field := ⟨0xc0010 + 0x2000 * i, 16, 16⟩
/-- MAC_VLAN.CTPID. -/
def MAC_VLAN_CTPID (i : Nat) : Field := ⟨0xc0010 + 0x2000 * i, 0, 16⟩
/-- MAC_PFC.EXEMPT. -/
def MAC_PFC_EXEMPT (i : Nat) : Field := ⟨0xc0014 + 0x2000 * i, 16, 1⟩
/-- MAC_PFC.PAUSE_EN. -/
def MAC_PFC_PAUSE_EN (i : Nat) : Field := ⟨0xc0014 + 0x2000 * i, 8, 1⟩
/-- MAC_PFC.PFC_EN. -/
def MAC_PFC_PFC_EN (i : Nat) : Field := ⟨0xc0014 + 0x2000 * i, 0, 8⟩
/-- MAC_PWD.PWD_HOLD. -/
def MAC_PWD_PWD_HOLD (i : Nat) : Field := ⟨0xc0018 + 0x2000 * i, 16, 16⟩
/-- MAC_PWD.PWD_LIM. -/
def MAC_PWD_PWD_LIM (i : Nat) : Field := ⟨0xc0018 + 0x2000 * i, 0, 16⟩
/-- MAC_CNT_CFG.NOTIFY. -/
def MAC_CNT_CFG_NOTIFY (i : Nat) : Field := ⟨0xc001c + 0x2000 * i, 7, 1⟩
/-- MAC_CNT_CFG.EVRING. -/
def MAC_CNT_CFG_EVRING (i : Nat) : Field := ⟨0xc001c + 0x2000 * i, 0, 6⟩
/-- MAC_STAT.VALID. -/
def MAC_STAT_VALID (i : Nat) : Field := ⟨0xc0040 + 0x2000 * i, 31, 1⟩
/-- MAC_STAT.LINK. -/
def MAC_STAT_LINK (i : Nat) : Field := ⟨0xc0040 + 0x2000 * i, 28, 3⟩
/-- MAC_STAT.LF. -/
def MAC_STAT_LF (i : Nat) : Field := ⟨0xc0040 + 0x2000 * i, 27, 1⟩
/-- MAC_STAT.RF. -/
def MAC_STAT_RF (i : Nat) : Field := ⟨0xc0040 + 0x2000 * i, 26, 1⟩
/-- MAC_STAT.FEC_LOCK. -/
def MAC_STAT_FEC_LOCK (i : Nat) : Field := ⟨0xc0040 + 0x2000 * i, 25, 1⟩
/-- MAC_STAT.AN_DONE. -/
def MAC_STAT_AN_DONE (i : Nat) : Field := ⟨0xc0040 + 0x2000 * i, 24, 1⟩
/-- MAC_STAT.REV. -/
def MAC_STAT_REV (i : Nat) : Field := ⟨0xc0040 + 0x2000 * i, 23, 1⟩
/-- MAC_STAT.CFGERR. -/
def MAC_STAT_CFGERR (i : Nat) : Field := ⟨0xc0040 + 0x2000 * i, 22, 1⟩
/-- MAC_STAT.CAUSE. -/
def MAC_STAT_CAUSE (i : Nat) : Field := ⟨0xc0040 + 0x2000 * i, 16, 4⟩
/-- MAC_STAT.LANE_MAP. -/
def MAC_STAT_LANE_MAP (i : Nat) : Field := ⟨0xc0040 + 0x2000 * i, 8, 8⟩
/-- MAC_STAT.SEQ. -/
def MAC_STAT_SEQ (i : Nat) : Field := ⟨0xc0040 + 0x2000 * i, 0, 8⟩
/-- MAC_DESKEW.DESKEW. -/
def MAC_DESKEW_DESKEW (i : Nat) : Field := ⟨0xc0044 + 0x2000 * i, 0, 16⟩
/-- MAC_PAUSE_STAT.HOLD. -/
def MAC_PAUSE_STAT_HOLD (i : Nat) : Field := ⟨0xc0048 + 0x2000 * i, 16, 9⟩
/-- MAC_PAUSE_STAT.PAUSED. -/
def MAC_PAUSE_STAT_PAUSED (i : Nat) : Field := ⟨0xc0048 + 0x2000 * i, 0, 9⟩
/-- MAC_CNT_LO.CNT. -/
def MAC_CNT_LO_CNT (i k : Nat) : Field := ⟨0xc1000 + 0x2000 * i + 8 * k, 0, 32⟩
/-- MAC_CNT_HI.CNT. -/
def MAC_CNT_HI_CNT (i k : Nat) : Field := ⟨0xc1004 + 0x2000 * i + 8 * k, 0, 16⟩
/-- RG_CFG.MODE. -/
def RG_CFG_MODE (i : Nat) : Field := ⟨0xd0000 + 0x20 * i, 30, 2⟩
/-- RG_CFG.SUP_EN. -/
def RG_CFG_SUP_EN (i : Nat) : Field := ⟨0xd0000 + 0x20 * i, 29, 1⟩
/-- RG_CFG.PORT_A. -/
def RG_CFG_PORT_A (i : Nat) : Field := ⟨0xd0000 + 0x20 * i, 24, 3⟩
/-- RG_CFG.PORT_B. -/
def RG_CFG_PORT_B (i : Nat) : Field := ⟨0xd0000 + 0x20 * i, 20, 3⟩
/-- RG_CFG.NETID. -/
def RG_CFG_NETID (i : Nat) : Field := ⟨0xd0000 + 0x20 * i, 16, 3⟩
/-- RG_CFG.FORGET. -/
def RG_CFG_FORGET (i : Nat) : Field := ⟨0xd0000 + 0x20 * i, 0, 10⟩
/-- RG_SUP.SUP_INT. -/
def RG_SUP_SUP_INT (i : Nat) : Field := ⟨0xd0004 + 0x20 * i, 0, 16⟩
/-- RG_STAT.VALID. -/
def RG_STAT_VALID (i : Nat) : Field := ⟨0xd0008 + 0x20 * i, 31, 1⟩
/-- RG_STAT.CFGERR. -/
def RG_STAT_CFGERR (i : Nat) : Field := ⟨0xd0008 + 0x20 * i, 30, 1⟩
/-- RG_STAT.SEQ_NEXT. -/
def RG_STAT_SEQ_NEXT (i : Nat) : Field := ⟨0xd0008 + 0x20 * i, 8, 16⟩
/-- RG_STAT.SEQ. -/
def RG_STAT_SEQ (i : Nat) : Field := ⟨0xd0008 + 0x20 * i, 0, 8⟩
/-- TSU_CFG.SLIP. -/
def TSU_CFG_SLIP : Field := ⟨0xe0000, 20, 12⟩
/-- TSU_CFG.VTOL. -/
def TSU_CFG_VTOL : Field := ⟨0xe0000, 0, 14⟩
/-- TSU_GEGR.G_EGR. -/
def TSU_GEGR_G_EGR : Field := ⟨0xe0004, 0, 8⟩
/-- TSU_TXDLY.TX_DLY. -/
def TSU_TXDLY_TX_DLY (i : Nat) : Field := ⟨0xe1000 + 0x100 * i, 0, 14⟩
/-- TSU_RXDLY.RX_DLY. -/
def TSU_RXDLY_RX_DLY (i : Nat) : Field := ⟨0xe1004 + 0x100 * i, 0, 14⟩
/-- TSU_ASYM.A. -/
def TSU_ASYM_A (i : Nat) : Field := ⟨0xe1008 + 0x100 * i, 0, 32⟩
/-- TSU_UDLY.U_TXDLY. -/
def TSU_UDLY_U_TXDLY (i : Nat) : Field := ⟨0xe100c + 0x100 * i, 0, 16⟩
/-- TSU_LAT.T_RXP. -/
def TSU_LAT_T_RXP (i : Nat) : Field := ⟨0xe1010 + 0x100 * i, 16, 16⟩
/-- TSU_LAT.T_TXP. -/
def TSU_LAT_T_TXP (i : Nat) : Field := ⟨0xe1010 + 0x100 * i, 0, 16⟩
/-- TSU_GRID.GRID. -/
def TSU_GRID_GRID (i : Nat) : Field := ⟨0xe1014 + 0x100 * i, 0, 16⟩
/-- TSU_UNC.UNC. -/
def TSU_UNC_UNC (i : Nat) : Field := ⟨0xe1018 + 0x100 * i, 0, 16⟩
/-- TSU_STAT.VALID. -/
def TSU_STAT_VALID (i : Nat) : Field := ⟨0xe1040 + 0x100 * i, 31, 1⟩
/-- TSU_STAT.GRP. -/
def TSU_STAT_GRP (i : Nat) : Field := ⟨0xe1040 + 0x100 * i, 30, 1⟩
/-- TSU_STAT.CAL_RUN. -/
def TSU_STAT_CAL_RUN (i : Nat) : Field := ⟨0xe1040 + 0x100 * i, 29, 1⟩
/-- TSU_STAT.CAL_SUSP. -/
def TSU_STAT_CAL_SUSP (i : Nat) : Field := ⟨0xe1040 + 0x100 * i, 28, 1⟩
/-- TSU_STAT.CAL_METHOD. -/
def TSU_STAT_CAL_METHOD (i : Nat) : Field := ⟨0xe1040 + 0x100 * i, 25, 2⟩
/-- TSU_STAT.SEQ. -/
def TSU_STAT_SEQ (i : Nat) : Field := ⟨0xe1040 + 0x100 * i, 0, 8⟩
/-- TSU_CAL_RES.R. -/
def TSU_CAL_RES_R (i : Nat) : Field := ⟨0xe1044 + 0x100 * i, 0, 32⟩
/-- TSU_CAL_U.U. -/
def TSU_CAL_U_U (i : Nat) : Field := ⟨0xe1048 + 0x100 * i, 0, 32⟩
/-- TSU_CAL_N.N. -/
def TSU_CAL_N_N (i : Nat) : Field := ⟨0xe104c + 0x100 * i, 0, 32⟩
/-- TSU_CNT_LO.CNT. -/
def TSU_CNT_LO_CNT (i k : Nat) : Field := ⟨0xe1080 + 0x100 * i + 8 * k, 0, 32⟩
/-- TSU_CNT_HI.CNT. -/
def TSU_CNT_HI_CNT (i k : Nat) : Field := ⟨0xe1084 + 0x100 * i + 8 * k, 0, 16⟩
/-- CLA_CFG.DEF_ACTION. -/
def CLA_CFG_DEF_ACTION : Field := ⟨0x100000, 30, 2⟩
/-- CLA_CFG.DEF_PROFILE. -/
def CLA_CFG_DEF_PROFILE : Field := ⟨0x100000, 24, 6⟩
/-- CLA_CFG.DEF_RATE. -/
def CLA_CFG_DEF_RATE : Field := ⟨0x100000, 16, 6⟩
/-- CLA_ENG_MAP.ROLE. -/
def CLA_ENG_MAP_ROLE (k : Nat) : Field := ⟨0x100004 + 4 * k, 0, 32⟩
/-- CLA_ADM_CFG.TIGHT_HOLD. -/
def CLA_ADM_CFG_TIGHT_HOLD : Field := ⟨0x10000c, 16, 16⟩
/-- CLA_ADM_CFG.MARGIN. -/
def CLA_ADM_CFG_MARGIN : Field := ⟨0x10000c, 8, 8⟩
/-- CLA_ADM_CFG.S_FLOOR. -/
def CLA_ADM_CFG_S_FLOOR : Field := ⟨0x10000c, 0, 7⟩
/-- CLA_KOD.KOD_MAX. -/
def CLA_KOD_KOD_MAX : Field := ⟨0x100010, 0, 24⟩
/-- CLA_PUNT.PUNT_MAX. -/
def CLA_PUNT_PUNT_MAX : Field := ⟨0x100014, 8, 24⟩
/-- CLA_PUNT.EN. -/
def CLA_PUNT_EN : Field := ⟨0x100014, 7, 1⟩
/-- CLA_PUNT.RING. -/
def CLA_PUNT_RING : Field := ⟨0x100014, 0, 6⟩
/-- CLA_INJ.EN. -/
def CLA_INJ_EN : Field := ⟨0x100018, 7, 1⟩
/-- CLA_INJ.RING. -/
def CLA_INJ_RING : Field := ⟨0x100018, 0, 6⟩
/-- CLA_CTRL.FU_DELAY. -/
def CLA_CTRL_FU_DELAY : Field := ⟨0x10001c, 24, 8⟩
/-- CLA_CTRL.STREAM_LEAD. -/
def CLA_CTRL_STREAM_LEAD : Field := ⟨0x10001c, 12, 12⟩
/-- CLA_CTRL.CTRL_QMAX. -/
def CLA_CTRL_CTRL_QMAX : Field := ⟨0x10001c, 0, 9⟩
/-- CLA_GT_BASE_LO.GT_BASE. -/
def CLA_GT_BASE_LO_GT_BASE : Field := ⟨0x100020, 12, 20⟩
/-- CLA_GT_BASE_HI.GT_BASE. -/
def CLA_GT_BASE_HI_GT_BASE : Field := ⟨0x100024, 0, 32⟩
/-- CLA_GT_CFG.EN. -/
def CLA_GT_CFG_EN : Field := ⟨0x100028, 31, 1⟩
/-- CLA_GT_CFG.LOG2_N. -/
def CLA_GT_CFG_LOG2_N : Field := ⟨0x100028, 16, 5⟩
/-- CLA_GT_CFG.GT_LOG_SYNC. -/
def CLA_GT_CFG_GT_LOG_SYNC : Field := ⟨0x100028, 8, 4⟩
/-- CLA_GT_CFG.GT_LOG_ANN. -/
def CLA_GT_CFG_GT_LOG_ANN : Field := ⟨0x100028, 4, 4⟩
/-- CLA_GT_DUR.GT_DUR. -/
def CLA_GT_DUR_GT_DUR : Field := ⟨0x10002c, 0, 16⟩
/-- CLA_SEQ_KEY.KEY. -/
def CLA_SEQ_KEY_KEY (k : Nat) : Field := ⟨0x100030 + 4 * k, 0, 32⟩
/-- CLA_STAT.VALID. -/
def CLA_STAT_VALID : Field := ⟨0x100040, 31, 1⟩
/-- CLA_STAT.CFGERR. -/
def CLA_STAT_CFGERR : Field := ⟨0x100040, 30, 1⟩
/-- CLA_STAT.KEY_V. -/
def CLA_STAT_KEY_V : Field := ⟨0x100040, 29, 1⟩
/-- CLA_STAT.STARVED. -/
def CLA_STAT_STARVED : Field := ⟨0x100040, 16, 4⟩
/-- CLA_STAT.SEQ. -/
def CLA_STAT_SEQ : Field := ⟨0x100040, 0, 8⟩
/-- CLA_SADM.S_ADM. -/
def CLA_SADM_S_ADM : Field := ⟨0x100044, 0, 16⟩
/-- CLA_STR_ADDR.BUSY. -/
def CLA_STR_ADDR_BUSY : Field := ⟨0x100060, 31, 1⟩
/-- CLA_STR_ADDR.ERR. -/
def CLA_STR_ADDR_ERR : Field := ⟨0x100060, 30, 1⟩
/-- CLA_STR_ADDR.CMD. -/
def CLA_STR_ADDR_CMD : Field := ⟨0x100060, 16, 2⟩
/-- CLA_STR_ADDR.INDEX. -/
def CLA_STR_ADDR_INDEX : Field := ⟨0x100060, 0, 9⟩
/-- CLA_STR_DATA.DATA. -/
def CLA_STR_DATA_DATA (k : Nat) : Field := ⟨0x100064 + 4 * k, 0, 32⟩
/-- CLA_RULE_ADDR.BUSY. -/
def CLA_RULE_ADDR_BUSY : Field := ⟨0x100090, 31, 1⟩
/-- CLA_RULE_ADDR.ERR. -/
def CLA_RULE_ADDR_ERR : Field := ⟨0x100090, 30, 1⟩
/-- CLA_RULE_ADDR.CMD. -/
def CLA_RULE_ADDR_CMD : Field := ⟨0x100090, 16, 2⟩
/-- CLA_RULE_ADDR.INDEX. -/
def CLA_RULE_ADDR_INDEX : Field := ⟨0x100090, 0, 12⟩
/-- CLA_RULE_DATA.DATA. -/
def CLA_RULE_DATA_DATA (k : Nat) : Field := ⟨0x100094 + 4 * k, 0, 32⟩
/-- CLA_VIO_LO.VIO. -/
def CLA_VIO_LO_VIO (k : Nat) : Field := ⟨0x100200 + 8 * k, 0, 32⟩
/-- CLA_VIO_HI.VIO. -/
def CLA_VIO_HI_VIO (k : Nat) : Field := ⟨0x100204 + 8 * k, 0, 16⟩
/-- CLS_CFG.Q_LIM. -/
def CLS_CFG_Q_LIM (i : Nat) : Field := ⟨0x100100 + 0x40 * i, 0, 9⟩
/-- CLS_STAT.VALID. -/
def CLS_STAT_VALID (i : Nat) : Field := ⟨0x100104 + 0x40 * i, 31, 1⟩
/-- CLS_STAT.E_CLS. -/
def CLS_STAT_E_CLS (i : Nat) : Field := ⟨0x100104 + 0x40 * i, 24, 5⟩
/-- CLS_STAT.E_AV. -/
def CLS_STAT_E_AV (i : Nat) : Field := ⟨0x100104 + 0x40 * i, 16, 5⟩
/-- CLS_STAT.SEQ. -/
def CLS_STAT_SEQ (i : Nat) : Field := ⟨0x100104 + 0x40 * i, 0, 8⟩
/-- CLS_Q.Q_EFF. -/
def CLS_Q_Q_EFF (i : Nat) : Field := ⟨0x100108 + 0x40 * i, 16, 9⟩
/-- CLS_Q.Q_SPD. -/
def CLS_Q_Q_SPD (i : Nat) : Field := ⟨0x100108 + 0x40 * i, 0, 9⟩
/-- CLS_Q2.Q_TGT. -/
def CLS_Q2_Q_TGT (i : Nat) : Field := ⟨0x10010c + 0x40 * i, 16, 9⟩
/-- CLS_Q2.Q_PLN. -/
def CLS_Q2_Q_PLN (i : Nat) : Field := ⟨0x10010c + 0x40 * i, 0, 9⟩
/-- CLS_LB.L_B. -/
def CLS_LB_L_B (i k : Nat) : Field := ⟨0x100110 + 0x40 * i + 4 * k, 0, 20⟩
/-- CLS_W.W. -/
def CLS_W_W (i : Nat) : Field := ⟨0x100120 + 0x40 * i, 0, 20⟩
/-- CLS_OCC.OCC. -/
def CLS_OCC_OCC (i : Nat) : Field := ⟨0x100124 + 0x40 * i, 0, 9⟩
/-- CLS_CNT_LO.CNT. -/
def CLS_CNT_LO_CNT (i k : Nat) : Field := ⟨0x100300 + 0x20 * i + 8 * k, 0, 32⟩
/-- CLS_CNT_HI.CNT. -/
def CLS_CNT_HI_CNT (i k : Nat) : Field := ⟨0x100304 + 0x20 * i + 8 * k, 0, 16⟩
/-- RC_RATE.RATE. -/
def RC_RATE_RATE (i : Nat) : Field := ⟨0x100400 + 0x10 * i, 0, 32⟩
/-- RC_BURST.BURST. -/
def RC_BURST_BURST (i : Nat) : Field := ⟨0x100404 + 0x10 * i, 0, 16⟩
/-- RC_XS_LO.EXCESS. -/
def RC_XS_LO_EXCESS (i : Nat) : Field := ⟨0x100408 + 0x10 * i, 0, 32⟩
/-- RC_XS_HI.EXCESS. -/
def RC_XS_HI_EXCESS (i : Nat) : Field := ⟨0x10040c + 0x10 * i, 0, 16⟩
/-- PCL_CFG.EN. -/
def PCL_CFG_EN (i : Nat) : Field := ⟨0x100c00 + 0x40 * i, 31, 1⟩
/-- PCL_CFG.PROFILE. -/
def PCL_CFG_PROFILE (i : Nat) : Field := ⟨0x100c00 + 0x40 * i, 24, 6⟩
/-- PCL_CFG.CHOICE. -/
def PCL_CFG_CHOICE (i : Nat) : Field := ⟨0x100c00 + 0x40 * i, 23, 1⟩
/-- PCL_CFG.LOG_DREQ. -/
def PCL_CFG_LOG_DREQ (i : Nat) : Field := ⟨0x100c00 + 0x40 * i, 8, 8⟩
/-- PCL_CFG.LOG_ANNREQ. -/
def PCL_CFG_LOG_ANNREQ (i : Nat) : Field := ⟨0x100c00 + 0x40 * i, 0, 8⟩
/-- PCL_MID_LO.MASTER_ID. -/
def PCL_MID_LO_MASTER_ID (i : Nat) : Field := ⟨0x100c04 + 0x40 * i, 0, 32⟩
/-- PCL_MID_HI.MASTER_ID. -/
def PCL_MID_HI_MASTER_ID (i : Nat) : Field := ⟨0x100c08 + 0x40 * i, 0, 32⟩
/-- PCL_MIP.MASTER_IP. -/
def PCL_MIP_MASTER_IP (i k : Nat) : Field := ⟨0x100c0c + 0x40 * i + 4 * k, 0, 32⟩
/-- PCL_STAT.VALID. -/
def PCL_STAT_VALID (i : Nat) : Field := ⟨0x100c20 + 0x40 * i, 31, 1⟩
/-- PCL_STAT.MASTER_V. -/
def PCL_STAT_MASTER_V (i : Nat) : Field := ⟨0x100c20 + 0x40 * i, 30, 1⟩
/-- PCL_STAT.SEQ. -/
def PCL_STAT_SEQ (i : Nat) : Field := ⟨0x100c20 + 0x40 * i, 0, 8⟩
/-- PCL_SEL_LO.SEL_ID. -/
def PCL_SEL_LO_SEL_ID (i : Nat) : Field := ⟨0x100c24 + 0x40 * i, 0, 32⟩
/-- PCL_SEL_HI.SEL_ID. -/
def PCL_SEL_HI_SEL_ID (i : Nat) : Field := ⟨0x100c28 + 0x40 * i, 0, 32⟩
/-- PB_CFG.EN. -/
def PB_CFG_EN (i : Nat) : Field := ⟨0x101000 + 0x40 * i, 31, 1⟩
/-- PB_CFG.TYPE. -/
def PB_CFG_TYPE (i : Nat) : Field := ⟨0x101000 + 0x40 * i, 27, 4⟩
/-- PB_CFG.TRANSPORT. -/
def PB_CFG_TRANSPORT (i : Nat) : Field := ⟨0x101000 + 0x40 * i, 25, 2⟩
/-- PB_CFG.TWO_STEP. -/
def PB_CFG_TWO_STEP (i : Nat) : Field := ⟨0x101000 + 0x40 * i, 24, 1⟩
/-- PB_CFG.GLOSS_TLV. -/
def PB_CFG_GLOSS_TLV (i : Nat) : Field := ⟨0x101000 + 0x40 * i, 23, 1⟩
/-- PB_CFG.NTP_GLS. -/
def PB_CFG_NTP_GLS (i : Nat) : Field := ⟨0x101000 + 0x40 * i, 21, 2⟩
/-- PB_CFG.SEC. -/
def PB_CFG_SEC (i : Nat) : Field := ⟨0x101000 + 0x40 * i, 20, 1⟩
/-- PB_CFG.DOMAIN. -/
def PB_CFG_DOMAIN (i : Nat) : Field := ⟨0x101000 + 0x40 * i, 0, 8⟩
/-- PB_DS.PRIORITY1. -/
def PB_DS_PRIORITY1 (i : Nat) : Field := ⟨0x101004 + 0x40 * i, 24, 8⟩
/-- PB_DS.PRIORITY2. -/
def PB_DS_PRIORITY2 (i : Nat) : Field := ⟨0x101004 + 0x40 * i, 16, 8⟩
/-- PB_DS.LOCAL_PRIO. -/
def PB_DS_LOCAL_PRIO (i : Nat) : Field := ⟨0x101004 + 0x40 * i, 8, 8⟩
/-- PB_OSLV.OSLV. -/
def PB_OSLV_OSLV (i : Nat) : Field := ⟨0x101008 + 0x40 * i, 0, 16⟩
/-- PB_SDO.SDOID. -/
def PB_SDO_SDOID (i : Nat) : Field := ⟨0x10100c + 0x40 * i, 0, 12⟩
/-- PB_CLKID_LO.CLKID. -/
def PB_CLKID_LO_CLKID (i : Nat) : Field := ⟨0x101010 + 0x40 * i, 0, 32⟩
/-- PB_CLKID_HI.CLKID. -/
def PB_CLKID_HI_CLKID (i : Nat) : Field := ⟨0x101014 + 0x40 * i, 0, 32⟩
/-- PB_INTV.LOG_DREQ. -/
def PB_INTV_LOG_DREQ (i : Nat) : Field := ⟨0x101018 + 0x40 * i, 0, 8⟩
/-- PB_SPP.SPP. -/
def PB_SPP_SPP (i : Nat) : Field := ⟨0x10101c + 0x40 * i, 0, 8⟩
/-- SAT_CFG.SEAL_CHK. -/
def SAT_CFG_SEAL_CHK : Field := ⟨0x120000, 0, 1⟩
/-- SAT_CUR_NTS.V. -/
def SAT_CUR_NTS_V : Field := ⟨0x120004, 31, 1⟩
/-- SAT_CUR_NTS.INDEX. -/
def SAT_CUR_NTS_INDEX : Field := ⟨0x120004, 0, 13⟩
/-- SAT_CUR_GRANT.V. -/
def SAT_CUR_GRANT_V : Field := ⟨0x120008, 31, 1⟩
/-- SAT_CUR_GRANT.INDEX. -/
def SAT_CUR_GRANT_INDEX : Field := ⟨0x120008, 0, 13⟩
/-- SAT_STAT.VALID. -/
def SAT_STAT_VALID : Field := ⟨0x120010, 31, 1⟩
/-- SAT_STAT.CY_RDY. -/
def SAT_STAT_CY_RDY : Field := ⟨0x120010, 30, 1⟩
/-- SAT_STAT.DRBG_OK. -/
def SAT_STAT_DRBG_OK : Field := ⟨0x120010, 29, 1⟩
/-- SAT_STAT.KAT_OK. -/
def SAT_STAT_KAT_OK : Field := ⟨0x120010, 28, 1⟩
/-- SAT_STAT.REKEY_RUN. -/
def SAT_STAT_REKEY_RUN : Field := ⟨0x120010, 27, 1⟩
/-- SAT_STAT.REKEY_SUSP. -/
def SAT_STAT_REKEY_SUSP : Field := ⟨0x120010, 26, 1⟩
/-- SAT_STAT.SEQ. -/
def SAT_STAT_SEQ : Field := ⟨0x120010, 0, 8⟩
/-- SAT_USED.USED. -/
def SAT_USED_USED : Field := ⟨0x120014, 0, 14⟩
/-- SAT_INST_CTL.BUSY. -/
def SAT_INST_CTL_BUSY : Field := ⟨0x120020, 31, 1⟩
/-- SAT_INST_CTL.ERR. -/
def SAT_INST_CTL_ERR : Field := ⟨0x120020, 30, 1⟩
/-- SAT_INST_CTL.GO. -/
def SAT_INST_CTL_GO : Field := ⟨0x120020, 16, 1⟩
/-- SAT_INST_DATA.DATA. -/
def SAT_INST_DATA_DATA (k : Nat) : Field := ⟨0x120024 + 4 * k, 0, 32⟩
/-- SAT_QRY_ADDR.BUSY. -/
def SAT_QRY_ADDR_BUSY : Field := ⟨0x120060, 31, 1⟩
/-- SAT_QRY_ADDR.ERR. -/
def SAT_QRY_ADDR_ERR : Field := ⟨0x120060, 30, 1⟩
/-- SAT_QRY_ADDR.GO. -/
def SAT_QRY_ADDR_GO : Field := ⟨0x120060, 16, 1⟩
/-- SAT_QRY_ADDR.INDEX. -/
def SAT_QRY_ADDR_INDEX : Field := ⟨0x120060, 0, 13⟩
/-- SAT_QRY_DATA0.VALID. -/
def SAT_QRY_DATA0_VALID : Field := ⟨0x120064, 31, 1⟩
/-- SAT_QRY_DATA0.CURRENT. -/
def SAT_QRY_DATA0_CURRENT : Field := ⟨0x120064, 30, 1⟩
/-- SAT_QRY_DATA0.SPP. -/
def SAT_QRY_DATA0_SPP : Field := ⟨0x120064, 16, 8⟩
/-- SAT_QRY_DATA0.FLAGS. -/
def SAT_QRY_DATA0_FLAGS : Field := ⟨0x120064, 8, 8⟩
/-- SAT_QRY_DATA0.TYPE. -/
def SAT_QRY_DATA0_TYPE : Field := ⟨0x120064, 0, 8⟩
/-- SAT_QRY_DATA1.KEY_ID. -/
def SAT_QRY_DATA1_KEY_ID : Field := ⟨0x120068, 0, 32⟩
/-- SAT_QRY_DATA2.NOT_AFTER. -/
def SAT_QRY_DATA2_NOT_AFTER : Field := ⟨0x12006c, 0, 32⟩
/-- SAT_QRY_DATA3.KCV. -/
def SAT_QRY_DATA3_KCV : Field := ⟨0x120070, 0, 24⟩
/-- SAT_CUR_PB.V. -/
def SAT_CUR_PB_V (k : Nat) : Field := ⟨0x120100 + 4 * k, 31, 1⟩
/-- SAT_CUR_PB.INDEX. -/
def SAT_CUR_PB_INDEX (k : Nat) : Field := ⟨0x120100 + 4 * k, 0, 13⟩
/-- SAT_CNT_LO.CNT. -/
def SAT_CNT_LO_CNT (k : Nat) : Field := ⟨0x120200 + 8 * k, 0, 32⟩
/-- SAT_CNT_HI.CNT. -/
def SAT_CNT_HI_CNT (k : Nat) : Field := ⟨0x120204 + 8 * k, 0, 16⟩
/-- FAB_CFG.LOCK_TMO. -/
def FAB_CFG_LOCK_TMO : Field := ⟨0x130000, 16, 8⟩
/-- FAB_CFG.SCRUB_EN. -/
def FAB_CFG_SCRUB_EN : Field := ⟨0x130000, 1, 1⟩
/-- FAB_CFG.SUP_REMAP. -/
def FAB_CFG_SUP_REMAP : Field := ⟨0x130000, 0, 1⟩
/-- FAB_STAT.VALID. -/
def FAB_STAT_VALID : Field := ⟨0x130004, 31, 1⟩
/-- FAB_STAT.LAND_MAX. -/
def FAB_STAT_LAND_MAX : Field := ⟨0x130004, 16, 5⟩
/-- FAB_STAT.SEQ. -/
def FAB_STAT_SEQ : Field := ⟨0x130004, 0, 8⟩
/-- FAB_PARK0.T3. -/
def FAB_PARK0_T3 : Field := ⟨0x130008, 24, 8⟩
/-- FAB_PARK0.T2. -/
def FAB_PARK0_T2 : Field := ⟨0x130008, 16, 8⟩
/-- FAB_PARK0.T1. -/
def FAB_PARK0_T1 : Field := ⟨0x130008, 8, 8⟩
/-- FAB_PARK0.T0. -/
def FAB_PARK0_T0 : Field := ⟨0x130008, 0, 8⟩
/-- FAB_PARK1.T7. -/
def FAB_PARK1_T7 : Field := ⟨0x13000c, 24, 8⟩
/-- FAB_PARK1.T6. -/
def FAB_PARK1_T6 : Field := ⟨0x13000c, 16, 8⟩
/-- FAB_PARK1.T5. -/
def FAB_PARK1_T5 : Field := ⟨0x13000c, 8, 8⟩
/-- FAB_PARK1.T4. -/
def FAB_PARK1_T4 : Field := ⟨0x13000c, 0, 8⟩
/-- FAB_SCRUB.SCRUB_MIN. -/
def FAB_SCRUB_SCRUB_MIN : Field := ⟨0x130010, 0, 16⟩
/-- FAB_BURST_ABORT.COUNT. -/
def FAB_BURST_ABORT_COUNT : Field := ⟨0x130034, 0, 32⟩
/-- FAB_HOST_ERR.COUNT. -/
def FAB_HOST_ERR_COUNT : Field := ⟨0x130038, 0, 32⟩
/-- FAB_SMEAS.VALID. -/
def FAB_SMEAS_VALID : Field := ⟨0x130040, 31, 1⟩
/-- FAB_SMEAS.MIN_MON. -/
def FAB_SMEAS_MIN_MON : Field := ⟨0x130040, 24, 6⟩
/-- FAB_SMEAS.SEQ. -/
def FAB_SMEAS_SEQ : Field := ⟨0x130040, 16, 8⟩
/-- FAB_SMEAS.S_MEAS. -/
def FAB_SMEAS_S_MEAS : Field := ⟨0x130040, 0, 16⟩
/-- FAB_SNEED.S_NEED. -/
def FAB_SNEED_S_NEED : Field := ⟨0x130044, 0, 16⟩
/-- FAB_EXCL_LO.EXCL. -/
def FAB_EXCL_LO_EXCL : Field := ⟨0x130048, 0, 32⟩
/-- FAB_EXCL_HI.EXCL. -/
def FAB_EXCL_HI_EXCL : Field := ⟨0x13004c, 0, 32⟩
/-- FAB_PLAN_CFG.PLAN_EN. -/
def FAB_PLAN_CFG_PLAN_EN : Field := ⟨0x130200, 31, 1⟩
/-- FAB_PLAN_CFG.TRACK. -/
def FAB_PLAN_CFG_TRACK : Field := ⟨0x130200, 30, 1⟩
/-- FAB_PLAN_CFG.PLAN_H. -/
def FAB_PLAN_CFG_PLAN_H : Field := ⟨0x130200, 24, 6⟩
/-- FAB_PLAN_CFG.BAND. -/
def FAB_PLAN_CFG_BAND : Field := ⟨0x130200, 16, 8⟩
/-- FAB_PLAN_CFG.S_TGT. -/
def FAB_PLAN_CFG_S_TGT : Field := ⟨0x130200, 0, 8⟩
/-- FAB_PLAN_CFG1.AGE_N. -/
def FAB_PLAN_CFG1_AGE_N : Field := ⟨0x130204, 24, 8⟩
/-- FAB_PLAN_CFG1.TJ_PLAN. -/
def FAB_PLAN_CFG1_TJ_PLAN : Field := ⟨0x130204, 16, 8⟩
/-- FAB_PLAN_CFG1.PROJ_WARN. -/
def FAB_PLAN_CFG1_PROJ_WARN : Field := ⟨0x130204, 0, 16⟩
/-- FAB_PLAN_CAL.K_V. -/
def FAB_PLAN_CAL_K_V : Field := ⟨0x130208, 16, 16⟩
/-- FAB_PLAN_CAL.K_T. -/
def FAB_PLAN_CAL_K_T : Field := ⟨0x130208, 0, 16⟩
/-- FAB_SWEEP_CFG.MU0. -/
def FAB_SWEEP_CFG_MU0 : Field := ⟨0x13020c, 0, 8⟩
/-- FAB_PLAN_STAT.VALID. -/
def FAB_PLAN_STAT_VALID : Field := ⟨0x130220, 31, 1⟩
/-- FAB_PLAN_STAT.AT_VMAX. -/
def FAB_PLAN_STAT_AT_VMAX : Field := ⟨0x130220, 30, 1⟩
/-- FAB_PLAN_STAT.REPLAN_CLS. -/
def FAB_PLAN_STAT_REPLAN_CLS : Field := ⟨0x130220, 16, 4⟩
/-- FAB_PLAN_STAT.SEQ. -/
def FAB_PLAN_STAT_SEQ : Field := ⟨0x130220, 0, 8⟩
/-- FAB_PLAN_DAYS.DAYS_FAB. -/
def FAB_PLAN_DAYS_DAYS_FAB : Field := ⟨0x130224, 16, 16⟩
/-- FAB_PLAN_DAYS.DAYS_EYE. -/
def FAB_PLAN_DAYS_DAYS_EYE : Field := ⟨0x130224, 0, 16⟩
/-- FAB_PLAN_SCORR.S_CORR. -/
def FAB_PLAN_SCORR_S_CORR : Field := ⟨0x130228, 0, 16⟩
/-- FAB_PLAN_S0.S0. -/
def FAB_PLAN_S0_S0 : Field := ⟨0x13022c, 0, 32⟩
/-- FAB_PLAN_B.B. -/
def FAB_PLAN_B_B : Field := ⟨0x130230, 0, 32⟩
/-- FAB_TDC_END.END. -/
def FAB_TDC_END_END : Field := ⟨0x130234, 0, 24⟩
/-- FAB_RO.COUNT. -/
def FAB_RO_COUNT (k : Nat) : Field := ⟨0x132000 + 4 * k, 0, 32⟩
/-- FAB_MEM_CORR_LO.CORR. -/
def FAB_MEM_CORR_LO_CORR (i : Nat) : Field := ⟨0x130100 + 0x20 * i, 0, 32⟩
/-- FAB_MEM_CORR_HI.CORR. -/
def FAB_MEM_CORR_HI_CORR (i : Nat) : Field := ⟨0x130104 + 0x20 * i, 0, 16⟩
/-- FAB_MEM_UNC_LO.UNC. -/
def FAB_MEM_UNC_LO_UNC (i : Nat) : Field := ⟨0x130108 + 0x20 * i, 0, 32⟩
/-- FAB_MEM_UNC_HI.UNC. -/
def FAB_MEM_UNC_HI_UNC (i : Nat) : Field := ⟨0x13010c + 0x20 * i, 0, 16⟩
/-- FAB_MEM_ADDR_LO.ADDR. -/
def FAB_MEM_ADDR_LO_ADDR (i : Nat) : Field := ⟨0x130110 + 0x20 * i, 0, 32⟩
/-- FAB_MEM_ADDR_HI.ADDR. -/
def FAB_MEM_ADDR_HI_ADDR (i : Nat) : Field := ⟨0x130114 + 0x20 * i, 0, 32⟩
/-- MON_S.EXCL. -/
def MON_S_EXCL (i : Nat) : Field := ⟨0x131000 + 0x10 * i, 31, 1⟩
/-- MON_S.S. -/
def MON_S_S (i : Nat) : Field := ⟨0x131000 + 0x10 * i, 0, 16⟩
/-- MON_N.N. -/
def MON_N_N (i : Nat) : Field := ⟨0x131004 + 0x10 * i, 0, 32⟩
/-- MON_K.N_NOM_HI. -/
def MON_K_N_NOM_HI (i : Nat) : Field := ⟨0x131008 + 0x10 * i, 16, 16⟩
/-- MON_K.K. -/
def MON_K_K (i : Nat) : Field := ⟨0x131008 + 0x10 * i, 0, 16⟩
/-- MON_MU.N_NOM_LO. -/
def MON_MU_N_NOM_LO (i : Nat) : Field := ⟨0x13100c + 0x10 * i, 16, 16⟩
/-- MON_MU.MU. -/
def MON_MU_MU (i : Nat) : Field := ⟨0x13100c + 0x10 * i, 0, 16⟩
/-- FAB_NNOM.N_NOM. -/
def FAB_NNOM_N_NOM (i : Nat) : Field := ⟨0x133000 + 0x4 * i, 0, 16⟩
/-- FLT_CFG.FF_MIN. -/
def FLT_CFG_FF_MIN : Field := ⟨0x140000, 16, 2⟩
/-- FLT_CFG.WDOG_US. -/
def FLT_CFG_WDOG_US : Field := ⟨0x140000, 0, 16⟩
/-- FLT_STAT.VALID. -/
def FLT_STAT_VALID : Field := ⟨0x140004, 31, 1⟩
/-- FLT_STAT.SAFE. -/
def FLT_STAT_SAFE : Field := ⟨0x140004, 30, 1⟩
/-- FLT_STAT.PAIR_ESC. -/
def FLT_STAT_PAIR_ESC : Field := ⟨0x140004, 29, 1⟩
/-- FLT_STAT.SETTLING. -/
def FLT_STAT_SETTLING : Field := ⟨0x140004, 28, 1⟩
/-- FLT_STAT.SEQ. -/
def FLT_STAT_SEQ : Field := ⟨0x140004, 0, 8⟩
/-- FLT_FF_STAT.VALID. -/
def FLT_FF_STAT_VALID : Field := ⟨0x140040, 31, 1⟩
/-- FLT_FF_STAT.HELD. -/
def FLT_FF_STAT_HELD : Field := ⟨0x140040, 30, 1⟩
/-- FLT_FF_STAT.PRIOR. -/
def FLT_FF_STAT_PRIOR : Field := ⟨0x140040, 29, 1⟩
/-- FLT_FF_STAT.INJ. -/
def FLT_FF_STAT_INJ : Field := ⟨0x140040, 28, 1⟩
/-- FLT_FF_STAT.CLASS. -/
def FLT_FF_STAT_CLASS : Field := ⟨0x140040, 24, 3⟩
/-- FLT_FF_STAT.SOURCE. -/
def FLT_FF_STAT_SOURCE : Field := ⟨0x140040, 16, 8⟩
/-- FLT_FF_STAT.COFIRST_N. -/
def FLT_FF_STAT_COFIRST_N : Field := ⟨0x140040, 8, 8⟩
/-- FLT_FF_STAT.SEQ. -/
def FLT_FF_STAT_SEQ : Field := ⟨0x140040, 0, 8⟩
/-- FLT_FF_NS.NS. -/
def FLT_FF_NS_NS : Field := ⟨0x140044, 0, 32⟩
/-- FLT_FF_SECL.SEC. -/
def FLT_FF_SECL_SEC : Field := ⟨0x140048, 0, 32⟩
/-- FLT_FF_FRAC.FRAC. -/
def FLT_FF_FRAC_FRAC : Field := ⟨0x14004c, 12, 4⟩
/-- FLT_FF_CSEQ.CSEQ. -/
def FLT_FF_CSEQ_CSEQ : Field := ⟨0x140050, 0, 32⟩
/-- FLT_FF_ADDRL.ADDR. -/
def FLT_FF_ADDRL_ADDR : Field := ⟨0x140054, 0, 32⟩
/-- FLT_FF_ADDRH.ADDR. -/
def FLT_FF_ADDRH_ADDR : Field := ⟨0x140058, 0, 32⟩
/-- FLT_FF_ACC.MASTER. -/
def FLT_FF_ACC_MASTER : Field := ⟨0x14005c, 8, 8⟩
/-- FLT_FF_ACC.ACCESS. -/
def FLT_FF_ACC_ACCESS : Field := ⟨0x14005c, 0, 4⟩
/-- FLT_FF_INFO.INFO. -/
def FLT_FF_INFO_INFO : Field := ⟨0x140060, 0, 32⟩
/-- FLT_FF_CNT.HELD_CNT. -/
def FLT_FF_CNT_HELD_CNT : Field := ⟨0x140064, 0, 16⟩
/-- FLT_COFIRST.MASK. -/
def FLT_COFIRST_MASK (k : Nat) : Field := ⟨0x140080 + 4 * k, 0, 32⟩
/-- FLT_SRC_CFG.W. -/
def FLT_SRC_CFG_W (i : Nat) : Field := ⟨0x141000 + 0x10 * i, 16, 16⟩
/-- FLT_SRC_CFG.N. -/
def FLT_SRC_CFG_N (i : Nat) : Field := ⟨0x141000 + 0x10 * i, 8, 4⟩
/-- FLT_SRC_CFG.CLASS. -/
def FLT_SRC_CFG_CLASS (i : Nat) : Field := ⟨0x141000 + 0x10 * i, 0, 2⟩
/-- FLT_SRC_STAT.VALID. -/
def FLT_SRC_STAT_VALID (i : Nat) : Field := ⟨0x141004 + 0x10 * i, 31, 1⟩
/-- FLT_SRC_STAT.WIN. -/
def FLT_SRC_STAT_WIN (i : Nat) : Field := ⟨0x141004 + 0x10 * i, 30, 1⟩
/-- FLT_SRC_STAT.FIXED. -/
def FLT_SRC_STAT_FIXED (i : Nat) : Field := ⟨0x141004 + 0x10 * i, 29, 1⟩
/-- FLT_SRC_STAT.CAUSE. -/
def FLT_SRC_STAT_CAUSE (i : Nat) : Field := ⟨0x141004 + 0x10 * i, 16, 8⟩
/-- FLT_SRC_STAT.HIST. -/
def FLT_SRC_STAT_HIST (i : Nat) : Field := ⟨0x141004 + 0x10 * i, 0, 8⟩
/-- FLT_SRC_CNT.COUNT. -/
def FLT_SRC_CNT_COUNT (i : Nat) : Field := ⟨0x141008 + 0x10 * i, 0, 32⟩
/-- FLT_SRC_CONSEQ.CONSEQ. -/
def FLT_SRC_CONSEQ_CONSEQ (i : Nat) : Field := ⟨0x14100c + 0x10 * i, 0, 32⟩
/-- CNJ_CFG.PCH. -/
def CNJ_CFG_PCH : Field := ⟨0x150000, 8, 4⟩
/-- CNJ_CFG.PCH_EN. -/
def CNJ_CFG_PCH_EN : Field := ⟨0x150000, 4, 1⟩
/-- CNJ_CFG.REH_EN. -/
def CNJ_CFG_REH_EN : Field := ⟨0x150000, 3, 1⟩
/-- CNJ_CFG.Q58. -/
def CNJ_CFG_Q58 : Field := ⟨0x150000, 2, 1⟩
/-- CNJ_CFG.ARB_SRC. -/
def CNJ_CFG_ARB_SRC : Field := ⟨0x150000, 1, 1⟩
/-- CNJ_CFG.DETECT. -/
def CNJ_CFG_DETECT : Field := ⟨0x150000, 0, 1⟩
/-- CNJ_TIME.TAKE_HOLD. -/
def CNJ_TIME_TAKE_HOLD : Field := ⟨0x150004, 16, 10⟩
/-- CNJ_TIME.T_GUARD. -/
def CNJ_TIME_T_GUARD : Field := ⟨0x150004, 0, 10⟩
/-- CNJ_CMP.CMP_N. -/
def CNJ_CMP_CMP_N : Field := ⟨0x150008, 28, 4⟩
/-- CNJ_CMP.CMP_THR. -/
def CNJ_CMP_CMP_THR : Field := ⟨0x150008, 0, 24⟩
/-- CNJ_CMP1.CMP_MARG. -/
def CNJ_CMP1_CMP_MARG : Field := ⟨0x15000c, 0, 24⟩
/-- CNJ_ASYM.A. -/
def CNJ_ASYM_A (k : Nat) : Field := ⟨0x150010 + 4 * k, 0, 32⟩
/-- CNJ_LINK.LANE_TOL. -/
def CNJ_LINK_LANE_TOL : Field := ⟨0x150018, 16, 16⟩
/-- CNJ_LINK.VIO_MAX. -/
def CNJ_LINK_VIO_MAX : Field := ⟨0x150018, 0, 8⟩
/-- CNJ_REH.REH_H. -/
def CNJ_REH_REH_H : Field := ⟨0x15001c, 24, 8⟩
/-- CNJ_REH.REH_TOD. -/
def CNJ_REH_REH_TOD : Field := ⟨0x15001c, 0, 17⟩
/-- CNJ_REH1.REH_NS. -/
def CNJ_REH1_REH_NS : Field := ⟨0x150020, 0, 30⟩
/-- CNJ_REH2.REH_LIM. -/
def CNJ_REH2_REH_LIM : Field := ⟨0x150024, 16, 16⟩
/-- CNJ_REH2.REH_DWELL. -/
def CNJ_REH2_REH_DWELL : Field := ⟨0x150024, 0, 16⟩
/-- CNJ_ARB.VALID. -/
def CNJ_ARB_VALID : Field := ⟨0x150028, 31, 1⟩
/-- CNJ_ARB.DECISION. -/
def CNJ_ARB_DECISION : Field := ⟨0x150028, 0, 8⟩
/-- CNJ_STAT.VALID. -/
def CNJ_STAT_VALID : Field := ⟨0x150040, 31, 1⟩
/-- CNJ_STAT.PSTATE. -/
def CNJ_STAT_PSTATE : Field := ⟨0x150040, 28, 3⟩
/-- CNJ_STAT.ROLE. -/
def CNJ_STAT_ROLE : Field := ⟨0x150040, 26, 2⟩
/-- CNJ_STAT.PEER_ROLE. -/
def CNJ_STAT_PEER_ROLE : Field := ⟨0x150040, 24, 2⟩
/-- CNJ_STAT.PEER_PRESENT. -/
def CNJ_STAT_PEER_PRESENT : Field := ⟨0x150040, 23, 1⟩
/-- CNJ_STAT.LINK_UP. -/
def CNJ_STAT_LINK_UP : Field := ⟨0x150040, 22, 1⟩
/-- CNJ_STAT.LANES_UP. -/
def CNJ_STAT_LANES_UP : Field := ⟨0x150040, 20, 2⟩
/-- CNJ_STAT.AGREED. -/
def CNJ_STAT_AGREED : Field := ⟨0x150040, 19, 1⟩
/-- CNJ_STAT.DISAGREE. -/
def CNJ_STAT_DISAGREE : Field := ⟨0x150040, 18, 1⟩
/-- CNJ_STAT.ELIGIBLE. -/
def CNJ_STAT_ELIGIBLE : Field := ⟨0x150040, 17, 1⟩
/-- CNJ_STAT.SUBJ_IN. -/
def CNJ_STAT_SUBJ_IN : Field := ⟨0x150040, 16, 1⟩
/-- CNJ_STAT.DRV. -/
def CNJ_STAT_DRV : Field := ⟨0x150040, 15, 1⟩
/-- CNJ_STAT.PEER_MODE. -/
def CNJ_STAT_PEER_MODE : Field := ⟨0x150040, 12, 3⟩
/-- CNJ_STAT.SEQ. -/
def CNJ_STAT_SEQ : Field := ⟨0x150040, 0, 8⟩
/-- CNJ_PHL.PH. -/
def CNJ_PHL_PH : Field := ⟨0x150044, 0, 32⟩
/-- CNJ_PHH.PH. -/
def CNJ_PHH_PH : Field := ⟨0x150048, 0, 16⟩
/-- CNJ_LPH.PH. -/
def CNJ_LPH_PH (k : Nat) : Field := ⟨0x15004c + 4 * k, 0, 32⟩
/-- CNJ_PGLSL.GLOSS. -/
def CNJ_PGLSL_GLOSS : Field := ⟨0x150054, 0, 32⟩
/-- CNJ_PGLSH.GLOSS. -/
def CNJ_PGLSH_GLOSS : Field := ⟨0x150058, 0, 32⟩
/-- CNJ_LSTAT.UP. -/
def CNJ_LSTAT_UP (k : Nat) : Field := ⟨0x150060 + 4 * k, 31, 1⟩
/-- CNJ_LSTAT.SYNC. -/
def CNJ_LSTAT_SYNC (k : Nat) : Field := ⟨0x150060 + 4 * k, 30, 1⟩
/-- CNJ_LSTAT.CROSSED. -/
def CNJ_LSTAT_CROSSED (k : Nat) : Field := ⟨0x150060 + 4 * k, 29, 1⟩
/-- CNJ_LSTAT.VIO_1S. -/
def CNJ_LSTAT_VIO_1S (k : Nat) : Field := ⟨0x150060 + 4 * k, 0, 16⟩
/-- CNJ_DIGEST.DIGEST. -/
def CNJ_DIGEST_DIGEST : Field := ⟨0x150068, 0, 32⟩
/-- CNJ_PDIGEST.DIGEST. -/
def CNJ_PDIGEST_DIGEST : Field := ⟨0x15006c, 0, 32⟩
/-- CNJ_REH_STAT.VALID. -/
def CNJ_REH_STAT_VALID : Field := ⟨0x150070, 31, 1⟩
/-- CNJ_REH_STAT.OUTCOME. -/
def CNJ_REH_STAT_OUTCOME : Field := ⟨0x150070, 24, 2⟩
/-- CNJ_REH_STAT.SEQ. -/
def CNJ_REH_STAT_SEQ : Field := ⟨0x150070, 0, 8⟩
/-- CNJ_REH_TAKE.TAKE2. -/
def CNJ_REH_TAKE_TAKE2 : Field := ⟨0x150074, 16, 16⟩
/-- CNJ_REH_TAKE.TAKE1. -/
def CNJ_REH_TAKE_TAKE1 : Field := ⟨0x150074, 0, 16⟩
/-- OBS_PC_CTL.FREEZE. -/
def OBS_PC_CTL_FREEZE : Field := ⟨0x160000, 1, 1⟩
/-- OBS_PC_CTL.SNAP. -/
def OBS_PC_CTL_SNAP : Field := ⟨0x160000, 0, 1⟩
/-- OBS_STAT.VALID. -/
def OBS_STAT_VALID : Field := ⟨0x160004, 31, 1⟩
/-- OBS_STAT.FROZEN. -/
def OBS_STAT_FROZEN : Field := ⟨0x160004, 30, 1⟩
/-- OBS_STAT.SMP_RUN. -/
def OBS_STAT_SMP_RUN : Field := ⟨0x160004, 29, 1⟩
/-- OBS_STAT.SEQ. -/
def OBS_STAT_SEQ : Field := ⟨0x160004, 0, 8⟩
/-- OBS_SNAP_STAT.VALID. -/
def OBS_SNAP_STAT_VALID : Field := ⟨0x160020, 31, 1⟩
/-- OBS_SNAP_STAT.SEQ. -/
def OBS_SNAP_STAT_SEQ : Field := ⟨0x160020, 0, 8⟩
/-- OBS_SNAP_NS.NS. -/
def OBS_SNAP_NS_NS : Field := ⟨0x160024, 0, 32⟩
/-- OBS_SNAP_SECL.SEC. -/
def OBS_SNAP_SECL_SEC : Field := ⟨0x160028, 0, 32⟩
/-- OBS_SNAP_CSEQ.CSEQ. -/
def OBS_SNAP_CSEQ_CSEQ : Field := ⟨0x16002c, 0, 32⟩
/-- OBS_BW_CFG.WIN. -/
def OBS_BW_CFG_WIN : Field := ⟨0x160040, 0, 10⟩
/-- OBS_EVT_CFG.NOTIFY. -/
def OBS_EVT_CFG_NOTIFY : Field := ⟨0x160044, 7, 1⟩
/-- OBS_EVT_CFG.EVRING. -/
def OBS_EVT_CFG_EVRING : Field := ⟨0x160044, 0, 6⟩
/-- OBS_PF1_DENY.DENY. -/
def OBS_PF1_DENY_DENY : Field := ⟨0x160048, 0, 32⟩
/-- OBS_GRANT.GRANT. -/
def OBS_GRANT_GRANT (k : Nat) : Field := ⟨0x160060 + 4 * k, 0, 32⟩
/-- OBS_TRC_CFG.PORT. -/
def OBS_TRC_CFG_PORT : Field := ⟨0x160080, 31, 1⟩
/-- OBS_TRC_CFG.RING_EN. -/
def OBS_TRC_CFG_RING_EN : Field := ⟨0x160080, 30, 1⟩
/-- OBS_TRC_CFG.WIN. -/
def OBS_TRC_CFG_WIN : Field := ⟨0x160080, 29, 1⟩
/-- OBS_TRC_CFG.RING. -/
def OBS_TRC_CFG_RING : Field := ⟨0x160080, 16, 6⟩
/-- OBS_TRC_CFG.TYPE_EN. -/
def OBS_TRC_CFG_TYPE_EN : Field := ⟨0x160080, 1, 7⟩
/-- OBS_TRC_CFG1.JMIN. -/
def OBS_TRC_CFG1_JMIN : Field := ⟨0x160084, 30, 2⟩
/-- OBS_TRC_CFG1.TXN_DIV. -/
def OBS_TRC_CFG1_TXN_DIV : Field := ⟨0x160084, 0, 24⟩
/-- OBS_TRC_LEVEL.WORDS. -/
def OBS_TRC_LEVEL_WORDS : Field := ⟨0x160088, 0, 17⟩
/-- OBS_TRC_FIFO.DATA. -/
def OBS_TRC_FIFO_DATA : Field := ⟨0x16008c, 0, 32⟩
/-- OBS_TRC_LOST_LO.LOST. -/
def OBS_TRC_LOST_LO_LOST : Field := ⟨0x160090, 0, 32⟩
/-- OBS_TRC_LOST_HI.LOST. -/
def OBS_TRC_LOST_HI_LOST : Field := ⟨0x160094, 0, 16⟩
/-- OBS_JRNL_HEAD.JIDX. -/
def OBS_JRNL_HEAD_JIDX : Field := ⟨0x1600c0, 0, 32⟩
/-- OBS_JRNL_TAIL.JIDX. -/
def OBS_JRNL_TAIL_JIDX : Field := ⟨0x1600c4, 0, 32⟩
/-- OBS_JRNL_LOST_LO.LOST. -/
def OBS_JRNL_LOST_LO_LOST : Field := ⟨0x1600c8, 0, 32⟩
/-- OBS_JRNL_LOST_HI.LOST. -/
def OBS_JRNL_LOST_HI_LOST : Field := ⟨0x1600cc, 0, 16⟩
/-- OBS_JRNL_WADDR.JIDX. -/
def OBS_JRNL_WADDR_JIDX : Field := ⟨0x1600d0, 0, 32⟩
/-- OBS_JRNL_WSTAT.VALID. -/
def OBS_JRNL_WSTAT_VALID : Field := ⟨0x1600d4, 31, 1⟩
/-- OBS_JRNL_WSTAT.ERR. -/
def OBS_JRNL_WSTAT_ERR : Field := ⟨0x1600d4, 30, 1⟩
/-- OBS_JRNL_WDATA.DATA. -/
def OBS_JRNL_WDATA_DATA (k : Nat) : Field := ⟨0x1600e0 + 4 * k, 0, 32⟩
/-- OBS_SMP_CFG.EN. -/
def OBS_SMP_CFG_EN : Field := ⟨0x160100, 31, 1⟩
/-- OBS_SMP_CFG.RAND. -/
def OBS_SMP_CFG_RAND : Field := ⟨0x160100, 30, 1⟩
/-- OBS_SMP_CFG.POLICY. -/
def OBS_SMP_CFG_POLICY : Field := ⟨0x160100, 29, 1⟩
/-- OBS_SMP_CFG.MASK. -/
def OBS_SMP_CFG_MASK : Field := ⟨0x160100, 0, 16⟩
/-- OBS_SMP_PER.PERIOD. -/
def OBS_SMP_PER_PERIOD : Field := ⟨0x160104, 0, 24⟩
/-- OBS_SMP_HEAD.HEAD. -/
def OBS_SMP_HEAD_HEAD : Field := ⟨0x160108, 0, 32⟩
/-- OBS_SMP_WADDR.INDEX. -/
def OBS_SMP_WADDR_INDEX : Field := ⟨0x160110, 0, 12⟩
/-- OBS_SMP_WSTAT.VALID. -/
def OBS_SMP_WSTAT_VALID : Field := ⟨0x160114, 31, 1⟩
/-- OBS_SMP_WSTAT.ERR. -/
def OBS_SMP_WSTAT_ERR : Field := ⟨0x160114, 30, 1⟩
/-- OBS_SMP_WDATA.DATA. -/
def OBS_SMP_WDATA_DATA (k : Nat) : Field := ⟨0x160120 + 4 * k, 0, 32⟩
/-- BW_STAT.VALID. -/
def BW_STAT_VALID (i : Nat) : Field := ⟨0x160400 + 0x20 * i, 31, 1⟩
/-- BW_STAT.SHORT. -/
def BW_STAT_SHORT (i : Nat) : Field := ⟨0x160400 + 0x20 * i, 30, 1⟩
/-- BW_STAT.SEQ. -/
def BW_STAT_SEQ (i : Nat) : Field := ⟨0x160400 + 0x20 * i, 0, 8⟩
/-- BW_RXO_LO.RX_OCT. -/
def BW_RXO_LO_RX_OCT (i : Nat) : Field := ⟨0x160404 + 0x20 * i, 0, 32⟩
/-- BW_RXO_HI.RX_OCT. -/
def BW_RXO_HI_RX_OCT (i : Nat) : Field := ⟨0x160408 + 0x20 * i, 0, 16⟩
/-- BW_TXO_LO.TX_OCT. -/
def BW_TXO_LO_TX_OCT (i : Nat) : Field := ⟨0x16040c + 0x20 * i, 0, 32⟩
/-- BW_TXO_HI.TX_OCT. -/
def BW_TXO_HI_TX_OCT (i : Nat) : Field := ⟨0x160410 + 0x20 * i, 0, 16⟩
/-- BW_RXR.RATE. -/
def BW_RXR_RATE (i : Nat) : Field := ⟨0x160414 + 0x20 * i, 0, 32⟩
/-- BW_TXR.RATE. -/
def BW_TXR_RATE (i : Nat) : Field := ⟨0x160418 + 0x20 * i, 0, 32⟩
/-- BW_END.NS. -/
def BW_END_NS (i : Nat) : Field := ⟨0x16041c + 0x20 * i, 0, 32⟩
/-- PC_SEL.MODE. -/
def PC_SEL_MODE (i : Nat) : Field := ⟨0x161000 + 0x10 * i, 30, 2⟩
/-- PC_SEL.INST. -/
def PC_SEL_INST (i : Nat) : Field := ⟨0x161000 + 0x10 * i, 16, 8⟩
/-- PC_SEL.EVENT. -/
def PC_SEL_EVENT (i : Nat) : Field := ⟨0x161000 + 0x10 * i, 0, 12⟩
/-- PC_THR.THR. -/
def PC_THR_THR (i : Nat) : Field := ⟨0x161004 + 0x10 * i, 0, 16⟩
/-- PC_LO.COUNT. -/
def PC_LO_COUNT (i : Nat) : Field := ⟨0x161008 + 0x10 * i, 0, 32⟩
/-- PC_HI.COUNT. -/
def PC_HI_COUNT (i : Nat) : Field := ⟨0x16100c + 0x10 * i, 0, 16⟩
/-- SNAPC_LO.COUNT. -/
def SNAPC_LO_COUNT (i : Nat) : Field := ⟨0x168000 + 0x8 * i, 0, 32⟩
/-- SNAPC_HI.COUNT. -/
def SNAPC_HI_COUNT (i : Nat) : Field := ⟨0x168004 + 0x8 * i, 0, 16⟩
/-- SNAPM_LO.COUNT. -/
def SNAPM_LO_COUNT (i k : Nat) : Field := ⟨0x16a000 + 0x200 * i + 8 * k, 0, 32⟩
/-- SNAPM_HI.COUNT. -/
def SNAPM_HI_COUNT (i k : Nat) : Field := ⟨0x16a004 + 0x200 * i + 8 * k, 0, 16⟩
/-- PWR_AVS_CFG.STEP. -/
def PWR_AVS_CFG_STEP : Field := ⟨0x170000, 24, 4⟩
/-- PWR_AVS_CFG.STEP_MS. -/
def PWR_AVS_CFG_STEP_MS : Field := ⟨0x170000, 16, 8⟩
/-- PWR_AVS_CFG.VFAB_BOOT. -/
def PWR_AVS_CFG_VFAB_BOOT : Field := ⟨0x170000, 0, 10⟩
/-- PWR_VLIM.VFAB_MAX. -/
def PWR_VLIM_VFAB_MAX : Field := ⟨0x170004, 16, 10⟩
/-- PWR_VLIM.VFAB_MIN. -/
def PWR_VLIM_VFAB_MIN : Field := ⟨0x170004, 0, 10⟩
/-- PWR_AVS_STAT.VALID. -/
def PWR_AVS_STAT_VALID : Field := ⟨0x170010, 31, 1⟩
/-- PWR_AVS_STAT.AVS_OK. -/
def PWR_AVS_STAT_AVS_OK : Field := ⟨0x170010, 30, 1⟩
/-- PWR_AVS_STAT.VFAB_CMD. -/
def PWR_AVS_STAT_VFAB_CMD : Field := ⟨0x170010, 20, 10⟩
/-- PWR_AVS_STAT.SEQ. -/
def PWR_AVS_STAT_SEQ : Field := ⟨0x170010, 0, 8⟩
/-- PWR_AVS_RD.VREAD. -/
def PWR_AVS_RD_VREAD : Field := ⟨0x170014, 16, 10⟩
/-- PWR_AVS_RD.IREAD. -/
def PWR_AVS_RD_IREAD : Field := ⟨0x170014, 0, 16⟩
/-- PWR_TJ.TJ. -/
def PWR_TJ_TJ (k : Nat) : Field := ⟨0x170020 + 4 * k, 0, 16⟩
/-- PWR_TJ_MAX.TJ_MAX. -/
def PWR_TJ_MAX_TJ_MAX : Field := ⟨0x170040, 0, 16⟩
/-- PWR_POWER.POWER. -/
def PWR_POWER_POWER : Field := ⟨0x170044, 0, 16⟩

end Reg

namespace Flag

/-- GEN_FLAG.MODE_CHG and its companion count (R14). -/
def GEN_MODE_CHG : FlagBit := ⟨⟨0x20, 0, 1⟩, ⟨0x24, 0, 16⟩⟩
/-- GEN_FLAG.REFUSED and its companion count (R14). -/
def GEN_REFUSED : FlagBit := ⟨⟨0x20, 1, 1⟩, ⟨0x24, 16, 16⟩⟩
/-- HIF_FLAG.DB_ERR and its companion count (R14). -/
def HIF_DB_ERR : FlagBit := ⟨⟨0x20010, 0, 1⟩, ⟨0x20014, 0, 16⟩⟩
/-- HIF_FLAG.RING_ERR and its companion count (R14). -/
def HIF_RING_ERR : FlagBit := ⟨⟨0x20010, 1, 1⟩, ⟨0x20014, 16, 16⟩⟩
/-- HIF_FLAG.EV_LOST and its companion count (R14). -/
def HIF_EV_LOST : FlagBit := ⟨⟨0x20010, 2, 1⟩, ⟨0x20018, 0, 16⟩⟩
/-- HIF_FLAG.DMA_ERR and its companion count (R14). -/
def HIF_DMA_ERR : FlagBit := ⟨⟨0x20010, 3, 1⟩, ⟨0x20018, 16, 16⟩⟩
/-- HIF_FLAG.FLR and its companion count (R14). -/
def HIF_FLR : FlagBit := ⟨⟨0x20010, 4, 1⟩, ⟨0x2001c, 0, 16⟩⟩
/-- HIF_FLAG.ABORT_DONE and its companion count (R14). -/
def HIF_ABORT_DONE : FlagBit := ⟨⟨0x20010, 5, 1⟩, ⟨0x2001c, 16, 16⟩⟩
/-- HIF_FLAG.LINK_DOWN and its companion count (R14). -/
def HIF_LINK_DOWN : FlagBit := ⟨⟨0x20010, 6, 1⟩, ⟨0x20020, 0, 16⟩⟩
/-- TOD_FLAG.CKSUM and its companion count (R14). -/
def TOD_CKSUM : FlagBit := ⟨⟨0x4401c, 0, 1⟩, ⟨0x44020, 0, 16⟩⟩
/-- TOD_FLAG.NOPULSE and its companion count (R14). -/
def TOD_NOPULSE : FlagBit := ⟨⟨0x4401c, 1, 1⟩, ⟨0x44020, 16, 16⟩⟩
/-- TOD_FLAG.NOTOD and its companion count (R14). -/
def TOD_NOTOD : FlagBit := ⟨⟨0x4401c, 2, 1⟩, ⟨0x44024, 0, 16⟩⟩
/-- TOD_FLAG.TODJUMP and its companion count (R14). -/
def TOD_TODJUMP : FlagBit := ⟨⟨0x4401c, 3, 1⟩, ⟨0x44024, 16, 16⟩⟩
/-- TOD_FLAG.UNKNOWN and its companion count (R14). -/
def TOD_UNKNOWN : FlagBit := ⟨⟨0x4401c, 4, 1⟩, ⟨0x44028, 0, 16⟩⟩
/-- TOD_FLAG.FRAMING and its companion count (R14). -/
def TOD_FRAMING : FlagBit := ⟨⟨0x4401c, 5, 1⟩, ⟨0x44028, 16, 16⟩⟩
/-- TOD_FLAG.DUP and its companion count (R14). -/
def TOD_DUP : FlagBit := ⟨⟨0x4401c, 6, 1⟩, ⟨0x4402c, 0, 16⟩⟩
/-- CH_FLAG.LOS and its companion count (R14). -/
def CH_LOS (i : Nat) : FlagBit := ⟨⟨0x41070 + 0x200 * i, 0, 1⟩, ⟨0x41074 + 0x200 * i, 0, 16⟩⟩
/-- CH_FLAG.GLITCH and its companion count (R14). -/
def CH_GLITCH (i : Nat) : FlagBit := ⟨⟨0x41070 + 0x200 * i, 1, 1⟩, ⟨0x41074 + 0x200 * i, 16, 16⟩⟩
/-- CH_FLAG.MISSED and its companion count (R14). -/
def CH_MISSED (i : Nat) : FlagBit := ⟨⟨0x41070 + 0x200 * i, 2, 1⟩, ⟨0x41078 + 0x200 * i, 0, 16⟩⟩
/-- CH_FLAG.BLIND and its companion count (R14). -/
def CH_BLIND (i : Nat) : FlagBit := ⟨⟨0x41070 + 0x200 * i, 3, 1⟩, ⟨0x41078 + 0x200 * i, 16, 16⟩⟩
/-- CH_FLAG.EXTRA and its companion count (R14). -/
def CH_EXTRA (i : Nat) : FlagBit := ⟨⟨0x41070 + 0x200 * i, 4, 1⟩, ⟨0x4107c + 0x200 * i, 0, 16⟩⟩
/-- CH_FLAG.CALFAIL and its companion count (R14). -/
def CH_CALFAIL (i : Nat) : FlagBit := ⟨⟨0x41070 + 0x200 * i, 5, 1⟩, ⟨0x4107c + 0x200 * i, 16, 16⟩⟩
/-- CH_FLAG.OVF and its companion count (R14). -/
def CH_OVF (i : Nat) : FlagBit := ⟨⟨0x41070 + 0x200 * i, 6, 1⟩, ⟨0x41080 + 0x200 * i, 0, 16⟩⟩
/-- GNSS_CHK_FLAG.JAM_L1 and its companion count (R14). -/
def GNSS_CHK_JAM_L1 : FlagBit := ⟨⟨0x501c0, 0, 1⟩, ⟨0x501c8, 0, 16⟩⟩
/-- GNSS_CHK_FLAG.JAM_L5 and its companion count (R14). -/
def GNSS_CHK_JAM_L5 : FlagBit := ⟨⟨0x501c0, 1, 1⟩, ⟨0x501c8, 16, 16⟩⟩
/-- GNSS_CHK_FLAG.PWR_L1 and its companion count (R14). -/
def GNSS_CHK_PWR_L1 : FlagBit := ⟨⟨0x501c0, 2, 1⟩, ⟨0x501cc, 0, 16⟩⟩
/-- GNSS_CHK_FLAG.PWR_L5 and its companion count (R14). -/
def GNSS_CHK_PWR_L5 : FlagBit := ⟨⟨0x501c0, 3, 1⟩, ⟨0x501cc, 16, 16⟩⟩
/-- GNSS_CHK_FLAG.SHAPE_L1 and its companion count (R14). -/
def GNSS_CHK_SHAPE_L1 : FlagBit := ⟨⟨0x501c0, 4, 1⟩, ⟨0x501d0, 0, 16⟩⟩
/-- GNSS_CHK_FLAG.SHAPE_L5 and its companion count (R14). -/
def GNSS_CHK_SHAPE_L5 : FlagBit := ⟨⟨0x501c0, 5, 1⟩, ⟨0x501d0, 16, 16⟩⟩
/-- GNSS_CHK_FLAG.XREF and its companion count (R14). -/
def GNSS_CHK_XREF : FlagBit := ⟨⟨0x501c0, 6, 1⟩, ⟨0x501d4, 0, 16⟩⟩
/-- GNSS_CHK_FLAG.SNAP_DROP and its companion count (R14). -/
def GNSS_CHK_SNAP_DROP : FlagBit := ⟨⟨0x501c0, 7, 1⟩, ⟨0x501d4, 16, 16⟩⟩
/-- SEL_FLAG.SWITCH and its companion count (R14). -/
def SEL_SWITCH : FlagBit := ⟨⟨0x70020, 0, 1⟩, ⟨0x70024, 0, 16⟩⟩
/-- SEL_FLAG.DISAGREE and its companion count (R14). -/
def SEL_DISAGREE : FlagBit := ⟨⟨0x70020, 1, 1⟩, ⟨0x70024, 16, 16⟩⟩
/-- SEL_FLAG.VOTE and its companion count (R14). -/
def SEL_VOTE : FlagBit := ⟨⟨0x70020, 2, 1⟩, ⟨0x70028, 0, 16⟩⟩
/-- SEL_FLAG.FSWITCH and its companion count (R14). -/
def SEL_FSWITCH : FlagBit := ⟨⟨0x70020, 3, 1⟩, ⟨0x70028, 16, 16⟩⟩
/-- SEL_FLAG.MISMATCH and its companion count (R14). -/
def SEL_MISMATCH : FlagBit := ⟨⟨0x70020, 4, 1⟩, ⟨0x7002c, 0, 16⟩⟩
/-- SEL_FLAG.FORCE_LOST and its companion count (R14). -/
def SEL_FORCE_LOST : FlagBit := ⟨⟨0x70020, 5, 1⟩, ⟨0x7002c, 16, 16⟩⟩
/-- TNS_FLAG.JREF and its companion count (R14). -/
def TNS_JREF : FlagBit := ⟨⟨0x80240, 0, 1⟩, ⟨0x80244, 0, 16⟩⟩
/-- TNS_FLAG.LEAP_CONFLICT and its companion count (R14). -/
def TNS_LEAP_CONFLICT : FlagBit := ⟨⟨0x80240, 1, 1⟩, ⟨0x80244, 16, 16⟩⟩
/-- TNS_FLAG.UTC_CONFLICT and its companion count (R14). -/
def TNS_UTC_CONFLICT : FlagBit := ⟨⟨0x80240, 2, 1⟩, ⟨0x80248, 0, 16⟩⟩
/-- TNS_FLAG.TEMP_FAIL and its companion count (R14). -/
def TNS_TEMP_FAIL : FlagBit := ⟨⟨0x80240, 3, 1⟩, ⟨0x80248, 16, 16⟩⟩
/-- TNS_FLAG.STEER_SAT and its companion count (R14). -/
def TNS_STEER_SAT : FlagBit := ⟨⟨0x80240, 4, 1⟩, ⟨0x8024c, 0, 16⟩⟩
/-- TNS_FLAG.EFC_LIMIT and its companion count (R14). -/
def TNS_EFC_LIMIT : FlagBit := ⟨⟨0x80240, 5, 1⟩, ⟨0x8024c, 16, 16⟩⟩
/-- TNS_FLAG.GLOSS_STALE and its companion count (R14). -/
def TNS_GLOSS_STALE : FlagBit := ⟨⟨0x80240, 6, 1⟩, ⟨0x80250, 0, 16⟩⟩
/-- SYN_FLAG.APLL_LOL and its companion count (R14). -/
def SYN_APLL_LOL : FlagBit := ⟨⟨0x90020, 0, 1⟩, ⟨0x90024, 0, 16⟩⟩
/-- SYN_FLAG.DPLL_UNLOCK and its companion count (R14). -/
def SYN_DPLL_UNLOCK : FlagBit := ⟨⟨0x90020, 1, 1⟩, ⟨0x90024, 16, 16⟩⟩
/-- SYN_FLAG.RELOCK_SQ and its companion count (R14). -/
def SYN_RELOCK_SQ : FlagBit := ⟨⟨0x90020, 2, 1⟩, ⟨0x90028, 0, 16⟩⟩
/-- SYN_FLAG.CLAMP and its companion count (R14). -/
def SYN_CLAMP : FlagBit := ⟨⟨0x90020, 3, 1⟩, ⟨0x90028, 16, 16⟩⟩
/-- SYN_FLAG.OSCIN_LOSS and its companion count (R14). -/
def SYN_OSCIN_LOSS : FlagBit := ⟨⟨0x90020, 4, 1⟩, ⟨0x9002c, 0, 16⟩⟩
/-- OUT_FLAG.SQUELCH and its companion count (R14). -/
def OUT_SQUELCH (i : Nat) : FlagBit := ⟨⟨0x91044 + 0x80 * i, 0, 1⟩, ⟨0x91048 + 0x80 * i, 0, 16⟩⟩
/-- OUT_FLAG.RELOCK_SQ and its companion count (R14). -/
def OUT_RELOCK_SQ (i : Nat) : FlagBit := ⟨⟨0x91044 + 0x80 * i, 1, 1⟩, ⟨0x91048 + 0x80 * i, 16, 16⟩⟩
/-- OUT_FLAG.ALIGN_LOST and its companion count (R14). -/
def OUT_ALIGN_LOST (i : Nat) : FlagBit := ⟨⟨0x91044 + 0x80 * i, 2, 1⟩, ⟨0x9104c + 0x80 * i, 0, 16⟩⟩
/-- OUT_FLAG.CFGERR and its companion count (R14). -/
def OUT_CFGERR (i : Nat) : FlagBit := ⟨⟨0x91044 + 0x80 * i, 3, 1⟩, ⟨0x9104c + 0x80 * i, 16, 16⟩⟩
/-- PLS_FLAG.MISSED and its companion count (R14). -/
def PLS_MISSED : FlagBit := ⟨⟨0xa0010, 0, 1⟩, ⟨0xa0014, 0, 16⟩⟩
/-- PLS_FLAG.PAST and its companion count (R14). -/
def PLS_PAST : FlagBit := ⟨⟨0xa0010, 1, 1⟩, ⟨0xa0014, 16, 16⟩⟩
/-- PLS_FLAG.OVERLAP and its companion count (R14). -/
def PLS_OVERLAP : FlagBit := ⟨⟨0xa0010, 2, 1⟩, ⟨0xa0018, 0, 16⟩⟩
/-- PLS_FLAG.SPACING and its companion count (R14). -/
def PLS_SPACING : FlagBit := ⟨⟨0xa0010, 3, 1⟩, ⟨0xa0018, 16, 16⟩⟩
/-- PLS_FLAG.CONFLICT and its companion count (R14). -/
def PLS_CONFLICT : FlagBit := ⟨⟨0xa0010, 4, 1⟩, ⟨0xa001c, 0, 16⟩⟩
/-- PLS_FLAG.FRAME_SKIP and its companion count (R14). -/
def PLS_FRAME_SKIP : FlagBit := ⟨⟨0xa0010, 5, 1⟩, ⟨0xa001c, 16, 16⟩⟩
/-- PLS_FLAG.EDGE_ERR and its companion count (R14). -/
def PLS_EDGE_ERR : FlagBit := ⟨⟨0xa0010, 6, 1⟩, ⟨0xa0020, 0, 16⟩⟩
/-- PLS_FLAG.TABLE_ERR and its companion count (R14). -/
def PLS_TABLE_ERR : FlagBit := ⟨⟨0xa0010, 7, 1⟩, ⟨0xa0020, 16, 16⟩⟩
/-- LN_FLAG.CDR_LOSS and its companion count (R14). -/
def LN_CDR_LOSS (i : Nat) : FlagBit := ⟨⟨0xb1050 + 0x100 * i, 0, 1⟩, ⟨0xb1054 + 0x100 * i, 0, 16⟩⟩
/-- LN_FLAG.POL_CHANGE and its companion count (R14). -/
def LN_POL_CHANGE (i : Nat) : FlagBit := ⟨⟨0xb1050 + 0x100 * i, 1, 1⟩, ⟨0xb1054 + 0x100 * i, 16, 16⟩⟩
/-- LN_FLAG.EYE_LOW and its companion count (R14). -/
def LN_EYE_LOW (i : Nat) : FlagBit := ⟨⟨0xb1050 + 0x100 * i, 2, 1⟩, ⟨0xb1058 + 0x100 * i, 0, 16⟩⟩
/-- MAC_FLAG.LINK_DOWN and its companion count (R14). -/
def MAC_LINK_DOWN (i : Nat) : FlagBit := ⟨⟨0xc0050 + 0x2000 * i, 0, 1⟩, ⟨0xc0054 + 0x2000 * i, 0, 16⟩⟩
/-- MAC_FLAG.LF and its companion count (R14). -/
def MAC_LF (i : Nat) : FlagBit := ⟨⟨0xc0050 + 0x2000 * i, 1, 1⟩, ⟨0xc0054 + 0x2000 * i, 16, 16⟩⟩
/-- MAC_FLAG.RF and its companion count (R14). -/
def MAC_RF (i : Nat) : FlagBit := ⟨⟨0xc0050 + 0x2000 * i, 2, 1⟩, ⟨0xc0058 + 0x2000 * i, 0, 16⟩⟩
/-- MAC_FLAG.PWD_TRIP and its companion count (R14). -/
def MAC_PWD_TRIP (i : Nat) : FlagBit := ⟨⟨0xc0050 + 0x2000 * i, 3, 1⟩, ⟨0xc0058 + 0x2000 * i, 16, 16⟩⟩
/-- MAC_FLAG.CNT_HALF and its companion count (R14). -/
def MAC_CNT_HALF (i : Nat) : FlagBit := ⟨⟨0xc0050 + 0x2000 * i, 4, 1⟩, ⟨0xc005c + 0x2000 * i, 0, 16⟩⟩
/-- MAC_FLAG.BUF_DROP and its companion count (R14). -/
def MAC_BUF_DROP (i : Nat) : FlagBit := ⟨⟨0xc0050 + 0x2000 * i, 5, 1⟩, ⟨0xc005c + 0x2000 * i, 16, 16⟩⟩
/-- MAC_FLAG.FEC_UNCORR and its companion count (R14). -/
def MAC_FEC_UNCORR (i : Nat) : FlagBit := ⟨⟨0xc0050 + 0x2000 * i, 6, 1⟩, ⟨0xc0060 + 0x2000 * i, 0, 16⟩⟩
/-- MAC_FLAG.CFGERR and its companion count (R14). -/
def MAC_CFGERR (i : Nat) : FlagBit := ⟨⟨0xc0050 + 0x2000 * i, 7, 1⟩, ⟨0xc0060 + 0x2000 * i, 16, 16⟩⟩
/-- TSU_FLAG.LATE_DISC and its companion count (R14). -/
def TSU_LATE_DISC (i : Nat) : FlagBit := ⟨⟨0xe1050 + 0x100 * i, 0, 1⟩, ⟨0xe1054 + 0x100 * i, 0, 16⟩⟩
/-- TSU_FLAG.VERIFY and its companion count (R14). -/
def TSU_VERIFY (i : Nat) : FlagBit := ⟨⟨0xe1050 + 0x100 * i, 1, 1⟩, ⟨0xe1054 + 0x100 * i, 16, 16⟩⟩
/-- TSU_FLAG.SLOT and its companion count (R14). -/
def TSU_SLOT (i : Nat) : FlagBit := ⟨⟨0xe1050 + 0x100 * i, 2, 1⟩, ⟨0xe1058 + 0x100 * i, 0, 16⟩⟩
/-- TSU_FLAG.CAL_DONE and its companion count (R14). -/
def TSU_CAL_DONE (i : Nat) : FlagBit := ⟨⟨0xe1050 + 0x100 * i, 3, 1⟩, ⟨0xe1058 + 0x100 * i, 16, 16⟩⟩
/-- CLA_FLAG.VIOLATION and its companion count (R14). -/
def CLA_VIOLATION : FlagBit := ⟨⟨0x100050, 0, 1⟩, ⟨0x100054, 0, 16⟩⟩
/-- CLA_FLAG.PUNT_DROP and its companion count (R14). -/
def CLA_PUNT_DROP : FlagBit := ⟨⟨0x100050, 1, 1⟩, ⟨0x100054, 16, 16⟩⟩
/-- CLA_FLAG.TIGHTEN and its companion count (R14). -/
def CLA_TIGHTEN : FlagBit := ⟨⟨0x100050, 2, 1⟩, ⟨0x100058, 0, 16⟩⟩
/-- CLA_FLAG.STARVED and its companion count (R14). -/
def CLA_STARVED : FlagBit := ⟨⟨0x100050, 3, 1⟩, ⟨0x100058, 16, 16⟩⟩
/-- CLA_FLAG.STREAM_MISS and its companion count (R14). -/
def CLA_STREAM_MISS : FlagBit := ⟨⟨0x100050, 4, 1⟩, ⟨0x10005c, 0, 16⟩⟩
/-- CLA_FLAG.GT_MISS and its companion count (R14). -/
def CLA_GT_MISS : FlagBit := ⟨⟨0x100050, 5, 1⟩, ⟨0x10005c, 16, 16⟩⟩
/-- SAT_FLAG.EXPIRED and its companion count (R14). -/
def SAT_EXPIRED : FlagBit := ⟨⟨0x120080, 0, 1⟩, ⟨0x120084, 0, 16⟩⟩
/-- SAT_FLAG.EXP_HELD and its companion count (R14). -/
def SAT_EXP_HELD : FlagBit := ⟨⟨0x120080, 1, 1⟩, ⟨0x120084, 16, 16⟩⟩
/-- SAT_FLAG.ECC and its companion count (R14). -/
def SAT_ECC : FlagBit := ⟨⟨0x120080, 2, 1⟩, ⟨0x120088, 0, 16⟩⟩
/-- SAT_FLAG.CY_HALT and its companion count (R14). -/
def SAT_CY_HALT : FlagBit := ⟨⟨0x120080, 3, 1⟩, ⟨0x120088, 16, 16⟩⟩
/-- SAT_FLAG.CHK_FAIL and its companion count (R14). -/
def SAT_CHK_FAIL : FlagBit := ⟨⟨0x120080, 4, 1⟩, ⟨0x12008c, 0, 16⟩⟩
/-- SAT_FLAG.DRBG_FAIL and its companion count (R14). -/
def SAT_DRBG_FAIL : FlagBit := ⟨⟨0x120080, 5, 1⟩, ⟨0x12008c, 16, 16⟩⟩
/-- SAT_FLAG.NO_KEY and its companion count (R14). -/
def SAT_NO_KEY : FlagBit := ⟨⟨0x120080, 6, 1⟩, ⟨0x120090, 0, 16⟩⟩
/-- SAT_FLAG.KAT_FAIL and its companion count (R14). -/
def SAT_KAT_FAIL : FlagBit := ⟨⟨0x120080, 7, 1⟩, ⟨0x120090, 16, 16⟩⟩
/-- FAB_FLAG.ACCESS_ERR and its companion count (R14). -/
def FAB_ACCESS_ERR : FlagBit := ⟨⟨0x130020, 0, 1⟩, ⟨0x130024, 0, 16⟩⟩
/-- FAB_FLAG.LOCK_TMO and its companion count (R14). -/
def FAB_LOCK_TMO : FlagBit := ⟨⟨0x130020, 1, 1⟩, ⟨0x130024, 16, 16⟩⟩
/-- FAB_FLAG.BURST_ABORT and its companion count (R14). -/
def FAB_BURST_ABORT : FlagBit := ⟨⟨0x130020, 2, 1⟩, ⟨0x130028, 0, 16⟩⟩
/-- FAB_FLAG.MEM_CORR and its companion count (R14). -/
def FAB_MEM_CORR : FlagBit := ⟨⟨0x130020, 3, 1⟩, ⟨0x130028, 16, 16⟩⟩
/-- FAB_FLAG.MEM_UNCORR and its companion count (R14). -/
def FAB_MEM_UNCORR : FlagBit := ⟨⟨0x130020, 4, 1⟩, ⟨0x13002c, 0, 16⟩⟩
/-- FAB_FLAG.MON_EXCL and its companion count (R14). -/
def FAB_MON_EXCL : FlagBit := ⟨⟨0x130020, 5, 1⟩, ⟨0x13002c, 16, 16⟩⟩
/-- FAB_FLAG.REPLAN and its companion count (R14). -/
def FAB_REPLAN : FlagBit := ⟨⟨0x130020, 6, 1⟩, ⟨0x130030, 0, 16⟩⟩
/-- FAB_FLAG.TDC_TRIM_END and its companion count (R14). -/
def FAB_TDC_TRIM_END : FlagBit := ⟨⟨0x130020, 7, 1⟩, ⟨0x130030, 16, 16⟩⟩
/-- FLT_FLAG.CORRECTED and its companion count (R14). -/
def FLT_CORRECTED : FlagBit := ⟨⟨0x140010, 0, 1⟩, ⟨0x140014, 0, 16⟩⟩
/-- FLT_FLAG.CONTAINED and its companion count (R14). -/
def FLT_CONTAINED : FlagBit := ⟨⟨0x140010, 1, 1⟩, ⟨0x140014, 16, 16⟩⟩
/-- FLT_FLAG.FATAL and its companion count (R14). -/
def FLT_FATAL : FlagBit := ⟨⟨0x140010, 2, 1⟩, ⟨0x140018, 0, 16⟩⟩
/-- FLT_FLAG.SEVERE and its companion count (R14). -/
def FLT_SEVERE : FlagBit := ⟨⟨0x140010, 3, 1⟩, ⟨0x140018, 16, 16⟩⟩
/-- FLT_FLAG.CONSEQ and its companion count (R14). -/
def FLT_CONSEQ : FlagBit := ⟨⟨0x140010, 4, 1⟩, ⟨0x14001c, 0, 16⟩⟩
/-- FLT_FLAG.INJECTED and its companion count (R14). -/
def FLT_INJECTED : FlagBit := ⟨⟨0x140010, 5, 1⟩, ⟨0x14001c, 16, 16⟩⟩
/-- FLT_FLAG.LOG_DROP and its companion count (R14). -/
def FLT_LOG_DROP : FlagBit := ⟨⟨0x140010, 6, 1⟩, ⟨0x140020, 0, 16⟩⟩
/-- FLT_FLAG.VOTE and its companion count (R14). -/
def FLT_VOTE : FlagBit := ⟨⟨0x140010, 7, 1⟩, ⟨0x140020, 16, 16⟩⟩
/-- CNJ_FLAG.ROLE_CHG and its companion count (R14). -/
def CNJ_ROLE_CHG : FlagBit := ⟨⟨0x150080, 0, 1⟩, ⟨0x150084, 0, 16⟩⟩
/-- CNJ_FLAG.PEER_LOST and its companion count (R14). -/
def CNJ_PEER_LOST : FlagBit := ⟨⟨0x150080, 1, 1⟩, ⟨0x150084, 16, 16⟩⟩
/-- CNJ_FLAG.LINK_DOWN and its companion count (R14). -/
def CNJ_LINK_DOWN : FlagBit := ⟨⟨0x150080, 2, 1⟩, ⟨0x150088, 0, 16⟩⟩
/-- CNJ_FLAG.MISMATCH and its companion count (R14). -/
def CNJ_MISMATCH : FlagBit := ⟨⟨0x150080, 3, 1⟩, ⟨0x150088, 16, 16⟩⟩
/-- CNJ_FLAG.DISAGREE and its companion count (R14). -/
def CNJ_DISAGREE : FlagBit := ⟨⟨0x150080, 4, 1⟩, ⟨0x15008c, 0, 16⟩⟩
/-- CNJ_FLAG.REH_FAIL and its companion count (R14). -/
def CNJ_REH_FAIL : FlagBit := ⟨⟨0x150080, 5, 1⟩, ⟨0x15008c, 16, 16⟩⟩
/-- CNJ_FLAG.LANE_SKEW and its companion count (R14). -/
def CNJ_LANE_SKEW : FlagBit := ⟨⟨0x150080, 6, 1⟩, ⟨0x150090, 0, 16⟩⟩
/-- CNJ_FLAG.RESYNC and its companion count (R14). -/
def CNJ_RESYNC : FlagBit := ⟨⟨0x150080, 7, 1⟩, ⟨0x150090, 16, 16⟩⟩
/-- CNJ_FLAG.CFG_DIFF and its companion count (R14). -/
def CNJ_CFG_DIFF : FlagBit := ⟨⟨0x150080, 8, 1⟩, ⟨0x150094, 0, 16⟩⟩
/-- CNJ_FLAG.TAKE_CONTEND and its companion count (R14). -/
def CNJ_TAKE_CONTEND : FlagBit := ⟨⟨0x150080, 9, 1⟩, ⟨0x150094, 16, 16⟩⟩
/-- OBS_FLAG.PC_HALF and its companion count (R14). -/
def OBS_PC_HALF : FlagBit := ⟨⟨0x160010, 0, 1⟩, ⟨0x160014, 0, 16⟩⟩
/-- OBS_FLAG.SMP_FULL and its companion count (R14). -/
def OBS_SMP_FULL : FlagBit := ⟨⟨0x160010, 1, 1⟩, ⟨0x160014, 16, 16⟩⟩
/-- OBS_FLAG.TRC_LOST and its companion count (R14). -/
def OBS_TRC_LOST : FlagBit := ⟨⟨0x160010, 2, 1⟩, ⟨0x160018, 0, 16⟩⟩
/-- OBS_FLAG.JRNL_OVERWRITE and its companion count (R14). -/
def OBS_JRNL_OVERWRITE : FlagBit := ⟨⟨0x160010, 3, 1⟩, ⟨0x160018, 16, 16⟩⟩
/-- OBS_FLAG.PF1_DENY and its companion count (R14). -/
def OBS_PF1_DENY : FlagBit := ⟨⟨0x160010, 4, 1⟩, ⟨0x16001c, 0, 16⟩⟩
/-- OBS_FLAG.SNAP_DONE and its companion count (R14). -/
def OBS_SNAP_DONE : FlagBit := ⟨⟨0x160010, 5, 1⟩, ⟨0x16001c, 16, 16⟩⟩
/-- PWR_FLAG.AVS_FAIL and its companion count (R14). -/
def PWR_AVS_FAIL : FlagBit := ⟨⟨0x170050, 0, 1⟩, ⟨0x170054, 0, 16⟩⟩
/-- PWR_FLAG.AT_VMAX and its companion count (R14). -/
def PWR_AT_VMAX : FlagBit := ⟨⟨0x170050, 1, 1⟩, ⟨0x170054, 16, 16⟩⟩

end Flag

end Sys2Proof.Machine
end

