-- ==== Sys2Proof/Machine/RegFile.lean ====
section
/-!
DEFINITION. The register file: one home for every field of BAR0, kept as a map from the field's key to its value. A field
that is not listed holds its reset value (the register tables). Words are composed from fields, so reserved bits and
reserved addresses read 0 (R598, R599).
-/

namespace Sys2Proof.Machine

/-- Whether group `g` assigns byte address `a`, and with which instance. -/
def GroupSpec.instAt (g : GroupSpec) (a : Nat) : Option Nat :=
  if a < g.base then none
  else
    let i := (a - g.base) / g.stride
    if i < g.count && g.live i then some i else none

/-- The element of row `f` that lies at offset `o` of its group. -/
def FieldSpec.elemAt (f : FieldSpec) (o : Nat) : Option Nat :=
  if o < f.off then none
  else if (o - f.off) % f.step = 0 ∧ (o - f.off) / f.step < f.n then some ((o - f.off) / f.step) else none

/-- The fields of one group at byte address `a`: the row, and the index its rules are given (the instance, or the array
element in a group of one instance). -/
def GroupSpec.fieldsAt (g : GroupSpec) (a : Nat) : List (FieldSpec × Nat) :=
  match g.instAt a with
  | none => []
  | some i =>
    g.fields.filterMap (fun f =>
      match f.elemAt (a - g.base - g.stride * i) with
      | none => none
      | some k => some (f, if g.count = 1 then k else i))

/-- The fields of the register at byte address `a`; none for a reserved address. -/
def fieldsAt (a : Nat) : List (FieldSpec × Nat) := regMap.flatMap (fun g => g.fieldsAt a)

/-- The row of the field at address `a`, lowest bit `lo`. -/
def specAt (a lo : Nat) : Option (FieldSpec × Nat) := (fieldsAt a).find? (fun p => p.1.lo = lo)

/-- The reset value of the field with key `k` (0 for a key that names no field). -/
def resetOf (k : Nat) : Nat :=
  match specAt (k / 32) (k % 32) with
  | some (f, i) => f.reset i
  | none => 0

/-- The store rule of a field: what a write of `v` stores. -/
def storedValue (f : Field) (v : Nat) : Nat :=
  match specAt f.addr f.lo with
  | some (sp, i) => sp.store i v % 2 ^ f.w
  | none => 0

end Sys2Proof.Machine
end

