-- ==== Sys2Proof/Machine/State.lean ====
section
/-!
DEFINITION. The state of the block, as plain data: every register, buffer, queue, counter, mode and pin the spec gives it,
and the queue of waiting commands. Registers live in ONE map (`regs`, see RegFile); every array is an `SMap` with a default
entry, so that `State.reset` lists nothing. What has a register is held in that register and nowhere else; the structures
below hold the internal state the spec describes beside its registers.
-/

namespace Sys2Proof.Machine

/-- No command of this model faults: the spec gives every command an effect, and instance numbers are bounded by type. -/
inductive Fault : Type
  deriving DecidableEq, Repr

/-- Why a command has no meaning yet. -/
inductive Refusal where
  /-- Raised by `exec` for a row of the table whose meaning is not written; safe. -/
  | notModelled (mnemonic : String)
  deriving DecidableEq, Repr

/-- The time base (R16–R19): the free-running counter in ns since its start, the signed offset in 2⁻¹⁶ ns, and the AO
clock's own count of ns, which runs from AO power-on. `unbounded` is latched by R19 until the next device reset. `step` is the last step: the
counter at its effective instant, the time base before it, and its size. -/
structure Tb where
  running : Bool
  stopped : Bool
  unbounded : Bool
  cyc : Nat
  ofs : Int
  ao : Nat
  step : Option (Nat × Nat × Int)
  deriving DecidableEq, Repr

/-- A journal record (Journal, 01_time_and_gloss.md; R536, R537): short stamp, CSEQ, unit, severity, source, code and
payload bytes. -/
structure JRec where
  stamp : Nat
  cseq : Nat
  unit : Nat
  sev : Nat
  src : Nat
  code : Nat
  pay : List Byte
  deriving DecidableEq, Repr

/-- A slot of the journal ring: the record, and whether a JOURNAL_EXPORT has read it (R536). -/
structure JSlot where
  item : JRec
  read : Bool
  deriving DecidableEq, Repr

/-- The causal counter and the journal ring (R32, R536). Head, tail and lost count are registers. -/
structure Jrnl where
  cseq : Nat
  dirty : Bool
  ring : SMap JSlot
  deriving DecidableEq, Repr

/-- A completion entry (R407). -/
structure Completion where
  tag : Nat
  status : Nat
  more : Bool
  ring : Nat
  stamp : Nat
  applied : Nat
  result : List Byte
  deriving DecidableEq, Repr

/-- A Sceat record (R539): TYPE, records-lost flag, CSEQ, stamp and payload from byte 20. -/
structure TraceRec where
  type : Nat
  lost : Bool
  cseq : Nat
  stamp : Nat
  pay : List Byte
  deriving DecidableEq, Repr

/-- An entry the device has written into a host ring (R397). -/
inductive Entry where
  | empty
  | completion (phase : Bool) (c : Completion)
  | event (type source cseq : Nat) (stamp : Nat) (pay : List Byte)
  | punt (header : List Byte) (frame : List Byte)
  | trace (r : TraceRec)
  deriving DecidableEq, Repr

/-- A descriptor accepted and not yet applied (IQ21 when timed): its ASEQ, opcode, image, acceptance stamp and, when TIMED,
the expanded EFFECTIVE_TIME (R22), both in 2⁻¹⁶ ns. -/
structure Waiting where
  aseq : Nat
  opcode : Nat
  d : Desc
  accepted : Nat
  eff : Option Nat
  deriving DecidableEq, Repr

/-- A descriptor applied, whose completion waits for a later event of its own unit (SNAP_EXPORT, PLS_ALIGN, FLT_INJECT,
OUT_CTL …). -/
structure OpenOp where
  aseq : Nat
  opcode : Nat
  d : Desc
  applied : Nat
  key : Nat
  deriving DecidableEq, Repr

/-- A long operation running or suspended (R415–R417). `suspReq` and `cancelReq` are
requested and not yet taken at the operation's own point; `auto` marks the survey-in that no descriptor started (R115). -/
structure LongOp where
  opcode : Nat
  port : Nat
  tag : Nat
  d : Desc
  applied : Nat
  suspended : Bool
  suspReq : Bool
  cancelReq : Bool
  auto : Bool
  deriving DecidableEq, Repr

/-- Host interface state beside its registers (R392–R408): descriptors waiting, applied with a completion to come, and long operations;
IQ20 (completion ring, completion, NOTIFY); host memory: ring slots, writebacks by ring (GEN × 65,536 + IDX), and other areas by
address; by ring, entries not yet notified, the AO time of the oldest, failed fetches of the next descriptor, and events lost; the
second entries that accepted RESUMEs reserved (ASEQ, completion ring); D3hot; messages sent by vector; and how the last access that
answers was answered (none succeeded or a value, false for an Unsupported Request). -/
structure Hif where
  waiting : List Waiting
  opens : List OpenOp
  longs : List LongOp
  iq20 : List (Nat × Completion × Bool)
  mem : SMap Entry
  wb : SMap Nat
  host : SMap (List Byte)
  notif : SMap Nat
  oldest : SMap Nat
  retries : SMap Nat
  evLost : SMap Nat
  extra : List (Nat × Nat)
  d3hot : Bool
  irqs : SMap Nat
  response : Option (Bool × Nat)
  deriving DecidableEq, Repr

/-- Trim tracking of one TDC channel (R454): spreads summed, their number, and the trim step in force. -/
structure Trim where
  n : Nat
  sum : Nat
  step : Int
  deriving DecidableEq, Repr

/-- No calibration seen, trim at its production value. -/
def Trim.zero : Trim := ⟨0, 0, 0⟩

/-- A burst asked of the crossbar (R434): target, master, address, access type (R472's codes), beats, the (data, byte enables) of a write,
the data of a read from outside, and the symbols found in error in the first word read. -/
structure FabReq where
  t : Nat
  m : Nat
  a : Nat
  acc : Nat
  n : Nat
  beats : List (Nat × Nat)
  ext : List Nat
  sym : Nat
  deriving DecidableEq, Repr

/-- The fabric and the margin planner beside their registers (R430–R458): locks (target: master + 1, AO instant, address), locks
broken by timeout, the master last served (+ 1), SRAM words and their symbols in error, the landing buffer (TB cycle,
master, kind) and the TB cycle it was settled at, good windows and reasons of excluded monitors, the answers (master, code, data)
of the last transfer, bursts waiting at a locked target, whether the last grant skipped arbitration, and the planner's
history. -/
structure Fab where
  trim : SMap Trim
  locks : SMap (Nat × Nat × Nat)
  broken : List (Nat × Nat)
  served : SMap Nat
  sram : SMap Nat
  bad : SMap Nat
  landing : List (Nat × Nat × Nat)
  goodWin : SMap Nat
  resp : List (Nat × Nat × List Nat)
  waiting : List FabReq
  skipped : Bool
  landAt : Nat
  exclWhy : SMap Nat
  lowerDue : Bool
  lastStep : Option Nat
  highSince : Option Nat
  stepStop : Bool
  rewritten : Bool
  lowSeen : Bool
  vmaxAt : Option Nat
  vmaxMin : List (Nat × Nat)
  corrDay : Nat
  corrSum : Int
  corrN : Nat
  days : List (Nat × Int)
  eyeDays : SMap (List (Nat × Nat × Nat))
  firstService : Option Nat
  sweepLeft : List Nat
  sweepLow : Option (Nat × Nat)
  sweepN : Nat
  projSeen : Bool
  deriving DecidableEq, Repr

/-- A staged Sceat record and which destinations have taken it; `words` counts the words WIN has read of it (R540, R541). -/
structure Staged where
  item : TraceRec
  port : Bool
  ring : Bool
  words : Nat
  win : Bool
  deriving DecidableEq, Repr

/-- A sample record (R534). -/
structure Sample where
  stamp : Nat
  engine : Nat
  context : Nat
  role : Nat
  wait : Nat
  addr : Nat
  insn : Nat
  lat : Nat
  target : Nat
  cseq : Nat
  deriving DecidableEq, Repr

/-- A journal export in progress (R546): next JIDX, the JIDX after the last, first JIDX copied, records copied, host address,
and whether any was skipped. -/
structure Export where
  next : Nat
  stop : Nat
  first : Option Nat
  copied : Nat
  addr : Nat
  skipped : Bool
  deriving DecidableEq, Repr

/-- Observation beside its registers (R525–R546). The value of counter i is (pcBase + pcOff i) mod 2⁴⁸: pcBase counts the TB
cycles in which counters ran, and pcOff the rest, so that 1,024 counters at their reset selection list nothing. `ev` holds
the events of the TB cycle in progress, keyed by EVENT × 256 + INST; `bwWin` is the WIN each port's bandwidth window runs under. -/
structure Obs where
  ev : SMap Nat
  pcBase : Nat
  pcOff : SMap Nat
  snapBase : Nat
  snapOff : SMap Nat
  snapMac : SMap Nat
  staged : List Staged
  lostRun : Nat
  lostJrnl : Option Nat
  bwWin : SMap Nat
  winStart : SMap Nat
  bwRx : SMap Nat
  bwTx : SMap Nat
  samples : SMap Sample
  countdown : SMap Nat
  txnCount : SMap Nat
  portFrame : List Byte
  exp : Option Export
  grantAt : Option Nat
  grantWas : List Nat
  deriving DecidableEq, Repr

/-- The settings of a measurement channel, as its registers hold them (CH_CFG … CH_EPOFS), and whether it is the pulse channel of the
1PPS+ToD input (R79). -/
structure ChSet where
  type : Nat
  slope : Nat
  win : Nat
  per : Nat
  div : Nat
  dly : Int
  minw : Nat
  auto : Bool
  epofs : Nat
  post : Bool
  evring : Nat
  dir : Bool
  pps : Bool
  deriving DecidableEq, Repr

/-- A measurement channel (R57–R78): the settings in force, whether a register write waits for the next epoch (R604), the
open window with its edges and stops, the calibration pair in force and the one taken for the next window, the EVENT FIFO (for each
stamp held, the elapsed ns at which it leaves), the running edge count, the elapsed ns at which the open window began and at which
settings were last taken in, and the last stamped stop on the free-running counter (2⁻⁹ ns). Stops are (stamp in 2⁻⁹ ns, edge
number). -/
structure Ch where
  set : ChSet
  changed : Bool
  isOpen : Bool
  epoch : Nat
  short : Bool
  edges : Nat
  numbered : Nat
  stops : List (Int × Nat)
  blind : Bool
  missed : Bool
  glitch : Bool
  c1 : Nat
  c2 : Nat
  calOk : Bool
  next : Option (Nat × Nat)
  badNext : Bool
  fifo : List Nat
  running : Nat
  ovf : Bool
  openAt : Nat
  setAt : Option Nat
  lastStop : Option Int
  deriving DecidableEq, Repr

/-- A channel right after reset: OFF, no window, no calibration. -/
def Ch.zero : Ch :=
  ⟨⟨0, 0, 0, 1000, 1, 0, 0, true, 0, false, 0, false, false⟩, false, false, 0, false, 0, 0, [], false, false, false, 0, 0,
   false, none, false, [], 0, false, 0, none, none⟩

/-- What a ToD message carries (R80): PTP seconds, status octet, currentUtcOffset, LEAP61, LEAP59, UTCV, and the elapsed ns of its
completion. -/
structure TodLabel where
  sec : Nat
  qual : Nat
  utc : Int
  l61 : Bool
  l59 : Bool
  utcv : Bool
  done : Nat
  deriving DecidableEq, Repr

/-- The 1PPS+ToD input (R79–R83): the free-running ns of the last pulse and its distance from the nominal instant (2⁻⁹ ns); of the
pulse's window, once closed, the corrected instant t_s − DLY (`pulseStop`); whether the window has closed and its result is out
(`ended`), whether NOTOD has been counted for it (`missed`), the label paired with it, the label held for the next pulse when
LABEL = 1, the last labelled second, the run of consecutive ones, and the elapsed ns of the epoch of the pulse's window. -/
structure Tod where
  pulse : Option Nat
  near : Nat
  pulseStop : Int
  closed : Bool
  ended : Bool
  missed : Bool
  paired : Option TodLabel
  held : Option TodLabel
  lastSec : Option Nat
  run : Nat
  epochAt : Nat
  deriving DecidableEq, Repr

/-- Reference inputs: the 24 channels and the ToD receiver. -/
structure Refin where
  ch : SMap Ch
  tod : Tod
  deriving DecidableEq, Repr

/-- TAI − UTC and leaps (R189, R190): TAI_UTC and UTC_VALID as the Tense unit holds them (TNS_UTC_STAT shows them at each
snapshot, R56), the armed leap (SEC of T_L, inserted), an announced leap that is not yet armed (with the TRACE to journal), the
second at which an inserted leap ends, the last leap applied (its second, and TAI_UTC before it), and, per source, the differing
values and contradicting announcements already reported. -/
structure Utc where
  tai : Int
  valid : Bool
  leap : Option (Nat × Bool)
  announced : Option (Nat × Bool × Nat)
  inLeapEnd : Option Nat
  past : Option (Nat × Int)
  seen : SMap (List Int)
  seenLeap : SMap (List (Nat × Bool))
  deriving DecidableEq, Repr

/-- A snapshot slot beside its registers (R119–R124): the fine stamp of its first sample (2⁻¹⁶ ns), the short stamp of the
trigger, pre-trigger ms achieved, valid bands, TAG of the first command (none for no command), and the bytes of the two bands (missing ones are 0). -/
structure SnapSlot where
  first : Nat
  trig : Nat
  pre : Nat
  bands : Nat
  tag : Option Nat
  l1 : List Byte
  l5 : List Byte
  deriving DecidableEq, Repr

/-- An empty slot. -/
def SnapSlot.zero : SnapSlot := ⟨0, 0, 0, 0, none, [], []⟩

/-- A survey-in beside its LongOp (R111–R115): valid epochs and coordinate sums (1/256 m), the achieved σ_pos in mm, elapsed
ns counted, and since when it counts (none while suspended, then since when suspended). -/
structure Survey where
  minS : Nat
  maxS : Nat
  target : Nat
  adoptPartial : Bool
  n : Nat
  sx : Rat
  sy : Rat
  sz : Rat
  sig : Nat
  acc : Nat
  since : Option Nat
  susp : Option Nat
  deriving DecidableEq, Repr

/-- A tracking channel beside its registers (R99, R100, R116): half-chip moves of a BOC signal, the code correction in force and the
residual r (ps), the smoothed code measurement, the carrier measurement it goes with and the epochs smoothed over, and C/N0 at the
epochs of the last 10 s (elapsed ns, dB-Hz; newest first). -/
structure Chan where
  moved : Int
  corr : Rat
  res : Rat
  smooth : Rat
  carrier : Int
  epochs : Nat
  cn0s : List (Nat × Nat)
  deriving DecidableEq, Repr

/-- A channel that has measured nothing. -/
def Chan.zero : Chan := ⟨0, 0, 0, 0, 0, 0, []⟩

/-- The GNSS baseband beside its registers (R91–R127): the epoch last solved, a position to adopt with its σ and when it was
fixed, when each band's STUCK and each check's condition was last seen, ms in a row that a band's power lay above JAM_THR, runs of SHAPE
(by band) and XREF epochs and the latest |φ_G − φ_ref| in ps, second peaks found, the UTC parameters of TSYS last agreed, the slot LIVE and
since when, a running capture (slot, elapsed ns of its end), frozen slots oldest first, triggers merged, the survey, and the channels. -/
structure Gnss where
  epoch : Option Nat
  newPos : Option (Int × Int × Int × Nat × Nat)
  stuckAt : SMap Nat
  seenAt : SMap Nat
  jamRun : SMap Nat
  shapeRun : SMap Nat
  xrefRun : Nat
  xrefDiff : Nat
  peaks : SMap Bool
  utcPar : Option UtcPar
  live : Option (Nat × Nat)
  run : Option (Nat × Nat)
  slots : SMap SnapSlot
  frozen : List Nat
  merged : Nat
  survey : Option Survey
  chans : SMap Chan
  deriving DecidableEq, Repr

/-- A measurement a reference delivers to selection: not yet consumed (`fresh`), the elapsed ns and the time-base instant at
which it holds, φ in 2⁻⁹ ns, `nspan` and `span` of a FREQ window, whether whole seconds are resolved, the source bound in
ps that comes with it (none when none comes; some none for one that is not bounded), and the measured path delay in ps. -/
structure Meas where
  fresh : Bool
  freeAt : Nat
  stampU : Nat
  phi : Option Int
  nspan : Nat
  span : Nat
  time : Bool
  src : Option (Option Nat)
  path : Nat
  deriving DecidableEq, Repr

/-- No measurement yet. -/
def Meas.zero : Meas := ⟨false, 0, 0, none, 0, 0, false, none, 0⟩

/-- A monitor of a reference: beyond its limit, beyond its clear threshold, the same before the latest second-boundary
sample, the elapsed ns of that sample, and, while it is beyond its limit at every evaluation, when its DQ_HOLD ends. -/
structure MonSt where
  bad : Bool
  badClr : Bool
  wasBad : Bool
  wasClr : Bool
  taken : Nat
  due : Option Nat
  deriving DecidableEq, Repr

/-- A monitor that passes. -/
def MonSt.zero : MonSt := ⟨false, false, false, false, 0, none⟩

/-- A reference beside its registers (R131–R144): the end of the qualification hold-off, QSINCE, its monitors, the arrival that
restarts LOSINT, the arrival of the latest valid measurement, the history y is formed from, FREQ windows of the last second, y,
drift samples (φ and e, newest first), e and its re-basing offset, the ensemble's members at the last sample, the latest E_src (none:
not bounded) and measured path, a LOS taken at once, and y of a SyncE component. -/
structure RefSt where
  holdEnd : Option Nat
  qsince : Option Nat
  mons : SMap MonSt
  arrived : Option Nat
  measAt : Option Nat
  hist : List (Nat × Rat)
  wins : List (Nat × Nat × Nat)
  y : Option Rat
  got : Bool
  samples : List (Option (Rat × Rat))
  e : Rat
  ofs : Rat
  members : Option (List Nat)
  src : Option Nat
  path : Nat
  lost : Bool
  untrusted : Bool
  sy : Option Rat
  deriving DecidableEq, Repr

/-- A reference not yet enabled. -/
def RefSt.zero : RefSt :=
  ⟨none, none, [], none, none, [], [], none, false, [], 0, 0, none, some 0, 0, false, false, none⟩

/-- One exchange of a port PTP client (R155): o in 2⁻⁹ ns, d in 2⁻¹⁷ ns, the Gloss its Sync or Follow_Up carried, when and where in the
time base it holds. -/
structure Exch where
  o : Int
  d : Int
  gl : Option Nat
  freeAt : Nat
  stampU : Nat
  deriving DecidableEq, Repr

/-- A port's PTP client (R155, R341): the masters heard (latest Announce each, with its arrival in elapsed ns), the chosen one, the Sync whose Follow_Up is
awaited (sequenceId, corrected ingress instant t2 and the Sync's correction, 2⁻¹⁶ ns), the latest (t1, t2) with the Gloss it
carried, the Delay_Req awaiting its answer (sequenceId, corrected t3), the next Delay_Req's n, the exchanges (newest first),
the unicast grants held (message type, expiry in elapsed ns), and the Signaling messages it has sent. -/
structure Client where
  masters : List (Ann × Nat)
  master : Option Nat
  await : Option (Nat × Int × Int)
  sync : Option (Int × Int × Option Nat)
  dreq : Option (Nat × Int)
  nreq : Option Nat
  exch : List Exch
  grants : SMap Nat
  nsig : Nat
  deriving DecidableEq, Repr

/-- No master heard. -/
def Client.zero : Client := ⟨[], none, none, none, none, none, [], [], 0⟩

/-- Selection beside its registers, with the port clients: measurements by reference, references, disqualifications to take at the next
publication (reference, CAUSE), the forced references (time, frequency), ESMC receipt per port, the undecided pairs
journalled (target, a, b), the switch journalled as held, the bound of R148 (none: not bounded), and since when a Tense core is in
reset (elapsed ns). -/
structure Sel where
  meas : SMap Meas
  refs : SMap RefSt
  dq : List (Nat × Nat)
  forced : Option Nat × Option Nat
  esmc : SMap Nat
  pairs : List (Nat × Nat × Nat)
  held : List (Nat × Nat)
  others : Option Nat
  stoppedAt : Option Nat
  clients : SMap Client
  deriving DecidableEq, Repr

/-- A stretch of constant steering: elapsed ns at its start, the integrals of y_st and of y_st + y_sl until then in ps,
and both rates. -/
structure YSeg where
  since : Nat
  cum : Rat
  cumAll : Rat
  yst : Rat
  yall : Rat
  deriving DecidableEq, Repr

/-- Holdover in force (R177–R179): y_e, T_e, the temperature held (1/256 °C), growth of the finished segments in ps,
elapsed ns since the last valid measurement at which the current segment started, whether it is assisted, u_k (or
u_s + U_Q), and I_T in ps over its whole seconds. -/
structure Hold where
  ye : Rat
  te : Rat
  temp : Rat
  fin : Nat
  start : Nat
  assisted : Bool
  u : Rat
  iT : Rat
  iTn : Nat
  deriving DecidableEq, Repr

/-- A core Gloss published: elapsed ns, time-base instant, word, and core bound in ps (none: not bounded). -/
structure Pub where
  freeAt : Nat
  stampU : Nat
  word : Nat
  bound : Option Nat
  deriving DecidableEq, Repr

/-- Holdover learning (R173–R176): the interval in progress (samples, sum of s, sum of T, seconds), the retained 60-second
means (LOCKED second, s, T), LOCKED seconds counted, those since the last fit, the EFC code at the start, the
seconds a HOLDOVER_LEARN has used, and whether SLEW was set, or TEMP_OK 0, since the last second boundary. -/
structure Learn where
  n : Nat
  sumS : Rat
  sumT : Int
  secs : Nat
  means : List (Nat × Rat × Rat)
  locked : Nat
  sinceFit : Nat
  code0 : Nat
  used : Option Nat
  skipS : Bool
  skipT : Bool
  deriving DecidableEq, Repr

/-- The Tense unit beside its registers (R163–R201). Phases are in ps, rates are fractions, both exact. `b0` and `eref` are none while
not bounded; `slewAt` is when `drem` was last brought up; `efcPend` is what EFC frames ended since the last publication take off
y_st; `goodT` is the last temperature that met R177's conditions; `tempAsk` the sensor read under way (ADDR, POINTER). -/
structure Tense where
  timeSet : Bool
  fc : Rat
  yst : Rat
  ysl : Rat
  phi : Rat
  y : Rat
  sd : Rat
  estN : Nat
  innov : List Rat
  startN : Nat
  retN : Option Nat
  uRet : Rat
  lockN : Nat
  drem : Rat
  slewAt : Nat
  dj : Option (Nat × Rat)
  delta : Rat
  lastMeas : Option Nat
  eref : Option Nat
  eloop : Nat
  b0 : Option Nat
  hold : Option Hold
  src : Nat
  trace : Nat
  pubs : List Pub
  tick : Option Pub
  doneAt : Option Nat
  stepped : Bool
  hist : List YSeg
  temps : List (Nat × Int)
  tempBad : Nat
  tempGood : Nat
  goodT : Option Int
  efcNs : Nat
  efcSum : Rat
  efcFrame : Option (Int × Nat)
  efcOut : Nat
  efcPend : Rat
  tempAsk : Option (Nat × Nat)
  learn : Learn
  timeSource : Option Nat
  host : Option Meas
  rejoin : Option Nat
  stale : Bool
  deriving DecidableEq, Repr

/-- DPLL k (1–3) beside its registers (R205–R210): y in 2⁻⁴⁸, the reference in use at the last update, consecutive updates inside
LOCK_WIN and beyond 2 × LOCK_WIN, whether the frequency slew of ACQUIRE is still running, y at the entry to ACQUIRE, the highest y
the headroom leaves, y at the valid updates of the last DHO_AVG seconds, elapsed ns of the last update, whether R210 bounds the
excursion of this ACQUIRE, and the anchor of a FREQ lock: a reference edge on the free-running counter (2⁻⁹ ns, R208). -/
structure DpllSt where
  y : Int
  ref : Nat
  good : Nat
  bad : Nat
  slewing : Bool
  yOld : Int
  top : Int
  hist : List (Nat × Int)
  updated : Nat
  bound : Bool
  anchor : Option Int
  deriving DecidableEq, Repr

/-- A DPLL right after reset. -/
def DpllSt.zero : DpllSt := ⟨0, 32, 0, 0, false, 0, 0, [], 0, false, none⟩

/-- Output n beside its registers (R213–R216): elapsed ns from which a grid edge may start it, OUT_CTL START and STOP descriptors
that wait for their edges, whether a start follows the stop, the values stored at the final falling edge, whether the stop is a
squelch, the cause and TAG of the change in progress, what the steps since the last alignment left between its edges and its grid
(2⁻¹⁶ ns), the elapsed ns at which a slewed alignment ends, whether something other than a STOP ends the output (EN = 0, its source
DISABLED, CFGERR, a mode), the FN and FD that a SET_FREQ slew comes from, its first rising edge since the start where the model knows it
(1.5625 ps steps from TB counter 0), and the value its LFSR was last seeded with (R217). -/
structure OutSt where
  startAt : Option Nat
  starts : List Waiting
  stops : List Waiting
  again : Bool
  reload : List (Nat × Nat)
  squelch : Bool
  cause : Nat
  tag : Nat
  off : Int
  slewTo : Option Nat
  halted : Bool
  prev : Option (Nat × Nat)
  edge0 : Option Int
  lfsr : Nat
  deriving DecidableEq, Repr

/-- An output right after reset. -/
def OutSt.zero : OutSt := ⟨none, [], [], false, [], false, 0, 0, 0, none, false, none, none, 0⟩

/-- Synthesis beside its registers: DPLLs, outputs, the index each port transmits (R222), and when its information PDU was last
sent (elapsed ns), the cascaded counts received, the recovered clocks, and why each APLL relocks (APLL_LOCK's cause). -/
structure Syn where
  dplls : SMap DpllSt
  outs : SMap OutSt
  esmcTx : SMap Nat
  esmcAt : SMap Nat
  casc : SMap (Nat × Nat)
  lanes : SMap (List (Nat × Int))
  relock : SMap Nat
  deriving DecidableEq, Repr

/-- A schedule entry (R233): its 32 bytes, EN, FIRST expanded (2⁻¹⁶ ns), the highest occurrence index that is used up (committed, passed over
or fired), the occurrences fired, the highest index fired, and whether SCHED_PAST is journalled for this hold. -/
structure PlsEntry where
  raw : List Byte
  enabled : Bool
  first : Nat
  lastIdx : Option Nat
  fired : Nat
  firedIdx : Option Nat
  heldNoted : Bool
  deriving DecidableEq, Repr

/-- An entry of zeros. -/
def PlsEntry.zero : PlsEntry := ⟨[], false, 0, none, 0, none, false⟩

/-- A committed occurrence (R236): its entry, index, and instant on the entry's clock. -/
structure Comm where
  entry : Nat
  idx : Nat
  due : Nat
  deriving DecidableEq, Repr

/-- A realignment in progress (R246): METHOD; for a slew H_n where its present course began, what was removed before that, and the elapsed
ns at which it began (for a step, of the start); and the job it belongs to. -/
structure Align where
  slew : Bool
  h0 : Int
  gone : Int
  since : Nat
  job : Nat
  deriving DecidableEq, Repr

/-- A driven EVT edge that waits for its measured stamp (R251, R252): planned instant, whether it is to be journalled, and
the served bound's contribution of H_n in ps. -/
structure Planned where
  due : Nat
  jrnl : Bool
  held : Nat
  deriving DecidableEq, Repr

/-- A generator beside its registers (R229): level, whether it is active only because its falling edge was suppressed (R235), the end due (on the time base or on pulse time), the last edge, the IRIG frame's on-time mark, a realignment, EVT
edges to be measured and the latest differences, and edges journalled this second. -/
structure Gen where
  level : Bool
  joined : Bool
  ends : Option (Bool × Nat)
  last : Option Nat
  frame : Option Nat
  nextMark : Option Nat
  align : Option Align
  planned : List Planned
  diffs : List Int
  jsec : Nat
  jn : Nat
  deriving DecidableEq, Repr

/-- A generator right after reset. -/
def Gen.zero : Gen := ⟨false, false, none, none, none, none, none, [], [], 0, 0⟩

/-- A PLS_ALIGN (or OUT_CTL ALIGN) in progress: descriptor, generators still aligning, the H_n removed with the largest
magnitude, and whether some generator found no quiet instant. -/
structure AlignJob where
  w : Waiting
  left : List Nat
  removed : Int
  busy : Bool
  slew : Bool
  applied : Nat
  deriving DecidableEq, Repr

/-- A time-of-day message pair (R242). -/
structure TodMsg where
  sec : Nat
  utc : Int
  utcv : Bool
  leap61 : Bool
  leap59 : Bool
  clockClass : Nat
  deriving DecidableEq, Repr

/-- The pulse unit beside its registers: schedule entries, committed occurrences, generators, alignments, the labelled pulse
still to be announced (elapsed ns and contents), the last message pair sent and the last IRIG frame by generator (100
symbols: 0, 1, 2 a marker), and descriptors waiting for a pin's drive (key: output). -/
structure Pls where
  entries : SMap PlsEntry
  comms : List Comm
  gens : SMap Gen
  jobs : List AlignJob
  pulse : Option (Nat × TodMsg)
  sent : Option TodMsg
  frames : SMap (List Nat)
  held : Bool
  deriving DecidableEq, Repr

/-- The AUTHENTICATION TLV of a message the Q9600 sends (R381): keyID, securityParameterPointer, and for PTP_GMAC the RES (12 bytes,
the first in the highest place). -/
structure AuthOut where
  keyId : Nat
  spp : Nat
  res : Option Nat
  deriving DecidableEq, Repr

/-- A TLV at the end of a PTP message: the octets of the Gloss TLV (R50), or an AUTHENTICATION TLV. -/
inductive OutTlv where
  | gloss (octets : List Byte)
  | auth (a : AuthOut)
  deriving DecidableEq, Repr

/-- Where a frame goes: destination address, the TCI of its outer VLAN tag (none: untagged), and its destination IP address in IPv6 form
(0: L2, or the group address of the transport). -/
structure Envelope where
  dst : Nat
  tci : Option Nat
  ip : Nat
  deriving DecidableEq, Repr

/-- A PTP message the Q9600 sends (R330, R302): messageType, binding, domainNumber, sdoId, clockIdentity, portNumber, sequenceId,
requestingPortIdentity, the timestamp it carries (ns), correctionField (2⁻¹⁶ ns), twoStepFlag, unicastFlag, logMessageInterval,
ptpTimescale, currentUtcOffset with its validity and leap flags, Announce contents, negotiation TLVs, and the Gloss and AUTHENTICATION
TLVs in the order they stand in. Beside the message: what its Follow_Up's correctionField starts from, and the redundancy number that takes. -/
structure PtpOut where
  version : Nat
  minor : Nat
  env : Envelope
  type : Nat
  bind : Nat
  domain : Nat
  sdo : Nat
  clkId : Nat
  portNum : Nat
  seqId : Nat
  reqPort : Nat
  stamp : Nat
  corr : Int
  twoStep : Bool
  unicast : Bool
  logInt : Int
  ptpTimescale : Bool
  utc : Int
  utcValid : Bool
  leap61 : Bool
  leap59 : Bool
  ann : Option Ann
  sigs : List SigTlv
  tlvs : List OutTlv
  fuCorr : Int
  fuRed : Option Nat
  deriving DecidableEq, Repr

/-- An NTP reply (R336, R337, R352): where it goes, leap indicator, version, mode, stratum, poll, precision, root delay, root dispersion, reference ID, the four
timestamps (64-bit NTP format), and after the header the octets of the Gloss field (R52), then the NTS fields. -/
structure NtpOut where
  env : Envelope
  leap : Nat
  vn : Nat
  mode : Nat
  stratum : Nat
  poll : Nat
  precision : Int
  rootDelay : Nat
  rootDisp : Nat
  refId : Nat
  ref : Nat
  org : Nat
  rcv : Nat
  xmt : Nat
  gloss : Option (List Byte)
  nts : Bool
  deriving DecidableEq, Repr

/-- An ESMC PDU (R222): whether it is an event PDU, the SSM code of its QL TLV, and of its extended QL TLV the enhanced SSM code, the
clockIdentity and the cascaded eEEC and EEC counts. -/
structure EsmcOut where
  event : Bool
  ssm : Nat
  essm : Nat
  clkId : Nat
  eeec : Nat
  eec : Nat
  deriving DecidableEq, Repr

/-- What the Q9600 sends. -/
inductive Msg where
  | ptp (m : PtpOut)
  | ntp (m : NtpOut)
  | esmc (m : EsmcOut)
  | supervision (seq : Nat)
  | injected (octets : List Byte)
  | probe
  deriving DecidableEq, Repr

/-- A frame that is not booked and waits to leave (R309): port, message, octets, the redundancy sequence number, and for an
injected frame that returns a stamp or a completion its ring, TAG and RET_STAMP. -/
structure Unbooked where
  port : Nat
  msg : Msg
  len : Nat
  red : Option Nat
  inj : Option (Nat × Nat × Bool)
  deriving DecidableEq, Repr

/-- A frame that has left: port, message, octets, redundancy sequence number, egress stamp (2⁻¹⁶ ns), and whether nothing had ended it when its
timestamp point left. -/
structure SentFrame where
  port : Nat
  msg : Msg
  len : Nat
  red : Option Nat
  stamp : Nat
  whole : Bool
  deriving DecidableEq, Repr

/-- A disturbing change to a port (R291): the link state it leads to, the register values that then act, the loopback KIND, and
the descriptor. -/
structure Disturb where
  link : Nat
  regs : List (Nat × Nat)
  kind : Nat
  cause : Nat
  w : Option Waiting
  deriving DecidableEq, Repr

/-- The pause of one priority (0–7) or of the link (8): elapsed ns until which it holds, since when it has held without a
break, and until when the watchdog ignores it. -/
structure PauseSt where
  holdTo : Nat
  since : Option Nat
  ignore : Nat
  deriving DecidableEq, Repr

/-- No pause. -/
def PauseSt.zero : PauseSt := ⟨0, none, 0⟩

/-- A frame on a port's line whose timestamp point has left: its octets, its destination (0 unicast, 1 multicast, 2 broadcast), whether it
was booked, and the elapsed ns at which its wire interval ends (R306). -/
structure LineFrame where
  len : Nat
  dest : Nat
  booked : Bool
  till : Nat
  deriving DecidableEq, Repr

/-- A port beside its registers: when a failed bring-up is retried, a disturbing change, loopback KIND, pauses. -/
structure PortSt where
  retryAt : Option Nat
  disturb : Option Disturb
  kind : Nat
  pauses : SMap PauseSt
  line : Option LineFrame
  deriving DecidableEq, Repr

/-- A port right after reset. -/
def PortSt.zero : PortSt := ⟨none, none, 0, [], none⟩

/-- A lane beside its registers: polarities tried in this bring-up, the polarity searched, the one adopted before, whether
its eye is low, elapsed ns of the last eye measurement, and RX clock of the recovered-clock detector. -/
structure LaneSt where
  tried : Nat
  inv : Bool
  was : Option Bool
  eyeLow : Bool
  eyeAt : Nat
  deriving DecidableEq, Repr

/-- A lane right after reset. -/
def LaneSt.zero : LaneSt := ⟨0, false, none, false, 0⟩

/-- An entry of a duplicate-discard cache (R281): source address, sequence number, elapsed ns of first receipt. -/
structure Dup where
  src : Nat
  seq : Nat
  seen : Nat
  deriving DecidableEq, Repr

/-- Lanes and ports beside their registers: ports, lanes, the four caches (key: group × 65,536 + slot), supervision frames
(elapsed ns of the last, and its number), unbooked frames waiting, the frames that left in this TB cycle, and what it added to MAC
counters (key: port × 64 + k). -/
structure Lan where
  ports : SMap PortSt
  lanes : SMap LaneSt
  dups : SMap (Option Dup)
  supAt : SMap Nat
  supSeq : SMap Nat
  unb : List Unbooked
  sent : List SentFrame
  fresh : SMap Nat
  deriving DecidableEq, Repr

/-- A booked frame (R306–R312): number, port, target and binding, T_tx and the start position P (2⁻¹⁶ ns), T_nom, length booked, the engine, context and
class it belongs to, whether it is sealed, committed, armed and launched, whether a step came after its launch, the length committed, the message,
its redundancy number, TX_DLY at the grant, its group's other port, and whether its engine was reset. -/
structure Booking where
  id : Nat
  port : Nat
  target : Nat
  bind : Nat
  ttx : Nat
  start : Nat
  tnom : Nat
  len : Nat
  engine : Nat
  ctx : Nat
  cls : Nat
  sealed : Bool
  inTsu : Bool
  armed : Bool
  launched : Bool
  cut : Bool
  stepped : Bool
  clen : Nat
  msg : Msg
  red : Option Nat
  txDly : Nat
  dead : Bool
  deriving DecidableEq, Repr

/-- A port calibration's progress (R315–R317): samples taken, their sum and sum of squares in 2⁻⁹ ns, whether METHOD 2's
condition or the link is lost, and the elapsed ns of the last probe. -/
structure Cal where
  n : Nat
  sum : Int
  sq : Nat
  broken : Bool
  probeAt : Nat
  deriving DecidableEq, Repr

/-- No sample. -/
def Cal.zero : Cal := ⟨0, 0, 0, false, 0⟩

/-- The TSU beside its registers: bookings, the number of the last one, discards of a port and cause since their last record
and the TB millisecond of that record (keyed port × 16 + cause), calibrations by port, internal trims by port (ps). -/
structure Tsu where
  books : List Booking
  lastId : Nat
  lateN : SMap Nat
  lateMs : SMap Nat
  cals : SMap Cal
  trims : SMap Int
  deriving DecidableEq, Repr

/-- Where a transaction stands: waiting for an AEAD operation (by its number, from 1), for a grant, for the seal, for its
commit. -/
inductive Stage where
  | op (k : Nat)
  | grant
  | seal
  | commit
  deriving DecidableEq, Repr

/-- What a transaction answers: a request that was admitted, a message it originates, or the message it follows up. -/
inductive Job where
  | ntp (m : NtpIn)
  | ptp (m : PtpIn)
  | own (m : PtpOut)
  deriving DecidableEq, Repr

/-- A transaction (R322): number, class (0–3, 4 CTRL), target (port, or 16–19 a redundancy group), binding, T_rx and T_nom
(2⁻¹⁶ ns), the job, client MAC and sequence number for R350, engine and context once taken up, where it stands, the message built,
its redundancy number, whether the key of the operation under way was found (R369), whether the reply is unicast, and the octets
around the request's UDP payload. -/
structure Txn where
  id : Nat
  cls : Nat
  target : Nat
  bind : Nat
  trx : Nat
  tnom : Nat
  job : Job
  mac : Nat
  cseq : Nat
  engine : Nat
  ctx : Nat
  stage : Stage
  msg : Option Msg
  red : Option Nat
  found : Bool
  unicast : Bool
  hdrLen : Nat
  env : Envelope
  deriving DecidableEq, Repr

/-- A Signaling or management message in the CTRL queue (R327): port, binding, the rule taken, RXFLAGS, T_rx, the frame, the
message. -/
structure CtrlMsg where
  port : Nat
  bind : Nat
  rule : Nat
  flags : Nat
  trx : Nat
  f : FrameIn
  m : PtpIn
  deriving DecidableEq, Repr

/-- A grant token (R338): client address, portIdentity, port, VLAN, binding, message type, log interval, expiry second, client MAC,
and the next n to schedule. -/
structure Token where
  ip : Nat
  ident : Nat
  port : Nat
  vlan : Nat
  bind : Nat
  type : Nat
  logInt : Int
  expiry : Nat
  mac : Nat
  next : Nat
  deriving DecidableEq, Repr

/-- A two-step event message whose egress stamp has returned (R333): its target and binding, the event message, T_tx and the measured
stamp (2⁻¹⁶ ns). -/
structure FollowUp where
  target : Nat
  bind : Nat
  event : PtpOut
  ttx : Nat
  measured : Nat
  deriving DecidableEq, Repr

/-- The classifier and engines beside their registers: requests admitted and waiting, transactions in flight, the CTRL queue,
transaction numbers, rate-class and global bucket deficits (10⁻⁹ tokens, and elapsed ns when counted), kiss-o'-deaths of a
port and punts in the current second (second, count), elapsed ns of the last tightening report of a class, a pending change of
R349 (registers to store, classes paused), rules and streams (32-byte images), the next n of a stream's Sync (2i) and Announce (2i + 1),
the sequence key, violation counts at the last second boundary and the last port of each, tokens, grant events since the last
summary (granted, refused, cancelled, expired), the last walk, follow-ups due, engines in reset (elapsed ns), and
the elapsed ns at which a class's q_eff last changed (plus 1), with its value before that TB cycle (R345). -/
structure Cla where
  queue : List Txn
  flight : List Txn
  ctrlq : List CtrlMsg
  nextId : Nat
  rates : SMap (Nat × Nat)
  caps : Nat × Nat
  capsAuth : Nat × Nat
  kods : SMap (Nat × Nat)
  punts : Nat × Nat
  tightAt : SMap Nat
  reconf : List (Nat × Nat)
  paused : List Nat
  rules : SMap (List Byte)
  streams : SMap (List Byte)
  nextN : SMap Nat
  seqKey : Option Nat
  vioWas : SMap Nat
  vioPort : SMap Nat
  tokens : SMap (Option Token)
  grants : Nat × Nat × Nat × Nat
  walkAt : Nat
  fus : List FollowUp
  engAt : SMap Nat
  qPrev : SMap (Nat × Nat)
  deriving DecidableEq, Repr

/-- An entry of the security association table (R368). -/
structure SatEntry where
  valid : Bool
  type : Nat
  keyId : Nat
  spp : Nat
  flags : Nat
  notAfter : Nat
  key : List Byte
  held : Bool
  deriving DecidableEq, Repr

/-- An entry never installed, or overwritten with zeros. -/
def SatEntry.zero : SatEntry := ⟨false, 0, 0, 0, 0, 0, [], false⟩

/-- A SAT_REKEY in progress (R385): records read, applied and skipped. -/
structure Rekey where
  next : Nat
  applied : Nat
  skipped : Nat
  deriving DecidableEq, Repr

/-- The authentication unit beside its registers: the table, a rekey, the elapsed ns of the last reseed, and whether the
image registers hold data since the last GO. -/
structure Auth where
  sat : SMap SatEntry
  rekey : Option Rekey
  seededAt : Nat
  deriving DecidableEq, Repr

/-- A fault event on its way to the collector (R467): source, fine stamp in 2⁻¹⁶ ns, fabric address, master, access, INFO,
injected, REACT of the injection, and the AO time and the running of the time base at arrival. -/
structure FltEvent where
  src : Nat
  stamp : Nat
  addr : Nat
  master : Nat
  access : Nat
  info : Nat
  inj : Bool
  react : Bool
  ao : Nat
  tbLive : Bool
  deriving DecidableEq, Repr

/-- An injection that waits for its checker's next comparison (R482, R485), and the elapsed ns at which it was applied. -/
structure Inj where
  src : Nat
  addr : Nat
  react : Bool
  since : Nat
  deriving DecidableEq, Repr

/-- A suppression window (R476, R477): the source that caused it, the sources it lists, the AO time it opened, what it is
about (a row of the table and an instance), the windows of a TDC channel closed since, and the AO time at which it closes, once that is known. -/
structure Win where
  cause : Nat
  dets : List Nat
  opened : Nat
  kind : Nat
  inst : Nat
  n : Nat
  closes : Option Nat
  deriving DecidableEq, Repr

/-- The safe-state net driven (R479): source, class, detection and assertion in AO time, and D's short stamp. -/
structure Net where
  src : Nat
  cls : Nat
  detAo : Nat
  dAo : Nat
  stamp : Nat
  deriving DecidableEq, Repr

/-- The fault collector beside its registers: events delivered and not yet decided, the injection pending, open windows, the
last eight stamps of each source (R471), the TB millisecond of each source's last CORRECTED record (R489), the net's
assertion still to be acted on, and until when (AO) HELD was captured in this AO cycle. -/
structure Flt where
  events : List FltEvent
  inj : Option Inj
  wins : List Win
  hist : SMap (List Nat)
  logged : SMap Nat
  net : Option Net
  heldAo : Option Nat
  deriving DecidableEq, Repr

/-- Lane l of the Conjunction link beside its registers (R492, R495, R500, R501): the latest valid HEARTBEAT (elapsed ns), instants of
the violations of the last second, the last two own markers' send stamps and the last two receive stamps of the peer's (2⁻¹⁶ ns),
the exchange completed last (epoch, φ_l in 2⁻⁹ ns), and the FSEQ values lately received. -/
structure LinkLane where
  hbAt : Option Nat
  vio : List Nat
  sent : List Nat
  rcvd : List Nat
  exch : Option (Nat × Int)
  deriving DecidableEq, Repr

/-- A lane of a link that has carried nothing. -/
def LinkLane.zero : LinkLane := ⟨none, [], [], [], none⟩

/-- A key unit A shares (R505): the key, the adoption instant (2⁻¹⁶ ns; none before the first sending), the elapsed ns of the last
sending and of its acknowledgement, and the ASEQ of the CLA_SEQKEY that brings it (none at an entry to PAIRED). -/
structure KeySend where
  key : Nat
  adopt : Option Nat
  sentAt : Option Nat
  ackAt : Option Nat
  aseq : Option Nat
  deriving DecidableEq, Repr

/-- A CNJ_HANDOVER in progress (R520): the descriptor, ACTION, and its applied stamp once it has one. -/
structure Hand where
  w : Waiting
  action : Nat
  stamp : Option Nat
  deriving DecidableEq, Repr

/-- A rehearsal in progress (R517): 0 the handover away, 1 the dwell, 2 the handover back; since when (elapsed ns), and the first
take time in ns. -/
structure Rehearse where
  phase : Nat
  since : Nat
  take1 : Nat
  deriving DecidableEq, Repr

/-- A NOTICE to send (R518). -/
structure Notice where
  src : Nat
  cls : Nat
  flags : Nat
  stamp : Nat
  deriving DecidableEq, Repr

/-- The pair unit beside its registers (R490–R523). Instants are elapsed ns. `drv`: outputs whose shared driver is enabled; `yield`:
why the unit yields (as ROLE_CHANGE's cause); `take`: its take request; `released`: the last deassertion of SUBJ_OUT; `subjAt`,
`inLow`, `inHigh`: when SUBJ_OUT was asserted, SUBJ_IN deasserted and asserted last; `guard`: the guard's start; `urgent`: the start of
an urgent release; `goneAt`: when the peer was declared absent; `found`: the peer was present since SEARCH was entered; `hb`: the
peer's latest HEARTBEAT; `phi`: the latest φ_peer (2⁻⁹ ns) with its elapsed ns; `lastEpoch`: the epoch whose mean was formed;
runs of comparisons beyond and within CMP_THR, of PCH windows, of lane skew and of differing digests; `arb`: the arbiter's decision
from the pins and as written; `keys`: keys unit A shares; `adopt`: what unit B is to adopt; `sent`: frames sent in this TB cycle. -/
structure Cnj where
  lanes : SMap LinkLane
  fseq : Nat
  seen : List Nat
  hbOut : Bool
  hbTx : Option Nat
  identTx : Option Nat
  hbIn : Option Nat
  hbInRun : Nat
  found : Bool
  goneAt : Nat
  hb : Option HbPay
  peer : Option PeerState
  drv : Nat
  subjOut : Bool
  subjAt : Nat
  inLow : Nat
  inHigh : Nat
  guardFrom : Nat
  released : Nat
  releasing : Nat
  urgent : Option Nat
  yielding : Option Nat
  take : Option Nat
  hand : Option Hand
  reh : Option Rehearse
  phi : Option (Int × Nat)
  lastEpoch : Option Nat
  beyond : Nat
  inside : Nat
  pchOver : Nat
  skew : Nat
  diff : Nat
  downAt : Nat
  arbPins : Option Bool
  arbSmb : Nat
  keys : List KeySend
  adopt : Option (Nat × Nat)
  notices : List Notice
  sent : List LinkFrame
  deriving DecidableEq, Repr

/-- The pair unit right after reset. -/
def Cnj.zero : Cnj :=
  ⟨[], 0, [], false, none, none, none, 0, false, 0, none, none, 0, false, 0, 0, 0, 0, 0, 0, none, none, none, none, none, none, none,
   0, 0, 0, 0, 0, 0, none, 0xFF, [], none, [], []⟩

/-- The boot header as the sequencer holds it (R557). -/
structure BootHdr where
  active : Nat
  pending : Nat
  osc : Nat
  vfab : Nat
  stA : Nat
  stB : Nat
  deriving DecidableEq, Repr

/-- The planner's trend data (R455), as the flash holds it. -/
structure TrendData where
  corrDay : Nat
  corrSum : Int
  corrN : Nat
  days : List (Nat × Int)
  eyeDays : SMap (List (Nat × Nat × Nat))
  firstService : Option Nat
  deriving DecidableEq, Repr

/-- Start-up, resets and the always-on domain beside their registers: engines held in reset (bits 0–15 CE, 16–17 TC, 18–19 SV), when
each supervisor was reset (elapsed ns), RESET_N low, VDD_AO risen since the last rise of RESET_N, the boot header, the step boot has
reached (R556: 0 none, 1 straps sampled, 2 header read, 3 APLL0 locked), the slot booted as pending and not yet ACTIVE, the slots a
FIRMWARE_STAGE works on, the two halves of the trend area with their sequence numbers, whether a trend write still waits, the
SMBus snapshot by command code and the last answer (none: not acknowledged), ALERT_MASK, the alert conditions not yet
acknowledged, and whether AO runs from its ring oscillator. -/
structure Sys where
  engReset : Nat
  svAt : SMap Nat
  inReset : Bool
  aoPor : Bool
  hdr : Option BootHdr
  step : Nat
  bootPend : Option Nat
  stageSlot : Option Nat
  trend : SMap (Option (Nat × TrendData))
  trendDue : Bool
  snap : SMap (List Byte)
  smb : Option (List Byte)
  alertMask : Nat
  alert : Nat
  ring : Bool
  deriving DecidableEq, Repr

/-- AO power-on with RESET_N low. Every engine is in reset. -/
def Sys.zero : Sys := ⟨0xFFFFF, [], true, true, none, 0, none, none, [], false, [], none, 0x0F, 0, false⟩

/-- The block. -/
structure State where
  regs : SMap Nat
  tb : Tb
  jr : Jrnl
  hif : Hif
  fab : Fab
  obs : Obs
  refin : Refin
  utc : Utc
  gns : Gnss
  sel : Sel
  tns : Tense
  syn : Syn
  pls : Pls
  lan : Lan
  tsu : Tsu
  cla : Cla
  auth : Auth
  flt : Flt
  cnj : Cnj
  sys : Sys
  free : Nat
  hot : List Nat
  pending : List Instr
  deriving DecidableEq, Repr

/-! ### Reset -/

/-- The fabric with nothing written and no history. -/
def Fab.zero : Fab :=
  ⟨[], [], [], [], [], [], [], [], [], [], false, 0, [], false, none, none, false, false, false, none, [], 0, 0, 0, [], [], none, [], none, 0, false⟩

/-- Observation with nothing counted or staged. -/
def Obs.zero : Obs := ⟨[], 0, [], 0, [], [], [], 0, none, [], [], [], [], [], [], [], [], none, none, []⟩

/-- No label received. -/
def Tod.zero : Tod := ⟨none, 0, 0, false, false, false, none, none, none, 0, 0⟩

/-- The baseband with nothing tracked. -/
def Gnss.zero : Gnss := ⟨none, none, [], [], [], [], 0, 0, [], none, none, none, [], [], 0, none, []⟩

/-- Selection with nothing measured. -/
def Sel.zero : Sel := ⟨[], [], [], (none, none), [], [], [], some 0, none, []⟩

/-- Nothing learnt, no interval begun. -/
def Learn.zero : Learn := ⟨0, 0, 0, 0, [], 0, 0, 0, none, false, false⟩

/-- The Tense unit not yet steering: FREE_RUN, SRC 31, TRACE 0. -/
def Tense.zero : Tense where
  timeSet := false
  fc := 0
  yst := 0
  ysl := 0
  phi := 0
  y := 0
  sd := 0
  estN := 0
  innov := []
  startN := 0
  retN := none
  uRet := 0
  lockN := 0
  drem := 0
  slewAt := 0
  dj := none
  delta := 0
  lastMeas := none
  eref := some 0
  eloop := 0
  b0 := some 0
  hold := none
  src := 31
  trace := 0
  pubs := []
  tick := none
  doneAt := none
  stepped := false
  hist := []
  temps := []
  tempBad := 0
  tempGood := 0
  goodT := none
  efcNs := 0
  efcSum := 0
  efcFrame := none
  efcOut := 0
  efcPend := 0
  tempAsk := none
  learn := Learn.zero
  timeSource := none
  host := none
  rejoin := none
  stale := false

/-- The classifier and engines idle. -/
def Cla.zero : Cla :=
  ⟨[], [], [], 0, [], (0, 0), (0, 0), [], (0, 0), [], [], [], [], [], [], none, [], [], [], (0, 0, 0, 0), 0, [], [], []⟩

/-- The host interface with no ring running and nothing on PCIe. -/
def Hif.zero : Hif := ⟨[], [], [], [], [], [], [], [], [], [], [], [], false, [], none⟩

/-- The machine right after reset: VDD_AO has powered on and RESET_N is low (R554). Every register holds its reset value, every
memory is unwritten, no command waits. -/
def State.reset : State where
  regs := []
  tb := ⟨false, false, false, 0, 0, 0, none⟩
  jr := ⟨0, false, []⟩
  hif := Hif.zero
  fab := Fab.zero
  obs := Obs.zero
  refin := ⟨[], Tod.zero⟩
  utc := ⟨0, false, none, none, none, none, [], []⟩
  gns := Gnss.zero
  sel := Sel.zero
  tns := Tense.zero
  syn := ⟨[], [], [], [], [], [], []⟩
  pls := ⟨[], [], [], [], none, none, [], false⟩
  lan := ⟨[], [], [], [], [], [], [], []⟩
  tsu := ⟨[], 0, [], [], [], []⟩
  cla := Cla.zero
  auth := ⟨[], none, 0⟩
  flt := ⟨[], none, [], [], [], none, none⟩
  cnj := Cnj.zero
  sys := Sys.zero
  free := 0
  hot := []
  pending := []

end Sys2Proof.Machine
end

