-- ==== Sys2Proof/Machine/Ops.lean ====
section
/-!
DEFINITION. The shared operations: registers, the time base, flags, the journal, trace staging, interrupt vectors, result
publication (R84) and the reporting of fault events. Every command's meaning is written over these.
-/

namespace Sys2Proof.Machine

/-- What a command answers. -/
abbrev Out := Host.Outcome State Fault Refusal

/-! ### Registers -/

/-- The value of a register field. -/
def State.get (s : State) (f : Field) : Nat := SMap.get resetOf s.regs f.key

/-- Set a register field, keeping its width. -/
def State.put (s : State) (f : Field) (v : Nat) : State :=
  { s with regs := SMap.set resetOf f.key (v % 2 ^ f.w) s.regs }

/-- A one-bit field as a truth value. -/
def State.bit (s : State) (f : Field) : Bool := s.get f != 0

/-- Set a one-bit field. -/
def State.putB (s : State) (f : Field) (b : Bool) : State := s.put f (b2n b)

/-- A signed field. -/
def State.getS (s : State) (f : Field) : Int := signed f.w (s.get f)

/-- Set a signed field, in two's complement. -/
def State.putS (s : State) (f : Field) (x : Int) : State := s.put f (unsigned f.w x)

/-- Set a signed result field, saturating. -/
def State.putSat (s : State) (f : Field) (x : Int) : State := s.put f (satS f.w x)

/-- Set an unsigned result field, saturating. -/
def State.putSatU (s : State) (f : Field) (v : Nat) : State := s.put f (satU f.w v)

/-- A value held in a LO and a HI field. -/
def State.getPair (s : State) (lo hi : Field) : Nat := s.get lo + s.get hi * 2 ^ lo.w

/-- Set a value held in a LO and a HI field. -/
def State.putPair (s : State) (lo hi : Field) (v : Nat) : State := (s.put lo v).put hi (v / 2 ^ lo.w)

/-- A signed value held in a LO and a HI field. -/
def State.getPairS (s : State) (lo hi : Field) : Int := signed (lo.w + hi.w) (s.getPair lo hi)

/-- Set a signed value held in a LO and a HI field, saturating. -/
def State.putPairSat (s : State) (lo hi : Field) (x : Int) : State := s.putPair lo hi (satS (lo.w + hi.w) x)

/-- Add to a wrapping counter held in a LO and a HI field. -/
def State.bump (s : State) (lo hi : Field) (n : Nat) : State := s.putPair lo hi (s.getPair lo hi + n)

/-- Add to a saturating counter field. -/
def State.bumpSat (s : State) (f : Field) (n : Nat) : State := s.putSatU f (s.get f + n)

/-- Bit `k` of a map field. -/
def State.mapBit (s : State) (f : Field) (k : Nat) : Bool := bitOf (s.get f) k

/-- Set bit `k` of a map field. -/
def State.putMapBit (s : State) (f : Field) (k : Nat) (b : Bool) : State := s.put f (setBit (s.get f) k b)

/-- Publish a result group: VALID 1 and SEQ incremented modulo 256 (R84). -/
def State.publish (s : State) (valid seq : Field) : State := (s.put valid 1).put seq (s.get seq + 1)

/-- Increment a sequence field alone. -/
def State.nextSeq (s : State) (seq : Field) : State := s.put seq (s.get seq + 1)

/-- The fields of the register at `a`, set from the word `v` by their store rules: what an effective write of an RW or RWS
register stores (R12), and what a descriptor's value in that register's layout stores. -/
def State.storeWord (s : State) (a v : Nat) : State :=
  (fieldsAt a).foldl (fun s p =>
    match p.1.acc with
    | .rws | .rw => if roField a p.1.lo then s else s.put ⟨a, p.1.lo, p.1.w⟩ (p.1.store p.2 (v / 2 ^ p.1.lo % 2 ^ p.1.w))
    | _ => s) s

/-- The word read from the register at `a`: its fields in place, reserved bits 0 (R598), 0 for a write-only field. -/
def State.loadWord (s : State) (a : Nat) : Nat :=
  (fieldsAt a).foldl (fun w p =>
    match p.1.acc with
    | .wo => w
    | _ => w + s.get ⟨a, p.1.lo, p.1.w⟩ * 2 ^ p.1.lo) 0

/-! ### Modes (R9) -/

/-- The device modes of R9. -/
inductive Mode where
  | boot | setup | service | recovery | safe | test
  deriving DecidableEq, Repr

/-- Mode codes of R9. -/
def Mode.code : Mode → Nat
  | .boot => 0 | .setup => 1 | .service => 2 | .recovery => 3 | .safe => 4 | .test => 5

/-- The mode of a code; 6 and 7 never occur and read as BOOT. -/
def Mode.ofCode (n : Nat) : Mode :=
  if n = 1 then .setup else if n = 2 then .service else if n = 3 then .recovery else if n = 4 then .safe
  else if n = 5 then .test else .boot

/-- The device mode in force. -/
def State.mode (s : State) : Mode := Mode.ofCode (s.get Reg.GEN_MODE_MODE)

/-! ### The time base (R16–R25) -/

/-- 2⁻¹⁶ ns in one second. -/
def secU : Nat := 65536000000000

/-- 2⁻¹⁶ ns in one millisecond. -/
def msU : Nat := 65536000000

/-- 2⁻¹⁶ ns in one TB cycle. -/
def cycU : Nat := 65536

/-- The 96-bit time base: counter plus offset (R17), as 2⁻¹⁶ ns since the PTP epoch, modulo its range of 2⁴⁸ s. R17 names no
value for a sum below 0, which a negative step made in FREE_RUN could give: it reads 0 (DESIGN CHOICE, log 65). -/
def State.tbU (s : State) : Nat := (((s.tb.cyc * 65536 : Nat) : Int) + s.tb.ofs).toNat % (2 ^ 48 * secU)

/-- SEC, NS and FRAC of a time-base value (R16). -/
def tbSec (u : Nat) : Nat := u / secU
/-- NS of a time-base value. -/
def tbNs (u : Nat) : Nat := u / 65536 % 1000000000
/-- FRAC of a time-base value. -/
def tbFrac (u : Nat) : Nat := u % 65536

/-- The short stamp TB[79:16] of a time-base value (R21). -/
def shortOf (u : Nat) : Nat := tbSec u % 2 ^ 32 * 2 ^ 32 + tbNs u

/-- The 12-byte fine stamp (R23). -/
def fineBytes (u : Nat) : List Byte := leBytes 8 (shortOf u) ++ leBytes 2 (tbFrac u) ++ leBytes 2 0

/-- The time base runs (R18, R19). -/
def State.tbLive (s : State) : Bool := s.tb.running && !s.tb.stopped

/-- The instant a record committed now carries: 0 before the time base runs and after it stops (R19, R536). -/
def State.nowU (s : State) : Nat := if s.tbLive then s.tbU else 0

/-- The short stamp of now. -/
def State.nowShort (s : State) : Nat := if s.tbLive then shortOf s.tbU else 0

/-- The bits of FRAC that a resolution of 2⁻ᵏ ns keeps, the rest reading 0 (R24). -/
def truncFrac (k u : Nat) : Nat := u - u % 2 ^ (16 - k)

/-- The periodic instants (value − phase) ≡ 0 modulo `p` are reached in this TB cycle (R603). `phase` and `p` are in
2⁻¹⁶ ns. -/
def State.reached (s : State) (p phase : Nat) : Bool :=
  s.tbLive && p != 0 && decide ((((s.tbU : Int) - phase) % p) < 65536)

/-- A millisecond boundary of the time base. -/
def State.atMs (s : State) : Bool := s.reached msU 0

/-- A second boundary of the time base. -/
def State.atSec (s : State) : Bool := s.reached secU 0

/-- A time-base value named by a single event is reached (R603). -/
def State.atOrPast (s : State) (u : Nat) : Bool := s.tbLive && u ≤ s.tbU

/-- Expansion of a short stamp against the current seconds (R22): −2³¹ ≤ SEC_e − SEC_c ≤ 2³¹ − 1, never below 0. -/
def State.expand (s : State) (short : Nat) : Nat :=
  let secC := tbSec s.tbU
  let d := signed 32 ((short / 2 ^ 32 + 2 ^ 32 - secC % 2 ^ 32) % 2 ^ 32)
  let e : Int := secC + d
  let e := if e < 0 then e + 2 ^ 32 else e
  e.toNat * secU + short % 2 ^ 32 * 65536

/-- Elapsed ns on the free-running counter, which times every duration (R606). -/
def State.freeNs (s : State) : Nat := s.tb.cyc

/-! ### Flags and vectors -/

/-- A hardware set of a W1C flag: the flag reads 1, its companion count increments saturating, and the set is remembered
for the rest of the TB cycle (R14). -/
def State.setFlag (s : State) (f : FlagBit) : State :=
  let s1 := (s.put f.bit 1).bumpSat f.cnt 1
  { s1 with hot := f.bit.key :: s1.hot }

/-- Set a flag when a condition holds. -/
def State.flagIf (s : State) (b : Bool) (f : FlagBit) : State := if b then s.setFlag f else s

/-- DMA and interrupt messages may be sent: link up, Bus Master Enable, D0, no reset (R392). -/
def State.dmaOk (s : State) : Bool :=
  s.bit Reg.HIF_STAT_LINK_UP && s.bit Reg.HIF_STAT_BME && !s.hif.d3hot

/-- Fire MSI-X vector `v` (R394, R395): a masked vector, or one whose message may not be sent, sets its pending bit. -/
def State.fire (s : State) (v : Nat) : State :=
  if s.bit (Reg.MSIX_CTL_MASK v) || !s.dmaOk then
    s.putMapBit (Reg.MSIX_PBA_PENDING (v / 32)) (v % 32) true
  else { s with hif := { s.hif with irqs := s.hif.irqs.set (fun _ => 0) v (s.hif.irqs.get (fun _ => 0) v + 1) } }

/-! ### Performance events (R527) -/

/-- Count `n` events of source EVENT `e`, instance `i` in this TB cycle. -/
def State.perf (s : State) (e i n : Nat) : State :=
  let k := e * 256 + i
  { s with obs := { s.obs with ev := s.obs.ev.set (fun _ => 0) k (s.obs.ev.get (fun _ => 0) k + n) } }

/-! ### Trace staging and the journal (R536–R540) -/

/-- Update observation's state. -/
def State.setObs (s : State) (f : Obs → Obs) : State := { s with obs := f s.obs }

/-- Number of Sceat records staging holds. -/
def traceRoom : Nat := 4096

/-- Some trace destination is enabled. -/
def State.traceOn (s : State) : Bool :=
  s.bit Reg.OBS_TRC_CFG_PORT || s.bit Reg.OBS_TRC_CFG_RING_EN || s.bit Reg.OBS_TRC_CFG_WIN

/-- A record is committed: its slot counts for CSEQ (R32), and after the time base has stopped CSEQ increases by 1 for it (R19). -/
def Jrnl.commit (j : Jrnl) (stopped live : Bool) : Jrnl :=
  { j with cseq := if stopped then (j.cseq + 1) % 2 ^ 32 else j.cseq, dirty := live }

/-- Commit something that carries CSEQ and is no journal record (R32): a descriptor's application, a snapshot, a first-fault or a
Sceat record. -/
def State.commitMark (s : State) : State := { s with jr := s.jr.commit s.tb.stopped s.tbLive }

/-- Stage a Sceat record of TYPE `t` (R539, R540): traced only when its type and some destination are enabled; a record
that finds staging full is dropped and counted, and the next staged one carries the lost flag and follows a LOST record. -/
def State.stage (s : State) (t stamp : Nat) (pay : List Byte) : State :=
  if !s.traceOn || !(s.mapBit Reg.OBS_TRC_CFG_TYPE_EN (t - 1)) then s
  else if traceRoom ≤ s.obs.staged.length then
    (((s.bump Reg.OBS_TRC_LOST_LO_LOST Reg.OBS_TRC_LOST_HI_LOST 1).setFlag Flag.OBS_TRC_LOST).setObs
      (fun o => { o with lostRun := o.lostRun + 1 })).perf 0x071 0 1
  else
    (s.setObs (fun o => { o with
      staged := o.staged ++ [⟨⟨t, 0 < o.lostRun, s.jr.cseq, stamp, pay⟩, false, false, 0, false⟩] })).commitMark

/-- Records the journal ring holds (R536). -/
def jrnlSlots : Nat := 24576

/-- The record an empty journal slot reads as. -/
def JSlot.zero : JSlot := ⟨⟨0, 0, 0, 0, 0, 0, []⟩, false⟩

/-- The 32 bytes of a journal record. -/
def JRec.bytes (r : JRec) : List Byte :=
  leBytes 8 r.stamp ++ leBytes 4 r.cseq ++ leBytes 1 r.unit ++ leBytes 1 r.sev ++ leBytes 2 r.src ++ leBytes 2 r.code
    ++ leBytes 1 r.pay.length ++ leBytes 1 0 ++ (r.pay ++ List.replicate (12 - r.pay.length) 0).take 12

/-- A full journal ring gives up its oldest record, which is lost when no export has read it (R536). -/
def State.journalRoom (s : State) : State :=
  let head := s.get Reg.OBS_JRNL_HEAD_JIDX
  let tail := s.get Reg.OBS_JRNL_TAIL_JIDX
  if (head + 2 ^ 32 - tail) % 2 ^ 32 = jrnlSlots then
    let old := s.jr.ring.get (fun _ => JSlot.zero) (head % jrnlSlots)
    let s := (s.put Reg.OBS_JRNL_TAIL_JIDX (tail + 1)).setFlag Flag.OBS_JRNL_OVERWRITE
    if old.read then s else s.bump Reg.OBS_JRNL_LOST_LO_LOST Reg.OBS_JRNL_LOST_HI_LOST 1
  else s

/-- A record is written at the head slot. -/
def State.journalSlot (s : State) (r : JRec) : State :=
  { s with jr := Jrnl.commit { s.jr with
      ring := s.jr.ring.set (fun _ => JSlot.zero) (s.get Reg.OBS_JRNL_HEAD_JIDX % jrnlSlots) ⟨r, false⟩ } s.tb.stopped s.tbLive }

/-- Commit a journal record with an explicit stamp (short). JIDX, overwriting and the lost count follow R536. -/
def State.journalAt (s : State) (stamp sev src code : Nat) (pay : List Byte) : State :=
  let r : JRec := ⟨stamp, s.jr.cseq, s.get Reg.GEN_STRAP_UNIT_ID, sev, src, code, pay⟩
  let head := s.get Reg.OBS_JRNL_HEAD_JIDX
  let s := ((s.journalRoom.journalSlot r).put Reg.OBS_JRNL_HEAD_JIDX (head + 1)).perf 0x070 0 1
  if s.get Reg.OBS_TRC_CFG1_JMIN ≤ sev then s.stage 1 stamp (r.bytes ++ leBytes 4 head) else s

/-- Commit a journal record stamped now. -/
def State.journal (s : State) (sev src code : Nat) (pay : List Byte) : State :=
  s.journalAt s.nowShort sev src code pay

/-! ### Free values -/

/-- Take a free value (log 4): the n-th opaque value, and the counter advanced. -/
def State.freeVal (s : State) : Nat × State := (Config.freeNat s.free, { s with free := s.free + 1 })

/-- Number of the free values taken, advanced by `n`. -/
def State.skipFree (s : State) (n : Nat) : State := { s with free := s.free + n }

/-! ### Fault events (R467) -/

/-- A source of the collector whose permitted range is FATAL alone (R466). -/
def fixedFatal (src : Nat) : Bool := srcFixed src = 1

/-- Events of the source are never consequential (R478): FLT_VOTE, and the fixed-FATAL sources, FLT_SELF among them. -/
def neverConseq (src : Nat) : Bool := src = 0 || fixedFatal src

/-- The class in force of a source, as an action (R469): in pair operation a source set to FATAL that is not fixed-FATAL
acts as CONTAINED. -/
def actingClass (s : State) (src : Nat) : Nat :=
  let c := s.get (Reg.FLT_SRC_CFG_CLASS src)
  if s.bit Reg.FLT_STAT_PAIR_ESC && c = 2 && !fixedFatal src then 1 else c

/-- A suppression window is open at AO time `t`: it opened before and has not closed (R476). -/
def Win.openAt (w : Win) (t : Nat) : Bool := w.opened < t && (match w.closes with | some c => decide (t < c) | none => true)

/-- The master whose reset caused a window: its fabric events are the ones listed. -/
def winMaster (w : Win) : Option Nat :=
  if w.kind = 0 then some w.inst else if w.kind = 1 then some (16 + w.inst) else if w.kind = 2 then some (18 + w.inst) else none

/-- A window lists a source for an event of a master: fabric sources are listed for the window's own master. -/
def lists (w : Win) (src master : Nat) : Bool :=
  src ∈ w.dets && (!(0x1B ≤ src && src ≤ 0x1D) || src = w.cause || (match winMaster w with | some m => m = master | none => true))

/-- The window that makes an event of `src` and a master at AO time `t` consequential: of those open that list it, the one that
opened first (R476). Events of some sources never are (R478). -/
def causeWin (s : State) (src master t : Nat) : Option Win :=
  if neverConseq src then none
  else (s.flt.wins.filter (fun w => w.openAt t && lists w src master)).foldl (fun (b : Option Win) w =>
    match b with | none => some w | some x => if w.opened < x.opened then some w else some x) none

/-- The source drives the safe-state net directly (R469, R479): not in TEST (R488), and not for an event that an open window makes
consequential, which takes no reaction (R476). -/
def gated (s : State) (src master : Nat) : Bool :=
  s.mode != .test && actingClass s src = 2 && src != 0x82 && (causeWin s src master s.tb.ao).isNone

/-- Publish FLT_STAT: VALID reads 0 in TEST (R488). -/
def State.publishFlt (s : State) : State := (s.putB Reg.FLT_STAT_VALID (s.mode != .test)).nextSeq Reg.FLT_STAT_SEQ

/-- Deliver a fault event to the collector, stamped now with FRAC[15:12] significant (R24, R467). A gated source asserts the
safe-state net at once (R479). -/
def State.deliver (s : State) (src addr master access info : Nat) (inj react : Bool) : State :=
  let e : FltEvent := ⟨src, truncFrac 4 s.nowU, addr, master, access, info, inj, react, s.tb.ao, s.tbLive⟩
  let net := if gated s src master && (!inj || react) && s.flt.net.isNone && !s.bit Reg.FLT_STAT_SAFE then
      some ⟨src, 2, s.tb.ao, s.tb.ao, s.nowShort⟩ else s.flt.net
  if s.sys.inReset then s
  else
    ({ s with flt := { s.flt with events := s.flt.events ++ [e], net := net } }.putB Reg.FLT_STAT_SETTLING true).publishFlt

/-- Deliver a real fault event of source `src`. -/
def State.reportAt (s : State) (src : Nat) (addr master access info : Nat) : State :=
  s.deliver src addr master access info false true

/-- Deliver a fault event with no address and no master. -/
def State.report (s : State) (src : Nat) : State := s.reportAt src 0 0xFF 0 0

/-- Deliver a fault event when a condition holds. -/
def State.reportIf (s : State) (b : Bool) (src : Nat) : State := if b then s.report src else s

/-- Deliver reference `i`'s latest measurement to selection (R85). -/
def State.feed (s : State) (i : Nat) (m : Meas) : State :=
  { s with sel := { s.sel with meas := s.sel.meas.set (fun _ => Meas.zero) i m } }

/-- An event that closes the open suppression windows of a kind and instance `delay` ns from now (R477). A window that has an
earlier end keeps it. -/
def windowEvent (s : State) (kind inst delay : Nat) : State :=
  let t := s.tb.ao + delay
  { s with flt := { s.flt with wins := s.flt.wins.map (fun w =>
      if w.kind = kind && w.inst = inst then
        { w with closes := some (match w.closes with | some c => if c < t then c else t | none => t) }
      else w) } }

/-- A condition of ALERT_MASK has occurred (R426, R427). -/
def alertOn (s : State) (k : Nat) : State := { s with sys := { s.sys with alert := setBit s.sys.alert k true } }

/-- Update the pair unit. -/
def State.setCnj (s : State) (f : Cnj → Cnj) : State := { s with cnj := f s.cnj }

/-- Update start-up's state. -/
def State.setSys (s : State) (f : Sys → Sys) : State := { s with sys := f s.sys }

/-- The heartbeat frames' part of the pair-agreed rule (R503): PAIRED, the peer present, and the latest φ_peer, no older than 10 ms,
within CMP_THR. -/
def pairAgreed (s : State) : Bool :=
  s.get Reg.CNJ_STAT_PSTATE = 3 && s.bit Reg.CNJ_STAT_PEER_PRESENT &&
    (match s.cnj.phi with
     | some (phi, t) => decide (s.freeNs ≤ t + 10000000) && decide (absN phi * 125 ≤ s.get Reg.CNJ_CMP_CMP_THR * 64000)
     | none => false)

/-- x brought into (−p/2, +p/2] by a multiple of p. -/
def centred (x : Int) (p : Nat) : Int :=
  let r := x % (p : Int)
  if (p : Int) < 2 * r then r - p else r

end Sys2Proof.Machine
end

