-- ==== Sys2Proof/Machine/Rings.lean ====
section
/-!
DEFINITION. Host rings (R396–R410, R422, R423): positions with generations, entries the device writes, notification, and the
descriptor framework: acceptance checks in the order of R406, past effective times (R405), waiting and completion.
-/

namespace Sys2Proof.Machine

/-! ### Ring positions -/

/-- Ring states of R399: 0 DISABLED, 1 RUNNING, 2 STALLED, 3 ERROR. -/
def ringState (s : State) (r : Nat) : Nat := s.get (Reg.HR_STAT_STATE r)

/-- Set a ring's state, publishing HR_STAT (R84). -/
def setRingState (s : State) (r st : Nat) : State :=
  (s.put (Reg.HR_STAT_STATE r) st).publish (Reg.HR_STAT_VALID r) (Reg.HR_STAT_SEQ r)

/-- Entries of ring r: 2^LOG2_SIZE. -/
def ringSize (s : State) (r : Nat) : Nat := 2 ^ s.get (Reg.HR_CFG_LOG2_SIZE r)

/-- The position GEN × N + IDX of a producer or consumer register pair. -/
def posOf (n gen idx : Nat) : Nat := gen * n + idx

/-- The producer position the device holds. -/
def prodPos (s : State) (r : Nat) : Nat :=
  posOf (ringSize s r) (s.get (Reg.HR_PROD_GEN r)) (s.get (Reg.HR_PROD_IDX r))

/-- The consumer position the device holds. -/
def consPos (s : State) (r : Nat) : Nat :=
  posOf (ringSize s r) (s.get (Reg.HR_CONS_GEN r)) (s.get (Reg.HR_CONS_IDX r))

/-- Entries between the consumer and the producer position, modulo 256 × N (R400). -/
def ringUsed (s : State) (r : Nat) : Nat :=
  (prodPos s r + 256 * ringSize s r - consPos s r) % (256 * ringSize s r)

/-- Set the producer position. -/
def setProd (s : State) (r pos : Nat) : State :=
  let n := ringSize s r
  (((s.put (Reg.HR_PROD_GEN r) (pos / n)).put (Reg.HR_PROD_IDX r) (pos % n)).publish
    (Reg.HR_STAT_VALID r) (Reg.HR_STAT_SEQ r))

/-- Set the consumer position. -/
def setCons (s : State) (r pos : Nat) : State :=
  let n := ringSize s r
  (((s.put (Reg.HR_CONS_GEN r) (pos / n)).put (Reg.HR_CONS_IDX r) (pos % n)).publish
    (Reg.HR_STAT_VALID r) (Reg.HR_STAT_SEQ r))

/-- PHASE of an entry written on pass `gen`: 1 when even (R402). -/
def phaseOf (gen : Nat) : Bool := gen % 2 = 0

/-- Key of slot `i` of ring `r` in ring memory. -/
def slotKey (r i : Nat) : Nat := r * 65536 + i

/-! ### Notification (R395) -/

/-- Fire a ring's vector: the writeback of the producer index comes first (R398), then the message. -/
def notifyRing (s : State) (r : Nat) : State :=
  ({ s with hif := { s.hif with
      wb := s.hif.wb.set (fun _ => 0) r (s.get (Reg.HR_PROD_GEN r) * 65536 + s.get (Reg.HR_PROD_IDX r)),
      notif := s.hif.notif.set (fun _ => 0) r 0 } }).fire r

/-- An entry was written: the vector fires at COAL_CNT entries, or at once for a completion with NOTIFY. -/
def noteEntry (s : State) (r : Nat) (atOnce : Bool) : State :=
  let k := s.hif.notif.get (fun _ => 0) r + 1
  let s := if k = 1 then
      { s with hif := { s.hif with oldest := s.hif.oldest.set (fun _ => 0) r s.tb.ao } } else s
  let s := { s with hif := { s.hif with
      wb := s.hif.wb.set (fun _ => 0) r (s.get (Reg.HR_PROD_GEN r) * 65536 + s.get (Reg.HR_PROD_IDX r)),
      notif := s.hif.notif.set (fun _ => 0) r k } }
  if atOnce || s.get (Reg.HR_COAL_CNT r) ≤ k then notifyRing s r else s

/-- Write an entry at the producer slot of a device-produced ring. -/
def writeEntry (s : State) (r : Nat) (e : Entry) (atOnce : Bool) : State :=
  let i := s.get (Reg.HR_PROD_IDX r)
  let s := { s with hif := { s.hif with mem := s.hif.mem.set (fun _ => Entry.empty) (slotKey r i) e } }
  noteEntry (setProd s r (prodPos s r + 1)) r atOnce

/-! ### Errors and events -/

/-- Put a ring into ERROR (R399): fetch stops, HR_ERRIDX names the slot, RING_ERR, RING_ERROR journalled, vectors. -/
def ringError (s : State) (r cause slot : Nat) : State :=
  let s := (s.put (Reg.HR_STAT_ERR_CAUSE r) cause).put (Reg.HR_ERRIDX_SLOT r) slot
  let s := (setRingState s r 3).setFlag Flag.HIF_RING_ERR
  let s := s.journal 2 0x0002 0x02F2 (leBytes 1 r ++ leBytes 1 cause ++ leBytes 2 slot)
  let s := s.fire 64
  if s.get (Reg.HR_CFG_TYPE r) = 0 || s.get (Reg.HR_CFG_TYPE r) = 4 then s.fire r else s

/-- Count an entry that is not posted (R423). -/
def dropEntry (s : State) (r : Nat) : State := s.bump (Reg.HR_DROP_LO_DROP r) (Reg.HR_DROP_HI_DROP r) 1

/-- Post an event (R422, R423): on an EVENT ring the last free entry is kept for EV_LOST; an event that finds its ring not
RUNNING, not of its type or full is dropped and counted. -/
def postEvent (s : State) (r type source stampU : Nat) (pay : List Byte) : State :=
  if ringState s r != 1 || s.get (Reg.HR_CFG_TYPE r) != 2 then dropEntry s r
  else if ringSize s r ≤ ringUsed s r + 1 then
    let s := (dropEntry s r).setFlag Flag.HIF_EV_LOST
    { s with hif := { s.hif with evLost := s.hif.evLost.set (fun _ => 0) r (s.hif.evLost.get (fun _ => 0) r + 1) } }
  else writeEntry s r (.event type source s.jr.cseq stampU pay) false

/-- Write the EV_LOST entry as soon as the host returns an entry (R423, R429). -/
def postEvLost (s : State) (r : Nat) : State :=
  let n := s.hif.evLost.get (fun _ => 0) r
  if n = 0 || ringState s r != 1 || ringSize s r ≤ ringUsed s r then s
  else
    let s := { s with hif := { s.hif with evLost := s.hif.evLost.set (fun _ => 0) r 0 } }
    let s := writeEntry s r (.event 0 r s.jr.cseq s.nowU (leBytes 4 n)) false
    s.journal 1 0x0002 0x02F4 (leBytes 1 r ++ leBytes 3 0 ++ leBytes 4 n)

/-! ### Completions (R407, R408) -/

/-- The completion ring a COMMAND or INJECT ring names. -/
def cqOf (s : State) (r : Nat) : Nat := s.get (Reg.HR_CFG_CQ r) % 64

/-- A CQ that names an enabled COMPLETION ring (R398). -/
def cqValid (s : State) (r : Nat) : Bool :=
  s.get (Reg.HR_CFG_TYPE (cqOf s r)) = 1 && ringState s (cqOf s r) != 0

/-- Reserve an entry in a completion ring. -/
def reserve (s : State) (cq : Nat) : State := s.put (Reg.HR_RSV_RSV cq) (s.get (Reg.HR_RSV_RSV cq) + 1)

/-- Return a reservation. -/
def unreserve (s : State) (cq : Nat) : State := s.put (Reg.HR_RSV_RSV cq) (s.get (Reg.HR_RSV_RSV cq) - 1)

/-- A completion's bytes (R407), for the trace. -/
def Completion.bytes (c : Completion) (phase : Bool) : List Byte :=
  leBytes 4 c.tag ++ leBytes 2 c.status ++ leBytes 1 (b2n phase + 2 * b2n c.more + 4 * c.ring) ++ leBytes 1 0
    ++ leBytes 8 c.stamp ++ leBytes 8 c.applied ++ (c.result ++ List.replicate 8 0).take 8

/-- Write a completion into its ring, or hold it in IQ20 while DMA is not permitted (R408). -/
def postCompletion (s : State) (cq : Nat) (c : Completion) (atOnce : Bool) : State :=
  if ringState s cq = 1 && s.dmaOk then
    let ph := phaseOf (s.get (Reg.HR_PROD_GEN cq))
    let c := { c with stamp := s.nowShort }
    let s := unreserve (writeEntry s cq (.completion ph c) atOnce) cq
    s.stage 2 c.stamp (c.bytes ph ++ leBytes 1 cq)
  else { s with hif := { s.hif with iq20 := s.hif.iq20 ++ [(cq, c, atOnce)] } }

/-- Write in order the completions of ring `cq` that waited in IQ20. -/
def drainIq20 (s : State) (cq : Nat) : State :=
  let mine := s.hif.iq20.filter (fun e => e.1 = cq)
  let s := { s with hif := { s.hif with iq20 := s.hif.iq20.filter (fun e => e.1 != cq) } }
  mine.foldl (fun s e => postCompletion s cq e.2.1 e.2.2) s

end Sys2Proof.Machine

namespace Sys2Proof

/-! ### Descriptor fields (R401) -/

/-- Byte `n` (16–63) of a descriptor. -/
def Desc.u8 (d : Desc) (n : Nat) : Nat := (d.op.getD (n - 16) 0).toNat
/-- Little-endian 16-bit field at byte `n`. -/
def Desc.u16 (d : Desc) (n : Nat) : Nat := Machine.leNat d.op (n - 16) 2
/-- Little-endian 32-bit field at byte `n`. -/
def Desc.u32 (d : Desc) (n : Nat) : Nat := Machine.leNat d.op (n - 16) 4
/-- Little-endian 64-bit field at byte `n`. -/
def Desc.u64 (d : Desc) (n : Nat) : Nat := Machine.leNat d.op (n - 16) 8
/-- Signed 32-bit field. -/
def Desc.s32 (d : Desc) (n : Nat) : Int := Machine.signed 32 (d.u32 n)
/-- Signed 64-bit field. -/
def Desc.s64 (d : Desc) (n : Nat) : Int := Machine.signed 64 (d.u64 n)
/-- Bytes `a` to `b` are all zero. -/
def Desc.zero (d : Desc) (a b : Nat) : Bool := (List.range (b + 1 - a)).all (fun i => d.u8 (a + i) = 0)
/-- TIMED. -/
def Desc.timed (d : Desc) : Bool := Machine.bitOf d.flags.toNat 1
/-- PAST_POLICY. -/
def Desc.past (d : Desc) : Nat := d.flags.toNat / 4 % 4
/-- FENCE. -/
def Desc.fence (d : Desc) : Bool := Machine.bitOf d.flags.toNat 4
/-- NOTIFY. -/
def Desc.notify (d : Desc) : Bool := Machine.bitOf d.flags.toNat 5

end Sys2Proof

namespace Sys2Proof.Machine

/-- The value `v` for the register at `a` has a bit set that lies in none of its fields (R598). -/
def strayBits (a v : Nat) : Bool :=
  v != (fieldsAt a).foldl (fun w p => w + v / 2 ^ p.1.lo % 2 ^ p.1.w * 2 ^ p.1.lo) 0

/-- The value that a masked descriptor gives for MASK bit k: the values of the bits that are set follow one another from byte 20, in
mask order. DEDUCED: log 38. -/
def maskedValue (d : Desc) (mask k : Nat) : Nat := d.u32 (20 + 4 * ((List.range k).filter (fun j => bitOf mask j)).length)

/-- A value that a masked descriptor gives for one of the registers `l` has a reserved bit of that register set. -/
def strayValue (d : Desc) (mask : Nat) (l : List Nat) : Bool :=
  l.zipIdx.any (fun p => bitOf mask p.2 && strayBits p.1 (maskedValue d mask p.2))

/-- As `strayValue`, for a descriptor whose operand gives each register a field of its own: MASK bit k's at byte 20 + 4k (R86, R125). -/
def strayPlaced (d : Desc) (mask : Nat) (l : List Nat) : Bool :=
  l.zipIdx.any (fun p => bitOf mask p.2 && strayBits p.1 (d.u32 (20 + 4 * p.2)))

/-! ### Status codes (R410) -/
namespace St
/-- OK. -/ def ok : Nat := 0
/-- LATE. -/ def late : Nat := 1
/-- REFUSED_BOUND. -/ def refusedBound : Nat := 2
/-- INVALID. -/ def invalid : Nat := 3
/-- BUSY. -/ def busy : Nat := 4
/-- ABORTED. -/ def aborted : Nat := 5
/-- SUSPENDED. -/ def suspended : Nat := 6
/-- CANCELLED. -/ def cancelled : Nat := 7
/-- DENIED_MODE. -/ def deniedMode : Nat := 8
/-- PROTECTED. -/ def protect : Nat := 9
/-- PARTIAL. -/ def partialDone : Nat := 10
end St

/-! ### Acceptance, waiting and completion -/

/-- Journal DESC_APPLIED (R403, R429) with the given stamp. -/
def descApplied (s : State) (w : Waiting) (status stamp : Nat) : State :=
  s.journalAt stamp 0 0x0002 0x02F1
    (leBytes 2 w.opcode ++ leBytes 1 w.d.ring ++ leBytes 1 status ++ leBytes 4 w.d.tag.toNat ++ leBytes 4 w.aseq)

/-- Post a completion of a descriptor. -/
def completeDesc (s : State) (d : Desc) (status : Nat) (more : Bool) (applied : Nat) (result : List Byte) : State :=
  postCompletion s (cqOf s d.ring) ⟨d.tag.toNat, status, more, d.ring, 0, applied, result⟩ d.notify

/-- The entry that a RESUME reserved for the operation it resumes is returned (R408). -/
def returnExtra (s : State) (aseq : Nat) : State :=
  match s.hif.extra.find? (fun p => p.1 = aseq) with
  | some p => unreserve { s with hif := { s.hif with extra := s.hif.extra.filter (fun p => p.1 != aseq) } } p.2
  | none => s

/-- A descriptor is refused: nothing changed, applied stamp 0, DESC_APPLIED stamped at acceptance. -/
def refuseDesc (s : State) (w : Waiting) (status : Nat) : State :=
  let s := returnExtra s w.aseq
  completeDesc (descApplied s w status (shortOf w.accepted)) w.d status false 0 []

/-- A descriptor took effect now and completes OK (or PARTIAL) with a result. -/
def finishDesc (s : State) (w : Waiting) (status : Nat) (result : List Byte) : State :=
  completeDesc (descApplied s w status s.nowShort) w.d status false s.nowShort result

/-- A descriptor took effect or is refused, by status: only OK (and PARTIAL) has an applied stamp. -/
def endDesc (s : State) (w : Waiting) (status : Nat) : State :=
  if status = St.ok then finishDesc s w status [] else refuseDesc s w status

/-- What an opcode's owning chapter gives: the checks that can be made at acceptance (0, or the status they give), the
instants it permits, and the application, which gives the remaining statuses and the effect. `items` is the opcode for
which PAST_POLICY 2 names a periodic item. -/
structure OpSpec where
  opcode : Nat
  check : State → Desc → Nat
  due : State → Desc → Bool
  apply : State → Waiting → State
  periodic : Bool

/-- Opcodes of R411. -/
def knownOpcodes : List Nat :=
  [0x0000, 0x0001, 0x0002, 0x0003, 0x0004, 0x0010, 0x0210, 0x0220, 0x0221, 0x0222, 0x0223, 0x0224, 0x0225, 0x0230, 0x0231,
   0x0240, 0x0241, 0x0242, 0x0243, 0x0244, 0x0245, 0x0250, 0x0251, 0x0260, 0x0261, 0x0262, 0x0270, 0x0271, 0x0272, 0x0273,
   0x0280, 0x0281, 0x0290, 0x0291, 0x0292, 0x0293, 0x02A0, 0x02A1, 0x02A2] ++
  [0x02B0, 0x02B1, 0x02B2, 0x02C0, 0x02C1, 0x02C2, 0x02D0, 0x02D1, 0x02E0, 0x02E1, 0x02E2, 0x02E3]

/-- Whether a mode accepts an opcode (R406). -/
def modeAccepts (m : Mode) (op : Nat) : Bool :=
  if op = 0x0002 then m = .setup || m = .service || m = .recovery || m = .safe
  else if op = 0x02A0 || op = 0x02A2 || op = 0x0293 then m = .setup || m = .service
  else if op = 0x0010 then m = .setup || m = .service || m = .recovery
  else if op = 0x02E0 then m = .service || m = .recovery || m = .safe
  else if op = 0x0001 then m = .service || m = .recovery
  else m = .service

/-- Both supervisors are held in reset: nothing is applied until one rejoins (R419). -/
def supervisorsDown (s : State) : Bool := bitOf s.sys.engReset 18 && bitOf s.sys.engReset 19

/-- The instant at or after a waiting descriptor's effective time that its chapter permits is reached now. -/
def waitingDue (sp : OpSpec) (s : State) (w : Waiting) : Bool :=
  (match w.eff with | none => true | some e => s.atOrPast e) && sp.due s w.d && !supervisorsDown s

/-- Number of timed descriptors waiting, in HIF_PEND. -/
def updatePend (s : State) : State :=
  s.put Reg.HIF_PEND_PEND (s.hif.waiting.filter (fun w => w.eff.isSome)).length

/-- Acceptance of a descriptor that passed R402, by the spec of its opcode (none for an unknown one): the next ASEQ, one
completion entry reserved, then the checks of R406 in order, R405 for a past effective time, and application at once when
this TB cycle is a permitted instant. -/
def acceptDesc (sp : Option OpSpec) (opcode : Nat) (s : State) (d : Desc) : State :=
  let s := s.put Reg.HIF_ASEQ_ASEQ (s.get Reg.HIF_ASEQ_ASEQ + 1)
  let s := reserve s (cqOf s d.ring)
  let eff := if d.timed then some (s.expand d.eff.toNat) else none
  let w : Waiting := ⟨s.get Reg.HIF_ASEQ_ASEQ, opcode, d, s.nowU, eff⟩
  match sp with
  | none => refuseDesc s w St.invalid
  | some sp =>
    if 64 ≤ d.flags.toNat || d.byte3 != 0 then refuseDesc s w St.invalid
    else if !modeAccepts s.mode opcode then refuseDesc s w St.deniedMode
    else if sp.check s d != 0 then refuseDesc s w (sp.check s d)
    else
      let past := match eff with | none => false | some e => e < s.nowU
      if past && d.past = 0 then refuseDesc s w St.late
      else if past && (d.past = 3 || (d.past = 2 && !sp.periodic)) then refuseDesc s w St.invalid
      else if waitingDue sp s w then sp.apply s w
      else updatePend { s with hif := { s.hif with waiting := s.hif.waiting ++ [w] } }

/-- Take a descriptor out of the waiting list. -/
def removeWaiting (s : State) (aseq : Nat) : State :=
  updatePend { s with hif := { s.hif with waiting := s.hif.waiting.filter (fun w => w.aseq != aseq) } }

/-- End, with one status, every waiting descriptor that satisfies `p`, in order of acceptance. -/
def endWaiting (s : State) (p : Waiting → Bool) (status : Nat) : State :=
  let hit := s.hif.waiting.filter p
  let s := updatePend { s with hif := { s.hif with waiting := s.hif.waiting.filter (fun w => !p w) } }
  hit.foldl (fun s w => refuseDesc s w status) s

/-- A descriptor row: acceptance of a descriptor of one opcode, on a host interface that runs (R406, R428: in BOOT no ring
runs, in TEST none reaches the device). -/
def submit (sp : OpSpec) (s : State) (d : Desc) : State :=
  if s.mode = .boot || s.mode = .test then s else acceptDesc (some sp) sp.opcode s d

/-- Start a long operation: DESC_APPLIED now; its completion comes when it ends (R403, R415). -/
def startLong (s : State) (w : Waiting) (port : Nat) : State :=
  let s := descApplied s w St.ok s.nowShort
  { s with hif := { s.hif with longs := s.hif.longs ++ [⟨w.opcode, port, w.d.tag.toNat, w.d, s.nowShort, false, false, false, false⟩] } }

/-- The long operation of an opcode and port, if one runs or is suspended. -/
def longOp (s : State) (op port : Nat) : Option LongOp :=
  s.hif.longs.find? (fun l => l.opcode = op && l.port = port)

/-- A long operation ends: its entry is freed and its completion posted. -/
def endLong (s : State) (l : LongOp) (status : Nat) (result : List Byte) : State :=
  let s := { s with hif := { s.hif with longs := s.hif.longs.filter (fun x => !(x.opcode = l.opcode && x.port = l.port)) } }
  if l.auto then s else completeDesc s l.d status false l.applied result

/-- Replace a long operation's entry. -/
def updateLong (s : State) (l : LongOp) : State :=
  { s with hif := { s.hif with
      longs := s.hif.longs.map (fun x => if x.opcode = l.opcode && x.port = l.port then l else x) } }

/-- A long operation reaches the point at which a requested suspension takes effect (R415, R417). -/
def suspendLong (s : State) (l : LongOp) : State :=
  let s := updateLong s { l with suspended := true, suspReq := false }
  if l.auto then s else completeDesc s l.d St.suspended true l.applied []

/-- The point at which an operation's requested suspension or cancellation takes effect: none when nothing is requested. -/
def longPoint (s : State) (l : LongOp) (result : List Byte) : Option State :=
  if l.cancelReq then some (endLong s l St.cancelled result)
  else if l.suspReq then some (suspendLong s l) else none

/-- A descriptor applied whose completion comes later. -/
def openDesc (s : State) (w : Waiting) (key : Nat) : State :=
  let s := descApplied s w St.ok s.nowShort
  { s with hif := { s.hif with opens := s.hif.opens ++ [⟨w.aseq, w.opcode, w.d, s.nowShort, key⟩] } }

/-- Complete the open descriptors of an opcode and key. -/
def closeOpens (s : State) (op key status : Nat) (result : List Byte) : State :=
  let hit := s.hif.opens.filter (fun o => o.opcode = op && o.key = key)
  let s := { s with hif := { s.hif with opens := s.hif.opens.filter (fun o => !(o.opcode = op && o.key = key)) } }
  hit.foldl (fun s o => completeDesc s o.d status false o.applied result) s

/-! ### Checkers (R482, R483, R485) -/

/-- The checker of source `src` makes a comparison, which fails or not: an injection that waits for it makes it fail, and its
event carries the INJ flag and completes FLT_INJECT with the event's short stamp. -/
def checkAt (s : State) (src : Nat) (fails : Bool) (addr master access info : Nat) : State :=
  match s.flt.inj with
  | some j =>
    if j.src = src then
      let s := { s with flt := { s.flt with inj := none } }
      let s := s.deliver src addr master access info true j.react
      closeOpens s 0x02C1 src St.ok (leBytes 8 s.nowShort)
    else if fails then s.reportAt src addr master access info else s
  | none => if fails then s.reportAt src addr master access info else s

/-- A comparison with no address and no master. -/
def check (s : State) (src : Nat) (fails : Bool) : State := checkAt s src fails 0 0xFF 0 0

end Sys2Proof.Machine
end

