-- ==== Sys2Proof/Machine/Utc.lean ====
section
/-!
DEFINITION. TAI and UTC (R28–R31, R189–R191): learning the offset from a source, announcing, arming, applying and removing a
leap second.
-/

namespace Sys2Proof.Machine

/-- TAI_UTC, signed seconds. -/
def taiUtc (s : State) : Int := s.utc.tai

/-- UTC_VALID. -/
def utcValid (s : State) : Bool := s.utc.valid

/-- LEAP61: an inserted second is armed. -/
def leap61 (s : State) : Bool := match s.utc.leap with | some (_, ins) => ins | none => false

/-- LEAP59: a deleted second is armed. -/
def leap59 (s : State) : Bool := match s.utc.leap with | some (_, ins) => !ins | none => false

/-- IN_LEAP: an inserted second is in progress. -/
def inLeap (s : State) : Bool := s.utc.inLeapEnd.isSome

/-- TAI_UTC as it holds at the instant `u` of the time base (R29): before the last leap applied the value before it, and from T_L
of the armed leap on the value after it. -/
def taiUtcAt (s : State) (u : Nat) : Int :=
  match s.utc.past, s.utc.leap with
  | some (tl, v), l => if u < tl * secU then v else ahead l
  | none, l => ahead l
where
  /-- With the armed leap, when `u` lies at or after its T_L. -/
  ahead (l : Option (Nat × Bool)) : Int :=
    match l with
    | some (tl, ins) => if s.utc.valid && tl * secU ≤ u then (if ins then s.utc.tai + 1 else s.utc.tai - 1) else s.utc.tai
    | none => s.utc.tai

/-- Whether an inserted or a deleted second is armed, as it holds at the instant `u`: from T_L on none is (R29). -/
def leapAt (s : State) (u : Nat) : Option Bool :=
  match s.utc.leap with
  | some (tl, ins) => if u < tl * secU then some ins else none
  | none => none

/-- The Tense unit holds a TAI − UTC offset. -/
def setTai (s : State) (v : Int) : State := { s with utc := { s.utc with tai := v, valid := true, past := none } }

/-- What TNS_UTC_STAT and TNS_LEAP_SECL show, refreshed with the snapshot they are part of (R56). -/
def showUtc (s : State) : State :=
  let s := (s.putS Reg.TNS_UTC_STAT_TAI_UTC (taiUtc s)).putB Reg.TNS_UTC_STAT_UTC_VALID (utcValid s)
  let s := ((s.putB Reg.TNS_UTC_STAT_LEAP61 (leap61 s)).putB Reg.TNS_UTC_STAT_LEAP59 (leap59 s)).putB Reg.TNS_UTC_STAT_IN_LEAP (inLeap s)
  s.put Reg.TNS_LEAP_SECL_T_L ((s.utc.leap.map (fun l => l.1)).getD 0)

/-- UTC seconds of now (R28). -/
def utcNow (s : State) : Int := (tbSec s.tbU : Int) - taiUtc s

/-- T_L for a leap at the end of the current UTC day (R190): the start of 23:59:60 when inserted, of 23:59:59 when deleted
(R29). -/
def endOfUtcDay (s : State) (ins : Bool) : Nat :=
  let e := (utcNow s / 86400 + 1) * 86400 + taiUtc s
  (if ins then e else e - 1).toNat

/-- T_L names the end of a UTC day under the offset in force. -/
def isEndOfDay (s : State) (tl : Nat) (ins : Bool) : Bool :=
  ((tl : Int) - taiUtc s) % 86400 = if ins then 0 else 86399

/-- Direction byte of the leap records (R54, R202). -/
def leapDir (ins : Bool) : Nat := if ins then 0x01 else 0xFF

/-- Arm a leap now: LEAP_ARMED is journalled (R190, R202). -/
def armLeap (s : State) (tl : Nat) (ins : Bool) (trace : Nat) : State :=
  let s := { s with utc := { s.utc with leap := some (tl, ins), announced := none } }
  s.journal 0 0x0008 0x020A (leBytes 6 tl ++ leBytes 1 (leapDir ins) ++ leBytes 1 trace)

/-- Remove the armed leap. -/
def clearLeap (s : State) : State := { s with utc := { s.utc with leap := none } }

/-- An announcement by `src` that contradicts the armed leap is reported once for each distinct one (R190). -/
def leapConflict (s : State) (src : Nat) (tl : Nat) (ins : Bool) : State :=
  let seen := s.utc.seenLeap.get (fun _ => []) src
  if (tl, ins) ∈ seen then s
  else
    let s := { s with utc := { s.utc with seenLeap := s.utc.seenLeap.set (fun _ => []) src ((tl, ins) :: seen) } }
    (s.setFlag Flag.TNS_LEAP_CONFLICT).journal 1 0x0008 0x020B
      (leBytes 1 1 ++ leBytes 1 src ++ leBytes 2 (if ins then 0x0001 else 0xFFFF))

/-- A leap announced with its T_L (R190): armed at the later of now and T_L − ARM_WIN. -/
def announceLeap (s : State) (src : Nat) (tl : Nat) (ins : Bool) (trace : Nat) : State :=
  match s.utc.leap with
  | some (tl0, ins0) =>
    if tl0 = tl ∧ ins0 = ins then
      { s with utc := { s.utc with seenLeap := s.utc.seenLeap.set (fun _ => []) src [] } }
    else leapConflict s src tl ins
  | none =>
    if tl ≤ tbSec s.tbU then s
    else if tl ≤ tbSec s.tbU + s.get Reg.TNS_LEAP_CFG_ARM_WIN then armLeap s tl ins trace
    else { s with utc := { s.utc with announced := some (tl, ins, trace) } }

/-- Reference `i` is named as SRC. -/
def isSrc (s : State) (i : Nat) : Bool := s.bit Reg.SEL_STAT_SRC_V && s.get Reg.SEL_STAT_SRC = i

/-- Reference `i` is named as SRC or FSRC. -/
def isNamed (s : State) (i : Nat) : Bool :=
  isSrc s i || (s.bit Reg.SEL_STAT_FSRC_V && s.get Reg.SEL_STAT_FSRC = i)

/-- A leap announced by the source of SRC; from other sources it is not used. -/
def sourceLeap (s : State) (src : Nat) (tl : Nat) (ins : Bool) : State :=
  if isSrc s src then announceLeap s src tl ins (s.get (Reg.ENT_STAT_TRACE src)) else s

/-- A source delivers a TAI − UTC offset (R189). -/
def deliverOffset (s : State) (src : Nat) (v : Int) (bearing : Bool) : State :=
  let st := s.get (Reg.ENT_STAT_STATE src)
  if !utcValid s then
    if bearing && (st = 3 || st = 4) then setTai s v else s
  else if v = taiUtc s then { s with utc := { s.utc with seen := s.utc.seen.set (fun _ => []) src [] } }
  else if !isSrc s src then s
  else
    let seen := s.utc.seen.get (fun _ => []) src
    if v ∈ seen then s
    else
      let s := { s with utc := { s.utc with seen := s.utc.seen.set (fun _ => []) src (v :: seen) } }
      (s.setFlag Flag.TNS_UTC_CONFLICT).journal 1 0x0008 0x020B
        (leBytes 1 0 ++ leBytes 1 src ++ leBytes 2 (unsigned 16 v))

/-- The pending flag of the Gloss: from arming to the end of the leap (R31). -/
def leapPending (s : State) : Bool := s.utc.leap.isSome || inLeap s

/-- LEAP_APPLIED: at T_L the armed leap changes TAI_UTC and is journalled, or is removed unapplied while UTC_VALID is 0
(R29, R190). An inserted second is IN_LEAP until T_L + 1 s. -/
def leapApplied (s : State) : State :=
  let s := match s.utc.inLeapEnd with
    | some e => if e * secU ≤ s.tbU then { s with utc := { s.utc with inLeapEnd := none } } else s
    | none => s
  match s.utc.leap with
  | none => s
  | some (tl, ins) =>
    if !s.atOrPast (tl * secU) then s
    else if !utcValid s then clearLeap s
    else
      let old := taiUtc s
      let v := if ins then old + 1 else old - 1
      let s := { s with utc := { s.utc with
        leap := none, tai := v, past := some (tl, old), inLeapEnd := if ins then some (tl + 1) else s.utc.inLeapEnd } }
      s.journalAt (shortOf (tl * secU)) 0 0x0008 0x0204 (leBytes 2 (unsigned 16 v) ++ leBytes 1 (leapDir ins))

/-- LEAP_ARMED: an announced leap reaches T_L − ARM_WIN. -/
def leapDue (s : State) : State :=
  match s.utc.announced with
  | some (tl, ins, tr) =>
    if s.tbLive && tl ≤ tbSec s.tbU + s.get Reg.TNS_LEAP_CFG_ARM_WIN && s.utc.leap.isNone then armLeap s tl ins tr else s
  | none => s

end Sys2Proof.Machine
end

