-- ==== Sys2Proof/Machine/Wire.lean ====
section
/-!
DEFINITION. What ports share: MAC counters (R286, R287), their lanes (R255), the frames that are not booked and wait to leave (R309), and the link of a
port (R264).
-/

namespace Sys2Proof.Machine

/-- Counter k of port p moves by `n`; a change of bit 47 sets CNT_HALF and posts its event (R287). -/
def macBump (s : State) (p k n : Nat) : State :=
  let lo := Reg.MAC_CNT_LO_CNT p k
  let hi := Reg.MAC_CNT_HI_CNT p k
  let old := s.getPair lo hi
  let new := (old + n) % 2 ^ 48
  let s := s.putPair lo hi new
  let s := { s with lan := { s.lan with fresh := s.lan.fresh.set (fun _ => 0) (p * 64 + k) (s.lan.fresh.get (fun _ => 0) (p * 64 + k) + n) } }
  if bitOf old 47 = bitOf new 47 then s
  else
    let s := s.setFlag (Flag.MAC_CNT_HALF p)
    if s.bit (Reg.MAC_CNT_CFG_NOTIFY p) then
      postEvent s (s.get (Reg.MAC_CNT_CFG_EVRING p)) 0x0003 p s.nowU (leBytes 1 k ++ leBytes 1 (b2n (bitOf new 47)))
    else s

/-- Count one in counter k of port p when a condition holds. -/
def macIf (s : State) (b : Bool) (p k : Nat) : State := if b then macBump s p k 1 else s

/-- MAC_STAT.LINK is UP. -/
def portUp (s : State) (p : Nat) : Bool := s.get (Reg.MAC_STAT_LINK p) = 3

/-- The ports a target names: 0–7 a port, 16–19 the two ports of a redundancy group, PORT_A first. -/
def portsOf (s : State) (t : Nat) : List Nat :=
  if t < 8 then [t]
  else if 16 ≤ t && t < 20 then [s.get (Reg.RG_CFG_PORT_A (t - 16)), s.get (Reg.RG_CFG_PORT_B (t - 16))]
  else []

/-- Hand a frame that is not booked to port p's queue (R309). -/
def enqueue (s : State) (u : Unbooked) : State := { s with lan := { s.lan with unb := s.lan.unb ++ [u] } }

/-- MODE and FEC of port p are a combination of R256. -/
def modeFecOk (s : State) (p : Nat) : Bool :=
  let m := s.get (Reg.MAC_MODE_MODE p)
  let f := s.get (Reg.MAC_MODE_FEC p)
  if m = 0 then f = 0 else if m = 1 then f ≤ 1 else if m = 2 then f ≤ 2 else f = 2 && p % 2 = 0

/-- Port p has no lanes, since its even neighbour runs 100GBASE-R. -/
def unavailable (s : State) (p : Nat) : Bool :=
  p % 2 = 1 && s.get (Reg.MAC_MODE_MODE (p - 1)) = 3 && modeFecOk s (p - 1)

/-- The lanes of port p (R255). -/
def lanesOf (s : State) (p : Nat) : List Nat :=
  let b := 4 * (p / 2)
  if unavailable s p then []
  else if p % 2 = 1 then [b + 1]
  else if s.get (Reg.MAC_MODE_MODE p) = 3 then [b, b + 1, b + 2, b + 3] else [b]

/-- The redundancy group port p belongs to, if it is in force (R278). -/
def groupOf (s : State) (p : Nat) : Option Nat :=
  (List.range 4).find? (fun g => s.get (Reg.RG_CFG_MODE g) != 0 && !s.bit (Reg.RG_STAT_CFGERR g) &&
    (s.get (Reg.RG_CFG_PORT_A g) = p || s.get (Reg.RG_CFG_PORT_B g) = p))

/-- The port in `l` is UP. -/
def anyUp (s : State) (l : List Nat) : Bool := l.any (portUp s)

/-- The precision of every NTP reply (R193). -/
def ntpPrecision : Int := -30

/-- The n network-order bytes of a natural number. -/
def beBytes (n v : Nat) : List Byte := (leBytes n v).reverse

/-- An instant in NTP form (R30): UTC seconds since 1900 modulo 2³², with the offset that holds at that instant (R29), and the
fraction truncated to 2⁻³² s. -/
def ntpTime (s : State) (u : Nat) : Nat :=
  let tai := taiUtcAt s u
  let sec := (((tbSec u : Int) - tai + 2208988800) % (2 ^ 32 : Nat)).toNat
  sec * 2 ^ 32 + tbNs u * 2 ^ 32 / 1000000000

end Sys2Proof.Machine
end

