-- ==== Sys2Proof/Machine/Sat.lean ====
section
/-!
DEFINITION. The security association table (R368–R372, R377): entries, lookups, CURRENT entries, the counters of the authentication
unit.
-/

namespace Sys2Proof.Machine

/-- Entry i of the table. -/
def State.sat (s : State) (i : Nat) : SatEntry := s.auth.sat.get (fun _ => SatEntry.zero) i

/-- Number of valid entries. -/
def satUsed (s : State) : Nat := (s.auth.sat.filter (fun p => p.2.valid)).length

/-- Replace entry i, and show how many are valid. -/
def State.setSat (s : State) (i : Nat) (e : SatEntry) : State :=
  let s := { s with auth := { s.auth with sat := s.auth.sat.set (fun _ => SatEntry.zero) i e } }
  s.put Reg.SAT_USED_USED (satUsed s)

/-- Counter k of the authentication unit moves by n. -/
def satBump (s : State) (k n : Nat) : State := s.bump (Reg.SAT_CNT_LO_CNT k) (Reg.SAT_CNT_HI_CNT k) n

/-- A lookup by KEY_ID (R369): the entry k[12:0], valid, holding all 32 bits of k. An entry past its NOT_AFTER is no longer valid
unless CURRENT (R370). -/
def satLookup (s : State) (k : Nat) : Option SatEntry :=
  let e := s.sat (k % 8192)
  if e.valid && e.keyId = k then some e else none

/-- The entry of an NTS master key. -/
def ntsMaster (s : State) (k : Nat) : Bool := match satLookup s k with | some e => e.type = 1 | none => false

/-- The entry that verifies a PTP message under pointer SPP (R380). -/
def ptpVerifier (s : State) (k spp : Nat) : Option SatEntry :=
  match satLookup s k with
  | some e => if (e.type = 3 || e.type = 4) && bitOf e.flags 0 && e.spp = spp then some e else none
  | none => none

/-- The CURRENT entry of binding b (R377). -/
def currentPb (s : State) (b : Nat) : Option SatEntry :=
  if s.bit (Reg.SAT_CUR_PB_V b) then some (s.sat (s.get (Reg.SAT_CUR_PB_INDEX b))) else none

/-- V and INDEX of target t: 0 NTS cookies, 1 grant tokens, 16 + b binding b. -/
def curFields (t : Nat) : Field × Field :=
  if t = 0 then (Reg.SAT_CUR_NTS_V, Reg.SAT_CUR_NTS_INDEX)
  else if t = 1 then (Reg.SAT_CUR_GRANT_V, Reg.SAT_CUR_GRANT_INDEX)
  else (Reg.SAT_CUR_PB_V (t - 16), Reg.SAT_CUR_PB_INDEX (t - 16))

/-- Every seal target. -/
def satTargets : List Nat := 0 :: 1 :: (List.range 64).map (· + 16)

/-- Entry i is CURRENT for some target. -/
def isCurrent (s : State) (i : Nat) : Bool := satTargets.any (fun t => s.bit (curFields t).1 && s.get (curFields t).2 = i)

/-- Entry i meets what target t requires (R377). -/
def meetsTarget (s : State) (t i : Nat) : Bool :=
  let e := s.sat i
  e.valid && (if t = 0 then e.type = 1 else if t = 1 then e.type = 2
    else (e.type = 3 || e.type = 4) && bitOf e.flags 1 && e.spp = s.get (Reg.PB_SPP_SPP (t - 16)))

/-- Domain CY runs. -/
def cyRuns (s : State) : Bool := s.bit Reg.SAT_STAT_CY_RDY

/-- AES block operations of a core are counted. -/
def aesBlocks (s : State) (core n : Nat) : State := (satBump s 9 n).perf 0x060 core n

/-- Blocks of an S2V input of ℓ bytes (R376). -/
def s2v (l : Nat) : Nat := max 1 (ceilDiv l 16)

end Sys2Proof.Machine
end

