-- ==== Sys2Proof/Machine/Steer.lean ====
section
/-!
DEFINITION. The Gloss word and its encoding (R36, R37), the history of the steering, the oscillator model and its
predictions (R172, R177), and the growth of the bound in holdover (R178).
-/

namespace Sys2Proof.Machine

/-! ### Units -/

/-- 2⁻⁹ ns in ps. -/
def psOf (x : Int) : Rat := (x : Rat) * 125 / 64

/-- ps in the nearest 2⁻⁹ ns. -/
def ofPs (q : Rat) : Int := roundQ (q * 64 / 125)

/-- A whole number of elapsed ns in seconds. -/
def secOf (ns : Nat) : Rat := (ns : Rat) / 1000000000

/-- 10¹² ps in one second. -/
def tera : Rat := 1000000000000

/-- A field in units of 10⁻ⁿ, as a fraction. -/
def unitF (v : Int) (n : Nat) : Rat := (v : Rat) / ((10 ^ n : Nat) : Rat)

/-! ### The Gloss word (R36, R37) -/

/-- The smallest exponent at or above `e` whose mantissa fits, at most 63. -/
def bexpFrom : Nat → Nat → Nat → Nat
  | 0, e, _ => e
  | n + 1, e, b => if ceilDiv b (2 ^ e) ≤ 1023 then e else bexpFrom n (e + 1) b

/-- BEXP of a bound in ps. -/
def bexpOf (b : Nat) : Nat := bexpFrom 63 0 (if b = 0 then 1 else b)

/-- BMAN of a bound in ps. -/
def bmanOf (b : Nat) : Nat := min 1023 (ceilDiv (if b = 0 then 1 else b) (2 ^ bexpOf b))

/-- Bits 63:48 of a Gloss: BEXP and BMAN, both 0 for "not bounded". -/
def boundBits (b : Option Nat) : Nat :=
  match b with | none => 0 | some b => bexpOf b * 1024 + bmanOf b

/-- The bound in ps that bits 63:48 encode; none is "not bounded". -/
def encodedBound (w : Nat) : Option Nat :=
  let h := w / 2 ^ 48
  if h % 1024 = 0 then none else some (h % 1024 * 2 ^ (h / 1024))

/-- The Gloss word of its fields. -/
def glossWord (b : Option Nat) (src state trace : Nat) (slew leap jref pair : Bool) (age : Nat) : Nat :=
  boundBits b * 2 ^ 48 + src % 32 * 2 ^ 43 + state % 8 * 2 ^ 40 + trace % 16 * 2 ^ 36 + b2n slew * 2 ^ 35 + b2n leap * 2 ^ 34
    + b2n jref * 2 ^ 33 + b2n pair * 2 ^ 32 + (if 2 ^ 32 ≤ age then 2 ^ 32 - 1 else age)

/-- Fields of a Gloss word. -/
def glossSrc (w : Nat) : Nat := w / 2 ^ 43 % 32
/-- STATE of a Gloss word. -/
def glossState (w : Nat) : Nat := w / 2 ^ 40 % 8
/-- TRACE of a Gloss word. -/
def glossTrace (w : Nat) : Nat := w / 2 ^ 36 % 16
/-- FLAGS of a Gloss word: SLEW, LEAP, JREF, PAIR from bit 3. -/
def glossFlags (w : Nat) : Nat := w / 2 ^ 32 % 16
/-- AGE of a Gloss word. -/
def glossAge (w : Nat) : Nat := w % 2 ^ 32

/-- Of two bounds, the larger; "not bounded" counts as larger than any. -/
def maxBound (a b : Option Nat) : Option Nat :=
  match a, b with | some a, some b => some (max a b) | _, _ => none

/-- Of two words' bits 63:48, those of the larger encoded bound. -/
def largerBits (a b : Nat) : Nat :=
  match encodedBound a, encodedBound b with
  | none, _ => 0
  | _, none => 0
  | some x, some y => (if x < y then b else a) / 2 ^ 48

/-- Two words formed field by field (R45, R53): the larger bound and AGE, SLEW, LEAP and JREF when either has them, PAIR
when both have it; SRC, STATE and TRACE from `a`. -/
def mergeGloss (a b : Nat) : Nat :=
  let fl := glossFlags a ||| glossFlags b
  let pair := glossFlags a % 2 * (glossFlags b % 2)
  largerBits a b * 2 ^ 48 + glossSrc a * 2 ^ 43 + glossState a * 2 ^ 40 + glossTrace a * 2 ^ 36
    + (fl / 2 * 2 + pair) * 2 ^ 32 + max (glossAge a) (glossAge b)

/-- Contributions are added linearly, saturating at 2⁶⁴ − 1 ps (R39). -/
def satPs (b : Nat) : Nat := min b (2 ^ 64 - 1)

/-- A bound with a further contribution; none stays "not bounded" (R39). -/
def addPs (b : Option Nat) (extra : Nat) : Option Nat := b.map (fun x => satPs (x + extra))

/-- The word with a further contribution to its bound, from the exact core bound (R47). -/
def servedWord (w : Nat) (core : Option Nat) (extra : Nat) : Nat :=
  boundBits (addPs core extra) * 2 ^ 48 + w % 2 ^ 48

/-- The word with BMAN and BEXP 0. -/
def unbounded (w : Nat) : Nat := w % 2 ^ 48

/-- The core Gloss published last, or the reset word. -/
def State.coreWord (s : State) : Nat := s.getPair Reg.TNS_TBS_GLSL_GLOSS Reg.TNS_TBS_GLSH_GLOSS

/-- A core Gloss with BMAN and BEXP 0. -/
def Pub.open (p : Pub) : Pub := { p with word := unbounded p.word, bound := none }

/-- The GLOSS_TICK of the first second boundary after the instant `u`, in the journal ring (R54, R55). -/
def State.tickAfter (s : State) (u : Nat) : Option Pub :=
  let b := (u / secU + 1) * secU
  (s.jr.ring.find? (fun p => p.2.item.code = 0x0202 && p.2.item.src = 8 && p.2.item.stamp = shortOf b)).map
    (fun p => let w := leNat p.2.item.pay 0 8; ⟨0, b, w, encodedBound w⟩)

/-- The core Gloss paired with an instant of the time base (R46, R55): the latest published at or before it; where none of those
retained is, the GLOSS_TICK of the first second boundary after it. The spec pairs nothing where no such record is in the ring; there
the oldest publication retained stands, not bounded (DESIGN CHOICE, log 66). -/
def State.glossAt (s : State) (u : Nat) : Pub :=
  match s.tns.pubs.find? (fun p => p.stampU ≤ u) with
  | some p => p
  | none => (s.tickAfter u).getD (s.tns.pubs.getLast?.getD ⟨0, 0, s.coreWord, none⟩).open

/-- The latest core Gloss, as it is paired now. -/
def State.glossNow (s : State) : Pub := s.tns.pubs.headD ⟨0, 0, s.coreWord, none⟩

/-! ### Steering history -/

/-- Integrals of y_st and of all steering up to elapsed time `t`, in ps. -/
def cumAt (h : List YSeg) (t : Nat) : Option (Rat × Rat) :=
  match h.find? (fun g => g.since ≤ t) with
  | some g => some (g.cum + g.yst * ((t - g.since : Nat) : Rat) * 1000, g.cumAll + g.yall * ((t - g.since : Nat) : Rat) * 1000)
  | none => none

/-- Seconds of history kept: longer than the longest averaging or drift window. -/
def keepSecs : Nat := 140000

/-- Set the steering rates from now on, and FST with its limits (R163, R164). -/
def setSteer (s : State) (yst ysl : Rat) : State :=
  let t := s.freeNs
  let (c, ca) := (cumAt s.tns.hist t).getD (0, 0)
  let keep := s.tns.hist.takeWhile (fun g => t < g.since + keepSecs * 1000000000)
  let rest := (s.tns.hist.drop keep.length).take 1
  let same : Bool := match s.tns.hist with | g :: _ => g.yst = yst && g.yall = yst + ysl | [] => false
  let want := roundQ ((yst + ysl) * (2 ^ 48 : Nat))
  let fst := clampI (-28147497671) 28147497671 want
  let sat := want != fst
  let s := s.flagIf (sat && !s.bit Reg.TNS_STAT_STEER_SAT) Flag.TNS_STEER_SAT
  let s := (s.putB Reg.TNS_STAT_STEER_SAT sat).putPairSat Reg.TNS_FSTL_FST Reg.TNS_FSTH_FST fst
  { s with tns := { s.tns with
      yst := yst, ysl := ysl, hist := if same then s.tns.hist else ⟨t, c, ca, yst, yst + ysl⟩ :: (keep ++ rest) } }

/-- Mean of y_st over the `n` seconds before elapsed time `t`; over what is held when less is. -/
def meanYst (s : State) (t n : Nat) : Rat :=
  let t0 := t - n * 1000000000
  let oldest := match s.tns.hist.getLast? with | some g => g.since | none => t
  let t0 := max t0 oldest
  if t ≤ t0 then s.tns.yst
  else
    match cumAt s.tns.hist t, cumAt s.tns.hist t0 with
    | some (c1, _), some (c0, _) => (c1 - c0) / (((t - t0 : Nat) : Rat) * 1000)
    | _, _ => s.tns.yst

/-- Mean temperature (1/256 °C) of the readings in the `n` seconds before `t`. -/
def meanTemp (s : State) (t n : Nat) : Rat :=
  let l := s.tns.temps.filter (fun p => p.1 ≤ t && t ≤ p.1 + n * 1000000000)
  if l.isEmpty then (s.getS Reg.TNS_TEMP_TEMP : Rat) else meanQ (l.map (fun p => (p.2 : Rat)))

/-! ### The oscillator model (R172, R177) -/

/-- Ageing rate a of the model in use, per second. -/
def modA (s : State) : Rat := unitF (s.getS Reg.TNS_MOD_A_A) 21
/-- u_m of the model in use. -/
def modUm (s : State) : Rat := unitF (s.get Reg.TNS_MOD_UM_U_M) 15
/-- u_a of the model in use, per second. -/
def modUa (s : State) : Rat := unitF (s.get Reg.TNS_MOD_UA_U_A) 21
/-- u_T of the model in use. -/
def modUt (s : State) : Rat := unitF (s.get Reg.TNS_MOD_UT_U_T) 15

/-- The temperature terms for temperature `t` against T_e, both in 1/256 °C. -/
def tempTerms (s : State) (t te : Rat) : Rat :=
  if !s.bit Reg.TNS_CFG_TEMP_EN then 0
  else
    let t0 : Rat := (s.getS Reg.TNS_MOD_T0_T0 : Rat)
    unitF (s.getS Reg.TNS_MOD_K1_K1) 15 * (t - te) / 256
      + unitF (s.getS Reg.TNS_MOD_K2_K2) 18 * ((t - t0) * (t - t0) - (te - t0) * (te - t0)) / 65536

/-- The temperature terms apply now (R177). -/
def tempApplies (s : State) : Bool :=
  let t := s.getS Reg.TNS_TEMP_TEMP
  s.bit Reg.TNS_CFG_TEMP_EN && s.bit Reg.TNS_STAT_TEMP_OK &&
    s.getS Reg.TNS_MOD_TRANGE_T_MIN - 256 ≤ t && t ≤ s.getS Reg.TNS_MOD_TRANGE_T_MAX + 256

/-- y_e of R177 for a last valid measurement at elapsed time `t`. -/
def holdYe (s : State) (t : Nat) : Rat :=
  let n := s.get Reg.TNS_HO_CFG_HO_AVG
  meanYst s t n + modA s * (n : Rat) / 2

/-- The phase in ps by which the time scale had moved `k` seconds ago against the holdover prediction made from the model's state
`n` seconds ago (R116, R139), and the prediction's E_hold; none while the history is shorter. -/
def predictionTo (s : State) (n k : Nat) : Option (Rat × Nat) :=
  if s.freeNs < n * 1000000000 || n < k then none
  else
    let t0 := s.freeNs - n * 1000000000
    let t1 := s.freeNs - k * 1000000000
    let m := n - k
    match cumAt s.tns.hist t1, cumAt s.tns.hist t0 with
    | some (_, c1), some (_, c0) =>
      let te := meanTemp s t0 (s.get Reg.TNS_HO_CFG_HO_AVG)
      let temps := (s.tns.temps.filter (fun p => t0 < p.1 && p.1 ≤ t1)).map (fun p => tempTerms s (p.2 : Rat) te)
      let model := (holdYe s t0 * (m : Rat) + modA s * ((m * m : Nat) : Rat) / 2 + temps.sum) * tera
      let u := unitF (s.get Reg.TNS_UY_U_Y) 15 + modUm s
      let ut := if tempApplies s then modUt s else unitF (s.get Reg.TNS_HO_DEF2_U_T_DEF) 15
      let eh := ceilNatQ (u * (m : Rat) * tera) + ceilNatQ (modUa s * ((m * m : Nat) : Rat) / 2 * tera) + ceilNatQ (ut * (m : Rat) * tera)
      some ((c1 - c0) - model, eh)
    | _, _ => none

/-- The same at this instant. -/
def prediction (s : State) (n : Nat) : Option (Rat × Nat) := predictionTo s n 0

/-! ### Holdover growth (R178) -/

/-- H_g, 2 ms, in ns. -/
def hG : Nat := 2000000

/-- u_T of the free form in force (R178). -/
def uTnow (s : State) : Rat :=
  if tempApplies s then modUt s else unitF (s.get Reg.TNS_HO_DEF2_U_T_DEF) 15

/-- U_Q = 2 × 10⁻¹³. -/
def uQ : Rat := 1 / 5000000000000

/-- Growth of the current segment at `t` ns since the last valid measurement. -/
def segGrowth (s : State) (h : Hold) (t : Nat) : Nat :=
  let tau := secOf (t - h.start)
  if h.assisted then ceilNatQ (h.u * tau * tera)
  else
    ceilNatQ (h.u * tau * tera) + ceilNatQ (modUa s * tau * tau / 2 * tera)
      + ceilNatQ (h.iT + uTnow s * (tau - (h.iTn : Rat)) * tera)

/-- E_hold(t). -/
def eHold (s : State) (h : Hold) (t : Nat) : Nat := h.fin + segGrowth s h t

/-- I_T brought up to the whole seconds of the segment passed at `t`. -/
def accrue (s : State) (h : Hold) (t : Nat) : Hold :=
  let n := (t - h.start) / 1000000000
  if h.assisted || n ≤ h.iTn then h
  else { h with iT := h.iT + uTnow s * ((n - h.iTn : Nat) : Rat) * tera, iTn := n }

end Sys2Proof.Machine
end

