-- ==== Sys2Proof/Machine/Select.lean ====
section
/-!
DEFINITION. Reference qualification and selection (spec/04_reference_selection.md): classes and bounds of references, the
monitors, the states and their hold-offs, and the choice of SRC and FSRC.
-/

namespace Sys2Proof.Machine

/-- Reference i beside its registers. -/
def State.ref (s : State) (i : Nat) : RefSt := s.sel.refs.get (fun _ => RefSt.zero) i

/-- Replace reference i. -/
def State.setRef (s : State) (i : Nat) (r : RefSt) : State :=
  { s with sel := { s.sel with refs := s.sel.refs.set (fun _ => RefSt.zero) i r } }

/-- STATE of reference i (R131): 0 DISABLED, 1 FAILED, 2 QUALIFYING, 3 QUALIFIED, 4 ACTIVE. -/
def refState (s : State) (i : Nat) : Nat := s.get (Reg.ENT_STAT_STATE i)

/-- QUALIFIED or ACTIVE. -/
def isQual (s : State) (i : Nat) : Bool := 3 ≤ refState s i

/-- Both Tense cores are out of reset: selection evaluates (R162). -/
def selRuns (s : State) : Bool := !(bitOf s.sys.engReset 16 || bitOf s.sys.engReset 17)

/-- Selection and the Tense unit run in this mode (R161, R200). -/
def tenseMode (s : State) : Bool := s.mode != .boot && s.mode != .test

/-! ### Class and bound (R129, R130, R154) -/

/-- A received clockAccuracy that bears time (R48): a code of 0x17–0x31. -/
def accBearsTime (a : Nat) : Bool := 0x17 ≤ a && a ≤ 0x31

/-- The upper limit of the interval a clockAccuracy names, in ps (IEEE 1588-2019 codes 0x17–0x30; 0x31 is above 10 s). -/
def accLimit (a : Nat) : Nat :=
  match a with
  | 0x17 => 1 | 0x18 => 3 | 0x19 => 10 | 0x1A => 25 | 0x1B => 100 | 0x1C => 250 | 0x1D => 1000
  | 0x1E => 2500 | 0x1F => 10000 | 0x20 => 25000 | 0x21 => 100000 | 0x22 => 250000 | 0x23 => 1000000
  | 0x24 => 2500000 | 0x25 => 10000000 | 0x26 => 25000000 | 0x27 => 100000000 | 0x28 => 250000000
  | 0x29 => 1000000000 | 0x2A => 2500000000 | 0x2B => 10000000000 | 0x2C => 25000000000
  | 0x2D => 100000000000 | 0x2E => 250000000000 | 0x2F => 1000000000000 | 0x30 => 10000000000000
  | _ => 2 ^ 64 - 1

/-- The port client of p. -/
def State.client (s : State) (p : Nat) : Client := s.sel.clients.get (fun _ => Client.zero) p

/-- Replace the port client of p. -/
def State.setClient (s : State) (p : Nat) (c : Client) : State :=
  { s with sel := { s.sel with clients := s.sel.clients.set (fun _ => Client.zero) p c } }

/-- The PTP client of port p runs (R341, R359). -/
def clientRuns (s : State) (p : Nat) : Bool :=
  s.bit (Reg.ENT_CFG_EN (20 + p)) && s.get (Reg.ENT_NET_NETMODE (20 + p)) != 1 && s.bit (Reg.PCL_CFG_EN p) &&
    (s.mode = .setup || s.mode = .service || s.mode = .recovery)

/-- PCL_STAT and PCL_SEL of port p show the chosen master's clockIdentity; a change publishes them (R84). -/
def showClient (s : State) (p : Nat) : State :=
  let (v, id) := match (s.client p).master with | some m => (true, m / 65536) | none => (false, 0)
  if s.bit (Reg.PCL_STAT_MASTER_V p) = v && s.getPair (Reg.PCL_SEL_LO_SEL_ID p) (Reg.PCL_SEL_HI_SEL_ID p) = id then s
  else
    let s := (s.putB (Reg.PCL_STAT_MASTER_V p) v).putPair (Reg.PCL_SEL_LO_SEL_ID p) (Reg.PCL_SEL_HI_SEL_ID p) id
    s.publish (Reg.PCL_STAT_VALID p) (Reg.PCL_STAT_SEQ p)

/-- What the client of port p holds while it does not run, and after the Announce receipt timeout of its profile: a client that does not
run holds nothing; a master not heard for the timeout is dropped, and with the chosen one the PTP component is lost (R136, R341). -/
def ageClient (s : State) (p : Nat) : State :=
  let c := s.client p
  if c = Client.zero then s
  else if !clientRuns s p then showClient ((s.setClient p Client.zero).putB (Reg.ENT_NETSTAT_PTP_OK (20 + p)) false) p
  else
    let b := s.get (Reg.PCL_CFG_PROFILE p)
    let dead (t : Nat) : Bool :=
      t + Config.announceTimeout (s.get (Reg.PB_CFG_TYPE b)) (s.getS (Reg.PCL_CFG_LOG_ANNREQ p)) ≤ s.freeNs
    let lost := match c.master with
      | some m => c.masters.any (fun a => a.1.ident = m && dead a.2)
      | none => false
    let c := { c with masters := c.masters.filter (fun a => !dead a.2), master := if lost then none else c.master }
    let s := showClient (s.setClient p c) p
    if lost then s.putB (Reg.ENT_NETSTAT_PTP_OK (20 + p)) false else s

/-- The PTP component of entry i bears time (R154): its received clockAccuracy is neither 0xFE nor reserved. -/
def ptpTime (s : State) (i : Nat) : Bool := accBearsTime (s.get (Reg.ENT_NETSTAT_ACC_RX i))

/-- The class of reference i now: 0 none, 1 FREQ, 2 PHASE, 3 TIME. -/
def classOf (s : State) (i : Nat) : Nat :=
  if i < 16 then
    (if isPpsIn s i then 0 else
      let t := (s.refin.ch.get (fun _ => Ch.zero) i).set.type
      if t = 1 then 1 else if t = 2 then 2 else 0)
  else if i ≤ 18 then 3
  else if 20 ≤ i && i ≤ 27 then
    (if s.get (Reg.ENT_NET_NETMODE i) = 0 then (if ptpTime s i then 3 else 1)
     else if s.get (Reg.ENT_NET_NETMODE i) = 1 then 1
     else if s.bit (Reg.ENT_NETSTAT_PTP_OK i) && ptpTime s i then 3 else 1)
  else if i = 28 then (if s.bit Reg.GEN_STRAP_PAIR_EN then 3 else 0)
  else if i = 29 then (if s.bit Reg.TOD_CFG_EN then (if s.bit Reg.TOD_STAT_TOD_OK then 3 else 2) else 0)
  else if i = 30 then 3
  else 0
where
  /-- Channel i is the pulse channel of the 1PPS+ToD input (R79). -/
  isPpsIn (s : State) (i : Nat) : Bool := s.bit Reg.TOD_CFG_EN && s.get Reg.TOD_CFG_PPS_CH = i

/-- TRACE of reference i (R48, R51, R105, R155). -/
def traceOf (s : State) (i : Nat) : Nat :=
  if i < 16 then s.get (Reg.ENT_CFG_TRACE i)
  else if i ≤ 18 then (if s.bit Reg.GNSS_CFG_TMODE then 2 else 1)
  else if 20 ≤ i && i ≤ 27 then (if s.bit (Reg.ENT_NETSTAT_GLS_TLV i) then 3 else 4)
  else if i = 28 then 5 else if i = 29 then 6 else if i = 30 then 7 else 0

/-- E_meas of reference i in ps (R40, R300). -/
def eMeas (s : State) (i : Nat) : Nat :=
  if i < 16 || i = 29 then 25
  else if i ≤ 18 then 40
  else if 20 ≤ i && i ≤ 27 then s.get (Reg.TSU_UNC_UNC (i - 20))
  else if i = 28 then 50 else 0

/-- E_ref = E_src + E_path + E_meas in ps (R40, R130), saturating (R39); none when the source's bound is "not bounded". -/
def eRefB (s : State) (i : Nat) : Option Nat :=
  let src := if i < 16 || i = 29 then some (s.get (Reg.ENT_UREF_U_REF i)) else (s.ref i).src
  let up := s.get (Reg.ENT_UPATH_U_PATH i)
  let path := if 20 ≤ i && i ≤ 27 && up = 0 then (s.ref i).path else up
  addPs src (path + eMeas s i)

/-- E_ref as a number: the largest a contribution can hold for a source that is not bounded. -/
def eRef (s : State) (i : Nat) : Nat := (eRefB s i).getD (2 ^ 64 - 1)

/-- PER of reference i in ps; none for a TIME reference. -/
def perOf (s : State) (i : Nat) : Option Rat :=
  if classOf s i = 2 then
    some (if i < 16 then ((s.refin.ch.get (fun _ => Ch.zero) i).set.per : Rat) * 1000000000 else tera)
  else none

/-- The smaller PER of two references; none when both are TIME. -/
def perPair (s : State) (i j : Nat) : Option Rat :=
  match perOf s i, perOf s j with
  | some p, some q => some (if p < q then p else q)
  | some p, none => some p
  | none, q => q

/-- x brought into (−p/2, +p/2]. -/
def wrapQ (x : Rat) (p : Option Rat) : Rat :=
  match p with
  | none => x
  | some p => x - p * (ceilQ (x / p - 1 / 2) : Rat)

/-- The latest valid φ of reference i in ps, if it has one. -/
def phiOf (s : State) (i : Nat) : Option Rat := ((s.ref i).hist.head?).map (fun h => h.2)

/-! ### Consuming measurements -/

/-- Keep the history back to the first entry at or before t₁ − SW. -/
def trimHist (h : List (Nat × Rat)) (sw : Nat) : List (Nat × Rat) :=
  match h with
  | [] => []
  | p :: _ =>
    let keep := h.takeWhile (fun q => p.1 < q.1 + sw * 1000000000)
    keep ++ (h.drop keep.length).take 1

/-- y of a TIME or PHASE reference from its history (R137): the latest measurement against the latest at or before
t₁ − SW. -/
def histFreq (s : State) (i : Nat) (h : List (Nat × Rat)) : Option Rat :=
  match h, h.getLast? with
  | p :: _, some q =>
    if q.1 + s.get (Reg.ENT_WIN_SW i) * 1000000000 ≤ p.1 then
      some (wrapQ (p.2 - q.2) (perOf s i) / (((p.1 - q.1 : Nat) : Rat) * 1000))
    else none
  | _, _ => none

/-- The fractional frequency of one window of a FREQ input (R74). -/
def winFreq (s : State) (i nspan span : Nat) : Rat :=
  let f := s.get (Reg.ENT_FNOM_F_NOM i)
  if f = 0 || span = 0 then 0 else (nspan : Rat) * 512 * 1000000000 / ((f : Rat) * (span : Rat)) - 1

/-- Reference i, a network reference, takes y from the SyncE component: it is FREQ under NETMODE 1 or 2 (R137, R154). -/
def freqFromSynce (s : State) (i : Nat) : Bool :=
  20 ≤ i && i ≤ 27 && s.get (Reg.ENT_NET_NETMODE i) != 0 && classOf s i = 1

/-- Reference i's fresh measurement is taken in at a publication instant: history, y, φ, the PTP component, and, but for the network
references, whose accepted Syncs restart it, the LOS interval (R136, R137). -/
def consume (s : State) (i : Nat) : State :=
  let m := s.sel.meas.get (fun _ => Meas.zero) i
  if !m.fresh then s
  else
    let r := s.ref i
    let s := { s with sel := { s.sel with meas := s.sel.meas.set (fun _ => Meas.zero) i { m with fresh := false } } }
    let r := { r with src := m.src.getD r.src, path := m.path }
    match m.phi with
    | some phi =>
      let h := trimHist ((m.freeAt, psOf phi) :: r.hist) (s.get (Reg.ENT_WIN_SW i))
      let net : Bool := 20 ≤ i && i ≤ 27
      let y := if freqFromSynce s i then r.y else (histFreq s i h).orElse (fun _ => r.y)
      let s := s.setRef i { r with
        hist := h, y := y, got := true, arrived := if net then r.arrived else some s.freeNs, measAt := some s.freeNs,
        lost := false, untrusted := false }
      let s := if net then s.putB (Reg.ENT_NETSTAT_PTP_OK i) true else s
      let s := s.putPairSat (Reg.ENT_PHL_PH i) (Reg.ENT_PHH_PH i) phi
      s.putSat (Reg.ENT_FREQ_Y i) (roundQ (y.getD 0 * tera))
    | none =>
      if m.nspan = 0 then s.setRef i r
      else
        let w := (s.freeNs, m.nspan, m.span) :: r.wins.filter (fun w => s.freeNs < w.1 + 1000000000)
        let y := meanQ (w.map (fun w => winFreq s i w.2.1 w.2.2))
        let s := s.setRef i { r with
          wins := w, y := some y, got := true, arrived := some s.freeNs, measAt := some s.freeNs, lost := false }
        s.putSat (Reg.ENT_FREQ_Y i) (roundQ (y * tera))

/-! ### Loss of signal (R136) -/

/-- LOSINT of reference i in ns. -/
def losInt (s : State) (i : Nat) : Nat := s.get (Reg.ENT_LOSINT_LOSINT i) * 1000000

/-- No valid measurement of a GNSS, network or host reference has arrived for LOSINT. -/
def losDue (s : State) (i : Nat) : Bool :=
  match (s.ref i).arrived with
  | none => true
  | some t => t + losInt s i ≤ s.freeNs

/-- The band of a GNSS reference is STUCK (R94). -/
def bandStuck (s : State) (i : Nat) : Bool :=
  (i != 18 && s.bit (Reg.GNSS_BAND_STUCK 0)) || (i != 17 && s.bit (Reg.GNSS_BAND_STUCK 1))

/-- The condition of R136 for LOS of reference i holds now. -/
def losCond (s : State) (i : Nat) : Bool :=
  if i < 16 then s.mapBit Reg.REFIN_LOS_LOS i
  else if i ≤ 18 then (s.ref i).lost || bandStuck s i || losDue s i
  else if 20 ≤ i && i ≤ 27 then
    (let m := s.get (Reg.ENT_NET_NETMODE i)
     let ptp := s.bit (Reg.ENT_NETSTAT_PTP_OK i)
     let syn := s.bit (Reg.ENT_NETSTAT_SYNCE_OK i)
     if m = 0 then !ptp else if m = 1 then !syn else !ptp && !syn)
  else if i = 28 then
    !s.bit Reg.CNJ_STAT_PEER_PRESENT || !s.bit Reg.CNJ_STAT_LINK_UP || s.get Reg.CNJ_STAT_PEER_MODE = 3 || s.get Reg.CNJ_STAT_PEER_MODE = 4
  else if i = 29 then s.mapBit Reg.REFIN_LOS_LOS (s.get Reg.TOD_CFG_PPS_CH)
  else if i = 30 then losDue s 30
  else true

/-- LOS of reference i (R136). It clears at the first valid measurement after its condition ends; of the channels and of 29 the
condition itself ends at a window's result (R76), and of a network reference's components at a measurement of the component. -/
def losNow (s : State) (i : Nat) : Bool :=
  losCond s i || (16 ≤ i && !(20 ≤ i && i ≤ 27) && i != 29 && s.bit (Reg.ENT_STAT_LOS i) && (s.ref i).measAt != some s.freeNs)

/-- The lane port p recovers its clock from is in lock: its first one. -/
def rxLocked (s : State) (p : Nat) : Bool :=
  match lanesOf s p with
  | l :: _ => s.bit (Reg.LN_STAT_CDR_LOCK l)
  | [] => false

/-- The components of a network reference lost (R136): PTP when no Sync has been accepted for LOSINT or the port is down, SyncE
when the port is down or its receive lane out of lock. -/
def netComponents (s : State) (i : Nat) : State :=
  let s := ageClient s (i - 20)
  let up := portUp s (i - 20)
  let s := if up && rxLocked s (i - 20) then s
    else (s.putB (Reg.ENT_NETSTAT_SYNCE_OK i) false).setRef i { s.ref i with sy := none }
  if !up || losDue s i then s.putB (Reg.ENT_NETSTAT_PTP_OK i) false else s

/-! ### Ensemble (R138–R140) -/

/-- The other QUALIFIED or ACTIVE references of class TIME or PHASE with a valid phase measurement. -/
def phaseMembers (s : State) (i : Nat) : List Nat :=
  (List.range 32).filter (fun j => j != i && isQual s j && 2 ≤ classOf s j && (phiOf s j).isSome)

/-- The other QUALIFIED or ACTIVE references of any class with a frequency result. -/
def freqMembers (s : State) (i : Nat) : List Nat :=
  (List.range 32).filter (fun j => j != i && isQual s j && (s.ref j).y.isSome)

/-- d_j of a member against φ_i in ps. -/
def dOf (s : State) (i : Nat) (phi : Rat) (j : Nat) : Rat := wrapQ ((phiOf s j).getD 0 - phi) (perPair s i j)

/-- d_med and E_ref,ens of reference i: the largest E_ref among the references that form the median. -/
def ensemble (s : State) (i : Nat) (phi : Rat) (ms : List Nat) : Rat × Nat :=
  let ds := sortQ (ms.map (dOf s i phi))
  let n := ds.length
  let lo := if n % 2 = 1 then ds.getD (n / 2) 0 else ds.getD (n / 2 - 1) 0
  let hi := ds.getD (n / 2) 0
  let form := ms.filter (fun j => dOf s i phi j = lo || dOf s i phi j = hi)
  ((lo + hi) / 2, (form.map (eRef s)).foldl max 0)

/-- e_i before re-basing, in ps: −d_med, or φ_i against the holdover prediction when no other reference forms an
ensemble (R139). -/
def rawE (s : State) (i : Nat) (phi : Rat) : Option Rat :=
  let ms := phaseMembers s i
  if ms.isEmpty then (prediction s (s.get (Reg.ENT_WIN_SW i))).map (fun p => phi - p.1)
  else some (-(ensemble s i phi ms).1)

/-! ### Monitors (R137–R144) -/

/-- Monitor k of reference i: 0 FREQ, 1 PHASE, 2 SDRIFT, 3 LDRIFT, 4 QL, 5 CLASS. -/
def monOf (s : State) (i k : Nat) : MonSt := (s.ref i).mons.get (fun _ => MonSt.zero) k

/-- CAUSE code of monitor k. -/
def causeOf (k : Nat) : Nat := k + 2

/-- DQ_HOLD in ns. -/
def dqHold (s : State) (i : Nat) : Nat := s.get (Reg.ENT_CFG_DQ_HOLD i) * 100000000

/-- Record an evaluation of monitor k: from when it first lies beyond its limit DQ_HOLD runs, and its pass bit with hysteresis. -/
def setMon (s : State) (i k : Nat) (bad badClr : Bool) (sampled : Bool) : State :=
  let m := monOf s i k
  let m := { m with
    wasBad := if sampled then m.bad else bad, wasClr := if sampled then m.badClr else badClr,
    taken := if sampled then s.freeNs else m.taken, bad := bad, badClr := badClr,
    due := if bad then (if m.due.isSome then m.due else some (s.freeNs + dqHold s i)) else none }
  let r := s.ref i
  let s := s.setRef i { r with mons := r.mons.set (fun _ => MonSt.zero) k m }
  let bit := if k < 4 then k else k + 1
  let pass := if bad then false else if !badClr then true else s.mapBit (Reg.ENT_STAT_MON i) bit
  s.putMapBit (Reg.ENT_STAT_MON i) bit pass

/-- A monitor's verdicts at this instant: one that rests on a sample of this very second boundary takes effect at the next
publication (R135). -/
def monBad (s : State) (m : MonSt) : Bool × Bool :=
  if m.taken = s.freeNs && s.atSec then (m.wasBad, m.wasClr) else (m.bad, m.badClr)

/-- x with the clear threshold HYS/16. -/
def overLim (s : State) (i : Nat) (x lim : Rat) : Bool × Bool :=
  (decide (lim < x), decide (lim * (s.get (Reg.ENT_WIN_HYS i) : Rat) / 16 < x))

/-- Evaluate the monitors that do not rest on second-boundary samples (R137, R141, R144). The spec gives the two quality gates for
every network reference; each acts on the component it is about, so the QL gate not in NETMODE 0 and the class gate not in NETMODE 1
(DESIGN CHOICE, log 67). -/
def evalMonitors (s : State) (i : Nat) : State :=
  let r := s.ref i
  let s := match r.y with
    | some y => let (b, c) := overLim s i (absQ y) (unitF (s.get (Reg.ENT_FLIM_FLIM i)) 12); setMon s i 0 b c false
    | none => setMon s i 0 false false false
  let s :=
    match phiOf s i with
    | some phi =>
      let ms := phaseMembers s i
      if 2 ≤ classOf s i && !ms.isEmpty then
        let (d, e) := ensemble s i phi ms
        let lim : Rat := ((eRef s i + e + s.get (Reg.ENT_PMARG_PMARG i) * 1000 : Nat) : Rat)
        let (b, c) := overLim s i (absQ d) lim
        setMon s i 1 b c false
      else setMon s i 1 false false false
    | none => setMon s i 1 false false false
  if 20 ≤ i && i ≤ 27 then
    let q := s.get (Reg.ENT_NET_NETMODE i) != 0 && s.get (Reg.ENT_NET_QL_MIN i) < s.get (Reg.ENT_NETSTAT_QL i)
    let c := s.get (Reg.ENT_NET_NETMODE i) != 1 && s.get (Reg.ENT_NET_CLASS_MAX i) < s.get (Reg.ENT_NETSTAT_CLASS_RX i)
    setMon (setMon s i 4 q q false) i 5 c c false
  else setMon (setMon s i 4 false false false) i 5 false false false

/-! ### Drift samples (R138–R143) -/

/-- The sample `n` seconds back. -/
def sampleAt (r : RefSt) (n : Nat) : Option (Rat × Rat) := (r.samples.getD n none)

/-- Mean of the samples present; none when none is. -/
def meanSome (l : List (Option Rat)) : Option Rat :=
  let m := l.filterMap id
  if m.isEmpty then none else some (meanQ m)

/-- r_S in ps/s, or none when it is not formed (R142). With no ensemble the difference is taken against the prediction made
SW seconds ago (R139). -/
def shortDrift (s : State) (i : Nat) (alone : Bool) : Option Rat :=
  let r := s.ref i
  let sw := s.get (Reg.ENT_WIN_SW i)
  match sampleAt r 0, sampleAt r sw with
  | some a, some b =>
    if alone then (prediction s sw).map (fun p => (a.1 - b.1 - p.1) / (sw : Rat))
    else some ((a.2 - b.2) / (sw : Rat))
  | _, _ => none

/-- The half length n of the long window (R143). -/
def longHalf (s : State) (i : Nat) : Nat :=
  let lw := s.get (Reg.ENT_WIN_LW i)
  let av := (s.ref i).samples.length
  if lw ≤ av then lw / 2 else av / 2

/-- r_L in ps/s, or none when a half holds no sample. With no ensemble each sample is taken against the prediction for its instant
from the model's state at the start of the window, LW seconds ago once it is full (R139). -/
def longDrift (s : State) (i : Nat) (alone : Bool) : Option Rat :=
  let n := longHalf s i
  let smp := (s.ref i).samples.take (2 * n)
  let val (k : Nat) (o : Option (Rat × Rat)) : Option Rat :=
    o.bind (fun p => if alone then (predictionTo s (2 * n) k).map (fun q => p.1 - q.1) else some p.2)
  let vals := smp.mapIdx val
  match meanSome (vals.take n), meanSome (vals.drop n) with
  | some a, some b => if n = 0 then none else some ((a - b) / (n : Rat))
  | _, _ => none

/-- The e sample of this second boundary, re-based so that a change of membership leaves no step (R140). -/
def nextE (s : State) (i : Nat) : Option (Rat × Rat) × RefSt :=
  let r := s.ref i
  if !r.got then (none, r)
  else if classOf s i = 1 then
    let ms := freqMembers s i
    let ens := if ms.isEmpty then
        (match prediction s (s.get (Reg.ENT_WIN_SW i)) with
         | some p => -p.1 / ((s.get (Reg.ENT_WIN_SW i) : Rat) * tera)
         | none => 0)
      else medianQ (ms.map (fun j => (s.ref j).y.getD 0))
    let e := r.e + (r.y.getD 0 - ens) * tera
    (some (e, e), { r with e := e })
  else
    match phiOf s i with
    | none => (none, r)
    | some phi =>
      match rawE s i phi with
      | none => (some (phi, r.e), r)
      | some raw =>
        let ms := phaseMembers s i
        let ofs := if r.members.isNone || r.members = some ms then r.ofs else r.e - raw
        let e := raw + ofs
        (some (phi, e), { r with e := e, ofs := ofs, members := some ms })

/-- Take the drift sample of reference i and form its drift monitors (R142, R143). -/
def driftSample (s : State) (i : Nat) : State :=
  let (smp, r) := nextE s i
  let lw := s.get (Reg.ENT_WIN_LW i)
  let s := s.setRef i { r with samples := (smp :: r.samples).take (lw + 1), got := false }
  let s := if smp.isSome then s.putSat (Reg.ENT_EDIFF_E_DIFF i) (roundQ (s.ref i).e) else s
  let alone := if classOf s i = 1 then false else (phaseMembers s i).isEmpty
  let s := match shortDrift s i alone with
    | some q =>
      let (b, c) := overLim s i (absQ q) ((s.get (Reg.ENT_SDLIM_SDLIM i) : Rat) / 1000)
      (setMon s i 2 b c true).putSat (Reg.ENT_SDRIFT_R_S i) (roundQ (q * 1000))
    | none => s
  let ready := s.get (Reg.ENT_WIN_SW i) ≤ longHalf s i
  let s := s.putMapBit (Reg.ENT_STAT_MON i) 4 ready
  if !ready then setMon s i 3 false false true
  else
    match longDrift s i alone with
    | some q =>
      let (b, c) := overLim s i (absQ q) ((s.get (Reg.ENT_LDLIM_LDLIM i) : Rat) / 1000)
      (setMon s i 3 b c true).putSat (Reg.ENT_LDRIFT_R_L i) (roundQ (q * 1000))
    | none => s

/-- The references whose entry is enabled and present. -/
def present (s : State) (i : Nat) : Bool := s.bit (Reg.ENT_CFG_EN i) && classOf s i != 0

/-- The row DRIFT_SAMPLE: at a second boundary every monitored reference takes its sample. -/
def execDriftSample (s : State) : Out := .next <|
  if tenseMode s && s.atSec && selRuns s then
    ((List.range 32).filter (fun i => refState s i != 0)).foldl driftSample s
  else s

/-! ### States and hold-offs (R131–R134) -/

/-- Change the state of reference i and journal it (R132, R160). -/
def setRefState (s : State) (i st cause : Nat) : State :=
  let old := refState s i
  let s := if cause = 0 && st != 1 then s else s.put (Reg.ENT_STAT_CAUSE i) cause
  let s := (s.put (Reg.ENT_STAT_STATE i) st).publish (Reg.ENT_STAT_VALID i) (Reg.ENT_STAT_SEQ i)
  s.journal 0 0x0007 0x0701
    (leBytes 1 i ++ leBytes 1 st ++ leBytes 1 old ++ leBytes 1 (s.get (Reg.ENT_STAT_CAUSE i))
      ++ leBytes 4 (satS 32 (roundQ (s.ref i).e)))

/-- The qualification hold-off in ns (R134). -/
def qualHold (s : State) (i : Nat) : Nat :=
  let q := s.get (Reg.ENT_CFG_QUAL_HOLD i)
  (if q != 0 then q else if classOf s i = 1 then 10 else 60) * 1000000000

/-- A monitor beyond its limit for DQ_HOLD, the first by number. A hold that a second-boundary sample runs to acts at the next
publication (R135). -/
def dqDue (s : State) (i : Nat) : Option Nat :=
  (List.range 6).find? (fun k =>
    let m := monOf s i k
    let drift : Bool := (k = 2 || k = 3) && s.atSec
    (monBad s m).1 && (match m.due with | some t => if drift then decide (t < s.freeNs) else decide (t ≤ s.freeNs) | none => false))

/-- Some monitor lies beyond its clear threshold. -/
def anyClr (s : State) (i : Nat) : Option Nat :=
  (List.range 6).find? (fun k => (monBad s (monOf s i k)).2)

/-- Disqualify reference i (R132): FAILED with a CAUSE. -/
def disqualify (s : State) (i cause : Nat) : State :=
  let s := s.setRef i { s.ref i with holdEnd := none, qsince := none }
  (setRefState s i 1 cause).put (Reg.ENT_TIMER_TIMER i) 0

/-- The hold-off of a QUALIFYING reference has run out. -/
def holdDue (s : State) (i : Nat) : Bool :=
  match (s.ref i).holdEnd with
  | some t => t ≤ s.freeNs
  | none => false

/-- A QUALIFYING reference becomes QUALIFIED: QSINCE is recorded. -/
def becomeQualified (s : State) (i : Nat) : State :=
  let s := s.setRef i { s.ref i with holdEnd := none, qsince := some s.freeNs }
  (setRefState s i 3 0).put (Reg.ENT_TIMER_TIMER i) 0

/-- Enter QUALIFYING with the hold-off loaded; it keeps its length (R158). -/
def startQualifying (s : State) (i : Nat) : State :=
  let s := s.setRef i { s.ref i with holdEnd := some (s.freeNs + qualHold s i) }
  setRefState s i 2 0

/-- The remaining hold-off in 100 ms units. -/
def showTimer (s : State) (i : Nat) : State :=
  let left := match (s.ref i).holdEnd with
    | some t => t - s.freeNs
    | none => 0
  s.putSatU (Reg.ENT_TIMER_TIMER i) (ceilDiv left 100000000)

/-- The peer's own Gloss has TRACE 5: reference 28 stays disqualified (R49). -/
def peerChained (s : State) (i : Nat) : Bool :=
  i = 28 && (match s.cnj.peer with | some p => glossTrace p.gloss = 5 | none => false)

/-- The pass bits of a reference whose monitors have given no result: all pass, and LDRIFT_READY reads 0 (R137, R142, R143). -/
def monPass : Nat := 0x6F

/-- One row of the table of R132 for reference i, at a publication instant. A change of class while QUALIFYING has no CAUSE code of
its own: 0 is recorded (DESIGN CHOICE, log 68). -/
def evalState (s : State) (i : Nat) : State :=
  let st := refState s i
  let cls := classOf s i
  let was := s.get (Reg.ENT_STAT_CLASS i)
  let los := losNow s i
  let s := (s.putB (Reg.ENT_STAT_LOS i) los).putMapBit Reg.SEL_LOS_LOS i (los || !s.bit (Reg.ENT_CFG_EN i))
  let s := ((s.put (Reg.ENT_STAT_CLASS i) cls).put (Reg.ENT_STAT_TRACE i) (traceOf s i)).putB (Reg.ENT_STAT_LOCKOUT i)
    (s.mapBit Reg.SEL_LOCK_LOCKOUT i)
  let s := if 16 ≤ i then s.put (Reg.ENT_CFG_TRACE i) (traceOf s i) else s
  let s := s.putSatU (Reg.ENT_BND_E_REF i) (eRef s i)
  let cause := if (s.ref i).untrusted then 11 else 1
  if !present s i then
    (if st = 0 then s else ((setRefState s i 0 13).setRef i RefSt.zero).put (Reg.ENT_TIMER_TIMER i) 0)
  else if st = 0 then
    let r := s.ref i
    let fresh : RefSt := { RefSt.zero with
      arrived := r.arrived, measAt := r.measAt, src := r.src, path := r.path, lost := r.lost, untrusted := r.untrusted }
    setRefState ((s.setRef i fresh).put (Reg.ENT_STAT_MON i) monPass) i 1 0
  else if st = 1 then
    (if !los && (anyClr s i).isNone && !peerChained s i then showTimer (startQualifying s i) i else s)
  else if st = 2 then
    (if los then disqualify s i cause
     else if peerChained s i then disqualify s i 12
     else if cls != was then disqualify s i 0
     else match anyClr s i with
       | some k => disqualify s i (causeOf k)
       | none => if holdDue s i then becomeQualified s i else showTimer s i)
  else
    (match s.sel.dq.find? (fun d => d.1 = i) with
     | some d => disqualify s i d.2
     | none =>
       if los then disqualify s i cause
       else if peerChained s i then disqualify s i 12
       else match dqDue s i with
         | some k => disqualify s i (causeOf k)
         | none => if cls != was then showTimer (startQualifying s i) i else s)

/-! ### Selection (R145–R149) -/

/-- Reference i is a candidate for a target (0 time, 1 frequency). -/
def isCand (s : State) (tgt i : Nat) : Bool :=
  isQual s i && !s.mapBit Reg.SEL_LOCK_LOCKOUT i && s.get (Reg.ENT_CFG_RANK i) != 0 &&
    (if tgt = 1 then classOf s i = 1
     else classOf s i = 3 || (classOf s i = 2 && s.get Reg.TNS_STAT_STATE != 0))

/-- The candidates for a target. -/
def cands (s : State) (tgt : Nat) : List Nat := (List.range 32).filter (isCand s tgt)

/-- The reference a target names. -/
def current (s : State) (tgt : Nat) : Option Nat :=
  if tgt = 0 then (if s.bit Reg.SEL_STAT_SRC_V then some (s.get Reg.SEL_STAT_SRC) else none)
  else if s.bit Reg.SEL_STAT_FSRC_V then some (s.get Reg.SEL_STAT_FSRC) else none

/-- Agreement of two references (R146); none when either has no measurement to compare. -/
def agree (s : State) (tgt i j : Nat) : Option Bool :=
  if tgt = 0 then
    match phiOf s i, phiOf s j with
    | some a, some b =>
      some (decide (absQ (wrapQ (a - b) (perPair s i j)) ≤
        ((eRef s i + eRef s j + s.get Reg.SEL_CFG_DIS_MARG * 1000 : Nat) : Rat)))
    | _, _ => none
  else
    match (s.ref i).y, (s.ref j).y with
    | some a, some b => some (decide (absQ (a - b) ≤ unitF (s.get Reg.SEL_FAGREE_FAGREE) 12))
    | _, _ => none

/-- Votes for `a` against `b` by the other candidates. -/
def votesFor (s : State) (tgt : Nat) (cs : List Nat) (a b : Nat) : Nat :=
  (cs.filter (fun c => c != a && c != b && agree s tgt c a = some true && agree s tgt c b = some false)).length

/-- The pairs of a list, smaller member first. -/
def pairsOf : List Nat → List (Nat × Nat)
  | [] => []
  | a :: l => l.map (fun b => (a, b)) ++ pairsOf l

/-- The best RANK among references (15 for none). -/
def bestRank (s : State) (l : List Nat) : Nat := (l.map (fun i => s.get (Reg.ENT_CFG_RANK i))).foldl min 15

/-- The member with the smallest E_ref, and on equal E_ref the lowest ID. -/
def leastRef (s : State) (l : List Nat) : Option Nat :=
  l.foldl (fun b i => match b with | none => some i | some j => if eRef s i < eRef s j then some i else some j) none

/-- Reference i may not be selected while no current reference is kept: another of its rank disagrees with it and has as many votes or
more (steps 3 and 4 of R147). -/
def barred (s : State) (tgt : Nat) (cs : List Nat) (i : Nat) : Bool :=
  cs.any (fun j => j != i && s.get (Reg.ENT_CFG_RANK j) = s.get (Reg.ENT_CFG_RANK i) && agree s tgt i j = some false &&
    votesFor s tgt cs i j ≤ votesFor s tgt cs j i)

/-- The outcome of selection for one target: the choice, the outvoted references, and the undecided pairs. -/
structure Choice where
  pick : Option Nat
  outvoted : List Nat
  undecided : List (Nat × Nat)

/-- Candidates of strictly better rank than `c` whose wait-to-restore has run (R149). -/
def restored (s : State) (cs : List Nat) (c : Nat) : List Nat :=
  if !s.bit Reg.SEL_CFG_REVERT then []
  else cs.filter (fun i => s.get (Reg.ENT_CFG_RANK i) < s.get (Reg.ENT_CFG_RANK c) &&
    (match (s.ref i).qsince with | some t => t + s.get Reg.SEL_CFG_WTR * 1000000000 ≤ s.freeNs | none => false))

/-- Steps 2 to 5 of R147 over the candidates `cs`. -/
def selectFrom (s : State) (tgt : Nat) (cur : Option Nat) : Nat → List Nat → List Nat → Choice
  | 0, _, out => ⟨cur, out, []⟩
  | n + 1, cs, out =>
    let cur := cur.filter (fun c => cs.contains c)
    let wtr := match cur with | some c => restored s cs c | none => []
    let rank := match cur with
      | some c => if wtr.isEmpty then s.get (Reg.ENT_CFG_RANK c) else bestRank s wtr
      | none => bestRank s cs
    let g := (if wtr.isEmpty then cs else wtr).filter (fun i => s.get (Reg.ENT_CFG_RANK i) = rank)
    let bad := (pairsOf g).filter (fun p => agree s tgt p.1 p.2 = some false)
    match bad.find? (fun p => votesFor s tgt cs p.1 p.2 != votesFor s tgt cs p.2 p.1) with
    | some p =>
      let loser := if votesFor s tgt cs p.1 p.2 < votesFor s tgt cs p.2 p.1 then p.1 else p.2
      selectFrom s tgt cur n (cs.filter (fun i => i != loser)) (out ++ [loser])
    | none =>
      let inG := match cur with | some c => g.contains c | none => false
      if inG then ⟨cur, out, bad⟩
      else
        let free := g.filter (fun i => !(bad.any (fun p => p.1 = i || p.2 = i)))
        ⟨(leastRef s free).orElse (fun _ => cur), out, bad⟩

/-- Δ of a reference in ps: its offset from the time scale (R151). -/
def deltaOf (s : State) (i : Nat) : Rat := (phiOf s i).getD 0

/-- θ_jump in ps. -/
def thetaJump (s : State) : Rat := ((s.get Reg.TNS_JUMP_THETA_JUMP * 1000 : Nat) : Rat)

/-- |Δ| lies within θ_jump. -/
def withinJump (s : State) (i : Nat) : Bool := decide (absQ (deltaOf s i) ≤ thetaJump s)

/-- Name a reference, or none, for a target: ACTIVE and QUALIFIED states, SEL_STAT, flags, and SEL_SWITCH (R132, R153). -/
def nameRef (s : State) (tgt : Nat) (new : Option Nat) (reason : Nat) : State :=
  let old := current s tgt
  if old = new then s
  else
    let delta := match new with | some i => if tgt = 0 then deltaOf s i else 0 | none => 0
    let s := if tgt = 0 then (s.putB Reg.SEL_STAT_SRC_V new.isSome).put Reg.SEL_STAT_SRC (new.getD 0)
      else (s.putB Reg.SEL_STAT_FSRC_V new.isSome).put Reg.SEL_STAT_FSRC (new.getD 0)
    let s := s.publish Reg.SEL_STAT_VALID Reg.SEL_STAT_SEQ
    let s := match old with
      | some i => if refState s i = 4 && current s 0 != some i && current s 1 != some i then setRefState s i 3 0 else s
      | none => s
    let s := match new with | some i => if refState s i = 3 then setRefState s i 4 0 else s | none => s
    let s := s.setFlag (if tgt = 0 then Flag.SEL_SWITCH else Flag.SEL_FSWITCH)
    s.journal 0 0x0007 0x0702
      (leBytes 1 (old.getD 0xFF) ++ leBytes 1 (new.getD 0xFF) ++ leBytes 1 tgt ++ leBytes 1 reason
        ++ leBytes 4 (satS 32 (roundQ delta)))

/-- The reference forced for a target. -/
def forcedRef (s : State) (tgt : Nat) : Option Nat := if tgt = 0 then s.sel.forced.1 else s.sel.forced.2

/-- Set or clear the forced reference of a target. -/
def setForced (s : State) (tgt : Nat) (r : Option Nat) : State :=
  if tgt = 0 then
    { (s.putB Reg.SEL_STAT_MANUAL_T r.isSome) with sel := { s.sel with forced := (r, s.sel.forced.2) } }
  else { (s.putB Reg.SEL_STAT_MANUAL_F r.isSome) with sel := { s.sel with forced := (s.sel.forced.1, r) } }

/-- Journal SEL_DISAGREE for a pair. -/
def journalPair (s : State) (tgt a b : Nat) (begins : Bool) : State :=
  let cs := cands s tgt
  let diff := if tgt = 0 then absQ (wrapQ (deltaOf s a - deltaOf s b) (perPair s a b)) else 0
  s.journal 1 0x0007 0x0703
    (leBytes 1 a ++ leBytes 1 b ++ leBytes 1 (b2n begins) ++ leBytes 1 (votesFor s tgt cs a b)
      ++ leBytes 1 (votesFor s tgt cs b a) ++ leBytes 1 tgt ++ leBytes 2 0 ++ leBytes 4 (satU 32 (roundQ diff).toNat))

/-- The undecided pairs of a target become those given: beginnings and ends are journalled, DISAGREE follows (R147, R148). -/
def setPairs (s : State) (tgt : Nat) (ps : List (Nat × Nat)) : State :=
  let old := (s.sel.pairs.filter (fun p => p.1 = tgt)).map (fun p => p.2)
  let s := (old.filter (fun p => !ps.contains p)).foldl (fun s p => journalPair s tgt p.1 p.2 false) s
  let s := (ps.filter (fun p => !old.contains p)).foldl (fun s p => journalPair s tgt p.1 p.2 true) s
  let s := s.flagIf (old.isEmpty && !ps.isEmpty) Flag.SEL_DISAGREE
  let s := if tgt = 0 then s.putB Reg.SEL_STAT_DISAGREE (!ps.isEmpty) else s.putB Reg.SEL_STAT_FDISAGREE (!ps.isEmpty)
  { s with sel := { s.sel with pairs := s.sel.pairs.filter (fun p => p.1 != tgt) ++ ps.map (fun p => (tgt, p.1, p.2)) } }

/-- Disqualify the outvoted references. -/
def outvote (s : State) (l : List Nat) : State :=
  l.foldl (fun s i => (disqualify s i 8).setFlag Flag.SEL_VOTE) s

/-- Run selection for a target without naming: the choice of R147, with the outvoted disqualified, pairs journalled, and a
forced reference that is no candidate any more returned to AUTO. -/
def choose (s : State) (tgt : Nat) : State × Option Nat × Nat :=
  let cs := cands s tgt
  let cur := current s tgt
  match forcedRef s tgt with
  | some f =>
    if cs.contains f then
      let c := selectFrom s tgt (some f) 33 cs []
      (setPairs s tgt c.undecided, some f, 2)
    else
      let s := (setForced s tgt none).setFlag Flag.SEL_FORCE_LOST
      let c := selectFrom s tgt cur 33 cs []
      (setPairs (outvote s c.outvoted) tgt c.undecided, c.pick, 5)
  | none =>
    let c := selectFrom s tgt cur 33 cs []
    let s := setPairs (outvote s c.outvoted) tgt c.undecided
    let reason := match cur with
      | some i => if c.outvoted.contains i then 4 else if s.mapBit Reg.SEL_LOCK_LOCKOUT i then 3
                  else if cs.contains i then 1 else 0
      | none => 0
    (s, c.pick, reason)

/-- A switch by wait-to-restore to a candidate beyond θ_jump is not made; it is journalled once (R151, R160). -/
def holdSwitch (s : State) (cur cand : Nat) : State :=
  if s.sel.held.contains (cur, cand) then s
  else
    let s := s.journal 1 0x0007 0x0705
      (leBytes 1 cur ++ leBytes 1 cand ++ leBytes 2 0 ++ leBytes 4 (satS 32 (roundQ (deltaOf s cand))))
    { s with sel := { s.sel with held := [(cur, cand)] } }

/-- FSRC is selected (R147, R153). -/
def selectFreq (s : State) : State :=
  let (s, pick, reason) := choose s 1
  nameRef s 1 (pick.filter (fun i => isCand s 1 i)) reason

/-- The reference a TIME switch while LOCKED is made to when the one selected lies beyond θ_jump: the best of the candidates within
it that R147 does not bar (R152). -/
def lockedPick (s : State) : Option Nat :=
  let l := (cands s 0).filter (fun i => withinJump s i && !barred s 0 (cands s 0) i)
  leastRef s (l.filter (fun i => s.get (Reg.ENT_CFG_RANK i) = bestRank s l))

/-- Selection state to present for LOCKED: the new SRC, or none when it is lost with no candidate within θ_jump. -/
def selectLocked (s : State) : State :=
  let cur := current s 0
  let (s, pick, reason) := choose s 0
  let pick := pick.filter (fun i => isCand s 0 i)
  match cur, pick with
  | some c, some p =>
    if c = p then s
    else if isCand s 0 c then
      (if withinJump s p then nameRef s 0 (some p) reason
       else holdSwitch s c p)
    else nameRef s 0 (if withinJump s p then some p else lockedPick s) reason
  | _, some p => nameRef s 0 (some p) reason
  | _, none => nameRef s 0 none reason

/-- The largest |Δ_oth| + E_ref,oth over the qualified references that disagree with SRC, in ps, while DISAGREE holds (R148); none for
one that is not bounded, some 0 with none. -/
def othersBound (s : State) : Option Nat :=
  match current s 0 with
  | some c =>
    if !s.bit Reg.SEL_STAT_DISAGREE then some 0
    else
      let l := (List.range 32).filter (fun i => i != c && isQual s i && 2 ≤ classOf s i && agree s 0 c i = some false)
      l.foldl (fun b i => maxBound b (addPs (eRefB s i) (ceilNatQ (absQ (deltaOf s i))))) (some 0)
  | none => some 0

/-! ### ESMC (R156) -/

/-- The level index of an SSM and enhanced SSM code. -/
def qlIndex (ssm essm : Nat) : Nat :=
  if ssm = 0x2 && essm = 0x21 then 0 else if ssm = 0x2 && essm = 0x20 then 1
  else if ssm = 0x2 && essm = 0x23 then 2 else if ssm = 0x2 && essm = 0xFF then 3
  else if ssm = 0x4 && essm = 0xFF then 4 else if ssm = 0x8 && essm = 0xFF then 5
  else if ssm = 0xB && essm = 0x22 then 6 else if ssm = 0xB && essm = 0xFF then 7 else 8

/-- The received level of entry i becomes `q`, journalled when it changes. -/
def setQl (s : State) (i q : Nat) : State :=
  let old := s.get (Reg.ENT_NETSTAT_QL i)
  if old = q then s
  else (s.put (Reg.ENT_NETSTAT_QL i) q).journal 0 0x0007 0x0704 (leBytes 1 i ++ leBytes 1 q ++ leBytes 1 old)

/-- Whether the entry of port p reads ESMC. -/
def readsEsmc (s : State) (p : Nat) : Bool :=
  let m := s.get (Reg.ENT_NET_NETMODE (20 + p)); m = 1 || m = 2

/-- The ESMC timeout of port p: no valid PDU for 5 s makes the level QL-FAILED. -/
def esmcExpire (s : State) (p : Nat) : State :=
  match s.sel.esmc.find? (fun e => e.1 = p) with
  | some (_, t) =>
    if t - 1 + 5000000000 ≤ s.freeNs then
      setQl { s with sel := { s.sel with esmc := s.sel.esmc.set (fun _ => 0) p 0 } } (20 + p) 8
    else s
  | none => s

/-- The row ESMC_TIMEOUT. -/
def execEsmcTimeout (p : Fin 8) (s : State) : Out := .next (if tenseMode s then esmcExpire s p else s)

/-- The row ESMC_PDU_RX: a valid PDU's SSM and enhanced SSM (none without the extended TLV). -/
def esmcPdu (s : State) (p ssm : Nat) (essm : Option Nat) : State :=
  if !tenseMode s || !readsEsmc s p then s
  else
    let s := { s with sel := { s.sel with esmc := s.sel.esmc.set (fun _ => 0) p (s.freeNs + 1) } }
    setQl s (20 + p) (qlIndex ssm (essm.getD 0xFF))

end Sys2Proof.Machine
end

