-- ==== Sys2Proof/Machine/PlsCore.lean ====
section
/-!
DEFINITION. The core of the pulse unit (spec/07_pulses_schedule.md): pulse time and the held offset, schedule entries and
their occurrences, past occurrences, and what a step of the time base does to them.
-/

namespace Sys2Proof.Machine

/-- Generator n. -/
def State.gen (s : State) (n : Nat) : Gen := s.pls.gens.get (fun _ => Gen.zero) n

/-- Replace generator n. -/
def State.setGen (s : State) (n : Nat) (g : Gen) : State :=
  { s with pls := { s.pls with gens := s.pls.gens.set (fun _ => Gen.zero) n g } }

/-- The generators (R229). -/
def genTargets : List Nat := List.range 12 ++ [16, 17, 18, 19, 20, 21, 22, 23]

/-- Targets 12–15 and above 23 do not exist. -/
def isTarget (n : Nat) : Bool := n < 12 || (16 ≤ n && n < 24)

/-- The held offset of the register, 2⁻¹⁶ ns. -/
def heldReg (s : State) (n : Nat) : Int := s.getPairS (Reg.GEN_HELD_LO_H n) (Reg.GEN_HELD_HI_H n)

/-- H_n now: moving towards 0 at ALIGN_SLEW while a METHOD 1 alignment runs (R246). -/
def heldNow (s : State) (n : Nat) : Int :=
  match (s.gen n).align with
  | some a =>
    if a.slew then
      let moved := s.get Reg.PLS_SLEW_ALIGN_SLEW * 65536 * (s.freeNs - a.since) / 1000000000000
      if absN a.h0 ≤ moved then 0 else if 0 ≤ a.h0 then a.h0 - (moved : Int) else a.h0 + (moved : Int)
    else heldReg s n
  | none => heldReg s n

/-- Set H_n, saturating, with H_SAT (R231). -/
def setHeld (s : State) (n : Nat) (h : Int) : State :=
  let lim : Int := 2 ^ 63
  let s := if h < -lim || lim - 1 < h then s.putB (Reg.GEN_STAT_H_SAT n) true else s
  s.putPairSat (Reg.GEN_HELD_LO_H n) (Reg.GEN_HELD_HI_H n) h

/-- Pulse time PT_n = TB − H_n (R230), never below 0. -/
def ptNow (s : State) (n : Nat) : Nat := ((s.tbU : Int) - heldNow s n).toNat

/-! ### Entries (R233, R234) -/

/-- Byte k of an entry. -/
def PlsEntry.u8 (e : PlsEntry) (k : Nat) : Nat := (e.raw.getD k 0).toNat
/-- TARGET. -/
def PlsEntry.target (e : PlsEntry) : Nat := e.u8 10
/-- CTRL bit k. -/
def PlsEntry.ctrl (e : PlsEntry) (k : Nat) : Bool := bitOf (e.u8 11) k
/-- PERIODIC. -/
def PlsEntry.periodic (e : PlsEntry) : Bool := e.ctrl 1
/-- PAST_POLICY. -/
def PlsEntry.past (e : PlsEntry) : Nat := e.u8 11 / 4 % 4
/-- JRNL. -/
def PlsEntry.jrnl (e : PlsEntry) : Bool := e.ctrl 4
/-- CLK: the entry runs on the time base. -/
def PlsEntry.clk (e : PlsEntry) : Bool := e.ctrl 5
/-- ACTION: 0 PULSE, 1 HIGH, 2 LOW. -/
def PlsEntry.action (e : PlsEntry) : Nat := e.u8 12
/-- PERIOD in 2⁻⁹ ns. -/
def PlsEntry.period (e : PlsEntry) : Nat := leNat e.raw 16 6
/-- WIDTH in ns. -/
def PlsEntry.width (e : PlsEntry) : Nat := leNat e.raw 24 4
/-- COUNT. -/
def PlsEntry.count (e : PlsEntry) : Nat := leNat e.raw 28 4

/-- Entry i. -/
def State.entry (s : State) (i : Nat) : PlsEntry := s.pls.entries.get (fun _ => PlsEntry.zero) i

/-- Replace entry i; PLS_SCH_EN shows its EN. -/
def State.setEntry (s : State) (i : Nat) (e : PlsEntry) : State :=
  ({ s with pls := { s.pls with entries := s.pls.entries.set (fun _ => PlsEntry.zero) i e } }).putMapBit
    (Reg.PLS_SCH_EN_EN (i / 32)) (i % 32) e.enabled

/-- The image breaks no rule of R233. -/
def imageValid (e : PlsEntry) : Bool :=
  let w := e.width
  isTarget e.target && e.u8 11 < 64 && e.action ≤ 2 && e.u8 13 = 0 && e.u8 14 = 0 && e.u8 15 = 0 && e.u8 22 = 0 && e.u8 23 = 0
    && (if e.periodic then 512000 ≤ e.period && e.period ≤ 262144000000000 else e.period = 0 && e.count = 0)
    && (if e.action = 0 then (if e.target < 16 then 2 ≤ w else 10 ≤ w) && w ≤ 999999999 && (!e.periodic || w * 512 < e.period)
        else w = 0)
    && e.past != 3 && (e.periodic || e.past != 2)

/-- The entry of an image: FIRST expanded against now, FRAC[15:7] significant. -/
def entryOf (s : State) (raw : List Byte) : PlsEntry :=
  let e : PlsEntry := ⟨raw, bitOf (leNat raw 11 1) 0, 0, none, 0, none, false⟩
  let frac := leNat raw 8 2
  { e with first := s.expand (leNat raw 0 8) + frac / 128 * 128 }

/-- The instant of occurrence k, 2⁻¹⁶ ns on the entry's clock. -/
def PlsEntry.occ (e : PlsEntry) (k : Nat) : Nat := e.first + k * e.period * 128

/-- The first occurrence index not used up. -/
def PlsEntry.nextIdx (e : PlsEntry) : Nat := match e.lastIdx with | none => 0 | some k => k + 1

/-- The entry has another occurrence. -/
def PlsEntry.more (e : PlsEntry) : Bool :=
  e.enabled && (if e.periodic then e.count = 0 || e.fired < e.count else e.lastIdx.isNone)

/-- The entry's clock now. -/
def clkNow (s : State) (e : PlsEntry) : Nat := if e.clk then s.tbU else ptNow s e.target

/-- The lead of R236, 10 µs. -/
def leadU : Nat := 10000 * 65536

/-- The first occurrence index at or above `k` whose instant is not past (R237); for a one-shot entry, 1. -/
def firstAhead (s : State) (e : PlsEntry) (k : Nat) : Nat :=
  if e.period = 0 then max k 1
  else max k (ceilDiv (clkNow s e + leadU - e.first) (e.period * 128))

/-- The schedule fires nothing: RECOVERY, or SCHED_EN 0 (R605); the modes in which the unit does not run. -/
def schedHeld (s : State) : Bool :=
  s.mode = .recovery || s.mode = .safe || s.mode = .boot || s.mode = .test || !s.bit Reg.PLS_CFG_SCHED_EN

/-- An occurrence of entry i at instant `t` is past: PAST is set and SCHED_PAST journalled. -/
def notePast (s : State) (i : Nat) (e : PlsEntry) (cause t : Nat) : State :=
  (s.setFlag Flag.PLS_PAST).journal 0 0x000A 0x0A02 (leBytes 2 i ++ leBytes 1 e.past ++ leBytes 1 cause ++ leBytes 8 (shortOf t))

/-- Add a committed occurrence. -/
def addComm (s : State) (c : Comm) : State := { s with pls := { s.pls with comms := s.pls.comms ++ [c] } }

/-- Take back what was committed of entry i. -/
def dropComms (s : State) (i : Nat) : State := { s with pls := { s.pls with comms := s.pls.comms.filter (fun c => c.entry != i) } }

/-- The entry with every index above the last one fired open again (R238, R249). -/
def PlsEntry.reopened (e : PlsEntry) : PlsEntry := { e with lastIdx := e.firedIdx }

/-- Evaluate entry i for a past occurrence (R237): when it is enabled or one of its instants is reached (cause 0), or when a step that is
not held skips its next occurrence (cause 1). -/
def evalPast (s : State) (i cause : Nat) : State :=
  let e := s.entry i
  if !e.more then s
  else
    let k := e.nextIdx
    let t := e.occ k
    let now := clkNow s e
    if (if cause = 1 then now < t else now + leadU ≤ t) then s
    else
      let s := notePast s i e cause t
      if e.past = 0 then (dropComms s i).setEntry i { e with enabled := false }
      else
        let s := s.setEntry i { e with lastIdx := some (firstAhead s e k - 1) }
        if e.past = 1 then addComm s ⟨i, k, now + leadU⟩ else s

/-- Committed occurrences of the stepped clocks that a positive step has skipped are taken back, to be evaluated as past. -/
def uncommit (s : State) (i : Nat) : State :=
  let e := s.entry i
  let now := clkNow s e
  let gone := s.pls.comms.filter (fun c => c.entry = i && c.due ≤ now)
  match gone with
  | [] => s
  | c :: _ =>
    let s := { s with pls := { s.pls with comms := s.pls.comms.filter (fun c => !(c.entry = i && c.due ≤ now)) } }
    s.setEntry i { e with lastIdx := if c.idx = 0 then none else some (c.idx - 1) }

/-- After a negative step of its clock, entry i goes on at the first index above the last one fired whose instant is not past (R238). -/
def rewind (s : State) (i : Nat) : State :=
  let e := (s.entry i).reopened
  let k := if e.periodic then firstAhead s e e.nextIdx else e.nextIdx
  (dropComms s i).setEntry i { e with lastIdx := if k = 0 then none else some (k - 1) }

/-- A slew of generator n goes on from H_n = `h`: what it has removed so far is kept (R246). -/
def rebaseAlign (s : State) (n : Nat) (h : Int) : State :=
  let now := heldNow s n
  let g := s.gen n
  s.setGen n { g with align := g.align.map (fun a =>
    if a.slew then { a with h0 := h, gone := a.gone + (a.h0 - now), since := s.freeNs } else a) }

/-- A step S of the time base (2⁻¹⁶ ns) reaches the pulse unit (R231, R237, R238): held in H_n, except the one that first sets
time; entries whose clock steps forward are evaluated for skipped occurrences, and those whose clock steps back go on after the last one
fired. -/
def stepPulses (s : State) (amount : Int) (first : Bool) : State :=
  let s := if first then s else genTargets.foldl (fun s n =>
      let h := heldNow s n + amount
      setHeld (rebaseAlign s n (clampI (-(2 ^ 63)) (2 ^ 63 - 1) h)) n h) s
  (s.pls.entries.filter (fun p => p.2.enabled && (first || p.2.clk))).foldl
    (fun s p => if 0 < amount then evalPast (uncommit s p.1) p.1 1 else if amount < 0 then rewind s p.1 else s) s

end Sys2Proof.Machine
end

