-- ==== Sys2Proof/Machine/Admission.lean ====
section
/-!
DEFINITION. The latency bound and admission control (R322, R323, R342–R349): engines and classes, W_cls and L_b, the refresh of q_spd,
q_tgt and q_eff, tightening, and the changes that wait for transactions admitted under the old values.
-/

namespace Sys2Proof.Machine

/-- Fabric cost C_cls of a class in ns (R323, R342). -/
def classCost (c : Nat) : Nat := if c = 0 then 420 else if c = 1 then 1100 else if c = 2 then 380 else 900

/-- AEAD operations per transaction (R323). -/
def classAead (c : Nat) : Nat := if c = 1 then 4 else if c = 3 then 2 else 0

/-- The role of engine e in an engine map word pair. -/
def engRole (s : State) (e : Nat) : Nat := s.get (Reg.CLA_ENG_MAP_ROLE (e / 8)) / 16 ^ (e % 8) % 16

/-- The role an engine may have: 5–14 are stored as 15 (R323). -/
def normEngMap (s : State) : State :=
  [0, 1].foldl (fun s k =>
    s.put (Reg.CLA_ENG_MAP_ROLE k) ((List.range 8).foldl (fun a j =>
      let r := s.get (Reg.CLA_ENG_MAP_ROLE k) / 16 ^ j % 16
      a + (if 5 ≤ r then 15 else r) * 16 ^ j) 0)) s

/-- Engine e is held in reset. -/
def engDown (s : State) (e : Nat) : Bool := bitOf s.sys.engReset e

/-- E_cls: engines assigned to class c. -/
def eCls (s : State) (c : Nat) : Nat := ((List.range 16).filter (fun e => engRole s e = c)).length

/-- E_av: those not held in reset. -/
def eAv (s : State) (c : Nat) : Nat := ((List.range 16).filter (fun e => engRole s e = c && !engDown s e)).length

/-- W_cls (R342), exact before its rounding up to a multiple of 8 ns; 0 for a class with no engine. -/
def wClsOf (s : State) (c : Nat) : Nat :=
  let e := eCls s c
  if e = 0 then 0
  else 8 * ceilDiv (classCost c * (e + s.get (Reg.CLS_CFG_Q_LIM c)) * 100) (8 * e * s.get Reg.CLA_ADM_CFG_S_FLOOR)

/-- T_rxp of a port mode in ns (R301). -/
def tRxp (m : Nat) : Nat := if m = 0 then 900 else if m = 1 then 320 else if m = 2 then 180 else 120

/-- T_txp of a port mode in ns (R301). -/
def tTxp (m : Nat) : Nat := if m = 0 then 800 else if m = 1 then 280 else if m = 2 then 160 else 110

/-- G_egr in ns (R308). -/
def gEgr : Nat := 64

/-- L_b of class c on a port of mode m, from W_cls in force (R342). -/
def lbOf (s : State) (c m : Nat) : Nat := tRxp m + tTxp m + s.get (Reg.CLS_W_W c) + classAead c * 64 + gEgr

/-- Transactions of class c admitted and not yet committed, discarded or abandoned: its occupancy. -/
def occOf (s : State) (c : Nat) : Nat :=
  (s.cla.queue.filter (fun t => t.cls = c)).length + (s.cla.flight.filter (fun t => t.cls = c)).length

/-- Show E_cls, E_av and the occupancy, with a new SEQ when the status changes. -/
def showClass (s : State) (c : Nat) : State :=
  let s' := (s.put (Reg.CLS_STAT_E_CLS c) (eCls s c)).put (Reg.CLS_STAT_E_AV c) (eAv s c)
  let s' := if s'.regs = s.regs then s else s'.publish (Reg.CLS_STAT_VALID c) (Reg.CLS_STAT_SEQ c)
  s'.put (Reg.CLS_OCC_OCC c) (occOf s' c)

/-- Show every class. -/
def showClasses (s : State) : State := (List.range 4).foldl showClass s

/-- Recompute W_cls and L_b of class c (R342); q_tgt and q_pln that stood at the old Q_LIM follow it, and exceed it never. The
registers reset to 0, which stands for q_lim until something sets them (R344, R346; log 40). -/
def recomputeClass (s : State) (c : Nat) (oldLim : Nat) : State :=
  let q := s.get (Reg.CLS_CFG_Q_LIM c)
  let follow (s : State) (f : Field) : State := if s.get f = oldLim || s.get f = 0 || q < s.get f then s.put f q else s
  let s := s.put (Reg.CLS_W_W c) (wClsOf s c)
  let s := (List.range 4).foldl (fun s m => s.put (Reg.CLS_LB_L_B c m) (if eCls s c = 0 then 0 else lbOf s c m)) s
  showClass (follow (follow s (Reg.CLS_Q2_Q_TGT c)) (Reg.CLS_Q2_Q_PLN c)) c

/-- q_eff of class c, from q_spd, q_tgt and q_pln. -/
def qEffOf (s : State) (c : Nat) : Nat :=
  min (s.get (Reg.CLS_Q_Q_SPD c)) (min (s.get (Reg.CLS_Q2_Q_TGT c)) (s.get (Reg.CLS_Q2_Q_PLN c)))

/-- Bring q_eff of class c up to date; its value before this TB cycle is kept for the requests of this cycle (R345). -/
def setQEff (s : State) (c : Nat) : State :=
  let old := s.get (Reg.CLS_Q_Q_EFF c)
  let new := qEffOf s c
  if old = new then s
  else
    let s := if (s.cla.qPrev.get (fun _ => (0, 0)) c).1 = s.freeNs + 1 then s
      else { s with cla := { s.cla with qPrev := s.cla.qPrev.set (fun _ => (0, 0)) c (s.freeNs + 1, old) } }
    s.put (Reg.CLS_Q_Q_EFF c) new

/-- The q_eff a request of this TB cycle is evaluated against (R345). -/
def qEffAdm (s : State) (c : Nat) : Nat :=
  let p := s.cla.qPrev.get (fun _ => (0, 0)) c
  if p.1 = s.freeNs + 1 then p.2 else s.get (Reg.CLS_Q_Q_EFF c)

/-- S_adm (R344). -/
def sAdm (s : State) : Rat :=
  (s.get Reg.FAB_SMEAS_S_MEAS : Rat) / 16384 / (1 + (s.get Reg.CLA_ADM_CFG_MARGIN : Rat) / 1000)

/-- q_spd of class c (R344). -/
def qSpdOf (s : State) (c : Nat) : Nat :=
  let cost : Rat := classCost c
  let q := floorQ ((eAv s c : Rat) * ((s.get (Reg.CLS_W_W c) : Rat) * sAdm s - cost) / cost)
  min (s.get (Reg.CLS_CFG_Q_LIM c)) q.toNat

/-- STARVED of class c begins or ends: ADM_STARVED journalled (R347). The ADM_FLOOR checker compares at each refresh. -/
def setStarved (s : State) (c : Nat) (b : Bool) : State :=
  let was := s.mapBit Reg.CLA_STAT_STARVED c
  let s := check s 0x0D (b && !was)
  if was = b then s
  else
    let s := ((s.putMapBit Reg.CLA_STAT_STARVED c b).publish Reg.CLA_STAT_VALID Reg.CLA_STAT_SEQ).flagIf b Flag.CLA_STARVED
    s.journal (if b then 2 else 0) 0x0010 0x1002
      (leBytes 1 c ++ leBytes 1 (b2n b) ++ leBytes 2 (s.get Reg.FAB_SMEAS_S_MEAS) ++ leBytes 1 (eAv s c))

/-- The refresh of one class with an engine (R344, R346). -/
def refreshClass (s : State) (c : Nat) : State :=
  let s := showClass s c
  if eCls s c = 0 then s
  else
    let lim := s.get (Reg.CLS_CFG_Q_LIM c)
    let s := s.put (Reg.CLS_Q_Q_SPD c) (qSpdOf s c)
    let at0 := s.cla.tightAt.get (fun _ => 0) c
    let held : Bool := at0 != 0 && s.freeNs < at0 - 1 + s.get Reg.CLA_ADM_CFG_TIGHT_HOLD * 1000000
    let s := if s.get (Reg.CLS_Q2_Q_PLN c) = 0 then s.put (Reg.CLS_Q2_Q_PLN c) lim else s
    let t := s.get (Reg.CLS_Q2_Q_TGT c)
    let s := if t = 0 then s.put (Reg.CLS_Q2_Q_TGT c) lim
      else if t < lim && !held then s.put (Reg.CLS_Q2_Q_TGT c) (t + 1) else s
    let s := setQEff s c
    setStarved s c (s.get (Reg.CLS_Q_Q_SPD c) = 0)

/-- The row ADMISSION_REFRESH: at each 1 ms refresh of S_meas. -/
def execAdmissionRefresh (s : State) : Out := .next <|
  if !s.atMs || s.mode = .boot || s.mode = .test then s
  else
    let s := s.put Reg.CLA_SADM_S_ADM (satU 16 (roundQ (sAdm s * 16384)).toNat)
    (List.range 4).foldl refreshClass s

/-- A discard with cause DEADLINE, SLOT or LENGTH tightens its class at once (R346). -/
def tighten (s : State) (c cause : Nat) : State :=
  if 4 ≤ c then s
  else
    let old := s.get (Reg.CLS_Q_Q_EFF c)
    let t := max 1 (old / 2)
    let s := (s.put (Reg.CLS_Q2_Q_TGT c) t).setFlag Flag.CLA_TIGHTEN
    let s := setQEff s c
    let s := { s with cla := { s.cla with tightAt := s.cla.tightAt.set (fun _ => 0) c (s.freeNs + 1) } }
    s.journal 1 0x0010 0x1001 (leBytes 1 c ++ leBytes 1 cause ++ leBytes 2 t ++ leBytes 2 old)

/-- CFGERR of the engines (R323): a stream, a port client or the grant table is enabled and no engine has role CTRL. -/
def claCfgErr (s : State) : Bool :=
  let any : Bool := s.cla.streams.any (fun p => bitOf (leNat p.2 3 1) 0) || (List.range 8).any (fun p => s.bit (Reg.PCL_CFG_EN p)) ||
    s.bit Reg.CLA_GT_CFG_EN
  any && eCls s 4 = 0

/-- Show CFGERR. -/
def showCla (s : State) : State :=
  let s' := s.putB Reg.CLA_STAT_CFGERR (claCfgErr s)
  if s'.regs = s.regs then s else s'.publish Reg.CLA_STAT_VALID Reg.CLA_STAT_SEQ

/-- Store settings and bring everything computed from them up to date. -/
def storeService (s : State) (regs : List (Nat × Nat)) : State :=
  let lims := (List.range 4).map (fun c => s.get (Reg.CLS_CFG_Q_LIM c))
  let s := normEngMap (regs.foldl (fun s p => s.storeWord p.1 p.2) s)
  let s := (List.range 4).foldl (fun s c => recomputeClass s c (lims.getD c 0)) s
  showCla s

/-- The row RECONF_DRAIN_END (R349): every transaction of the paused classes has been committed or discarded, and the new values
act. -/
def execReconfDrainEnd (s : State) : Out := .next <|
  if s.cla.paused.isEmpty || s.cla.paused.any (fun c => occOf s c != 0) then s
  else
    let regs := s.cla.reconf
    storeService { s with cla := { s.cla with reconf := [], paused := [] } } regs

end Sys2Proof.Machine
end

