-- ==== Sys2Proof/Machine/TsuCore.lean ====
section
/-!
DEFINITION. The core of timestamping and scheduled egress (spec/09_timestamping_egress.md): how a stamp is formed (R297, R298), and the
discard of booked frames (R312–R314). A step of the time base discards frames too (R26), so these stand before it.
-/

namespace Sys2Proof.Machine

/-- Update the TSU's own state. -/
def State.setTsu (s : State) (f : Tsu → Tsu) : State := { s with tsu := f s.tsu }

/-- The MODE of port p. -/
def portMode (s : State) (p : Nat) : Nat := s.get (Reg.MAC_MODE_MODE p)

/-! ### Stamps (R20, R25, R297, R298) -/

/-- The time base at the instant `d` (2⁻¹⁶ ns) after the start of the TB cycle in progress, with the offset that was in force then. -/
def State.instant (s : State) (d : Int) : Int :=
  let c : Int := (s.tb.cyc * 65536 : Nat) + d
  match s.tb.step with
  | some (at0, _, a) => c + s.tb.ofs - if c < (at0 * 65536 : Nat) then a else 0
  | none => c + s.tb.ofs

/-- A stamp in 2⁻¹⁶ ns rounded to the nearest 2⁻⁹ ns, ties away from zero. -/
def roundStamp (u : Rat) : Nat := (roundQ (u / 128) * 128).toNat

/-- t_w + n_b × UI − k_dir, in 2⁻¹⁶ ns, with `ui` in 2⁻¹⁶ ns. -/
def crossing (s : State) (x : Edge) (ui : Rat) (k : Int) : Rat := (s.instant x.frac : Rat) + (x.bit : Rat) * ui - (k : Rat)

/-- Half of the internal trims of port p in 2⁻¹⁶ ns (R316): the trim held is the sum of both directions, in ps. -/
def halfTrim (s : State) (p : Nat) : Rat := ((s.tsu.trims.get (fun _ => 0) p : Int) : Rat) * 65536 / 2000

/-- The nominal unit interval of a port mode in 2⁻¹⁶ ns (R256). -/
def nominalUi (m : Nat) : Rat := if m = 0 then 65536 * 4 / 5 else if m = 1 then 65536 * 16 / 165 else 65536 * 32 / 825

/-- A unit interval of a transmit lane, whose clock is APLL1's: the nominal one scaled by DPLL1 (R205). -/
def txUi (s : State) (nominal : Rat) : Rat :=
  nominal / (1 + (((s.syn.dplls.get (fun _ => DpllSt.zero) 1).y : Int) : Rat) / ((2 ^ 48 : Nat) : Rat))

/-- The ingress stamp of a frame on port p. -/
def ingressStamp (s : State) (p : Nat) (x : Edge) (ui : Nat) : Nat :=
  roundStamp (crossing s x ((ui : Rat) / 65536) (Config.kDir p false) - (s.get (Reg.TSU_RXDLY_RX_DLY p) * 128 : Nat) - halfTrim s p)

/-- The egress stamp of a frame on port p, with the TX_DLY in force at its grant. -/
def egressStamp (s : State) (p : Nat) (x : Edge) (txDly : Nat) : Nat :=
  roundStamp (crossing s x (txUi s (nominalUi (portMode s p))) (Config.kDir p true) + (txDly * 128 : Nat) + halfTrim s p)

/-! ### Late frames (R312–R314) -/

/-- Counter k of port p moves by 1. -/
def tsuBump (s : State) (p k : Nat) : State := s.bump (Reg.TSU_CNT_LO_CNT p k) (Reg.TSU_CNT_HI_CNT p k) 1

/-- Count and journal a discard of port p and a cause of 0–7; `t` is its T_tx, or T_nom for cause SLOT. Causes DEADLINE, SLOT and LENGTH
tighten class `c` (R313, R346). -/
def lateDiscard (s : State) (p cause t c : Nat) : State :=
  let s := ((tsuBump s p cause).setFlag (Flag.TSU_LATE_DISC p)).perf 0x044 p 1
  let key := p * 16 + cause
  let ms := s.nowU / msU + 1
  let n := s.tsu.lateN.get (fun _ => 0) key + 1
  let s := if s.tsu.lateMs.get (fun _ => 0) key = ms then
      s.setTsu (fun x => { x with lateN := x.lateN.set (fun _ => 0) key n })
    else
      let s := s.setTsu (fun x => { x with lateN := x.lateN.set (fun _ => 0) key 0, lateMs := x.lateMs.set (fun _ => 0) key ms })
      s.journal 1 0x000E 0x0E01 (leBytes 1 p ++ leBytes 1 cause ++ leBytes 2 (satU 16 n) ++ leBytes 8 (shortOf t))
  if cause = 0 || cause = 4 || cause = 5 then tighten s c cause else s

/-- Free a booking. -/
def freeBook (s : State) (b : Booking) : State := s.setTsu (fun x => { x with books := x.books.filter (fun y => y.id != b.id) })

/-- Replace a booking. -/
def putBook (s : State) (b : Booking) : State :=
  s.setTsu (fun x => { x with books := x.books.map (fun y => if y.id = b.id then b else y) })

/-- A transaction whose frame the TSU has discarded is abandoned. -/
def dropTxn (s : State) (e c : Nat) : State :=
  { s with cla := { s.cla with flight := s.cla.flight.filter (fun t => !(t.engine = e && t.ctx = c)) } }

/-- Discard a booked frame: its booking is freed, and what has not been committed of it is abandoned. -/
def discard (s : State) (b : Booking) (cause : Nat) : State :=
  let s := lateDiscard (freeBook s b) b.port cause b.ttx b.cls
  if b.inTsu then s else showClasses (dropTxn s b.engine b.ctx)

/-- What a step of the time base, `old` before it, does to the frames sealed before it whose T_tx falls at or after it (R26, R312): one not
launched is discarded with cause STEP; one launched is verified against T_tx all the same. -/
def stepBookings (s : State) (old : Nat) : State :=
  let hit (b : Booking) : Bool := b.sealed && !b.dead && old ≤ b.ttx
  let s := (s.tsu.books.filter (fun b => hit b && !b.launched)).foldl (fun s b => discard s b 1) s
  s.setTsu (fun x => { x with books := x.books.map (fun b => if hit b then { b with stepped := true } else b) })

end Sys2Proof.Machine
end

