-- ==== Sys2Proof/Machine/BaseStep.lean ====
section
/-!
DEFINITION. A step of the time base (R25–R27, R603): the offset changes in one TB cycle, and everything that holds a value of
the time base follows.
-/

namespace Sys2Proof.Machine

/-- Held measurements move with the time scale (R41: φ + S for a measurement φ and a step S, in ps, `u` in 2⁻¹⁶ ns). -/
def stepRefs (s : State) (ps : Rat) (u : Int) : State :=
  { s with sel := { s.sel with
      refs := s.sel.refs.map (fun p => (p.1, { p.2 with
        hist := p.2.hist.map (fun h => (h.1, h.2 + ps)),
        samples := p.2.samples.map (fun o => o.map (fun q => (q.1 + ps, q.2))) })),
      clients := s.sel.clients.map (fun p => (p.1, { p.2 with
        exch := p.2.exch.map (fun x => { x with o := x.o + ofPs ps }),
        sync := p.2.sync.map (fun x => (x.1, x.2.1 + u, x.2.2)), await := p.2.await.map (fun x => (x.1, x.2.1 + u, x.2.2)),
        dreq := p.2.dreq.map (fun x => (x.1, x.2 + u)) })),
      meas := s.sel.meas.map (fun p => (p.1, { p.2 with phi := p.2.phi.map (fun x => x + ofPs ps) })) } }

/-- Outputs with SRC TS keep their edges: what a step leaves between them and the grid (R215). -/
def stepOuts (s : State) (amount : Int) : State :=
  (List.range 12).foldl (fun s n =>
    if s.get (Reg.OUT_CFG_SRC n) = 0 && s.get (Reg.OUT_STAT_STATE n) != 0 then
      let o := s.syn.outs.get (fun _ => OutSt.zero) n
      { s with syn := { s.syn with outs := s.syn.outs.set (fun _ => OutSt.zero) n { o with off := o.off + amount } } }
    else s) s

/-- Step the time base by `amount` (2⁻¹⁶ ns), by the descriptor of TAG `tag` (0 for none); `first` is the step that first
sets time. TB_STEP is journalled with the new offset (R27, R54); a step that its 64 signed bits do not hold appears there modulo 2⁶⁴
(DESIGN CHOICE, log 65). -/
def stepBase (s : State) (amount : Int) (tag : Nat) (first : Bool) : State :=
  let old := s.tbU
  let ps : Rat := (amount : Rat) * 1000 / 65536
  let s := { s with tb := { s.tb with ofs := s.tb.ofs + amount, step := some (s.tb.cyc, old, amount) } }
  let s := stepRefs s ps amount
  let s := stepBookings s old
  let t := s.tns
  let s := { s with tns := { t with
      phi := t.phi + ps, delta := t.delta + ps, dj := t.dj.map (fun p => (p.1, p.2 + ps)), stepped := true,
      host := t.host.map (fun m => { m with phi := m.phi.map (fun x => x + ofPs ps) }) } }
  let s := stepPulses s amount first
  let s := (List.range 12).foldl (fun s n =>
    if s.get (Reg.OUT_CFG_SRC n) = 0 && s.get (Reg.OUT_STAT_STATE n) != 0 then
      let s := s.setFlag (Flag.OUT_ALIGN_LOST n)
      if s.bit (Reg.OUT_STAT_ALIGNED n) then (s.putB (Reg.OUT_STAT_ALIGNED n) false).nextSeq (Reg.OUT_STAT_SEQ n) else s
    else s) s
  let s := stepOuts s amount
  s.journal 0 0x0008 0x0203 (leBytes 8 (unsigned 64 amount) ++ leBytes 4 tag)

end Sys2Proof.Machine
end

