-- ==== Sys2Proof/Machine/Tense.lean ====
section
/-!
DEFINITION. The Tense unit (spec/05_tense_holdover.md, spec/01_time_and_gloss.md): the loop, the time-scale states, holdover,
the return of a reference, slewing, and the publication of the core Gloss.
-/

namespace Sys2Proof.Machine

/-- Time-scale states (R36): 0 FREE_RUN, 1 ACQUIRING, 2 LOCKED, 3 HOLDOVER, 4 LOST. -/
def tsState (s : State) : Nat := s.get Reg.TNS_STAT_STATE

/-- Update the Tense unit's own state. -/
def State.setTns (s : State) (f : Tense → Tense) : State := { s with tns := f s.tns }

/-- K_SIG. -/
def kSig (s : State) : Nat := s.get Reg.TNS_GLS_CFG_K_SIG

/-! ### Loop terms (R166, R167) -/

/-- φ_res: the mean of the innovations, ps. -/
def phiRes (s : State) : Rat := meanQ s.tns.innov

/-- σ_φ²: of the first measurement alone φ₁², otherwise the variance of the innovations (log 22). -/
def sigSq (s : State) : Rat :=
  match s.tns.innov with
  | [x] => x * x
  | l => meanQ (l.map (fun x => (x - meanQ l) * (x - meanQ l)))

/-- The least integer at least |a| + √v. -/
def ceilPlusRoot (a v : Rat) : Nat :=
  let a := absQ a
  let n := ceilNatQ a + ceilSqrtQ v
  if 1 ≤ n && a ≤ ((n - 1 : Nat) : Rat) && v ≤ (((n - 1 : Nat) : Rat) - a) * (((n - 1 : Nat) : Rat) - a) then n - 1 else n

/-- E_loop = ⌈|φ_res| + K_SIG × σ_φ⌉ ps (R40). -/
def eLoopOf (s : State) : Nat := ceilPlusRoot (phiRes s) (sigSq s * ((kSig s * kSig s : Nat) : Rat))

/-- u_y: K_SIG times the estimator's formal standard deviation, at least 10⁻¹³, and after a return at least the holdover
segment's (R167). -/
def uyOf (s : State) : Rat :=
  let own := (kSig s : Rat) * s.tns.sd
  let own := if own < 1 / 10000000000000 then 1 / 10000000000000 else own
  match s.tns.retN with
  | some _ => if own < s.tns.uRet then s.tns.uRet else own
  | none => own

/-- The reference's u_s (R179): by QL index for network references, U_S_REFIN for REFIN; none never assists. -/
def usOf (s : State) (i : Nat) : Option Rat :=
  if i < 16 then some (unitF (s.get Reg.TNS_ASSIST_U_S_REFIN) 15)
  else if 20 ≤ i && i ≤ 27 then
    (let q := s.get (Reg.ENT_NETSTAT_QL i)
     if q = 0 || q = 2 then some (1 / 1000000000000) else if q = 1 || q = 3 then some (1 / 100000000000) else none)
  else none

/-- Reference i is a network reference in NETMODE 2, whose SyncE component assists (R154). -/
def hybrid (s : State) (i : Nat) : Bool := 20 ≤ i && i ≤ 27 && s.get (Reg.ENT_NET_NETMODE i) = 2

/-- The frequency of FSRC: of a network reference in NETMODE 1 or 2 that of its SyncE component. -/
def assistY (s : State) (f : Nat) : Option Rat := if freqFromSynce s f then (s.ref f).sy else (s.ref f).y

/-- The frequency observation that assists (R166): FSRC's y and u_s while it is named and ASSIST is 1; in NETMODE 2 the SyncE
component of SRC (R154). -/
def assistOf (s : State) : Option (Rat × Rat) :=
  if !s.bit Reg.TNS_CFG_ASSIST then none
  else
    match current s 1 with
    | some f => match assistY s f, usOf s f with | some y, some u => some (y, u) | _, _ => none
    | none =>
      match current s 0 with
      | some i => if !hybrid s i then none else match (s.ref i).sy, usOf s i with | some y, some u => some (y, u) | _, _ => none
      | none => none

/-- ω = 2π · f_BW of the state in force. -/
def omegaOf (s : State) : Rat :=
  let code := if tsState s = 1 then s.get Reg.TNS_CFG_ACQ_BW else s.get Reg.TNS_CFG_LOOP_BW
  Config.twoPi / ((2 ^ code : Nat) : Rat)

/-- Show the loop terms. -/
def showLoop (s : State) : State :=
  ((s.putSat Reg.TNS_PHRES_PHI_RES (roundQ (phiRes s))).putSatU Reg.TNS_SIGPH_SIGMA_PHI (ceilSqrtQ (sigSq s))).putSatU
    Reg.TNS_UY_U_Y (ceilNatQ (uyOf s * 1000000000000000))

/-- SLEW_LIM as a fraction. -/
def slewLim (s : State) : Rat := (s.get Reg.TNS_SLEW_SLEW_LIM : Rat) / tera

/-- Set Δ_rem and SLEW (R184). -/
def setDrem (s : State) (d : Rat) : State :=
  let s := s.setTns (fun n => { n with drem := d, slewAt := s.freeNs })
  (s.putB Reg.TNS_STAT_SLEW (d != 0)).putSat Reg.TNS_DREM_D_REM (roundQ d)

/-- In LOCKED the loop keeps the residual phase it removes within SLEW_LIM; what lies beyond is carried as Δ_rem (R168). -/
def carryOver (s : State) : State :=
  if tsState s != 2 then s
  else
    let cap := slewLim s * tera / (2 * omegaOf s)
    let p := s.tns.phi
    let q := clampQ (-cap) cap p
    if p = q then s else (setDrem s (s.tns.drem + (p - q))).setTns (fun n => { n with phi := q })

/-- The estimator and the loop take in a valid measurement φ (ps) of SRC that holds at elapsed time `t` (R166). -/
def loopUpdate (s : State) (phi : Rat) (t : Nat) : State :=
  let n := s.tns
  let first := n.startN = 0
  let dt : Rat := if first then 0 else match n.lastMeas with | some l => secOf (t - l) | none => 0
  let pred := if first then 0 else n.phi + n.y * dt * tera
  let innov := (phi - n.drem) - pred
  let (yo, us) := (assistOf s).getD (0, 0)
  let phi' := if first then phi - n.drem else Config.estPhase pred innov dt n.sd n.estN
  let y' := Config.estFreq n.y innov dt n.sd yo us n.estN
  let sd' := Config.estSd n.sd dt us n.estN
  let s := s.setTns (fun n => { n with
    phi := phi', y := y', sd := sd', estN := n.estN + 1, startN := n.startN + 1,
    innov := if first then [phi - n.drem] else (innov :: n.innov).take 64,
    lastMeas := some t, delta := phi,
    retN := match n.retN with | some k => if 64 ≤ k + 1 then none else some (k + 1) | none => none })
  let s := carryOver s
  let w := omegaOf s
  let eps := -s.tns.phi / tera
  let fc := n.fc + w * w * eps * dt
  showLoop (s.setTns (fun n => { n with fc := fc, yst := fc + 2 * w * eps }))

/-- What a valid measurement of SRC fixes for the bound: E_ref, E_loop and B₀ (R41, R169). -/
def markValid (s : State) (i : Nat) : State :=
  let er := eRefB s i
  let el := eLoopOf s
  let extra := if tsState s = 1 then ceilNatQ (absQ s.tns.delta) else 0
  s.setTns (fun n => { n with eref := er, eloop := el, b0 := addPs er (el + extra) })

/-- The elapsed ns at which the latest valid measurement of reference i holds. -/
def lastOf (s : State) (i : Nat) : Option Nat := ((s.ref i).hist.head?).map (fun h => h.1)

/-- SRC becomes reference i with what was last measured of it (R36, R41): AGE, Δ, E_ref and B₀. -/
def takeSrc (s : State) (i : Nat) : State :=
  let l := lastOf s i
  let d := deltaOf s i
  markValid (s.setTns (fun n => { n with src := i, trace := traceOf s i, lastMeas := l, delta := d })) i

/-! ### States -/

/-- Change the time-scale state, journal TS_STATE with its reason (R169, R202). -/
def setTsState (s : State) (st reason : Nat) : State :=
  let old := tsState s
  let s := if st = 4 then alertOn s 2 else s
  let s := (s.put Reg.TNS_STAT_STATE st).publish Reg.TNS_STAT_VALID Reg.TNS_STAT_SEQ
  s.journal 0 0x0008 0x0207 (leBytes 1 old ++ leBytes 1 st ++ leBytes 1 reason ++ leBytes 1 s.tns.src)

/-- Clear an outstanding refused jump, journalled with how it ended (R181, R202). -/
def clearJump (s : State) (how : Nat) : State :=
  match s.tns.dj with
  | none => s
  | some (i, _) =>
    let s := s.setTns (fun n => { n with dj := none })
    let s := ((s.putB Reg.TNS_STAT_JREF false).put Reg.TNS_STAT_RET_ID 0).put Reg.TNS_DJ_D_J 0
    s.journal 0 0x0008 0x0209 (leBytes 1 i ++ leBytes 1 how)

/-- The loop stops or starts anew: no innovations held. -/
def restartLoop (s : State) : State :=
  s.setTns (fun n => { n with phi := 0, y := 0, sd := 0, estN := 0, startN := 0, innov := [], fc := n.yst, retN := none,
                              lockN := 0 })

/-- The temperature that the holdover's terms use (R177): the present one while they apply, else the last that met the conditions,
and T_e (`te`) when none has. -/
def holdTemp (s : State) (te : Rat) : Rat :=
  if tempApplies s then (s.getS Reg.TNS_TEMP_TEMP : Rat)
  else match s.tns.goodT with | some t => (t : Rat) | none => te

/-- Elapsed ns since the last valid measurement. -/
def sinceMeas (s : State) : Nat := s.freeNs - s.tns.lastMeas.getD s.freeNs

/-- Begin a new segment of E_hold when assistance begins, ends or changes (R178, R179). -/
def segment (s : State) (h : Hold) : Hold :=
  let t := sinceMeas s
  let h := accrue s h t
  let wanted : Option Rat :=
    match assistOf s with
    | some (_, us) => if us + uQ < h.u + uTnow s then some (us + uQ) else none
    | none => none
  match wanted with
  | some u =>
    if h.assisted && h.u = u then h
    else { h with fin := h.fin + segGrowth s h t, start := t, assisted := true, u := u, iT := 0, iTn := 0 }
  | none =>
    if h.assisted then { h with fin := h.fin + segGrowth s h t, start := t, assisted := false, iT := 0, iTn := 0 }
    else h

/-- Steering in holdover (R177, R179). -/
def holdSteer (s : State) : State :=
  match s.tns.hold with
  | none => s
  | some h =>
    let was := h.assisted
    let h := segment s h
    let h := { h with temp := holdTemp s h.te }
    let tau := secOf (sinceMeas s)
    let free := h.ye + modA s * tau + tempTerms s h.temp h.te
    let y := match assistOf s with
      | some (yf, _) => if h.assisted then Config.assist s.tns.yst yf (omegaOf s) (if was then 1 / 1000 else 0) else free
      | none => free
    (s.putB Reg.TNS_STAT_ASSISTED h.assisted).setTns (fun n => { n with hold := some h, yst := y })

/-- A returning reference i is accepted (R167, R169, R180): LOCKED with Δ_rem = `d`, the loop restarted from the holdover
frequency, the innovations held continuing. `why` is SEL_SWITCH's reason. -/
def acceptReturn (s : State) (i : Nat) (d : Rat) (why reason how : Nat) : State :=
  let (uk, tau) := match s.tns.hold with
    | some h => (h.u, secOf (sinceMeas s - h.start))
    | none => (0, 0)
  let s := clearJump s how
  let s := nameRef s 0 (some i) why
  let s := s.setTns (fun n => { n with
    hold := none, fc := n.yst, phi := 0, retN := some 0, uRet := uk + modUa s * tau + modUt s })
  let s := (takeSrc s i).putB Reg.TNS_STAT_ASSISTED false
  markValid (setTsState (setDrem s d) 2 reason) i

/-! ### Return of a reference (R180–R183) -/

/-- PHASE_POLICY of reference i: 0 SLEW, 1 STEP_ON_COMMAND, 2 REFUSE. -/
def policyOf (s : State) (i : Nat) : Nat := s.get (Reg.ENT_CFG_POLICY i)

/-- Reference i would be accepted by R180. -/
def wouldAccept (s : State) (i : Nat) : Bool := policyOf s i = 0 && withinJump s i

/-- A refusal or hold of reference i (R180, R183): Δ_j follows its measurements; it is journalled once. -/
def refuseReturn (s : State) (i : Nat) : State :=
  let d := deltaOf s i
  let fresh := match s.tns.dj with | some (j, _) => j != i | none => true
  let s := if fresh then clearJump s 0 else s
  let s := s.setTns (fun n => { n with dj := some (i, d) })
  let s := ((s.putB Reg.TNS_STAT_JREF true).put Reg.TNS_STAT_RET_ID i).putSat Reg.TNS_DJ_D_J (roundQ d)
  if fresh then
    (s.setFlag Flag.TNS_JREF).journal 1 0x0008 0x0208
      (leBytes 1 i ++ leBytes 1 (policyOf s i) ++ leBytes 2 0 ++ leBytes 8 (unsigned 64 (roundQ d)))
  else s

/-- In HOLDOVER or LOST, the candidates are evaluated (R180–R182). A candidate that R147 bars is not taken. -/
def evalReturn (s : State) : State :=
  let (s, pick, why) := choose s 0
  let cs := cands s 0
  let acc := cs.filter (fun i => (phiOf s i).isSome && wouldAccept s i && !barred s 0 cs i)
  let best := leastRef s (acc.filter (fun i => s.get (Reg.ENT_CFG_RANK i) = bestRank s acc))
  let chosen : Option Nat := match pick with
    | some p => if acc.contains p then some p else best
    | none => best
  match chosen with
  | some i =>
    let how := match s.tns.dj with | some (j, _) => if j = i then 4 else 5 | none => 5
    acceptReturn s i (deltaOf s i) why 6 how
  | none =>
    match pick with
    | some i => if isCand s 0 i && policyOf s i != 2 && (phiOf s i).isSome then refuseReturn s i
                else clearJump s 0
    | none => clearJump s 0

/-- With selection at rest, the outstanding jump follows its reference, and ends by itself under SLEW (R181). -/
def followJump (s : State) : State :=
  match s.tns.dj with
  | some (i, _) => if wouldAccept s i then acceptReturn s i (deltaOf s i) 0 6 4 else refuseReturn s i
  | none => s

/-! ### Slewing (R184) -/

/-- Elapsed ns from now to the next millisecond publication instant. -/
def untilMs (s : State) : Nat := ceilDiv (msU - s.tbU % msU) 65536

/-- Δ_rem now, with what y_sl has removed since it was last brought up. -/
def dremNow (s : State) : Rat := s.tns.drem + s.tns.ysl * ((s.freeNs - s.tns.slewAt : Nat) : Rat) * 1000

/-- Δ_rem brought up to this publication. -/
def slewArrive (s : State) : State := if s.tns.drem = 0 && s.tns.ysl = 0 then s else setDrem s (dremNow s)

/-- The slew rate from this publication to the next millisecond publication (R184), with the rates in force from now on. In LOCKED
what the loop adds stays with the slew within SLEW_LIM of SRC's rate (R168). -/
def slewStep (s : State) : State :=
  let d := s.tns.drem
  let lim := slewLim s
  let dt := untilMs s
  let ysl : Rat :=
    if lim * (dt : Rat) * 1000 ≤ absQ d then (if d < 0 then lim else if 0 < d then -lim else 0)
    else -d / ((dt : Rat) * 1000)
  let dep := s.tns.yst - s.tns.fc
  let yst := if tsState s = 2 then s.tns.fc + clampQ (-lim - ysl) (lim - ysl) dep else s.tns.yst
  setSteer (s.setTns (fun n => { n with slewAt := s.freeNs })) yst ysl

/-! ### The core bound (R41) -/

/-- E_coast = ⌈u_y × (AGE + H_g)⌉. -/
def eCoast (s : State) : Nat := ceilNatQ (uyOf s * secOf (sinceMeas s + hG) * tera)

/-- E_hold at the end of this publication's interval; 0 outside holdover. -/
def eHoldNow (s : State) : Nat :=
  match s.tns.hold with | some h => eHold s h (sinceMeas s + hG) | none => 0

/-- The core bound B in ps as R41 composes it; none is "not bounded". -/
def realBound (s : State) : Option Nat :=
  let st := tsState s
  if st = 0 then none
  else if st = 1 then
    (if s.tns.timeSet then
      match current s 0 with
      | some i => addPs (eRefB s i) (ceilNatQ (absQ s.tns.delta) + eLoopOf s + eCoast s)
      | none => addPs s.tns.b0 (eCoast s)
     else none)
  else if st = 2 then
    let er := match current s 0 with | some i => eRefB s i | none => s.tns.eref
    let b := addPs er (eLoopOf s + ceilNatQ (absQ (dremNow s)) + eCoast s)
    if s.bit Reg.SEL_STAT_DISAGREE then maxBound b (addPs s.sel.others (eLoopOf s + eCoast s)) else b
  else
    let b := addPs s.tns.b0 (eHoldNow s)
    match s.tns.dj with
    | some (i, d) => maxBound b (addPs (eRefB s i) (ceilNatQ (absQ d)))
    | none => b

/-- The core bound that is published: not bounded since a loss of the reference clock (R19). -/
def coreBound (s : State) : Option Nat := if s.tb.unbounded then none else realBound s

/-- HOLDOVER becomes LOST when the core bound exceeds G_lim (R43); a bound that is "not bounded" is larger than any (R45). -/
def lostCheck (s : State) : State :=
  let beyond : Bool := match realBound s with | some b => decide (s.get Reg.TNS_GLIM_G_LIM * 1000 < b) | none => true
  if tsState s = 3 && beyond then setTsState s 4 8 else s

/-- Entry to HOLDOVER at this publication, with its steering (R177, R178); with a bound already beyond G_lim, LOST follows. -/
def enterHoldover (s : State) : State :=
  let t := s.tns.lastMeas.getD s.freeNs
  let te := meanTemp s t (s.get Reg.TNS_HO_CFG_HO_AVG)
  let h : Hold := ⟨holdYe s t, te, holdTemp s te, 0, 0, false, uyOf s + modUm s, 0, 0⟩
  lostCheck (holdSteer (setTsState (s.setTns (fun n => { n with hold := some h, lockN := 0 })) 3 5))

/-- AGE in 1/16 s. -/
def ageOf (s : State) : Nat :=
  if tsState s = 0 then 2 ^ 32 - 1
  else match s.tns.lastMeas with
    | some t => satU 32 ((s.freeNs - t) * 16 / 1000000000)
    | none => 2 ^ 32 - 1

/-- SRC and TRACE of the core Gloss. -/
def glossSrcOf (s : State) : Nat × Nat := if tsState s = 0 then (31, 0) else (s.tns.src, s.tns.trace)

/-- The word a Tense core composes now. -/
def composeWord (s : State) : Nat :=
  let (i, t) := glossSrcOf s
  glossWord (coreBound s) i (tsState s) t (s.bit Reg.TNS_STAT_SLEW) (leapPending s) (s.bit Reg.TNS_STAT_JREF)
    (pairAgreed s) (ageOf s)

/-- The cause of a GLOSS_CHANGE between two words (R54); 0 for none. -/
def changeCause (old new : Nat) (stepped : Bool) : Nat :=
  if glossState old != glossState new then 1
  else if glossSrc old != glossSrc new then 2
  else if glossTrace old != glossTrace new then 3
  else if glossFlags old != glossFlags new then 4
  else if stepped then 5 else 0

/-- The one of two publications with the larger bound, for GLOSS_TICK; of equal ones the earlier, whose AGE and flags the record
then carries (DESIGN CHOICE, log 69: R54 names the bound alone). -/
def largerPub (a : Option Pub) (b : Pub) : Option Pub :=
  match a with
  | none => some b
  | some a => match encodedBound a.word, encodedBound b.word with
    | none, _ => some a
    | _, none => some b
    | some x, some y => if x < y then some b else some a

/-- Publish the core Gloss `w` of exact bound `b` (R44, R45): retained for pairing, journalled when it changes. The spec gives no
number of publications retained: the latest 16 are (DESIGN CHOICE, log 66). -/
def publishWord (s : State) (w : Nat) (b : Option Nat) : State :=
  let old := match s.tns.pubs with | p :: _ => p.word | [] => 0x0000F800FFFFFFFF
  let cause := changeCause old w s.tns.stepped
  let p : Pub := ⟨s.freeNs, s.tbU, w, b⟩
  let s := s.setTns (fun n => { n with
    pubs := (p :: n.pubs).take 16, tick := largerPub n.tick p, stepped := false, stale := false })
  let s := if s.bit Reg.CNJ_STAT_AGREED = pairAgreed s then s else
      (s.putB Reg.CNJ_STAT_AGREED (pairAgreed s)).publish Reg.CNJ_STAT_VALID Reg.CNJ_STAT_SEQ
  let s := if glossState old != glossState w || glossSrc old != glossSrc w || glossTrace old != glossTrace w then s.fire 67 else s
  if cause = 0 then s else s.journal 0 0x0008 0x0201 (leBytes 8 w ++ leBytes 1 cause)

/-- The Gloss's TRACE follows the class in use of the reference named (R41, R48). -/
def showTrace (s : State) : State :=
  match current s 0 with
  | some i => if tsState s = 0 || s.tns.src != i then s else s.setTns (fun n => { n with trace := traceOf s i })
  | none => s

/-- A publication within 1 µs of a change of STATE, SRC, TRACE or FLAGS, or of a step (R44), between millisecond instants. Both
cores compose it; the operands of the row give TC1's word at the millisecond instants alone, so here it is TC0's (DESIGN CHOICE,
log 70). -/
def publishChange (s : State) : State :=
  if !s.tbLive || !tenseMode s || (bitOf s.sys.engReset 16 && bitOf s.sys.engReset 17) then s
  else
    let s := lostCheck (showTrace s)
    let old := match s.tns.pubs with | p :: _ => p.word | [] => 0x0000F800FFFFFFFF
    let w := composeWord s
    if changeCause old w s.tns.stepped = 0 then s
    else publishWord (if selRuns s then check s 0x07 false else s) (if selRuns s then mergeGloss w w else w) (coreBound s)

/-- Refresh the snapshot registers (R56), TAI_UTC and the armed leap among them. -/
def snapshotTb (s : State) (w : Nat) : State :=
  let u := s.tbU
  let s := ((s.put Reg.TNS_TBS_NS_NS (tbNs u)).put Reg.TNS_TBS_SECL_SEC (tbSec u)).put Reg.TNS_TBS_SECH_FRAC (tbFrac u)
  let s := ((s.put Reg.TNS_TBS_SECH_SEC (tbSec u / 2 ^ 32)).put Reg.TNS_TBS_CSEQ_CSEQ s.jr.cseq).putPair
    Reg.TNS_TBS_GLSL_GLOSS Reg.TNS_TBS_GLSH_GLOSS w
  (showUtc s).publish Reg.TNS_TBS_STAT_VALID Reg.TNS_TBS_STAT_SEQ

/-! ### The Tense part of a publication -/

/-- The fresh valid measurement of reference i that this publication consumes: its φ in ps, and when it holds. -/
def freshPhi (s : State) (i : Nat) : Option (Rat × Nat) :=
  let m := s.sel.meas.get (fun _ => Meas.zero) i
  if m.fresh then m.phi.map (fun p => (psOf p, m.freeAt)) else none

/-- FREE_RUN (R169): a named SRC starts ACQUIRING. -/
def stepFreeRun (s : State) : State :=
  let (s, pick, reason) := choose s 0
  match pick.filter (fun i => isCand s 0 i) with
  | none => s
  | some i =>
    let s := nameRef s 0 (some i) reason
    setTsState (takeSrc ((restartLoop s).setTns (fun n => { n with timeSet := false })) i) 1 1

/-- The ACQUIRING rows of R169 for SRC i: time is set or stepped, or the loop runs until it is in lock. -/
def acquireOn (s : State) (i : Nat) (fresh : Nat → Option (Rat × Nat)) : State :=
  match fresh i with
  | none => s
  | some (phi, t) =>
    if !s.tns.timeSet || thetaJump s < absQ phi then
      let first := !s.tns.timeSet
      let amount := -roundQ (phi * 65536 / 1000)
      let s := s.setTns (fun n => { n with timeSet := true, lockN := 0, lastMeas := some t, delta := phi })
      let s := stepBase s amount 0 first
      let s := markValid (s.setTns (fun n => { n with delta := 0 })) i
      setTsState s 1 2
    else
      let s := markValid (loopUpdate s phi t) i
      let ph : Rat := ((s.get Reg.TNS_LOCK_LOCK_PH * 1000 : Nat) : Rat)
      let good := absQ (phiRes s) ≤ ph && sigSq s ≤ ph * ph &&
        uyOf s ≤ unitF (s.get Reg.TNS_LOCKFR_LOCK_FR) 15
      let s := s.setTns (fun n => { n with lockN := if good then n.lockN + 1 else 0 })
      if s.get Reg.TNS_LOCK_LOCK_N ≤ s.tns.lockN then setTsState s 2 3 else s

/-- LOCKED to SRC i: the loop takes its measurement in. -/
def lockedOn (s : State) (i : Nat) (fresh : Nat → Option (Rat × Nat)) : State :=
  match fresh i with
  | some (phi, t) => markValid (loopUpdate s phi t) i
  | none => s

/-- ACQUIRING (R169). -/
def stepAcquiring (s : State) (fresh : Nat → Option (Rat × Nat)) : State :=
  let cur := current s 0
  let (s, pick, reason) := choose s 0
  match pick.filter (fun i => isCand s 0 i) with
  | none =>
    let s := nameRef s 0 none reason
    if s.tns.timeSet then enterHoldover s else setTsState s 0 4
  | some i =>
    let s := nameRef s 0 (some i) reason
    let s := if cur = some i then s else (takeSrc s i).setTns (fun n => { n with lockN := 0 })
    acquireOn s i fresh

/-- LOCKED (R151, R152, R169): a switch is made by build-out; the loss of SRC without a candidate within θ_jump is HOLDOVER. -/
def stepLocked (s : State) (fresh : Nat → Option (Rat × Nat)) : State :=
  let cur := current s 0
  let s := selectLocked s
  match current s 0 with
  | none => enterHoldover s
  | some i =>
    if cur = some i then lockedOn s i fresh
    else takeSrc (setDrem (s.setTns (fun n => { n with phi := 0 })) (deltaOf s i)) i

/-- HOLDOVER and LOST after the evaluation of returning references: steering, and LOST when B exceeds G_lim (R43). -/
def holdOn (s : State) : State := if tsState s = 2 then s else lostCheck (holdSteer s)

/-- The time-scale state machine of R169 with selection, at a publication instant. -/
def stepSelecting (s : State) (fresh : Nat → Option (Rat × Nat)) : State :=
  let st := tsState s
  selectFreq (if st = 0 then stepFreeRun s else if st = 1 then stepAcquiring s fresh
    else if st = 2 then stepLocked s fresh else holdOn (evalReturn s))

/-- The same with the last selection kept: a Tense core is in reset (R162), or the two cores select differently (R150). -/
def stepKeeping (s : State) (fresh : Nat → Option (Rat × Nat)) : State :=
  let st := tsState s
  if st = 3 || st = 4 then holdOn (followJump s)
  else match current s 0 with
    | some i => if st = 1 then acquireOn s i fresh else if st = 2 then lockedOn s i fresh else s
    | none => s

/-- The time source of R192 for a TRACE while LOCKED, but for TRACE 5. -/
def lockedTimeSource (t : Nat) : Nat :=
  if t = 1 || t = 2 then 0x20 else if t = 6 then 0x39 else if t = 3 || t = 4 then 0x40 else if t = 7 then 0x60 else 0xA0

/-- The timeSource of the peer's latest STATE frame. -/
def peerSource (s : State) : Nat := (s.cnj.peer.map (fun p => p.tsrc)).getD 0xA0

/-- A millisecond of y_st counts towards the EFC interval while LOCKED with SLEW clear (R195). -/
def efcTick (s : State) : State :=
  if s.get Reg.TNS_CFG_EFC_MODE = 1 && tsState s = 2 && !s.bit Reg.TNS_STAT_SLEW then
    s.setTns (fun n => { n with efcNs := n.efcNs + 1000000, efcSum := n.efcSum + n.yst })
  else s

/-- What an EFC frame that has ended takes off y_st, applied at this publication (R164, R195). -/
def applyEfc (s : State) : State :=
  let d := s.tns.efcPend
  if d = 0 then s else s.setTns (fun n => { n with fc := n.fc - d, yst := n.yst - d, efcPend := 0 })

/-- A second in which SLEW is set gives no learning sample (R173). -/
def noteSlew (s : State) : State :=
  if s.bit Reg.TNS_STAT_SLEW then s.setTns (fun n => { n with learn := { n.learn with skipS := true } }) else s

/-- Measurements, monitors and states of the references at a publication instant (R132, R135). -/
def evalRefs (s : State) : State :=
  let s := [20, 21, 22, 23, 24, 25, 26, 27].foldl netComponents s
  let s := (List.range 8).foldl esmcExpire s
  let s := ((List.range 32).filter (fun i => present s i && refState s i != 0)).foldl evalMonitors s
  let s := (List.range 32).foldl evalState s
  { s with sel := { s.sel with dq := [] } }

/-- What follows the selection of a publication: the bound of R148, the maps, the slew, the results shown. -/
def concludeStep (s : State) : State :=
  let s := showTrace { s with sel := { s.sel with others := othersBound s } }
  let s := (s.put Reg.SEL_QUAL_QUAL ((List.range 32).foldl (fun m i => setBit m i (isQual s i)) 0)).put Reg.SEL_STAT_VALID 1
  let s := (noteSlew (slewStep s)).putSatU Reg.TNS_EHOLD_E_HOLD (eHoldNow s)
  let s := s.put Reg.TNS_STAT_VALID 1
  if tsState s = 2 then
    s.setTns (fun n => { n with timeSource := some (if n.trace = 5 then peerSource s else lockedTimeSource n.trace) })
  else s

/-- GLOSS_TICK at a second boundary: the largest bound published in the second that ends here (R54). -/
def secondTick (s : State) : State :=
  if !s.atSec then s
  else
    let s := if s.bit Reg.TNS_GLS_CFG_TICK_EN then
        s.journal 0 0x0008 0x0202 (leBytes 8 ((s.tns.tick.map (fun p => p.word)).getD s.coreWord))
      else s
    s.setTns (fun n => { n with tick := none })

/-- Everything the Tense cores do at one millisecond publication instant, with what TC1 composes where it differs
(`tc1`: its Gloss word; `steer`: its FST differs by more than 1 LSB; `other`: its selection differs). -/
def publication (s : State) (tc1 : Option Nat) (steer other : Bool) : State :=
  let run := selRuns s
  let s := applyEfc (efcTick (noteSlew (s.setTns (fun n => { n with doneAt := some s.freeNs }))))
  let s := match s.tns.host with
    | some m => (s.feed 30 m).setTns (fun n => { n with host := none })
    | none => s
  let frs : List (Nat × (Rat × Nat)) := (List.range 32).filterMap (fun i => (freshPhi s i).map (fun p => (i, p)))
  let fresh (i : Nat) : Option (Rat × Nat) := (frs.find? (fun p => p.1 = i)).map (fun p => p.2)
  let s := (List.range 32).foldl consume s
  let s := if run then evalRefs s else s
  let s := slewArrive s
  let s := if run then check s 0x09 other else s
  let s := if run && other then s.setFlag Flag.SEL_MISMATCH else s
  let s := concludeStep (if run && !other then stepSelecting s fresh else stepKeeping s fresh)
  let w0 := composeWord s
  let w1 := tc1.getD w0
  let w := if run then mergeGloss w0 w1 else w0
  let b := match tc1 with
    | some w1 => if run then maxBound (coreBound s) (encodedBound w1) else coreBound s
    | none => coreBound s
  let s := if run then check (check s 0x07 (w0 != w1)) 0x08 steer else s
  snapshotTb (publishWord (secondTick s) w b) w

/-- Both Tense cores are in reset. -/
def bothTcReset (s : State) : Bool := bitOf s.sys.engReset 16 && bitOf s.sys.engReset 17

/-- Selection is run again at the publication instant, when this millisecond's publication is over; else that one runs it (R133,
R149). -/
def reselect (s : State) : State :=
  if s.tns.doneAt = some s.freeNs && selRuns s then
    publishChange (concludeStep (stepSelecting (slewArrive s) (fun _ => none)))
  else s

/-! ### GLOSS_STALE (R201) -/

/-- The row GLOSS_STALE: both cores in reset, and no core Gloss published for H_g. Values stamped after the last publication + H_g
pair with its word with BMAN and BEXP 0, which stands as one more retained publication from there on. -/
def execGlossStale (s : State) : Out := .next <|
  match s.tns.pubs with
  | p :: _ =>
    if bothTcReset s && p.freeAt + hG ≤ s.freeNs && !s.tns.stale then
      let q : Pub := { p.open with freeAt := p.freeAt + hG, stampU := p.stampU + hG * 65536 + 1 }
      (s.setFlag Flag.TNS_GLOSS_STALE).setTns (fun n => { n with pubs := (q :: n.pubs).take 16, stale := true })
    else s
  | [] => s

end Sys2Proof.Machine
end

