-- ==== Sys2Proof/Machine/Auth.lean ====
section
/-!
DEFINITION. The authentication unit's own commands (R365, R368–R372, R377, R383–R389): reseeding, expiry, installation, rotation, rekeying and
the query window.
-/

namespace Sys2Proof.Machine

/-- Publish SAT_STAT when something in it has changed. -/
def satPublish (s s' : State) : State := if s'.regs = s.regs then s' else s'.publish Reg.SAT_STAT_VALID Reg.SAT_STAT_SEQ

/-- Journal SAT_CHANGE (R389): op 0 write, 1 delete, 2 expired, 3 invalidated by ECC. -/
def satChange (s : State) (i o : Nat) (e : SatEntry) : State :=
  s.journal (if o = 3 then 2 else 0) 0x0012 0x1201
    (leBytes 2 i ++ leBytes 1 o ++ leBytes 1 e.type ++ leBytes 4 e.keyId ++ leBytes 3 (kcvOf e.key))

/-- The DRBG is reseeded, with what its health tests find (R365); it runs in domain CY. -/
def reseed (s : State) (healthy : Bool) : State :=
  let s := { s with auth := { s.auth with seededAt := s.freeNs } }
  let s' := satPublish s (s.putB Reg.SAT_STAT_DRBG_OK healthy)
  let s' := check s' 0x0E (!healthy)
  if healthy then s' else (s'.setFlag Flag.SAT_DRBG_FAIL).journal 2 0x0012 0x1203 (leBytes 1 3 ++ leBytes 2 0)

/-- The row DRBG_RESEED: every second. -/
def execDrbgReseed (healthy : Bool) (s : State) : Out := .next <|
  if !s.atSec || !cyRuns s || s.mode = .boot || s.mode = .test then s else reseed s healthy

/-- The row SAT_EXPIRY: at a second boundary at or after its NOT_AFTER entry i becomes invalid, or, while CURRENT, sets EXP_HELD once. -/
def execSatExpiry (i : Fin 8192) (s : State) : Out := .next <|
  let e := s.sat i
  if !s.atSec || !e.valid || e.notAfter = 0 || s.tbU < s.expand (e.notAfter * 2 ^ 32) then s
  else if isCurrent s i then
    if e.held then s else (s.setSat i { e with held := true }).setFlag Flag.SAT_EXP_HELD
  else satChange ((s.setSat i { e with valid := false, held := false }).setFlag Flag.SAT_EXPIRED) i 2 e

/-- An uncorrectable error in entry i (R371). A target that named it has no CURRENT entry any more (DEDUCED, log 87). -/
def satEntryFault (s : State) (i : Nat) : State :=
  let e := s.sat i
  let s := if e.valid then satChange (s.setSat i { e with valid := false }) i 3 e else s
  let s := satTargets.foldl (fun s t => if s.bit (curFields t).1 && s.get (curFields t).2 = i then s.putB (curFields t).1 false else s) s
  check (s.setFlag Flag.SAT_ECC) 0x18 true

/-! ### Installation (R368, R383) -/

/-- Byte k of an image. -/
def imgByte (im : List Byte) (k : Nat) : Nat := (im.getD k 0).toNat

/-- A valid 48-byte image. -/
def satImageOk (im : List Byte) : Bool :=
  let i := leNat im 0 2
  let o := imgByte im 2
  let ty := imgByte im 3
  let fl := imgByte im 9
  i < 8192 && im.length = 48 &&
    (if o = 1 then (im.drop 3).all (fun b => b.toNat = 0)
     else o = 0 && 1 ≤ ty && ty ≤ 4 && leNat im 4 4 % 8192 = i && leNat im 10 2 = 0 &&
       (if ty ≤ 2 then imgByte im 8 = 0 && fl = 0 else fl = 1 || fl = 2 || fl = 3))

/-- The entry a WRITE image installs. -/
def satEntryOf (im : List Byte) : SatEntry :=
  { valid := true, type := imgByte im 3, keyId := leNat im 4 4, spp := imgByte im 8, flags := imgByte im 9, notAfter := leNat im 12 4,
    key := (im.drop 16).take 32, held := false }

/-- Install a valid image; the entry written, or the one deleted. -/
def installImage (s : State) (im : List Byte) : State :=
  let i := leNat im 0 2
  let s' := if imgByte im 2 = 1 then satChange (s.setSat i SatEntry.zero) i 1 (s.sat i)
    else satChange (s.setSat i (satEntryOf im)) i 0 (satEntryOf im)
  s'.publish Reg.SAT_STAT_VALID Reg.SAT_STAT_SEQ

/-- The KCV an installation returns: 0 for DELETE. -/
def imageKcv (im : List Byte) : Nat := if imgByte im 2 = 1 then 0 else kcvOf ((im.drop 16).take 32)

/-- SAT_INSTALL. -/
def satInstallOp : OpSpec where
  opcode := 0x02A0
  check _ d := if !satImageOk d.op || d.past = 2 then St.invalid else 0
  due s _ := s.atMs
  apply s w :=
    if isCurrent s (leNat w.d.op 0 2) then refuseDesc s w St.protect
    else finishDesc (installImage s w.d.op) w St.ok (leBytes 3 (imageKcv w.d.op))
  periodic := false

/-- The row SAT_INSTALL. -/
def execSatInstall (d : Desc) (s : State) : Out := .next (submit satInstallOp s d)

/-- The row SAT_INST_GO: in SETUP the image in the data registers is installed, or ERR is set; the data registers are cleared. -/
def execSatInstGo (s : State) : Out := .next <|
  if s.mode != .setup then s
  else
    let im := (List.range 12).flatMap (fun k => leBytes 4 (s.get (Reg.SAT_INST_DATA_DATA k)))
    let s := (List.range 12).foldl (fun s k => s.put (Reg.SAT_INST_DATA_DATA k) 0) s
    if satImageOk im && !isCurrent s (leNat im 0 2) then installImage (s.putB Reg.SAT_INST_CTL_ERR false) im
    else s.putB Reg.SAT_INST_CTL_ERR true

/-- The row SAT_QRY_GO: the attributes and the KCV of entry i (R372). -/
def execSatQryGo (i : Fin 8192) (s : State) : Out := .next <|
  let e := s.sat i
  let s := (s.put Reg.SAT_QRY_ADDR_INDEX i).putB Reg.SAT_QRY_ADDR_ERR false
  let s := (s.putB Reg.SAT_QRY_DATA0_VALID e.valid).putB Reg.SAT_QRY_DATA0_CURRENT (isCurrent s i)
  let s := ((s.put Reg.SAT_QRY_DATA0_SPP e.spp).put Reg.SAT_QRY_DATA0_FLAGS e.flags).put Reg.SAT_QRY_DATA0_TYPE e.type
  let s := (s.put Reg.SAT_QRY_DATA1_KEY_ID e.keyId).put Reg.SAT_QRY_DATA2_NOT_AFTER e.notAfter
  s.put Reg.SAT_QRY_DATA3_KCV (if e.key.isEmpty then 0 else kcvOf e.key)

/-! ### Rotation (R377, R384) -/

/-- A register write to a SAT_CUR register that names an entry that does not meet R377 stores V = 0. -/
def normCur (s : State) : State :=
  satTargets.foldl (fun s t =>
    let f := curFields t
    if s.bit f.1 && !meetsTarget s t (s.get f.2) then s.putB f.1 false else s) s

/-- SAT_ROTATE's operand is in range. -/
def rotateOk (d : Desc) : Bool :=
  let t := d.u8 16
  (t ≤ 1 || (16 ≤ t && t ≤ 79)) && d.u8 17 = 0 && d.zero 20 63 && (d.u16 18 = 0xFFFF || d.u16 18 < 8192)

/-- SAT_ROTATE. -/
def satRotateOp : OpSpec where
  opcode := 0x02A1
  check _ d := if !rotateOk d || d.past = 2 then St.invalid else 0
  due s _ := s.atMs
  apply s w :=
    let t := w.d.u8 16
    let i := w.d.u16 18
    let f := curFields t
    let old := if s.bit f.1 then s.get f.2 else 0xFFFF
    if i != 0xFFFF && !meetsTarget s t i then refuseDesc s w St.invalid
    else
      let s := if i = 0xFFFF then s.putB f.1 false else (s.putB f.1 true).put f.2 i
      let s := s.journal 0 0x0012 0x1202 (leBytes 1 t ++ leBytes 1 0 ++ leBytes 2 i ++ leBytes 2 old)
      finishDesc s w St.ok (leBytes 2 old)
  periodic := false

/-- The row SAT_ROTATE. -/
def execSatRotate (d : Desc) (s : State) : Out := .next (submit satRotateOp s d)

/-! ### Rekeying (R385, R386) -/

/-- Show REKEY_RUN and REKEY_SUSP. -/
def showRekey (s : State) : State :=
  let s' := match longOp s 0x02A2 0 with
    | some l => (s.putB Reg.SAT_STAT_REKEY_RUN (!l.suspended)).putB Reg.SAT_STAT_REKEY_SUSP l.suspended
    | none => (s.putB Reg.SAT_STAT_REKEY_RUN false).putB Reg.SAT_STAT_REKEY_SUSP false
  satPublish s s'

/-- SAT_REKEY. -/
def satRekeyOp : OpSpec where
  opcode := 0x02A2
  check _ d :=
    if d.u64 16 % 64 != 0 || d.u32 24 = 0 || 8192 < d.u32 24 || !d.zero 28 63 || d.past = 2 then St.invalid else 0
  due _ _ := true
  apply s w :=
    if (longOp s 0x02A2 0).isSome then refuseDesc s w St.busy
    else showRekey { startLong s w 0 with auth := { s.auth with rekey := some ⟨0, 0, 0⟩ } }
  periodic := false

/-- The row SAT_REKEY. -/
def execSatRekey (d : Desc) (s : State) : Out := .next (submit satRekeyOp s d)

/-- A rekey ends with a status: REKEY_DONE is journalled and the operation completes with the records applied and skipped. -/
def endRekey (s : State) (l : LongOp) (status : Nat) : State :=
  let k := s.auth.rekey.getD ⟨0, 0, 0⟩
  let s := { s with auth := { s.auth with rekey := none } }
  let s := s.journal 0 0x0012 0x1204 (leBytes 2 status ++ leBytes 2 0 ++ leBytes 4 k.applied ++ leBytes 4 k.skipped)
  showRekey (endLong s l status (leBytes 4 k.applied ++ leBytes 4 k.skipped))

/-- A rekey is suspended: it completes with SUSPENDED, and MORE set, with its counts (R386). -/
def suspendRekey (s : State) (l : LongOp) : State :=
  let k := s.auth.rekey.getD ⟨0, 0, 0⟩
  let s := updateLong s { l with suspended := true, suspReq := false }
  showRekey (completeDesc s l.d St.suspended true l.applied (leBytes 4 k.applied ++ leBytes 4 k.skipped))

/-- One record of a rekey: applied, or skipped where SAT_INSTALL would refuse it. -/
def rekeyRecord (s : State) (k : Rekey) (r : List Byte) : State :=
  let im := r.take 48
  let ok : Bool := r.length = 64 && satImageOk im && (r.drop 48).all (fun b => b.toNat = 0) && !isCurrent s (leNat im 0 2)
  let s := if ok then installImage s im else s
  { s with auth := { s.auth with rekey := some ⟨k.next + 1, k.applied + b2n ok, k.skipped + b2n (!ok)⟩ } }

/-- The row SAT_REKEY_RECORD: the next record `r` (64 bytes) arrives by DMA. A suspension or cancellation asked for takes effect after
it. -/
def execSatRekeyRecord (r : List Byte) (s : State) : Out := .next <|
  match longOp s 0x02A2 0, s.auth.rekey with
  | some l, some k =>
    if l.suspended || !s.dmaOk then s
    else
      let s := rekeyRecord s k r
      let k := s.auth.rekey.getD k
      if l.cancelReq then endRekey s l St.cancelled
      else if l.d.u32 24 ≤ k.next then endRekey s l (if k.skipped = 0 then St.ok else St.partialDone)
      else if l.suspReq then suspendRekey s l else s
  | _, _ => s

/-- The table, the sequence key and the image registers are overwritten with zeros (R388). -/
def zeroise (s : State) : State :=
  let s := { s with auth := ⟨[], none, 0⟩ }
  let s := (s.put Reg.SAT_USED_USED 0).putB Reg.SAT_STAT_DRBG_OK false
  let s := satTargets.foldl (fun s t => s.putB (curFields t).1 false) s
  let s := { s with cla := { s.cla with seqKey := none } }
  (List.range 12).foldl (fun s k => s.put (Reg.SAT_INST_DATA_DATA k) 0) (s.putB Reg.CLA_STAT_KEY_V false)

end Sys2Proof.Machine
end

