-- ==== Sys2Proof/Machine/TenseCmd.lean ====
section
/-!
DEFINITION. The Tense unit's learning, oscillator control, temperature sensor and host commands
(spec/05_tense_holdover.md, R172–R176, R185–R188, R194–R201).
-/

namespace Sys2Proof.Machine

/-- What a change between two publications needs: one within 1 µs (R44). At a millisecond instant whose publication is still
to come, that one shows it. -/
def settle (s : State) : State :=
  if !s.atMs || s.tns.doneAt = some s.freeNs then publishChange s else s

/-- A publication instant whose publication is still to come: a command of this chapter or of selection that is due then is applied
ahead of it (R186, R199). -/
def atPub (s : State) : Bool := s.atMs && s.tns.doneAt != some s.freeNs

/-! ### Leap seconds (R29, R190) -/

/-- The row LEAP_APPLIED. -/
def execLeapApplied (s : State) : Out := .next (settle (leapApplied s))

/-- The row LEAP_ARMED. -/
def execLeapArmed (s : State) : Out := .next (settle (leapDue s))

/-! ### Hold-offs of references and wait-to-restore (R132–R136, R149) -/

/-- The state of reference i is evaluated at a publication instant, and selection with it (R133). -/
def evalOne (s : State) (i : Nat) : State := reselect (evalState s i)

/-- The row QUAL_HOLDOFF_EXPIRY for reference i, at a publication instant. -/
def execQualHoldoffExpiry (i : Fin 32) (s : State) : Out := .next <|
  if tenseMode s && s.atMs && selRuns s && refState s i = 2 && holdDue s i then evalOne s i else s

/-- The row DQ_HOLDOFF_EXPIRY for reference i. -/
def execDqHoldoffExpiry (i : Fin 32) (s : State) : Out := .next <|
  if tenseMode s && s.atMs && selRuns s && isQual s i && (dqDue s i).isSome then evalOne s i else s

/-- The row REF_LOS_TIMEOUT for a GNSS, network or host reference. -/
def execRefLosTimeout (i : Fin 32) (s : State) : Out := .next <|
  if tenseMode s && s.atMs && selRuns s && ((16 ≤ i.val && i.val ≤ 18) || (20 ≤ i.val && i.val ≤ 27) || i.val = 30) && losDue s i then
    evalOne (if 20 ≤ i.val && i.val ≤ 27 then netComponents s i else s) i
  else s

/-- The row WAIT_TO_RESTORE: at a publication instant a better candidate's wait has run, and selection is run (R149). -/
def execWaitToRestore (s : State) : Out := .next <|
  if s.atMs && tenseMode s && selRuns s && tsState s = 2 then
    match current s 0 with
    | some c => if (restored s (cands s 0) c).isEmpty then s else reselect s
    | none => s
  else s

/-! ### SEL_SET and SEL_FORCE (R157–R159) -/

/-- Entry registers in the order of SEL_SET's MASK. -/
def entAddrs (i : Nat) : List Nat := (List.range 11).map (fun k => 0x071000 + 0x80 * i + 4 * k)

/-- The registers SEL_SET's MASK selects, for an entry or globally. -/
def selAddrs (r : Nat) : List Nat := if r = 255 then [0x070000, 0x070004] else entAddrs r

/-- The values of a masked descriptor stored into the registers `l`, in the order of the MASK bits: `mask` from byte
`mb`, values from byte 20, 4 bytes each. -/
def storeMasked (s : State) (d : Desc) (mask : Nat) (l : List Nat) : State :=
  (l.zipIdx).foldl (fun s p => if bitOf mask p.2 then s.storeWord p.1 (maskedValue d mask p.2) else s) s

/-- The registers after SEL_SET's values are stored. -/
def selStore (s : State) (d : Desc) : State := storeMasked s d (d.u16 18) (selAddrs (d.u8 16))

/-- SEL_SET (R157, R158). -/
def selSetOp : OpSpec where
  opcode := 0x0230
  check _ d :=
    let r := d.u8 16
    let lim := if r = 255 then 4 else 2048
    if (31 < r && r != 255) || 2 ≤ d.u8 17 || lim ≤ d.u16 18 || d.past = 2 || strayValue d (d.u16 18) (selAddrs r) then St.invalid else 0
  due s _ := atPub s
  apply s w :=
    let r := w.d.u8 16
    let s' := selStore s w.d
    let changes := r != 255 && [Reg.ENT_CFG_EN r, Reg.ENT_CFG_TRACE r, Reg.ENT_NET_NETMODE r].any (fun f => s.get f != s'.get f)
    let force := bitOf (w.d.u8 17) 0
    if changes && isNamed s r && !force then refuseDesc s w St.protect
    else
      let s := if changes && isNamed s r then { s' with sel := { s'.sel with dq := s'.sel.dq ++ [(r, 9)] } } else s'
      finishDesc s w St.ok []
  periodic := false

/-- The row SEL_SET. -/
def execSelSet (d : Desc) (s : State) : Out := .next (submit selSetOp s d)

/-- SEL_FORCE (R159). -/
def selForceOp : OpSpec where
  opcode := 0x0231
  check _ d :=
    let a := d.u8 16
    if 3 < a || 31 < d.u8 17 || 1 < d.u8 18 || !d.zero 19 63 || d.past = 2 then St.invalid
    else if (a = 2 || a = 3) && (d.u8 17 = 19 || d.u8 17 = 31) then St.invalid else 0
  due s _ := atPub s
  apply s w :=
    let a := w.d.u8 16
    let r := w.d.u8 17
    let t := w.d.u8 18
    if a = 0 then
      let s := setForced s t none
      finishDesc s w St.ok []
    else if a = 1 then
      (if !isCand s t r then refuseDesc s w St.invalid
       else if t = 0 && s.get Reg.TNS_STAT_STATE = 2 && current s 0 != some r && !withinJump s r then
         refuseDesc s w St.refusedBound
       else finishDesc (setForced s t (some r)) w St.ok [])
    else if a = 2 then finishDesc (s.putMapBit Reg.SEL_LOCK_LOCKOUT r true) w St.ok []
    else finishDesc (s.putMapBit Reg.SEL_LOCK_LOCKOUT r false) w St.ok []
  periodic := false

/-- The row SEL_FORCE. -/
def execSelForce (d : Desc) (s : State) : Out := .next (submit selForceOp s d)

/-! ### The model and learning (R172–R176) -/

/-- Update the learning state. -/
def setLearn (s : State) (f : Learn → Learn) : State := s.setTns (fun n => { n with learn := f n.learn })

/-- Install a model: MODEL, and HO_MODEL journalled (R175, R202). -/
def installModel (s : State) (model span : Nat) : State :=
  let s := (s.put Reg.TNS_STAT_MODEL model).put Reg.TNS_MOD_SPAN_SPAN span
  s.journal 0 0x0008 0x020C
    (leBytes 1 model ++ leBytes 3 0 ++ leBytes 4 (s.get Reg.TNS_MOD_SPAN_SPAN) ++ leBytes 4 (s.get Reg.TNS_MOD_UT_U_T))

/-- HOLDOVER_LEARN runs or is suspended. -/
def learnOp (s : State) : Option LongOp := longOp s 0x0244 0

/-- EFC code in force, as a steering in units of GAIN. -/
def efcGain (s : State) : Rat := unitF (s.getS Reg.TNS_EFC_GAIN_GAIN) 18

/-- Learning is done in this mode (R200: none in SETUP). -/
def learnMode (s : State) : Bool := tenseMode s && s.mode != .setup

/-- Samples are taken: LOCKED, and no HOLDOVER_LEARN suspended (R173, R176). -/
def learnRuns (s : State) : Bool :=
  learnMode s && tsState s = 2 && (match learnOp s with | some l => !l.suspended | none => true)

/-- A valid measurement of SRC arrived in the second now ending. -/
def srcArrived (s : State) : Bool :=
  match current s 0 with
  | some i => (match (s.ref i).measAt with | some t => s.freeNs < t + 1000000000 | none => false)
  | none => false

/-- One second of learning (R173): a sample, or none; a 60-second interval of at least 45 samples gives a mean. -/
def learnSecond (s : State) : State :=
  let l := s.tns.learn
  let fresh : Bool := l.secs = 0 && l.means.isEmpty
  let code := s.get Reg.TNS_EFC_STAT_CODE
  let l := if fresh then { l with code0 := code } else l
  let noTemp : Bool := s.bit Reg.TNS_CFG_TEMP_EN && !s.bit Reg.TNS_STAT_TEMP_OK
  let skip : Bool := l.skipS || s.bit Reg.TNS_STAT_SLEW || (s.bit Reg.TNS_CFG_TEMP_EN && l.skipT) || noTemp || !srcArrived s
  let smp : Rat := s.tns.yst + efcGain s * (((code : Int) - (l.code0 : Int) : Int) : Rat)
  let l := if skip then l else
    { l with n := l.n + 1, sumS := l.sumS + smp, sumT := l.sumT + s.getS Reg.TNS_TEMP_TEMP }
  let l := { l with skipS := s.bit Reg.TNS_STAT_SLEW, skipT := noTemp }
  let l := { l with secs := l.secs + 1, locked := l.locked + 1, sinceFit := l.sinceFit + 1, used := l.used.map (· + 1) }
  let keep := match l.used with | some _ => l.means.length + 1 | none => s.get Reg.TNS_HO_WIN_HO_WIN * 60
  let l := if l.secs < 60 then l
    else
      let m : Nat × Rat × Rat := (s.freeNs / 1000000000, l.sumS / ((l.n : Nat) : Rat), (l.sumT : Rat) / ((l.n : Nat) : Rat))
      { l with n := 0, sumS := 0, sumT := 0, secs := 0, means := if l.n < 45 then l.means else (m :: l.means).take keep }
  setLearn s (fun _ => l)

/-- The point of HOLDOVER_LEARN, a second boundary, at which a requested suspension or cancellation takes effect
(R176, R417). -/
def learnPoint (s : State) : State :=
  match learnOp s with
  | some l =>
    let s1 := if l.cancelReq then setLearn s (fun _ => Learn.zero) else s
    (longPoint s1 l []).getD s
  | none => s

/-- The row LEARN_SAMPLE. -/
def execLearnSample (s : State) : Out := .next <|
  if !tenseMode s || !s.atSec || bothTcReset s then s
  else
    let s := learnPoint s
    let s := s.putB Reg.TNS_STAT_LEARN_RUN (learnRuns s)
    if learnRuns s then learnSecond s else s

/-- An uncertainty in its register units, never below 1/16 of its default (R174). -/
def floorU (u deflt : Nat) : Nat := max u (ceilDiv deflt 16)

/-- What a fit stores: τ, temperature terms as given, and the uncertainties (R174). -/
def storeFit (s : State) (t0 : Rat) (a k1 k2 um ua : Rat) (ut : Nat) : State :=
  let ts := s.tns.learn.means.map (fun m => m.2.2)
  let e21 : Rat := ((10 ^ 21 : Nat) : Rat)
  let e15 : Rat := ((10 ^ 15 : Nat) : Rat)
  let e18 : Rat := ((10 ^ 18 : Nat) : Rat)
  let k : Rat := ((kSig s * kSig s : Nat) : Rat)
  let s := ((s.putSat Reg.TNS_MOD_A_A (roundQ (a * e21))).putSat Reg.TNS_MOD_K1_K1 (roundQ (k1 * e15))).putSat
    Reg.TNS_MOD_K2_K2 (roundQ (k2 * e18))
  let s := ((s.putSat Reg.TNS_MOD_T0_T0 (roundQ t0)).putSat Reg.TNS_MOD_TRANGE_T_MIN (floorQ (ts.foldl min (ts.headD 0)))).putSat
    Reg.TNS_MOD_TRANGE_T_MAX (ceilQ (ts.foldl max (ts.headD 0)))
  ((s.putSatU Reg.TNS_MOD_UM_U_M (floorU (ceilSqrtQ (um * k * e15 * e15)) (s.get Reg.TNS_HO_DEF0_U_M_DEF))).putSatU
    Reg.TNS_MOD_UA_U_A (floorU (ceilSqrtQ (ua * k * e21 * e21)) (s.get Reg.TNS_HO_DEF1_U_A_DEF))).putSatU
    Reg.TNS_MOD_UT_U_T (floorU ut (s.get Reg.TNS_HO_DEF2_U_T_DEF))

/-- Take free values as the coefficients that a singular fit leaves open (log 4). -/
def freeFields (s : State) (fs : List Field) : State :=
  fs.foldl (fun s f => let (v, s) := s.freeVal; s.put f v) s

/-- Take free values as the uncertainties that a singular fit leaves open (log 4), never below 1/16 of their defaults (R174). -/
def freeFloors (s : State) (fs : List (Field × Field)) : State :=
  fs.foldl (fun s f => let (v, s) := s.freeVal; s.putSatU f.1 (floorU v (s.get f.2))) s

/-- Fit the model to the retained means (R174) and store it; with the largest residual in 10⁻¹⁵. A term the means do not
determine takes free values. -/
def fitModel (s : State) : State × Nat :=
  let means := s.tns.learn.means
  let tEnd : Nat := (means.headD (0, 0, 0)).1
  let t0 := meanQ (means.map (fun m => m.2.2))
  let tau (m : Nat × Rat × Rat) : Rat := -((tEnd - m.1 : Nat) : Rat)
  let dT (m : Nat × Rat × Rat) : Rat := (m.2.2 - t0) / 256
  let full := means.map (fun m => [1, tau m, dT m, dT m * dT m])
  let plain := means.map (fun m => [1, tau m])
  let ys := means.map (fun m => m.2.1)
  let endT := dT (means.headD (0, 0, 0))
  let worst (r : List Rat) : Nat := ceilNatQ ((r.map absQ).foldl max 0 * ((10 ^ 15 : Nat) : Rat))
  let ut (r : List Rat) : Nat := ceilNatQ ((r.map absQ).foldl max 0 * 9 / 8 * ((10 ^ 15 : Nat) : Rat))
  let var (r : List Rat) (p : Nat) : Rat := if r.length ≤ p then 0 else dotQ r r / ((r.length - p : Nat) : Rat)
  let useT := s.bit Reg.TNS_CFG_TEMP_EN
  match (if useT then fitQ full ys else none), fitQ plain ys with
  | some (b, inv, r), _ =>
    let v := var r 4
    (storeFit s t0 (b.getD 1 0) (b.getD 2 0) (b.getD 3 0) (v * quadQ inv [1, 0, endT, endT * endT])
      (v * (inv.getD 1 []).getD 1 0) (ut r), worst r)
  | none, some (b, inv, r) =>
    let v := var r 2
    let s := storeFit s t0 (b.getD 1 0) 0 0 (v * quadQ inv [1, 0]) (v * (inv.getD 1 []).getD 1 0) (ut r)
    (if useT then freeFields s [Reg.TNS_MOD_K1_K1, Reg.TNS_MOD_K2_K2] else s, worst r)
  | none, none =>
    let s := storeFit s t0 0 0 0 0 0 0
    let s := freeFields s ([Reg.TNS_MOD_A_A] ++ (if useT then [Reg.TNS_MOD_K1_K1, Reg.TNS_MOD_K2_K2] else []))
    let s := freeFloors s [(Reg.TNS_MOD_UM_U_M, Reg.TNS_HO_DEF0_U_M_DEF), (Reg.TNS_MOD_UA_U_A, Reg.TNS_HO_DEF1_U_A_DEF),
      (Reg.TNS_MOD_UT_U_T, Reg.TNS_HO_DEF2_U_T_DEF)]
    let (w, s) := s.freeVal
    (s, w % 2 ^ 32)

/-- The row ROLLING_FIT: every 3,600 s of LOCKED time, while no HOLDOVER_LEARN runs (R175). -/
def execRollingFit (s : State) : Out := .next <|
  let l := s.tns.learn
  if learnMode s && s.bit Reg.TNS_CFG_AUTO_LEARN && (learnOp s).isNone && tsState s = 2 && 3600 ≤ l.sinceFit then
    let s := setLearn s (fun l => { l with sinceFit := 0 })
    if s.get Reg.TNS_HO_WIN_HO_MIN * 60 ≤ l.means.length then
      installModel (fitModel s).1 1 (l.means.length * 60)
    else s
  else s

/-! ### Oscillator control (R194, R195) -/

/-- Width of the DAC's code. -/
def dacWidth (s : State) : Nat := 16 + 2 * s.get Reg.TNS_EFC_CFG_WIDTH

/-- The 24-bit frame that writes `code` (R194). -/
def efcWord (s : State) (code : Nat) : Nat :=
  s.get Reg.TNS_EFC_CFG_CMD * 2 ^ 20 + code * 2 ^ (20 - dacWidth s) % 2 ^ 20

/-- Duration of an SPI frame in ns: 24 bits of EFC_SCLK. -/
def efcFrameNs (s : State) : Nat := 24 * 40 * (s.get Reg.TNS_EFC_CFG_SCLK_DIV + 1)

/-- Write a code to the DAC, with `n` the change it makes: the frame begins now. -/
def startEfc (s : State) (code : Nat) (n : Int) : State :=
  let w := efcWord s code
  let e := s.freeNs + efcFrameNs s
  (s.put Reg.TNS_EFC_STAT_CODE code).setTns (fun t => { t with efcFrame := some (n, e), efcOut := w })

/-- The row EFC_CENTRING: at the end of EFC_INT LOCKED seconds. -/
def execEfcCentring (s : State) : Out := .next <|
  if !tenseMode s || bothTcReset s || s.get Reg.TNS_CFG_EFC_MODE != 1 || tsState s != 2 || s.tns.efcFrame.isSome
      || s.get Reg.TNS_EFC_CTL_EFC_INT = 0 || s.tns.efcNs < s.get Reg.TNS_EFC_CTL_EFC_INT * 1000000000 then s
  else
    let m := s.tns.efcSum * 1000000 / (s.tns.efcNs : Nat)
    let s := s.setTns (fun t => { t with efcNs := 0, efcSum := 0 })
    let g := efcGain s
    if g = 0 || absQ m ≤ unitF (s.get Reg.TNS_EFC_BAND_EFC_BAND) 15 then s
    else
      let st : Int := s.get Reg.TNS_EFC_CTL_EFC_STEP
      let n := clampI (-st) st (roundQ (m / g))
      let code : Int := s.get Reg.TNS_EFC_STAT_CODE
      let want := code + n
      let new := clampI (s.get Reg.TNS_EFC_MIN_MIN) (s.get Reg.TNS_EFC_MAX_MAX) want
      let s := s.flagIf (want != new) Flag.TNS_EFC_LIMIT
      if new = code then s else startEfc s new.toNat (new - code)

/-- The row EFC_FRAME_END: y_st is to be reduced by GAIN × n, in the next publication (R164, R195). -/
def execEfcFrameEnd (s : State) : Out := .next <|
  match s.tns.efcFrame with
  | some (n, e) =>
    if s.freeNs < e then s
    else
      let d := efcGain s * (n : Rat)
      s.setTns (fun t => { t with efcFrame := none, efcPend := t.efcPend + d })
  | none => s

/-- With EFC_MODE 1 or 2 in force, INIT is written once, on entry to SETUP (R194). -/
def efcInit (s : State) : State :=
  if s.get Reg.TNS_CFG_EFC_MODE = 0 then s else startEfc s (s.get Reg.TNS_EFC_CFG_INIT) 0

/-! ### Temperature (R196) -/

/-- The row TEMP_READ: once per second with TEMP_EN. The read writes POINTER to address ADDR. -/
def execTempRead (s : State) : Out := .next <|
  if tenseMode s && s.bit Reg.TNS_CFG_TEMP_EN && s.atSec then
    s.setTns (fun n => { n with tempAsk := some (s.get Reg.TNS_TSENS_ADDR, s.get Reg.TNS_TSENS_POINTER) })
  else s

/-- The sensor's two bytes as 1/256 °C. -/
def tempOf (s : State) (raw : Nat) : Int :=
  roundQ ((signed 16 raw : Rat) * 256 / ((2 ^ s.get Reg.TNS_TSENS_LSB_SH : Nat) : Rat))

/-- The last temperature that met the conditions of R177 is kept. -/
def noteTemp (s : State) : State :=
  if tempApplies s then s.setTns (fun n => { n with goodT := some (s.getS Reg.TNS_TEMP_TEMP) }) else s

/-- The row TEMP_READ_DONE: the value read, or none for a failed read (NACK or a stalled bus). -/
def execTempReadDone (raw : Option (BitVec 16)) (s : State) : Out := .next <|
  if s.tns.tempAsk.isNone then s
  else
    let s := s.setTns (fun n => { n with tempAsk := none })
    match raw with
    | some r =>
      let t := tempOf s r.toNat
      let s := s.putSat Reg.TNS_TEMP_TEMP t
      let held := s.getS Reg.TNS_TEMP_TEMP
      let s := s.setTns (fun n => { n with
        tempGood := n.tempGood + 1, temps := ((s.freeNs, held) :: n.temps).takeWhile (fun p => s.freeNs < p.1 + keepSecs * 1000000000) })
      if s.tns.tempGood = 3 then
        let bad := 3 ≤ s.tns.tempBad
        let s := (s.putB Reg.TNS_STAT_TEMP_OK true).setTns (fun n => { n with tempBad := 0 })
        noteTemp (if bad then s.journal 2 0x0008 0x020D (leBytes 1 0) else s)
      else noteTemp (if s.tns.tempBad < 3 then s.setTns (fun n => { n with tempBad := 0 }) else s)
    | none =>
      let s := s.setTns (fun n => { n with tempGood := 0, tempBad := n.tempBad + 1 })
      if s.tns.tempBad = 3 then
        let s := setLearn (s.putB Reg.TNS_STAT_TEMP_OK false) (fun l => { l with skipT := true })
        (s.setFlag Flag.TNS_TEMP_FAIL).journal 2 0x0008 0x020D (leBytes 1 1)
      else s

/-! ### Host commands (R185–R188, R197–R199) -/

/-- Complete a TNS_STEP with the step applied, in 2⁻¹⁶ ns. -/
def endStep (s : State) (w : Waiting) (amount : Int) : State :=
  settle (finishDesc s w St.ok (leBytes 8 (unsigned 64 amount)))

/-- TNS_STEP (R185, R186). -/
def tnsStepOp : OpSpec where
  opcode := 0x0240
  check _ d :=
    if 3 < d.u8 16 || !d.zero 17 23 || !d.zero 32 63 || d.past = 2 || (d.u8 16 != 0 && d.u64 24 != 0) then St.invalid else 0
  due s _ := atPub s
  apply s w :=
    let a := w.d.u8 16
    let st := tsState s
    if a = 0 then
      if s.tns.dj.isSome || st = 1 || st = 2 then refuseDesc s w St.protect
      else
        let amt := w.d.s64 24
        let s := stepBase s amt w.d.tag.toNat false
        let s := if st = 0 then s else
          s.setTns (fun n => { n with b0 := addPs n.b0 (ceilNatQ (((absN amt : Nat) : Rat) * 1000 / 65536)) })
        endStep s w amt
    else
      match s.tns.dj with
      | none => refuseDesc s w St.invalid
      | some (i, d) =>
        if a = 1 then
          let amt := -roundQ (d * 65536 / 1000)
          let s := stepBase s amt w.d.tag.toNat false
          endStep (acceptReturn s i 0 0 7 1) w amt
        else if a = 2 then endStep (acceptReturn s i d 0 7 2) w 0
        else endStep ((clearJump s 3).putMapBit Reg.SEL_LOCK_LOCKOUT i true) w 0
  periodic := false

/-- The row TNS_STEP. -/
def execTnsStep (d : Desc) (s : State) : Out := .next (submit tnsStepOp s d)

/-- TNS_HOST_TIME (R187). -/
def hostTimeOp : OpSpec where
  opcode := 0x0241
  check s d :=
    if d.timed || !d.zero 40 63 then St.invalid
    else
      let m := s.expand (d.u64 16)
      if s.nowU < m then St.invalid else if m + secU < s.nowU then St.late else 0
  due s _ := atPub s
  apply s w :=
    let m := s.expand (w.d.u64 16)
    let age := (s.tbU - m) / 65536
    let phi := roundQ ((w.d.s64 24 : Rat) / 128)
    let ms : Meas := ⟨true, s.freeNs - age, m, some phi, 0, 0, true, some (some (satPs (w.d.u64 32 + 1))), 0⟩
    finishDesc (s.setTns (fun n => { n with host := some ms })) w St.ok []
  periodic := false

/-- The row TNS_HOST_TIME. -/
def execTnsHostTime (d : Desc) (s : State) : Out := .next (submit hostTimeOp s d)

/-- TNS_UTC (R188). -/
def tnsUtcOp : OpSpec where
  opcode := 0x0242
  check _ d :=
    let a := d.u8 16
    if 2 < a || d.past = 2 || !d.zero 17 19 || !d.zero 23 23 || !d.zero 30 63 then St.invalid
    else if a != 0 && !d.zero 20 21 then St.invalid
    else if a != 1 && !(d.zero 22 22 && d.zero 24 29) then St.invalid
    else if a = 1 && d.u8 22 != 0x01 && d.u8 22 != 0xFF then St.invalid
    else 0
  due s _ := atPub s
  apply s w :=
    let a := w.d.u8 16
    if a = 0 then
      settle (finishDesc (setTai s (signed 16 (w.d.u16 20))) w St.ok [])
    else if a = 1 then
      let tl := w.d.u32 24 + w.d.u16 28 * 2 ^ 32
      let ins : Bool := w.d.u8 22 = 0x01
      if !utcValid s || !isEndOfDay s tl ins || tl * secU < s.tbU + 2 * secU || s.utc.leap.isSome then
        refuseDesc s w St.invalid
      else settle (finishDesc (announceLeap s 31 tl ins 0xFF) w St.ok [])
    else if s.utc.leap.isNone then refuseDesc s w St.invalid
    else settle (finishDesc (clearLeap s) w St.ok [])
  periodic := false

/-- The row TNS_UTC. -/
def execTnsUtc (d : Desc) (s : State) : Out := .next (submit tnsUtcOp s d)

/-- HO_MIN is stored no larger than HO_WIN. -/
def normHo (s : State) : State :=
  let w := s.get Reg.TNS_HO_WIN_HO_WIN
  if w < s.get Reg.TNS_HO_WIN_HO_MIN then s.put Reg.TNS_HO_WIN_HO_MIN w else s

/-- While the default model is in use, its uncertainties are those of TNS_HO_DEF0–2 (R172). -/
def normModel (s : State) : State :=
  if s.get Reg.TNS_STAT_MODEL != 0 then s
  else ((s.put Reg.TNS_MOD_UM_U_M (s.get Reg.TNS_HO_DEF0_U_M_DEF)).put Reg.TNS_MOD_UA_U_A (s.get Reg.TNS_HO_DEF1_U_A_DEF)).put
    Reg.TNS_MOD_UT_U_T (s.get Reg.TNS_HO_DEF2_U_T_DEF)

/-- The registers of TNS_SET's MASK, in its order (R197). -/
def tnsSetAddrs : List Nat :=
  [0x080100, 0x080104, 0x080108, 0x08010C, 0x080110, 0x080114, 0x080118, 0x08011C, 0x08012C, 0x080130, 0x080154]

/-- TNS_SET (R197). -/
def tnsSetOp : OpSpec where
  opcode := 0x0243
  check _ d := if 2048 ≤ d.u16 16 || !d.zero 18 19 || d.past = 2 || strayValue d (d.u16 16) tnsSetAddrs then St.invalid else 0
  due s _ := atPub s
  apply s w :=
    let s := normHo (storeMasked s w.d (w.d.u16 16) tnsSetAddrs)
    settle (finishDesc (lostCheck s) w St.ok [])
  periodic := false

/-- The row TNS_SET. -/
def execTnsSet (d : Desc) (s : State) : Out := .next (submit tnsSetOp s d)

/-- HOLDOVER_LEARN (R176). -/
def learnOpSpec : OpSpec where
  opcode := 0x0244
  check s d :=
    if d.u32 16 < 3600 || 2592000 < d.u32 16 || 2 ≤ d.u8 20 || !d.zero 21 63 then St.invalid
    else if (learnOp s).isSome then St.busy else 0
  due _ _ := true
  apply s w :=
    if (learnOp s).isSome then refuseDesc s w St.busy
    else
      let keep := bitOf (w.d.u8 20) 0
      startLong (setLearn s (fun l => { (if keep then l else Learn.zero) with used := some 0 })) w 0
  periodic := false

/-- The row HOLDOVER_LEARN. -/
def execHoldoverLearn (d : Desc) (s : State) : Out := .next (submit learnOpSpec s d)

/-- The row HOLDOVER_LEARN_DONE: DURATION LOCKED seconds are used. -/
def execHoldoverLearnDone (s : State) : Out := .next <|
  match learnOp s, s.tns.learn.used with
  | some l, some u =>
    if l.suspended || u < l.d.u32 16 || tsState s != 2 then s
    else
      let (s, worst) := fitModel s
      let s := installModel s 1 u
      endLong (setLearn s (fun l => { l with used := none, sinceFit := 0 })) l St.ok (leBytes 4 u ++ leBytes 4 (satU 32 worst))
  | _, _ => s

/-- HO_MODEL_LOAD (R198). -/
def modelLoadOp : OpSpec where
  opcode := 0x0245
  check _ d :=
    if signed 16 (d.u16 34) < signed 16 (d.u16 32) || d.u32 36 = 0 || d.u32 40 = 0 || d.u32 44 = 0 || !d.zero 52 63 then St.invalid
    else 0
  due s _ := atPub s
  apply s w :=
    let d := w.d
    if tsState s = 3 || tsState s = 4 || (learnOp s).isSome then refuseDesc s w St.busy
    else
      let s := ((s.put Reg.TNS_MOD_A_A (d.u32 16)).put Reg.TNS_MOD_K1_K1 (d.u32 20)).put Reg.TNS_MOD_K2_K2 (d.u32 24)
      let s := ((s.put Reg.TNS_MOD_T0_T0 (d.u16 28)).put Reg.TNS_MOD_TRANGE_T_MIN (d.u16 32)).put Reg.TNS_MOD_TRANGE_T_MAX (d.u16 34)
      let s := ((s.put Reg.TNS_MOD_UM_U_M (d.u32 36)).put Reg.TNS_MOD_UA_U_A (d.u32 40)).put Reg.TNS_MOD_UT_U_T (d.u32 44)
      finishDesc (installModel s 2 (d.u32 48)) w St.ok []
  periodic := false

/-- The row HO_MODEL_LOAD. -/
def execHoModelLoad (d : Desc) (s : State) : Out := .next (submit modelLoadOp s d)

/-! ### The publication row -/

/-- The commands that are applied at a publication instant ahead of the publication (R158, R186, R199). -/
def tenseSpecs : List OpSpec := [selSetOp, selForceOp, tnsStepOp, hostTimeOp, tnsUtcOp, tnsSetOp, modelLoadOp]

/-- Those due now, in the order the supervisors accepted them (R199). -/
def applyTenseDue (s : State) : State :=
  s.hif.waiting.foldl (fun s w =>
    match tenseSpecs.find? (fun sp => sp.opcode = w.opcode) with
    | some sp => if waitingDue sp s w then sp.apply (removeWaiting s w.aseq) w else s
    | none => s) s

/-- The row GLOSS_PUBLICATION: at a millisecond of the time base, once, after the commands due at it. -/
def execGlossPublication (tc1 : Option Word64) (steer other : Bool) (s : State) : Out := .next <|
  if atPub s && tenseMode s && !bothTcReset s then publication (applyTenseDue s) (tc1.map (·.toNat)) steer other else s

/-! ### Reset of a Tense core (R201) -/

/-- TC_SOLO: exactly one core runs. -/
def showSolo (s : State) : State :=
  s.putB Reg.TNS_STAT_TC_SOLO (bitOf s.sys.engReset 16 != bitOf s.sys.engReset 17)

/-- A Tense core is reset: it rejoins later, and the hold-off timers pause from now on (R162, R201). -/
def pauseSel (s : State) : State :=
  let s := s.setTns (fun t => { t with rejoin := some s.freeNs })
  if s.sel.stoppedAt.isSome then s else { s with sel := { s.sel with stoppedAt := some s.freeNs } }

/-- With both cores running again, the hold-off timers go on where they paused (R162). QSINCE, a stamp of the past, stays. -/
def resumeSel (s : State) : State :=
  match s.sel.stoppedAt with
  | some t =>
    if !selRuns s then s
    else
      let ns := s.freeNs - t
      { s with sel := { s.sel with
        stoppedAt := none,
        refs := s.sel.refs.map (fun p => (p.1, { p.2 with
          holdEnd := p.2.holdEnd.map (· + ns), mons := p.2.mons.map (fun m => (m.1, { m.2 with due := m.2.due.map (· + ns) })) })) } }
  | none => s

/-- The row TC_REJOIN: at the second boundary after its reset, the core restarts with the running core's state. -/
def execTcRejoin (k : Fin 2) (s : State) : Out := .next <|
  let due : Bool := match s.tns.rejoin with | some t => t < s.freeNs | none => true
  if s.atSec && bitOf s.sys.engReset (16 + k) && due then
    resumeSel (showSolo (windowEvent { s with sys := { s.sys with engReset := setBit s.sys.engReset (16 + k) false } } 1 k 10000000))
  else s

end Sys2Proof.Machine
end

