-- ==== Sys2Proof/Machine/Nav.lean ====
section
/-!
DEFINITION. The tracking and the time solution of the GNSS baseband (R91–R105): the GN clock and its output, sample coding, channels and
their correlators, the broadcast week, and the weighted least-squares solution with its residual test.
-/

namespace Sys2Proof.Machine

/-- Update the baseband's own state. -/
def State.setGns (s : State) (f : Gnss → Gnss) : State := { s with gns := f s.gns }

/-- The baseband runs (R128). -/
def gnssRuns (s : State) : Bool := s.tbLive && s.mode != .boot && s.mode != .test

/-- The references of band b (0 L1, 1 L5). -/
def bandRefs (b : Nat) : List Nat := if b = 0 then [16, 17] else [16, 18]

/-- The band is enabled. -/
def bandOn (s : State) (b : Nat) : Bool := if b = 0 then s.bit Reg.GNSS_CFG_EN_L1 else s.bit Reg.GNSS_CFG_EN_L5

/-! ### The GN clock and the samples (R91–R93) -/

/-- GN edge j on the free-running counter, in 2⁻⁹ ns: 128 edges in 3,125 ns (R91). -/
def gnEdge (j : Nat) : Nat := j * 3125 * 4

/-- What GNSS_REFOUT carries (R92, R128): low, the GN clock, or the GN clock divided by 4; in TEST the pin is under boundary scan. -/
inductive RefOut where
  | low | gn | gn4 | scan
  deriving DecidableEq, Repr

/-- GNSS_REFOUT now. -/
def refOut (s : State) : RefOut :=
  if s.mode = .test then .scan
  else if s.mode = .boot || !s.tbLive || !s.bit Reg.GNSS_CFG_REFOUT_EN then .low
  else if s.bit Reg.GNSS_CFG_REFOUT_DIV then .gn4 else .gn

/-- Rising edge n of GNSS_REFOUT on the free-running counter, in 2⁻⁹ ns (R92); none while it is not clocked. -/
def refOutEdge (s : State) (n : Nat) : Option Nat :=
  match refOut s with
  | .gn => some (gnEdge n)
  | .gn4 => some (gnEdge (4 * n))
  | _ => none

/-- A sample bit pattern at the ports as the two's complement it is held as (R93). -/
def sampleIn (s : State) (v : Nat) : Nat := if s.bit Reg.GNSS_CFG_FMT then (v + 8) % 16 else v % 16

/-- Q of a conjugated sample; +8 does not fit, and what is held then the spec does not say (log 74). -/
def negQ (q : Nat) : Nat := if q = 8 then Config.conjLimit % 16 else (16 - q) % 16

/-- INV of band b. -/
def bandInv (s : State) (b : Nat) : Bool := if b = 0 then s.bit Reg.GNSS_IF_L1_INV else s.bit Reg.GNSS_IF_L5_INV

/-- The byte a slot stores for the port values (I, Q) of band b: I in bits [7:4] and Q in bits [3:0] (R93, R119). -/
def sampleByte (s : State) (b : Nat) (x : Fin 16 × Fin 16) : Byte :=
  let q := sampleIn s x.2
  BitVec.ofNat 8 (sampleIn s x.1 * 16 + if bandInv s b then negQ q else q)

/-! ### Channels (R95–R100) -/

/-- Channel n beside its registers. -/
def State.chan (s : State) (n : Nat) : Chan := s.gns.chans.get (fun _ => Chan.zero) n

/-- Replace channel n. -/
def setChan (s : State) (n : Nat) (x : Chan) : State :=
  s.setGns (fun g => { g with chans := g.chans.set (fun _ => Chan.zero) n x })

/-- SIG of constellation `con` in band b (R95). -/
def sigOf (con b : Nat) : Nat := 2 * con + b

/-- A signal tracked as BOC(1,1): Galileo E1 and BeiDou B1C (R95). -/
def sigBoc (sig : Nat) : Bool := sig = 2 || sig = 4

/-- Channel n tracks a BOC signal. -/
def isBoc (s : State) (n : Nat) : Bool := sigBoc (s.get (Reg.CHN_STAT_SIG n))

/-- Channel n is tracking, with or without data. -/
def tracking (s : State) (n : Nat) : Bool := 3 ≤ s.get (Reg.CHN_STAT_STATE n)

/-- One chip of a signal, in ps (R95). -/
def chipPs (sig : Nat) : Rat := if sig % 2 = 1 then 1000000000000 / 10230000 else 1000000000000 / 1023000

/-- DSPC of band b. -/
def dspc (s : State) (b : Nat) : Nat := if b = 0 then s.get Reg.GNSS_TRK_DSPC_L1 else s.get Reg.GNSS_TRK_DSPC_L5

/-- Code offsets in chips of VE, E, P, L, VL, MA and MB (R98). -/
def corrOffsets (d : Nat) : List Rat :=
  let h : Rat := (d : Rat) / 512
  [-(1 / 2), -h, 0, h, 1 / 2, -(h / 2), -(3 * h / 2)]

/-- The correlators in the same order. -/
def corrList (c : Corr) : List (Int × Int) := [c.ve, c.e, c.p, c.l, c.vl, c.ma, c.mb]

/-- Power of a correlator. -/
def corrPower (x : Int × Int) : Int := x.1 * x.1 + x.2 * x.2

/-- A correlator over P: the real part of their quotient (0 where P is 0). -/
def corrRatio (c : Corr) (x : Int × Int) : Rat :=
  if corrPower c.p = 0 then 0 else ((x.1 * c.p.1 + x.2 * c.p.2 : Int) : Rat) / (corrPower c.p : Rat)

/-- The ideal correlation shape at an offset of x chips: a triangle for BPSK, and of BOC(1,1) the two slopes about its peak
(PRESUMED, log 73). -/
def idealShape (sig : Nat) (x : Rat) : Rat :=
  let a := absQ x
  if sigBoc sig then (if a ≤ 1 / 2 then 1 - 3 * a else a - 1) else 1 - a

/-- The largest deviation of VE/P, E/P, MA/P, L/P and VL/P from the ideal shape for the signal and DSPC, in 1/256 (R116). -/
def shapeDev (sig d : Nat) (c : Corr) : Rat :=
  let all := ((corrList c).zip (corrOffsets d)).map (fun p => 256 * absQ (corrRatio c p.1 - idealShape sig p.2))
  (all.take 6).foldl (fun m q => if m < q then q else m) 0

/-- m_a and m_b of a channel's leading edge in ps (R100): slope pairs (MB, MA) and (MA, E). -/
def slopePairs (sig d : Nat) (c : Corr) : Rat × Rat :=
  (Config.slopeError sig d (corrRatio c c.mb) (corrRatio c c.ma), Config.slopeError sig d (corrRatio c c.ma) (corrRatio c c.e))

/-- The correction of the code phase and the residual r, in ps, of m_a and m_b: the mean limited to ±0.1 chip, and half the difference
plus what the limit takes (R100). -/
def multipath (sig : Nat) (m : Rat × Rat) : Rat × Rat :=
  let want := (m.1 + m.2) / 2
  let lim := chipPs sig / 10
  let corr := clampQ (-lim) lim want
  (corr, absQ (m.1 - m.2) / 2 + absQ (want - corr))

/-- C/N0 at the epochs of the last 10 s. -/
def recentCn0 (now : Nat) (l : List (Nat × Nat)) : List (Nat × Nat) := l.filter (fun p => now ≤ p.1 + 10000000000)

/-- The rise of C/N0 within 10 s. -/
def cn0Rise (x : Chan) : Nat :=
  match x.cn0s with
  | [] => 0
  | (_, c) :: l => c - l.foldl (fun m p => min m p.2) c

/-- A channel latches an epoch's measurements (R99, R100): the code phase is corrected for multipath and smoothed by the carrier over
100 s, and the channel's registers show it. -/
def latchChan (freeAt : Nat) (s : State) (c : ChanIn) : State :=
  if !tracking s c.ch then s
  else
    let sig := s.get (Reg.CHN_STAT_SIG c.ch)
    let d := dspc s (c.ch / 64)
    let m := multipath sig (slopePairs sig d c.corr)
    let x := s.chan c.ch
    let raw : Rat := (c.code : Rat) - m.1
    let n := min (x.epochs + 1) 100
    let smooth := if x.epochs = 0 then raw else Config.codeSmooth x.smooth raw ((c.carrier - x.carrier : Int) : Rat) n
    let s := setChan s c.ch ⟨x.moved, m.1, m.2, smooth, c.carrier, n, (freeAt, c.cn0) :: recentCn0 freeAt x.cn0s⟩
    let s := ((s.putSat (Reg.CHN_MP_MP c.ch) (roundQ m.1)).putSatU (Reg.CHN_MP_RES c.ch) (ceilNatQ m.2)).putSatU
      (Reg.CHN_SHAPE_SHAPE c.ch) (ceilNatQ (shapeDev sig d c.corr))
    (s.putSatU (Reg.CHN_STAT_CN0 c.ch) c.cn0).putSat (Reg.CHN_STAT_ELEV c.ch) c.elev

/-- The tracking channels of band b among those an epoch brings. -/
def bandChans (s : State) (e : EpochIn) (b : Nat) : List ChanIn := e.chans.filter (fun c => c.ch.val / 64 = b && tracking s c.ch)

/-- Insert a satellite by descending elevation. -/
def insertSky (x : SkySat) : List SkySat → List SkySat
  | [] => [x]
  | y :: l => if y.elev < x.elev then x :: y :: l else y :: insertSky x l

/-- Satellites in descending elevation. -/
def sortSky : List SkySat → List SkySat
  | [] => []
  | x :: l => insertSky x (sortSky l)

/-- A channel goes idle. -/
def idleChan (s : State) (n : Nat) : State :=
  [Reg.CHN_STAT_STATE n, Reg.CHN_STAT_SIG n, Reg.CHN_STAT_USED n, Reg.CHN_STAT_EXCL n, Reg.CHN_STAT_SVID n, Reg.CHN_STAT_CN0 n,
    Reg.CHN_STAT_ELEV n].foldl (fun s f => s.put f 0) (setChan s n Chan.zero)

/-- The channel manager gives the signal of satellite x in band b a free channel (R96), unless it is not enabled or has one. -/
def assignSignal (x : SkySat) (s : State) (b : Nat) : State :=
  let sig := sigOf x.con b
  let mine := (List.range 64).map (· + 64 * b)
  let has (n : Nat) : Bool := s.get (Reg.CHN_STAT_STATE n) != 0 && s.get (Reg.CHN_STAT_SIG n) = sig && s.get (Reg.CHN_STAT_SVID n) = x.svid.toNat
  if !bandOn s b || !s.mapBit Reg.GNSS_CFG_CONST_EN x.con || mine.any has then s
  else
    match mine.find? (fun n => s.get (Reg.CHN_STAT_STATE n) = 0) with
    | none => s
    | some n =>
      (((idleChan s n).put (Reg.CHN_STAT_STATE n) 1).put (Reg.CHN_STAT_SIG n) sig).put (Reg.CHN_STAT_SVID n) x.svid.toNat |>.putSat
        (Reg.CHN_STAT_ELEV n) x.elev

/-- The channel manager (R96): the enabled signals of every satellite above ELEV_MASK, less those that their broadcast data marks
unhealthy (`sick`), the highest elevation first. -/
def assignChans (s : State) (sky : List SkySat) (sick : List (Fin 4 × Byte)) : State :=
  let up := sky.filter (fun x => !sick.contains (x.con, x.svid) && decide ((s.get Reg.GNSS_MASK_ELEV_MASK : Int) < x.elev))
  (sortSky up).foldl (fun s x => assignSignal x (assignSignal x s 0) 1) s

/-! ### The broadcast week (R97) -/

/-- Constellation whose clock offset a satellite's shares: QZSS that of GPS (R103). -/
def clockOf (con : Nat) : Nat := if con = 3 then 0 else con

/-- Weeks the broadcast week number counts. -/
def weekMod (con : Nat) : Nat := if clockOf con = 0 then 1024 else if con = 1 then 4096 else 8192

/-- Week 0 of a constellation's system time, with its whole-second offset to TAI (19 or 33 s, R103), in seconds of TAI since the PTP epoch
(PRESUMED, log 75). -/
def weekZero (con : Nat) : Int := if clockOf con = 0 then 315964819 else if con = 1 then 935280019 else 1136073633

/-- WEEK_FLOOR, a GPS week, in a constellation's weeks (PRESUMED, log 75). -/
def weekFloor (s : State) (con : Nat) : Nat :=
  s.get Reg.GNSS_WEEK_WEEK_FLOOR - if clockOf con = 0 then 0 else if con = 1 then 1024 else 1356

/-- The TAI second that second `tow` of a week is. -/
def weekSec (con : Nat) (w : Int) (tow : Nat) : Int := weekZero con + w * 604800 + tow

/-- The week of a broadcast week number: in FREE_RUN the smallest at or above WEEK_FLOOR, else the nearest to the time base's second
`now`. -/
def resolveWeek (s : State) (con : Nat) (now : Int) (wn tow : Nat) : Int :=
  let m : Int := weekMod con
  if tsState s = 0 then
    let f : Int := weekFloor s con
    f + ((wn : Int) - f) % m
  else
    let w := (now - weekSec con 0 tow) / 604800
    let low := w - (w - wn) % m
    if (weekSec con (low + m) tow - now).natAbs < (weekSec con low tow - now).natAbs then low + m else low

/-! ### The time solution (R101–R105) -/

/-- α₁ and α₅ (R102). -/
def alpha1 : Rat := 23716 / 10491
/-- α₅. -/
def alpha5 : Rat := 13225 / 10491

/-- The cable delay of band b in ps (R109). -/
def bandDelay (s : State) (b : Nat) : Rat := ((if b = 0 then s.getS Reg.GNSS_DLY_L1_DLY else s.getS Reg.GNSS_DLY_L5_DLY : Int) : Rat) * 1000 / 65536

/-- Light time in ps of 1/256 m. -/
def lightPs : Rat := 1000000000000 / (256 * 299792458)

/-- One measurement of a solution: the satellite's index, its constellation, its channels, its clock offset by the measurement alone
(ps), its variance (ps²), the vector towards it, w_i (R105) and the modelled ionospheric delay in the band (ps). -/
structure GObs where
  sat : Nat
  con : Nat
  chans : List Nat
  y : Rat
  var : Rat
  los : List Rat
  w : Rat
  ion : Nat
  deriving DecidableEq, Repr

/-- The channel of satellite x in band b, when it tracks the satellite's signal above the masks. -/
def satChan (s : State) (e : EpochIn) (x : SatIn) (b : Nat) : Option ChanIn :=
  match (if b = 0 then x.l1 else x.l5) with
  | none => none
  | some n =>
    e.chans.find? (fun c => c.ch = n && n.val / 64 = b && tracking s n && s.get (Reg.CHN_STAT_SIG n) = sigOf x.con b
      && s.get Reg.GNSS_MASK_CN0_MASK < c.cn0 && decide ((s.get Reg.GNSS_MASK_ELEV_MASK : Int) < c.elev))

/-- P of a band in ps, corrected for its cable delay (R102). -/
def pseudo (s : State) (b : Nat) (c : ChanIn) : Rat := (s.chan c.ch).smooth - bandDelay s b

/-- The variance of a channel's code measurement. -/
def chanVar (s : State) (c : ChanIn) : Rat := Config.noiseVar (s.get (Reg.CHN_STAT_SIG c.ch)) c.cn0 c.elev

/-- Light time from `at0` to the position p along a satellite's vector, in ps (`p` in 1/256 m). -/
def losShift (x : SatIn) (e : EpochIn) (p : Option (Int × Int × Int)) : Rat :=
  match p with
  | none => 0
  | some (px, py, pz) =>
    ((x.los.1 * (px - e.at0.1) + x.los.2.1 * (py - e.at0.2.1) + x.los.2.2 * (pz - e.at0.2.2) : Int) : Rat) / ((2 ^ 30 : Nat) : Rat) * lightPs

/-- The measurement of satellite number `k` for reference i at position `pos` (none: to be estimated): the ionosphere-free combination for
16, one band less the broadcast ionosphere for 17 and 18; whole seconds by the resolved week; with TMODE 1 the UTC parameters (R102,
R103, R105). -/
def satObs (s : State) (e : EpochIn) (epoch i : Nat) (pos : Option (Int × Int × Int)) (k : Nat) (x : SatIn) : Option GObs :=
  let now : Int := tbSec epoch
  let sec := now - weekSec x.con (resolveWeek s x.con now x.week x.tow) x.tow
  let utc : Rat := if s.bit Reg.GNSS_CFG_TMODE then (match s.gns.utcPar with | some u => (u.off : Rat) | none => 0) else 0
  let base : Rat := (sec : Rat) * 1000000000000 - (x.range : Rat) + losShift x e pos + utc
  let los := [x.los.1, x.los.2.1, x.los.2.2].map (fun v => -((v : Rat) / ((2 ^ 30 : Nat) : Rat)))
  let r (c : ChanIn) : Rat := (s.chan c.ch).res
  if !x.healthy || !s.mapBit Reg.GNSS_CFG_CONST_EN x.con then none
  else if i = 16 then
    match satChan s e x 0, satChan s e x 1 with
    | some a, some b =>
      some ⟨k, x.con, [a.ch, b.ch], base + alpha1 * pseudo s 0 a - alpha5 * pseudo s 1 b,
        alpha1 * alpha1 * chanVar s a + alpha5 * alpha5 * chanVar s b, los, alpha1 * r a + alpha5 * r b, 0⟩
    | _, _ => none
  else
    let b := i - 17
    let ion := if b = 0 then x.ion1 else x.ion5
    (satChan s e x b).map (fun c => ⟨k, x.con, [c.ch], base + pseudo s b c - (ion : Rat), chanVar s c, los, r c, ion⟩)

/-- A solution: φ_G in ps, σ_f² in ps², the mean square of the weighted residuals, the position estimated less `at0` and σ_pos² (ps and
ps² of light time; in 3D mode), the measurements used, and those excluded. -/
structure GSol where
  phi : Rat
  varF : Rat
  ms : Rat
  move : List Rat
  varPos : Rat
  used : List GObs
  out : List GObs
  deriving DecidableEq, Repr

/-- One weighted least-squares solution: an offset for each constellation used, and in 3D mode three coordinates; with the normalised
square of each residual. -/
def solveOnce (s : State) (threeD : Bool) (out l : List GObs) : Option (GSol × List (Rat × GObs)) :=
  let cons := (l.map (fun o => clockOf o.con)).eraseDups
  let row (o : GObs) : List Rat := cons.map (fun c => if c = clockOf o.con then (1 : Rat) else 0) ++ if threeD then o.los else []
  match fitW (l.map row) (l.map (fun o => o.y)) (l.map (fun o => 1 / o.var)), cons.findIdx? (· = s.get Reg.GNSS_CFG_TSYS) with
  | some (beta, inv, res), some k =>
    let sq := (res.zip l).map (fun p => (p.1 * p.1 / p.2.var, p.2))
    let at_ (j : Nat) : Rat := (inv.getD j []).getD j 0
    let n := cons.length
    some (⟨beta.getD k 0, at_ k, meanQ (sq.map (fun p => p.1)), if threeD then beta.drop n else [],
      if threeD then at_ n + at_ (n + 1) + at_ (n + 2) else 0, l, out⟩, sq)
  | _, _ => none

/-- Enough satellites (R103): N_MIN of TSYS, and N_MIN in total. -/
def enough (s : State) (l : List GObs) : Bool :=
  s.get Reg.GNSS_MASK_N_MIN ≤ (l.filter (fun o => o.con = s.get Reg.GNSS_CFG_TSYS)).length && s.get Reg.GNSS_MASK_N_MIN ≤ l.length

/-- The measurement with the largest normalised residual. -/
def worstObs : List (Rat × GObs) → Option (Rat × GObs)
  | [] => none
  | p :: l => match worstObs l with | some q => if p.1 < q.1 then some q else some p | none => some p

/-- Solve, and while the residual test fails exclude the satellite with the largest normalised residual and repeat, at most `k` times
(R103). -/
def solveTest (s : State) (threeD : Bool) : Nat → List GObs → List GObs → Option GSol
  | k, out, l =>
    if !enough s l then none
    else
      match solveOnce s threeD out l with
      | none => none
      | some (x, sq) =>
        if x.ms ≤ Config.residualLimit l.length then some x
        else
          match k, worstObs sq with
          | k + 1, some (_, o) => solveTest s threeD k (o :: out) (l.filter (fun q => q.sat != o.sat))
          | _, _ => none

/-- The valid solution of reference i at an epoch for a position (none: 3D mode), if there is one. With TMODE 1 it needs UTC parameters
(DEDUCED, log 76). -/
def solveRef (s : State) (e : EpochIn) (epoch i : Nat) (pos : Option (Int × Int × Int)) : Option GSol :=
  if s.bit Reg.GNSS_CFG_TMODE && s.gns.utcPar.isNone then none
  else solveTest s pos.isNone 2 [] (e.sats.zipIdx.filterMap (fun p => satObs s e epoch i pos p.2 p.1))

/-- The position in use, when one is fixed. -/
def fixedPos (s : State) : Option (Int × Int × Int) :=
  if s.bit Reg.GNSS_POSSIG_FIXED then some (s.getS Reg.GNSS_POSX_X, s.getS Reg.GNSS_POSY_Y, s.getS Reg.GNSS_POSZ_Z) else none

/-- The 3D position of a solution, in 1/256 m. -/
def GSol.pos (x : GSol) (e : EpochIn) : Rat × Rat × Rat :=
  ((e.at0.1 : Rat) + x.move.getD 0 0 / lightPs, (e.at0.2.1 : Rat) + x.move.getD 1 0 / lightPs, (e.at0.2.2 : Rat) + x.move.getD 2 0 / lightPs)

/-- σ_pos of a 3D solution in mm, rounded up. -/
def GSol.sigMm (x : GSol) : Nat := ceilSqrtQ (x.varPos * (299792458 / 1000000000) * (299792458 / 1000000000))

/-- K_G. -/
def kG (s : State) : Rat := (s.get Reg.GNSS_BND_K_G : Rat)

/-- σ_t² in ps² (R105): σ_f² × max(1, s²). -/
def sigT2 (x : GSol) : Rat := x.varF * (if x.ms < 1 then 1 else x.ms)

/-- U_mp. -/
def uMp (s : State) (x : GSol) : Nat := max (s.get Reg.GNSS_BND_MP_FLOOR) (ceilNatQ ((x.used.map (fun o => o.w)).foldl max 0))

/-- U_ion. -/
def uIon (s : State) (i : Nat) (x : GSol) : Nat :=
  if i = 16 then 0
  else max (s.get Reg.GNSS_ION_ION_FLOOR) (ceilDiv (s.get Reg.GNSS_ION_ION_K * (x.used.map (fun o => o.ion)).foldl max 0) 16)

/-- U_pos, of the position in use: the fixed one, or the one the solution estimates. -/
def uPos (s : State) (x : GSol) : Nat :=
  if s.bit Reg.GNSS_POSSIG_FIXED then ceilNatQ (kG s * (s.get Reg.GNSS_POSSIG_SIG : Rat) * 1000000000 / 299792458)
  else ceilSqrtQ (kG s * kG s * x.varPos)

/-- B_sol (R105). -/
def bSol (s : State) (i : Nat) (x : GSol) : Nat :=
  ceilSqrtQ (kG s * kG s * sigT2 x) + uPos s x + s.get Reg.GNSS_BND_U_SYS + uMp s x + uIon s i x

/-- UTC parameters received identically from at least two satellites of TSYS that give data (R97). -/
def agreedUtc (s : State) (e : EpochIn) : Option UtcPar :=
  let ps := e.sats.filterMap (fun x =>
    if x.con.val = s.get Reg.GNSS_CFG_TSYS && [x.l1, x.l5].any (fun o => match o with | some n => s.get (Reg.CHN_STAT_STATE n) = 4 | none => false)
    then x.utc else none)
  ps.find? (fun p => 2 ≤ ps.count p)

end Sys2Proof.Machine
end

