-- ==== Sys2Proof/Machine/Gnss.lean ====
section
/-!
DEFINITION. The GNSS timing baseband (spec/03_gnss_baseband.md): bands and channels, publication of the time solutions, position and
survey-in, the spoof and jam checks, and snapshots.
-/

namespace Sys2Proof.Machine

/-! ### Bands and channels (R94–R100) -/

/-- The row BAND_STUCK: the stuck bits of a band. -/
def execBandStuck (b : Fin 2) (bits : Byte) (s : State) : Out := .next <|
  if !gnssRuns s || !bandOn s b || bits = 0 then s
  else
    let s := s.setGns (fun g => { g with stuckAt := g.stuckAt.set (fun _ => 0) b s.freeNs })
    if s.bit (Reg.GNSS_BAND_STUCK b) then s
    else
      let s := s.putB (Reg.GNSS_BAND_STUCK b) true
      let s := check s (0x0A + b) true
      s.journal 2 0x0005 0x0506 (leBytes 1 (if b.val = 0 then 1 else 5) ++ [bits])

/-- The row STUCK_CLEAR: 1 s without the condition. -/
def execStuckClear (b : Fin 2) (s : State) : Out := .next <|
  if s.bit (Reg.GNSS_BAND_STUCK b) && s.gns.stuckAt.get (fun _ => 0) b + 1000000000 ≤ s.freeNs then
    s.putB (Reg.GNSS_BAND_STUCK b) false
  else s

/-- VE or VL has more power than P. -/
def sidePeak (c : Corr) : Bool := corrPower c.p < corrPower c.ve || corrPower c.p < corrPower c.vl

/-- The row SIDE_PEAK_SLIP: the correlators of a channel over its latest ms, oldest first. A BOC channel whose VE or VL has exceeded P in
power for 20 ms in a row is moved half a chip towards the larger of the two, by the last ms. -/
def execSidePeakSlip (n : Fin 128) (run : List Corr) (s : State) : Out := .next <|
  let last := run.reverse.take 20
  match last with
  | [] => s
  | c :: _ =>
    if gnssRuns s && isBoc s n && tracking s n && last.length = 20 && last.all sidePeak then
      let x := s.chan n
      setChan s n { x with moved := x.moved + if corrPower c.ve < corrPower c.vl then 1 else -1 }
    else s

/-- The row CHANNEL_ACQUIRED: the channel manager assigns what it can of the satellites it knows of, and channel n, if it has a signal,
enters a state, or loses its signal; `peak` is a second peak found on a tracked signal. -/
def execChannelAcquired (sky : List SkySat) (sick : List (Fin 4 × Byte)) (n : Fin 128) (st : Fin 5) (cn0 : Byte) (peak : Bool) (s : State) : Out := .next <|
  if !gnssRuns s then s
  else
    let s := assignChans s sky sick
    if s.get (Reg.CHN_STAT_STATE n) = 0 then s
    else
      let s := if peak && tracking s n then s.setGns (fun g => { g with peaks := g.peaks.set (fun _ => false) (n.val / 64) true }) else s
      if st.val = 0 then idleChan s n else (s.put (Reg.CHN_STAT_STATE n) st).put (Reg.CHN_STAT_CN0 n) cn0.toNat

/-- The band's status at an epoch. -/
def showBand (e : EpochIn) (s : State) (b : Nat) : State :=
  let cs := bandChans s e b
  let med := medianQ (cs.map (fun c => (c.cn0 : Rat)))
  (s.putSatU (Reg.GNSS_BAND_NCH b) cs.length).putSatU (Reg.GNSS_BAND_CN0 b) (if cs.isEmpty then 0 else (roundQ med).toNat)

/-! ### Snapshots (R119–R124) -/

/-- Slot k. -/
def State.slot (s : State) (k : Nat) : SnapSlot := s.gns.slots.get (fun _ => SnapSlot.zero) k

/-- Replace slot k. -/
def setSlot (s : State) (k : Nat) (x : SnapSlot) : State :=
  s.setGns (fun g => { g with slots := g.slots.set (fun _ => SnapSlot.zero) k x })

/-- Slot k becomes LIVE now. -/
def goLive (s : State) (k : Nat) : State :=
  (s.putB (Reg.SNAP_STAT_LIVE k) true).setGns (fun g => { g with live := some (k, s.freeNs) })

/-- Some slot is free: one becomes LIVE when none is. -/
def pickLive (s : State) : State :=
  if s.gns.live.isSome then s
  else match [0, 1, 2].find? (fun k => !s.bit (Reg.SNAP_STAT_FULL k)) with
    | some k => goLive s k
    | none => s

/-- Free a slot. -/
def freeSlot (s : State) (k : Nat) : State :=
  let s := (((s.putB (Reg.SNAP_STAT_FULL k) false).putB (Reg.SNAP_STAT_LOCK k) false).put (Reg.SNAP_STAT_CAUSE k) 0)
  pickLive ((setSlot s k SnapSlot.zero).setGns (fun g => { g with frozen := g.frozen.filter (· != k) }))

/-- FIRST of a capture whose samples are latched from the counter value `c` on: the instant attributed to the first of them, the GN edge
SAMPLE_LAT before the one it is latched on, with the offset in force, in 2⁻¹⁶ ns (R91, R93, R121). -/
def firstSample (s : State) (c : Nat) : Nat :=
  let e := ceilDiv (c * 128) 3125
  (((gnEdge e : Nat) * 128 : Int) - (gnEdge (s.get Reg.GNSS_CFG_SAMPLE_LAT) : Nat) * 128 + s.tb.ofs).toNat

/-- A trigger now (R118–R120): merged into a running capture, begun on the LIVE slot, or dropped. Answers the slot. -/
def triggerSnap (s : State) (cause pre : Nat) (tag : Option Nat) : State × Option Nat :=
  match s.gns.run with
  | some (k, _) =>
    let x := s.slot k
    let s := s.put (Reg.SNAP_STAT_CAUSE k) (s.get (Reg.SNAP_STAT_CAUSE k) ||| cause)
    let s := s.setGns (fun g => { g with merged := g.merged + 1 })
    (setSlot s k { x with tag := x.tag.or tag }, some k)
  | none =>
    match s.gns.live with
    | some (k, since) =>
      let pre := min pre ((s.freeNs - since) / 1000000)
      let u := s.tbU
      let s := ((s.put (Reg.SNAP_STAT_CAUSE k) cause).put (Reg.SNAP_TRIGNS_NS k) (tbNs u)).put (Reg.SNAP_TRIGSEC_SEC k) (tbSec u)
      let s := (s.put (Reg.SNAP_CSEQ_CSEQ k) s.jr.cseq).commitMark
      let s := setSlot s k ⟨firstSample s (s.freeNs - pre * 1000000), shortOf u, pre, 0, tag, [], []⟩
      (s.setGns (fun g => { g with run := some (k, s.freeNs + (16 - pre) * 1000000) }), some k)
    | none =>
      ((s.setFlag Flag.GNSS_CHK_SNAP_DROP).journal 1 0x0005 0x0503 (leBytes 2 cause), none)

/-- The row SNAP_CAPTURED: the values at the sample ports of both bands, held as R93 gives. -/
def execSnapCaptured (l1 l5 : List (Fin 16 × Fin 16)) (s : State) : Out := .next <|
  match s.gns.run with
  | none => s
  | some (k, e) =>
    if s.freeNs < e then s
    else
      let held (b : Nat) (l : List (Fin 16 × Fin 16)) : List Byte := if bandOn s b then (l.take 655360).map (sampleByte s b) else []
      let x := { s.slot k with bands := b2n (bandOn s 0) + 2 * b2n (bandOn s 1), l1 := held 0 l1, l5 := held 1 l5 }
      let s := setSlot s k x
      let s := (s.putB (Reg.SNAP_STAT_FULL k) true).putB (Reg.SNAP_STAT_LIVE k) false
      let s := s.setGns (fun g => { g with run := none, live := none, frozen := g.frozen ++ [k] })
      let s := s.journal 0 0x0005 0x0502
        (leBytes 1 k ++ leBytes 1 0 ++ leBytes 2 (s.get (Reg.SNAP_STAT_CAUSE k)) ++ leBytes 8 (shortOf x.first))
      let s := pickLive s
      if s.gns.live.isNone && s.bit Reg.GNSS_SNAP_CFG_POLICY then
        match s.gns.frozen.find? (fun j => j != k && !s.bit (Reg.SNAP_STAT_LOCK j)) with
        | some j => freeSlot s j
        | none => s
      else s

/-- GNSS_SNAPSHOT (R122). -/
def snapshotOp : OpSpec where
  opcode := 0x0223
  check _ d := if 15 < d.u8 16 || !d.zero 17 63 || d.past = 2 then St.invalid else 0
  due _ _ := true
  apply s w :=
    match triggerSnap s 0x80 (w.d.u8 16) (some w.d.tag.toNat) with
    | (s, some k) => finishDesc s w St.ok (leBytes 8 k)
    | (s, none) => refuseDesc s w St.busy
  periodic := false

/-- The row GNSS_SNAPSHOT. -/
def execGnssSnapshot (d : Desc) (s : State) : Out := .next (submit snapshotOp s d)

/-- `n` bytes of a list, missing ones 0. -/
def padTo (n : Nat) (l : List Byte) : List Byte := (l ++ List.replicate (n - l.length) 0).take n

/-- The sample data of a slot, L1 then L5 (R119). -/
def snapData (x : SnapSlot) : List Byte := padTo 655360 x.l1 ++ padTo 655360 x.l5

/-- An exported capture: the header of R124 and the data. GNSS_IF_L1 and GNSS_IF_L5 are those in force when the copy ends (DESIGN CHOICE,
log 77). -/
def snapImage (s : State) (k : Nat) : List Byte :=
  let x := s.slot k
  fineBytes x.first ++ leBytes 8 x.trig ++ leBytes 4 (s.get (Reg.SNAP_CSEQ_CSEQ k)) ++ leBytes 2 (s.get (Reg.SNAP_STAT_CAUSE k))
    ++ leBytes 1 x.pre ++ leBytes 1 x.bands ++ leBytes 4 (x.tag.getD 0) ++ leBytes 4 (s.loadWord 0x050004) ++ leBytes 4 (s.loadWord 0x050008)
    ++ leBytes 4 655360 ++ leBytes 4 (crc32 (snapData x)) ++ leBytes 16 0 ++ snapData x

/-- SNAP_EXPORT (R123). A slot that another export has locked is accepted: the spec names no status for it (DESIGN CHOICE, log 78). -/
def snapExportOp : OpSpec where
  opcode := 0x0224
  check s d :=
    if 2 < d.u8 16 || 2 ≤ d.u8 17 || !d.zero 18 23 || !d.zero 36 63 || d.u64 24 % 4096 != 0 || d.u32 32 < 1310784 then St.invalid
    else if !s.bit (Reg.SNAP_STAT_FULL (d.u8 16)) then St.invalid else 0
  due _ _ := true
  apply s w :=
    let k := w.d.u8 16
    if !s.bit (Reg.SNAP_STAT_FULL k) then refuseDesc s w St.invalid
    else openDesc (s.putB (Reg.SNAP_STAT_LOCK k) true) w k
  periodic := false

/-- The row SNAP_EXPORT. -/
def execSnapExport (d : Desc) (s : State) : Out := .next (submit snapExportOp s d)

/-- Write `bytes` at a host address. -/
def hostWrite (s : State) (addr : Nat) (bytes : List Byte) : State :=
  { s with hif := { s.hif with host := s.hif.host.set (fun _ => []) addr bytes } }

/-- The exports of slot k under way. -/
def exportsOf (s : State) (k : Nat) : List OpenOp := s.hif.opens.filter (fun o => o.opcode = 0x0224 && o.key = k)

/-- The row SNAP_EXPORT_DONE: the copies of slot k have ended. -/
def execSnapExportDone (k : Fin 3) (s : State) : Out := .next <|
  let l := exportsOf s k
  if l.isEmpty || !s.dmaOk then s
  else
    let image := snapImage s k
    let s := l.foldl (fun s o => hostWrite s (o.d.u64 24) image) s
    let s := s.putB (Reg.SNAP_STAT_LOCK k) false
    let s := if l.any (fun o => bitOf (o.d.u8 17) 0) then freeSlot s k else s
    closeOpens s 0x0224 k St.ok []

/-- SNAP_RELEASE (R123). -/
def snapReleaseOp : OpSpec where
  opcode := 0x0225
  check s d :=
    if 2 < d.u8 16 || !d.zero 17 63 || !s.bit (Reg.SNAP_STAT_FULL (d.u8 16)) || s.bit (Reg.SNAP_STAT_LOCK (d.u8 16)) then St.invalid else 0
  due _ _ := true
  apply s w :=
    let k := w.d.u8 16
    if !s.bit (Reg.SNAP_STAT_FULL k) || s.bit (Reg.SNAP_STAT_LOCK k) then refuseDesc s w St.invalid
    else finishDesc (freeSlot s k) w St.ok []
  periodic := false

/-- The row SNAP_RELEASE. -/
def execSnapRelease (d : Desc) (s : State) : Out := .next (submit snapReleaseOp s d)

/-! ### Checks (R116–R118) -/

/-- The flag of check c (bit as CAUSE). -/
def chkFlag (c : Nat) : FlagBit :=
  match c with
  | 0 => Flag.GNSS_CHK_JAM_L1 | 1 => Flag.GNSS_CHK_JAM_L5 | 2 => Flag.GNSS_CHK_PWR_L1 | 3 => Flag.GNSS_CHK_PWR_L5
  | 4 => Flag.GNSS_CHK_SHAPE_L1 | 5 => Flag.GNSS_CHK_SHAPE_L5 | _ => Flag.GNSS_CHK_XREF

/-- The action of check c. -/
def chkAct (s : State) (c : Nat) : Nat :=
  if c < 2 then s.get Reg.GNSS_CHK_ACT_JAM else if c < 4 then s.get Reg.GNSS_CHK_ACT_PWR
  else if c < 6 then s.get Reg.GNSS_CHK_ACT_SHAPE else s.get Reg.GNSS_CHK_ACT_XREF

/-- Check c acts on reference i. -/
def chkActsOn (c i : Nat) : Bool := c = 6 || (bandRefs (c % 2)).contains i

/-- Check c is active. -/
def chkActive (s : State) (c : Nat) : Bool := s.mapBit Reg.GNSS_CHK_ACTIVE_ACTIVE c

/-- GNSS_CHECK journalled; for XREF with the latest |φ_G − φ_ref| in ps. -/
def journalCheck (s : State) (c : Nat) (trip : Bool) : State :=
  s.journal 1 0x0005 0x0501
    (leBytes 1 c ++ leBytes 1 (chkAct s c) ++ leBytes 1 (b2n trip) ++ leBytes 1 0 ++ leBytes 4 (satU 32 (if c = 6 then s.gns.xrefDiff else 0)))

/-- The condition of check c holds now: it trips unless it is active already. -/
def tripCheck (s : State) (c : Nat) : State :=
  let s := s.setGns (fun g => { g with seenAt := g.seenAt.set (fun _ => 0) c s.freeNs })
  if chkActive s c then s
  else
    let s := (s.setFlag (chkFlag c)).putMapBit Reg.GNSS_CHK_ACTIVE_ACTIVE c true
    let s := journalCheck s c true
    if chkAct s c = 2 then (triggerSnap s (2 ^ c) (s.get Reg.GNSS_SNAP_CFG_PRE) none).1 else s

/-- TRUST of reference i (R106, R118). -/
def trustOf (s : State) (i : Nat) : Bool :=
  !(List.range 7).any (fun c => chkActive s c && chkActsOn c i && 1 ≤ chkAct s c)

/-- One ms's power of band b (0.1 dB above the calibrated noise floor): JAM trips when it has exceeded JAM_THR for JAM_HOLD ms. -/
def powerMs (b : Nat) (s : State) (power : Int) : State :=
  let s := s.putSat (Reg.GNSS_BAND_POWER b) power
  let run := if ((5 * s.get Reg.GNSS_JAM_CFG_JAM_THR : Nat) : Int) < power then s.gns.jamRun.get (fun _ => 0) b + 1 else 0
  let s := s.setGns (fun g => { g with jamRun := g.jamRun.set (fun _ => 0) b run })
  if 0 < run && s.get Reg.GNSS_JAM_CFG_JAM_HOLD ≤ run then tripCheck s b else s

/-- The row JAM_TRIP: the power measurements of band b over the latest ms, oldest first. -/
def execJamTrip (b : Fin 2) (powers : List Int) (s : State) : Out := .next <|
  if !gnssRuns s || !bandOn s b then s else powers.foldl (powerMs b) s

/-- The row GNSS_CHECK_CLEAR: the condition of an active check has been absent for CLR_HOLD seconds. -/
def execGnssCheckClear (c : Fin 7) (s : State) : Out := .next <|
  if gnssRuns s && chkActive s c &&
      s.gns.seenAt.get (fun _ => 0) c + s.get Reg.GNSS_CHK_ACT_CLR_HOLD * 1000000000 ≤ s.freeNs then
    journalCheck (s.putMapBit Reg.GNSS_CHK_ACTIVE_ACTIVE c false) c false
  else s

/-- PWR of a band at an epoch. -/
def pwrCond (s : State) (cs : List ChanIn) : Bool :=
  !cs.isEmpty && (decide ((s.get Reg.GNSS_PWR_CFG_CN0_MAX : Rat) < medianQ (cs.map (fun c => (c.cn0 : Rat))))
    || 4 ≤ (cs.filter (fun c => s.get Reg.GNSS_PWR_CFG_CN0_STEP ≤ cn0Rise (s.chan c.ch))).length)

/-- SHAPE of a band at an epoch. -/
def shapeCond (s : State) (b : Nat) (cs : List ChanIn) : Bool :=
  s.get Reg.GNSS_SHAPE_CFG_SHAPE_N ≤ (cs.filter (fun c =>
    decide ((s.get Reg.GNSS_SHAPE_CFG_SHAPE_THR : Rat) < shapeDev (s.get (Reg.CHN_STAT_SIG c.ch)) (dspc s b) c.corr))).length

/-- φ_G − φ_ref and B_ref against the ensemble of qualified non-GNSS references, or against the holdover prediction. -/
def xrefDiff (s : State) (phi : Rat) : Option (Rat × Nat) :=
  let ms := (phaseMembers s 16).filter (fun j => j < 16 || 18 < j)
  if ms.isEmpty then (prediction s 1000).map (fun p => (phi - p.1, p.2))
  else let (d, b) := ensemble s 16 phi ms; some (-d, b)

/-! ### Solutions (R101–R106) -/

/-- The bands of reference i are enabled. -/
def refBandsOn (s : State) (i : Nat) : Bool := (i = 18 || bandOn s 0) && (i = 17 || bandOn s 1)

/-- The valid solutions of an epoch, by reference, for a position (none: 3D mode). -/
def solutions (s : State) (e : EpochIn) (epoch : Nat) (pos : Option (Int × Int × Int)) : List (Nat × GSol) :=
  ([16, 17, 18].filter (refBandsOn s)).filterMap (fun i => (solveRef s e epoch i pos).map (fun x => (i, x)))

/-- The TAI − UTC that Δt_LS gives (R97). -/
def gnssTaiUtc (s : State) (dt : Int) : Int := dt + if s.get Reg.GNSS_CFG_TSYS = 2 then 33 else 19

/-- Publish the solution of reference i (R101, R104–R106, R136): its group, and its delivery to selection as it stands after a step made
since the epoch (`shift`, 2⁻⁹ ns). -/
def publishSol (epoch freeAt : Nat) (shift : Int) (utc : Option UtcPar) (s : State) (p : Nat × GSol) : State :=
  let (i, x) := p
  let k := i - 16
  let trust := trustOf s i
  let b := bSol s i x
  let phi := ofPs x.phi
  let s := ((s.putB (Reg.SOL_STAT_TRUST k) trust).putB (Reg.SOL_STAT_SURVEYING k) (!s.bit Reg.GNSS_POSSIG_FIXED)).putSatU
    (Reg.SOL_STAT_NSAT k) x.used.length
  let s := ((s.put (Reg.SOL_STAT_NEXCL k) x.out.length).put (Reg.SOL_EPSEC_SEC k) (tbSec epoch)).putPairSat (Reg.SOL_PHL_PH k)
    (Reg.SOL_PHH_PH k) phi
  let s := ((s.putSatU (Reg.SOL_BND_B_SOL k) b).putSatU (Reg.SOL_SIGT_SIGMA_T k) (ceilSqrtQ (sigT2 x))).putSatU
    (Reg.SOL_UMP_U_MP k) (uMp s x)
  let s := s.publish (Reg.SOL_STAT_VALID k) (Reg.SOL_STAT_SEQ k)
  if !trust then s.setRef i { s.ref i with lost := true, untrusted := true }
  else
    let src := addPs b (if s.bit Reg.GNSS_CFG_TMODE then s.get Reg.GNSS_UBC_U_BCAST else 0)
    let s := s.feed i ⟨true, freeAt, epoch, some (phi + shift), 0, 0, true, some src, 0⟩
    match utc with
    | none => s
    | some u =>
      let s := deliverOffset s i (gnssTaiUtc s u.dtLS) true
      match u.leap with | some (tl, ins) => sourceLeap s i tl ins | none => s

/-! ### Position (R110–R115) -/

/-- Disqualify references 16–18 at the next publication with a CAUSE. -/
def dqRefs (s : State) (l : List Nat) (cause : Nat) : State :=
  { s with sel := { s.sel with dq := s.sel.dq ++ l.map (fun i => (i, cause)) } }

/-- A position is fixed now: it is adopted at the first epoch after this. -/
def fixPosition (s : State) (x y z : Int) (sig : Nat) : State :=
  s.setGns (fun g => { g with newPos := some (x, y, z, sig, s.freeNs) })

/-- The change of φ_G that the position p implies at an epoch, in ps: of the first reference that has a solution with it and without. -/
def impliedShift (s : State) (e : EpochIn) (epoch : Nat) (p : Int × Int × Int) : Int :=
  let now := solutions s e epoch (fixedPos s)
  match (solutions s e epoch (some p)).findSome? (fun x => (now.find? (fun y => y.1 = x.1)).map (fun y => x.2.phi - y.2.phi)) with
  | some q => roundQ q
  | none => 0

/-- At an epoch, adopt a position fixed before it (R110). -/
def adoptPosition (s : State) (e : EpochIn) (epoch freeAt : Nat) : State :=
  match s.gns.newPos with
  | none => s
  | some (x, y, z, sig, at0) =>
    if freeAt ≤ at0 then s
    else
      let shift := impliedShift s e epoch (x, y, z)
      let s := s.setGns (fun g => { g with newPos := none })
      let s := ((s.putS Reg.GNSS_POSX_X x).putS Reg.GNSS_POSY_Y y).putS Reg.GNSS_POSZ_Z z
      let s := (s.putB Reg.GNSS_POSSIG_FIXED true).putSatU Reg.GNSS_POSSIG_SIG sig
      let far : Bool := s.get Reg.GNSS_POS_TOL_TOL < absN shift
      let s := if far then dqRefs s ([16, 17, 18].filter (isQual s)) 10 else s
      s.journal 0 0x0005 0x0505 (leBytes 4 (satS 32 shift) ++ leBytes 1 (b2n far))

/-- The survey-in in force, with its LongOp. -/
def surveyOp (s : State) : Option LongOp := longOp s 0x0221 0

/-- Replace the survey. -/
def setSurvey (s : State) (v : Option Survey) : State :=
  (s.setGns (fun g => { g with survey := v })).putB Reg.GNSS_POSSIG_SURVEY_RUN v.isSome

/-- A survey with nothing accumulated, counting from now. -/
def newSurvey (s : State) (minS maxS target : Nat) (part : Bool) : Survey :=
  ⟨minS, maxS, target, part, 0, 0, 0, 0, 0, 0, some s.freeNs, none⟩

/-- Elapsed ns of a survey without suspended time. -/
def surveyNs (s : State) (v : Survey) : Nat := v.acc + match v.since with | some t => s.freeNs - t | none => 0

/-- A survey resumes (R113): from its frozen state, or from nothing when it was lost. -/
def surveyResume (s : State) : State :=
  match s.gns.survey with
  | some v =>
    if v.since.isSome then s
    else
      let lost : Bool := match v.susp with | some t => t + 86400 * 1000000000 < s.freeNs | none => false
      let v := if lost then newSurvey s v.minS v.maxS v.target v.adoptPartial else { v with since := some s.freeNs, susp := none }
      setSurvey s (some v)
  | none => s

/-- The survey-in ends with a status: the automatic one is journalled, another posts its completion (R112, R115). -/
def endSurvey (s : State) (l : LongOp) (v : Survey) (status : Nat) : State :=
  let el := surveyNs s v / 1000000000
  let (sig, s) := if v.n = 0 then s.freeVal else (v.sig, s)
  let s := setSurvey s none
  let s := if l.auto then
      s.journal 0 0x0005 0x0504 (leBytes 2 status ++ leBytes 2 (satU 16 sig) ++ leBytes 4 el)
    else s
  endLong s l status (leBytes 4 (satU 32 sig) ++ leBytes 4 el)

/-- An epoch of a survey: its 3D position, if it has one, is averaged, or the requested suspension or cancellation takes effect. -/
def surveyEpoch (s : State) (e : EpochIn) (epoch : Nat) : State :=
  match surveyOp s, s.gns.survey with
  | some l, some v =>
    if l.cancelReq then endSurvey s l v St.cancelled
    else if l.suspReq then
      suspendLong (setSurvey s (some { v with acc := surveyNs s v, since := none, susp := some s.freeNs })) l
    else if l.suspended then s
    else
      match solutions s e epoch none with
      | [] => s
      | (_, x) :: _ =>
        let (px, py, pz) := x.pos e
        setSurvey s (some { v with n := v.n + 1, sx := v.sx + px, sy := v.sy + py, sz := v.sz + pz, sig := e.surveySig })
  | _, _ => s

/-- The row SURVEY_DONE. -/
def execSurveyDone (s : State) : Out := .next <|
  match surveyOp s, s.gns.survey with
  | some l, some v =>
    let ns := surveyNs s v
    let adopt (s : State) : State :=
      if v.n = 0 then s
      else
        let avg (t : Rat) : Int := roundQ (t / ((v.n : Nat) : Rat))
        fixPosition s (avg v.sx) (avg v.sy) (avg v.sz) v.sig
    if l.suspended then s
    else if 0 < v.n && v.minS * 1000000000 ≤ ns && v.sig ≤ v.target then endSurvey (adopt s) l v St.ok
    else if v.maxS * 1000000000 ≤ ns then endSurvey (if v.adoptPartial then adopt s else s) l v St.partialDone
    else s
  | _, _ => s

/-- The row SURVEY_SUSPEND_EXPIRY: the accumulation of a survey-in suspended for more than 86,400 s is lost. -/
def execSurveySuspendExpiry (s : State) : Out := .next <|
  match s.gns.survey with
  | some v =>
    (match v.susp with
     | some t =>
       if t + 86400 * 1000000000 < s.freeNs then
         setSurvey s (some { v with n := 0, sx := 0, sy := 0, sz := 0, sig := 0, acc := 0 })
       else s
     | none => s)
  | none => s

/-- SURVEY_IN (R111, R112). -/
def surveyInOp : OpSpec where
  opcode := 0x0221
  check s d :=
    if d.u32 16 < 60 || 604800 < d.u32 16 || d.u32 20 < d.u32 16 || 2592000 < d.u32 20 || d.u16 24 < 1 || 10000 < d.u16 24
        || 2 ≤ d.u8 26 || !d.zero 27 63 || d.past = 2 then St.invalid
    else if (surveyOp s).isSome then St.busy else 0
  due _ _ := true
  apply s w :=
    if (surveyOp s).isSome then refuseDesc s w St.busy
    else
      let d := w.d
      startLong (setSurvey s (some (newSurvey s (d.u32 16) (d.u32 20) (d.u16 24) (bitOf (d.u8 26) 0)))) w 0
  periodic := false

/-- The row SURVEY_IN. -/
def execSurveyIn (d : Desc) (s : State) : Out := .next (submit surveyInOp s d)

/-- GNSS_POS_SET (R114). -/
def posSetOp : OpSpec where
  opcode := 0x0222
  check s d :=
    if d.u16 28 = 0 || !d.zero 30 63 || d.past = 2 then St.invalid else if (surveyOp s).isSome then St.busy else 0
  due _ _ := true
  apply s w :=
    if (surveyOp s).isSome then refuseDesc s w St.busy
    else finishDesc (fixPosition s (w.d.s32 16) (w.d.s32 20) (w.d.s32 24) (w.d.u16 28)) w St.ok []
  periodic := false

/-- The row GNSS_POS_SET. -/
def execGnssPosSet (d : Desc) (s : State) : Out := .next (submit posSetOp s d)

/-- At entry to SETUP the baseband starts: a slot becomes LIVE (R119, R128). -/
def gnssStart (s : State) : State := pickLive s

/-- At entry to SERVICE: the position of the GNSS_FIX registers with FIXV, or the automatic survey-in (R110, R115). -/
def gnssService (s : State) : State :=
  if s.bit Reg.GNSS_FIXSIG_FIXV then
    fixPosition s (s.getS Reg.GNSS_FIXX_X) (s.getS Reg.GNSS_FIXY_Y) (s.getS Reg.GNSS_FIXZ_Z) (s.get Reg.GNSS_FIXSIG_SIG)
  else if s.bit Reg.GNSS_CFG_AUTO_SURVEY && !s.bit Reg.GNSS_POSSIG_FIXED && s.gns.newPos.isNone && (surveyOp s).isNone then
    let d : Desc := ⟨0, 0, 0, 0, 0, []⟩
    let s := { s with hif := { s.hif with longs := s.hif.longs ++ [⟨0x0221, 0, 0, d, s.nowShort, false, false, false, true⟩] } }
    setSurvey s (some (newSurvey s (s.get Reg.GNSS_SURV_MIN_MIN_S) (s.get Reg.GNSS_SURV_MAX_MAX_S) (s.get Reg.GNSS_SURV_TGT_TARGET)
      (s.bit Reg.GNSS_SURV_TGT_ADOPT_PARTIAL)))
  else s

/-! ### An epoch -/

/-- SHAPE and PWR of a band at an epoch (R116). -/
def bandChecks (e : EpochIn) (s : State) (b : Nat) : State :=
  if !bandOn s b then s
  else
    let cs := bandChans s e b
    let s := if pwrCond s cs then tripCheck s (2 + b) else s
    let run := if shapeCond s b cs then s.gns.shapeRun.get (fun _ => 0) b + 1 else 0
    let peak := s.gns.peaks.get (fun _ => false) b
    let s := s.setGns (fun g => { g with shapeRun := g.shapeRun.set (fun _ => 0) b run, peaks := g.peaks.set (fun _ => false) b false })
    if 3 ≤ run || peak then tripCheck s (4 + b) else s

/-- XREF at an epoch (R116). An epoch without a valid solution of reference 16 breaks the run (DESIGN CHOICE, log 79). -/
def xrefCheck (s : State) (e : EpochIn) (sol : Option GSol) : State :=
  match sol with
  | none => s.setGns (fun g => { g with xrefRun := 0 })
  | some x =>
    let diff := xrefDiff s x.phi
    let bad : Bool := match diff with
      | some (d, b) => decide (((bSol s 16 x + b + s.get Reg.GNSS_XREF_CFG_XREF_THR * 1000 : Nat) : Rat) < absQ d)
      | none => false
    let pos : Bool := !s.bit Reg.GNSS_POSSIG_FIXED && s.get Reg.GNSS_XREF_CFG_POS_THR < e.posRes
    let run := if bad || pos then s.gns.xrefRun + 1 else 0
    let ps := match diff with | some (d, _) => (roundQ (absQ d)).toNat | none => 0
    let s := s.setGns (fun g => { g with xrefRun := run, xrefDiff := ps })
    if 0 < run && s.get Reg.GNSS_XREF_CFG_XREF_N ≤ run then tripCheck s 6 else s

/-- The channels a solution uses, and those it excludes, are shown. -/
def showUse (e : EpochIn) (sols : List (Nat × GSol)) (s : State) : State :=
  let used := sols.flatMap (fun p => p.2.used.flatMap (fun o => o.chans))
  let out := sols.flatMap (fun p => p.2.out.flatMap (fun o => o.chans))
  e.chans.foldl (fun s c =>
    if tracking s c.ch then (s.putB (Reg.CHN_STAT_USED c.ch) (used.contains c.ch.val)).putB (Reg.CHN_STAT_EXCL c.ch) (out.contains c.ch.val)
    else s) s

/-- Without a fixed position, the one estimated is in use. -/
def showPos (s : State) (e : EpochIn) (sols : List (Nat × GSol)) : State :=
  match sols with
  | (_, x) :: _ =>
    if s.bit Reg.GNSS_POSSIG_FIXED then s
    else
      let (px, py, pz) := x.pos e
      (((s.putS Reg.GNSS_POSX_X (roundQ px)).putS Reg.GNSS_POSY_Y (roundQ py)).putS Reg.GNSS_POSZ_Z (roundQ pz)).putSatU
        Reg.GNSS_POSSIG_SIG x.sigMm
  | [] => s

/-- The latest solution epoch the time base has reached (R101, R603): its value, its elapsed ns, and the step made since (2⁻⁹ ns). -/
def latestEpoch (s : State) : Nat × Nat × Int :=
  let u := s.tbU
  let at_ := s.freeNs - u % secU / 65536
  match s.tb.step with
  | some (c, v, a) => if at_ < c then (v - v % secU, c - v % secU / 65536, a / 128) else (u - u % secU, at_, 0)
  | none => (u - u % secU, at_, 0)

/-- What an epoch does once its channels are latched (R101, R110, R116, R117): UTC parameters, position, checks, solutions, survey. -/
def runEpoch (s : State) (e : EpochIn) (epoch freeAt : Nat) (shift : Int) : State :=
  let utc := agreedUtc s e
  let s := s.setGns (fun g => { g with utcPar := utc.or g.utcPar })
  let s := adoptPosition s e epoch freeAt
  let sols := solutions s e epoch (fixedPos s)
  let s := showUse e sols (showPos s e sols)
  let s := xrefCheck (bandChecks e (bandChecks e s 0) 1) e ((sols.find? (fun p => p.1 = 16)).map (fun p => p.2))
  let s := sols.foldl (publishSol epoch freeAt shift utc) s
  surveyEpoch s e epoch

/-- The row GNSS_SOLUTION: what SV1 latches at the latest epoch, and its solutions. -/
def execGnssSolution (e : EpochIn) (s : State) : Out := .next <|
  let (epoch, freeAt, shift) := latestEpoch s
  if !gnssRuns s || bitOf s.sys.engReset 19 || s.gns.epoch = some freeAt then s
  else
    let s := s.setGns (fun g => { g with epoch := some freeAt })
    let s := e.chans.foldl (latchChan freeAt) s
    settle (runEpoch (showBand e (showBand e s 0) 1) e epoch freeAt shift)

/-! ### GNSS_SET (R125, R126) -/

/-- The registers of GNSS_SET's MASK, in its order. -/
def gnssSetAddrs : List Nat := [0x05000C, 0x050010, 0x050014, 0x05001C, 0x050020, 0x050070, 0x05006C]

/-- The references whose delay or mask the values of a GNSS_SET change. -/
def gnssTouched (s s' : State) : List Nat :=
  let ch (f : Field) : Bool := s.get f != s'.get f
  let all : Bool := ch Reg.GNSS_MASK_N_MIN || ch Reg.GNSS_MASK_CN0_MASK || ch Reg.GNSS_MASK_ELEV_MASK
  [16, 17, 18].filter (fun i => all || (i != 18 && ch Reg.GNSS_DLY_L1_DLY) || (i != 17 && ch Reg.GNSS_DLY_L5_DLY))

/-- GNSS_SET. -/
def gnssSetOp : OpSpec where
  opcode := 0x0220
  check _ d := if 2 ≤ d.u8 16 || d.u8 17 != 0 || 128 ≤ d.u16 18 || !d.zero 48 63 || d.past = 2 ||
    strayPlaced d (d.u16 18) gnssSetAddrs then St.invalid else 0
  due s _ := gnssRuns s && s.atSec
  apply s w :=
    let s' := gnssSetAddrs.zipIdx.foldl (fun s p => if bitOf (w.d.u16 18) p.2 then s.storeWord p.1 (w.d.u32 (20 + 4 * p.2)) else s) s
    let hit := gnssTouched s s'
    let force := bitOf (w.d.u8 16) 0
    if !hit.isEmpty && !force && (isSrc s 16 || isSrc s 17 || isSrc s 18) then refuseDesc s w St.protect
    else finishDesc (if force then dqRefs s' (hit.filter (isQual s)) 9 else s') w St.ok []
  periodic := false

/-- The row GNSS_SET. -/
def execGnssSet (d : Desc) (s : State) : Out := .next (submit gnssSetOp s d)

end Sys2Proof.Machine
end

