-- ==== Sys2Proof/Machine/Redund.lean ====
section
/-!
DEFINITION. Sequence numbers of frames sent through a redundancy group (R350): SipHash-2-4 over 64-bit words, and the numbers of stream
messages, replies, grant messages and port client messages.
-/

namespace Sys2Proof.Machine

/-- The four words of SipHash's state. -/
abbrev Sip := Word64 × Word64 × Word64 × Word64

/-- One SipRound. -/
def sipRound (v : Sip) : Sip :=
  let (a, b, c, d) := v
  let a := a + b
  let b := b.rotateLeft 13 ^^^ a
  let a := a.rotateLeft 32
  let c := c + d
  let d := d.rotateLeft 16 ^^^ c
  let a := a + d
  let d := d.rotateLeft 21 ^^^ a
  let c := c + b
  let b := b.rotateLeft 17 ^^^ c
  let c := c.rotateLeft 32
  (a, b, c, d)

/-- Absorb one 64-bit word with two rounds. -/
def sipWord (v : Sip) (m : Word64) : Sip :=
  let (a, b, c, d) := v
  let (a, b, c, d) := sipRound (sipRound (a, b, c, d ^^^ m))
  (a ^^^ m, b, c, d)

/-- The 64-bit words of a message of `n` bytes: little-endian, the last holding what remains and the length in its top byte. -/
def sipWords (bs : List Byte) : List Word64 :=
  let n := bs.length
  (List.range (n / 8)).map (fun i => BitVec.ofNat 64 (leNat bs (8 * i) 8)) ++
    [BitVec.ofNat 64 (leNat bs (n / 8 * 8) (n % 8) + n % 256 * 2 ^ 56)]

/-- SipHash-2-4 of `bs` under the key k0, k1 (each 64 bits, little-endian halves of the key's bytes). -/
def sipHash (k0 k1 : Nat) (bs : List Byte) : Nat :=
  let k0 : Word64 := BitVec.ofNat 64 k0
  let k1 : Word64 := BitVec.ofNat 64 k1
  let v : Sip := (k0 ^^^ 0x736f6d6570736575, k1 ^^^ 0x646f72616e646f6d, k0 ^^^ 0x6c7967656e657261, k1 ^^^ 0x7465646279746573)
  let (a, b, c, d) := (sipWords bs).foldl sipWord v
  let (a, b, c, d) := sipRound (sipRound (sipRound (sipRound (a, b, c ^^^ 0xff, d))))
  (a ^^^ b ^^^ c ^^^ d).toNat

/-- The number bytes of `n` bytes at `o` spell in network order. -/
def beNat (bs : List Byte) (o n : Nat) : Nat := leNat ((bs.drop o).take n).reverse 0 n

/-- H under the key in use; with none installed the key's bytes are zero, as BOOT leaves them (R388). -/
def hashH (s : State) (bs : List Byte) : Nat :=
  let k := s.cla.seqKey.getD 0
  sipHash (k % 2 ^ 64) (k / 2 ^ 64) bs

/-- A hashed sequence number. -/
def hashedSeq (s : State) (bs : List Byte) : Nat := 0x8000 + hashH s bs % 2 ^ 15

/-- The number of a stream message of slot j, GIDX and type (0 Sync, 1 Follow_Up, 2 Announce, 3 other). -/
def streamSeq (tn gidx type : Nat) : Nat := tn / (7812500 * 65536) % 64 * 512 + gidx % 128 * 4 + type % 4

/-- The number of a reply: client MAC ‖ client sequence ‖ kind. -/
def replySeq (s : State) (mac cseq kind : Nat) : Nat := hashedSeq s (beBytes 6 mac ++ beBytes 2 cseq ++ beBytes 1 kind)

/-- The number of a grant or port client message: MAC ‖ type ‖ n. -/
def grantSeq (s : State) (mac type n : Nat) : Nat := hashedSeq s (beBytes 6 mac ++ beBytes 1 type ++ beBytes 8 n)

/-- The target of what is sent to port p: its redundancy group, if one is in force, or the port (R279). -/
def targetOf (s : State) (p : Nat) : Nat := match groupOf s p with | some g => 16 + g | none => p

/-- A frame to target t carries a trailer or tag. -/
def isGroup (t : Nat) : Bool := 16 ≤ t

end Sys2Proof.Machine
end

