-- ==== Sys2Proof/Machine/Trim.lean ====
section
/-!
DEFINITION. Delay-line trim of the TDC channels (R454, R463).
-/

namespace Sys2Proof.Machine

/-- A calibration of channel c with spread `spread` = c2 − c1 is tracked: when the mean over 1,000 calibrations leaves
560–720 codes the delay line is trimmed by one step towards 640, within ±31 steps; reaching either end sets TDC_TRIM_END
and journals TDC_TRIM. -/
def noteTrim (s : State) (c spread : Nat) : State :=
  let t := s.fab.trim.get (fun _ => Trim.zero) c
  let put (s : State) (t : Trim) : State :=
    { s with fab := { s.fab with trim := s.fab.trim.set (fun _ => Trim.zero) c t } }
  if t.n + 1 < 1000 then put s { t with n := t.n + 1, sum := t.sum + spread }
  else
    let mean := (t.sum + spread) / 1000
    let outside := t.sum + spread < 560000 || 720000 < t.sum + spread
    let step := if !outside then t.step else clampI (-31) 31 (if mean < 640 then t.step + 1 else t.step - 1)
    let s := put s ⟨0, 0, step⟩
    let atEnd := step = 31 || step = -31
    let s := s.putMapBit Reg.FAB_TDC_END_END c atEnd
    if outside && atEnd && step != t.step then
      (s.setFlag Flag.FAB_TDC_TRIM_END).journal 1 0x0013 0x1306
        (leBytes 1 c ++ leBytes 1 (unsigned 8 step) ++ leBytes 2 mean)
    else s

/-- The trim of channel c returns to its production value (containment of TDC_CAL, R465). -/
def resetTrim (s : State) (c : Nat) : State :=
  { s with fab := { s.fab with trim := s.fab.trim.set (fun _ => Trim.zero) c Trim.zero } }.putMapBit Reg.FAB_TDC_END_END c false

end Sys2Proof.Machine
end

