-- ==== Sys2Proof/Machine/Refin.lean ====
section
/-!
DEFINITION. Reference inputs and edge measurement (spec/02_reference_inputs.md): windows and stops, calibration, EVENT
channels, the 1PPS+ToD input, and REFIN_SET.
-/

namespace Sys2Proof.Machine

/-- Channel c. -/
def State.ch (s : State) (c : Nat) : Ch := s.refin.ch.get (fun _ => Ch.zero) c

/-- Replace channel c. -/
def State.setCh (s : State) (c : Nat) (x : Ch) : State :=
  { s with refin := { s.refin with ch := s.refin.ch.set (fun _ => Ch.zero) c x } }

/-- Reference 29 measures on channel c (R79). -/
def isPpsCh (s : State) (c : Nat) : Bool := s.bit Reg.TOD_CFG_EN && s.get Reg.TOD_CFG_PPS_CH = c

/-- The settings the registers of channel c give; the pulse channel of the 1PPS+ToD input is PULSE of 1,000 ms (R79). -/
def chSetOf (s : State) (c : Nat) : ChSet :=
  let pps := isPpsCh s c
  ⟨if pps then 2 else s.get (Reg.CH_CFG_TYPE c), s.get (Reg.CH_CFG_SLOPE c), s.get (Reg.CH_CFG_WIN c),
   if pps then 1000 else s.get (Reg.CH_PER_PER c), s.get (Reg.CH_DIV_DIV c), s.getS (Reg.CH_DLY_DLY c),
   s.get (Reg.CH_MINW_MINW c), s.bit (Reg.CH_EPOFS_AUTO c), s.get (Reg.CH_EPOFS_EPOFS c), s.bit (Reg.CH_CFG_POST c),
   s.get (Reg.CH_CFG_EVRING c), s.bit (Reg.CH_CFG_DIR c), pps⟩

/-- Window length W in ns (R64); 0 for a channel without windows. -/
def ChSet.winNs (x : ChSet) : Nat :=
  if x.type = 1 then 10 ^ (6 + x.win) else if x.type = 2 then x.per * 1000000 else 0

/-- Epoch offset in force: W/2 with AUTO (R64). -/
def ChSet.epOfs (x : ChSet) : Nat := if x.auto then x.winNs / 2 else x.epofs

/-- The channel has epochs. -/
def ChSet.hasEpochs (x : ChSet) : Bool := x.winNs != 0

/-- Measurement runs: the time base runs, and the mode is not BOOT or TEST (R90). -/
def measuring (s : State) : Bool := s.tbLive && s.mode != .boot && s.mode != .test

/-- Now is an epoch of these settings (R64, R603). -/
def atEpoch (s : State) (x : ChSet) : Bool := x.hasEpochs && s.reached (x.winNs * 65536) (x.epOfs * 65536)

/-- ns from now to the next epoch of these settings; W at an epoch. -/
def toEpoch (s : State) (x : ChSet) : Nat :=
  let w := x.winNs
  let r := (((x.epOfs : Int) - (s.tbU / 65536 : Nat)) % (w : Int)).toNat
  if r = 0 then w else r

/-- Now lies in the calibration interval before the next epoch (R67). -/
def inCalInterval (s : State) (x : ChSet) : Bool := x.hasEpochs && toEpoch s x ≤ 24

/-- The stamp of a stop with delay-line code `c` in this TB cycle, in 2⁻⁹ ns (R72): E2 is the second rising TB edge after
the stop. -/
def stopStamp (s : State) (ch code c1 c2 : Nat) : Int :=
  let c' := min (max code c1) c2
  let d := 512 + (1024 * (c' - c1) + (c2 - c1)) / (2 * (c2 - c1))
  ((s.tbU + 131072) / 128 : Nat) - (d : Int) - Config.kPin ch

/-- The same stop on the free-running counter, which times the spacing of stops (R66, R606). -/
def freeStop (s : State) (ch code c1 c2 : Nat) : Int := stopStamp s ch code c1 c2 + ((s.freeNs * 512 : Nat) : Int) - (s.tbU / 128 : Nat)

/-- The TDC of a channel cannot stamp again: less than 3 ns have passed since its last stamped stop (R66). -/
def tooSoon (x : Ch) (free : Int) : Bool := match x.lastStop with | some p => decide (free < p + 1536) | none => false

/-- A calibration pair is valid (R70). -/
def calValid (c1 c2 : Nat) : Bool := 384 + c1 ≤ c2 && c2 ≤ 896 + c1 && 256 ≤ c1 && c2 ≤ 3840

/-- c2 and c1 laid out as RES_CAL (R472). -/
def calInfo (c1 c2 : Nat) : Nat := c2 * 65536 + c1

/-- The calibration check of channel c: an invalid pair reports TDC_CAL (R70). -/
def reportCal (s : State) (c c1 c2 : Nat) : State := checkAt s (0x28 + c) (!calValid c1 c2) 0 0xFF 0 (calInfo c1 c2)

/-! ### Window close -/

/-- Write the 32 stop registers of channel c; entries at and above NSTOP read 0. -/
def putStops (s : State) (c : Nat) (e : Int) (stops : List Int) : State :=
  (List.range 32).foldl (fun s k =>
    s.putPair (Reg.CH_STOP_LO_OFS c k) (Reg.CH_STOP_HI_OFS c k)
      (match stops[k]? with | some t => (t - e).toNat | none => 0)) s

/-- The corrected instant nearest to a nominal instant: φ in 2⁻⁹ ns, in (−PER/2, +PER/2] (R75). -/
def bestPhase (x : ChSet) (stops : List Int) : Option Int :=
  let phis := stops.map (fun t => centred (t - x.dly) (x.per * 512000000))
  phis.foldl (fun b p => match b with | none => some p | some q => if absN p < absN q then some p else some q) none

/-- The stop whose corrected instant is nearest to a nominal instant (R75). -/
def bestStop (x : ChSet) (stops : List Int) : Option Int :=
  let d (t : Int) : Nat := absN (centred (t - x.dly) (x.per * 512000000))
  stops.foldl (fun b t => match b with | none => some t | some q => if d t < d q then some t else some q) none

/-- Update the 1PPS+ToD receiver. -/
def State.setTod (s : State) (f : Tod → Tod) : State := { s with refin := { s.refin with tod := f s.refin.tod } }

/-- A message is paired with a pulse (R82): TODJUMP when it breaks the sequence of seconds. -/
def pairLabel (s : State) (l : TodLabel) : State :=
  let d := s.refin.tod
  let agrees : Bool := match d.lastSec with | some p => l.sec = p + 1 | none => true
  let run := if d.lastSec.isSome && agrees then d.run + 1 else 1
  (s.flagIf (!agrees) Flag.TOD_TODJUMP).setTod (fun d => { d with lastSec := some l.sec, run := run, paired := some l })

/-- What a time-bearing result says of UTC: its offset, and a leap announced (R189, R190). -/
def todUtc (s : State) (l : TodLabel) : State :=
  let s := if l.utcv then deliverOffset s 29 l.utc (s.get (Reg.ENT_STAT_CLASS 29) = 3) else s
  if l.l61 then sourceLeap s 29 (endOfUtcDay s true) true
  else if l.l59 then sourceLeap s 29 (endOfUtcDay s false) false else s

/-- Publish the ToD result of the pulse (R81–R84), once its window has closed: with TOD_OK the full offset, otherwise the pulse phase
alone. -/
def publishTod (s : State) (c : Nat) : State :=
  let tod := s.refin.tod
  let ok : Bool := match tod.paired with | some _ => 3 ≤ tod.run | none => false
  let s := s.putB Reg.TOD_STAT_TOD_OK ok
  let s := match tod.paired with
    | some l =>
      let s := ((s.put Reg.TOD_STAT_QUAL l.qual).put Reg.TOD_SECL_SEC l.sec).put Reg.TOD_SECH_SEC (l.sec / 2 ^ 32)
      let s := (((s.putS Reg.TOD_UTC_UTC_OFS l.utc).putB Reg.TOD_UTC_LEAP61 l.l61).putB Reg.TOD_UTC_LEAP59 l.l59).putB
        Reg.TOD_UTC_UTCV l.utcv
      if ok then
        let phi := clampI (-(2 ^ 47 - 1)) (2 ^ 47 - 1) (tod.pulseStop - (l.sec : Int) * 512000000000)
        let s := s.putPairSat Reg.TOD_PHL_PH Reg.TOD_PHH_PH phi
        todUtc (s.feed 29 ⟨true, tod.epochAt, s.tbU, some phi, 0, 0, true, none, 0⟩) l
      else s
    | none => s
  let s := if ok then s else
    let phi := if s.bit (Reg.RES_STAT_PHV c) then some (s.getPairS (Reg.RES_PHL_PH c) (Reg.RES_PHH_PH c)) else none
    s.feed 29 ⟨phi.isSome, tod.epochAt, s.tbU, phi, 0, 0, false, none, 0⟩
  (s.publish Reg.TOD_STAT_VALID Reg.TOD_STAT_SEQ).setTod (fun d => { d with ended := true })

/-- A window of channel c has closed: a suppression window of its trim return ends at the second (R477). -/
def countTdcWindows (s : State) (c : Nat) : State :=
  { s with flt := { s.flt with wins := s.flt.wins.map (fun w =>
      if w.kind = 6 && w.inst = c then { w with n := w.n + 1, closes := if 1 ≤ w.n then some s.tb.ao else w.closes } else w) } }

/-- Publish the result of the window of channel c that closes now (R74–R76, R84), and deliver it to selection. -/
def publishWindow (s : State) (c : Nat) : State :=
  let x := s.ch c
  let stops := if x.calOk then x.stops else []
  let ts := stops.map (·.1)
  let n := stops.length
  let first := (stops.head?.getD (0, 0))
  let last := (stops.getLast?.getD (0, 0))
  let nspan := if 2 ≤ n then last.2 - first.2 else 0
  let span := if 2 ≤ n then (last.1 - first.1).toNat else 0
  let e : Int := (x.epoch / 128 : Nat)
  let pulse := x.set.type = 2
  let extra := pulse && 1 < n
  let phi := if pulse then bestPhase x.set ts else none
  let phv := pulse && x.calOk && 1 ≤ n
  let lost := if x.set.type = 1 then x.edges < 2 else n = 0 && !x.blind && x.calOk
  let was := s.mapBit Reg.REFIN_LOS_LOS c
  let unknown := !(x.set.type = 1) && n = 0 && (x.blind || !x.calOk)
  let los := if unknown then was else lost
  let s := s.flagIf extra (Flag.CH_EXTRA c)
  let s := (((((((s.putB (Reg.RES_STAT_PHV c) phv).putB (Reg.RES_STAT_CALOK c) x.calOk).putB (Reg.RES_STAT_SHORT c) x.short).putB
    (Reg.RES_STAT_BLIND c) x.blind).putB (Reg.RES_STAT_MISSED c) x.missed).putB (Reg.RES_STAT_EXTRA c) extra).putB
    (Reg.RES_STAT_GLITCH c) x.glitch).put (Reg.RES_STAT_NSTOP c) n
  let s := ((((s.put (Reg.RES_EPNS_NS c) (tbNs x.epoch)).put (Reg.RES_EPSEC_SEC c) (tbSec x.epoch)).put
    (Reg.RES_EDGES_EDGES c) x.edges).put (Reg.RES_NSPAN_NSPAN c) nspan).putPair (Reg.RES_SPANL_SPAN c) (Reg.RES_SPANH_SPAN c) span
  let s := s.putPairSat (Reg.RES_PHL_PH c) (Reg.RES_PHH_PH c) (if phv then phi.getD 0 else 0)
  let s := (s.put (Reg.RES_CAL_C1 c) x.c1).put (Reg.RES_CAL_C2 c) x.c2
  let s := putStops s c e ts
  let s := (s.flagIf (los && !was) (Flag.CH_LOS c)).putMapBit Reg.REFIN_LOS_LOS c los
  let s := s.publish (Reg.RES_STAT_VALID c) (Reg.RES_STAT_SEQ c)
  let s := if x.set.post then
      postEvent s x.set.evring 0x0002 c x.epoch
        (leBytes 1 (s.get (Reg.RES_STAT_SEQ c)) ++ leBytes 1 n ++ leBytes 1 (s.loadWord (Reg.RES_STAT_NSTOP c).addr / 2 ^ 24)
          ++ leBytes 6 (if phv then unsigned 48 (phi.getD 0) else 0))
    else s
  if x.set.pps then
    let at0 : Int := match bestStop x.set ts with | some t => t - x.set.dly | none => 0
    let s := s.setTod (fun d => { d with closed := true, epochAt := x.openAt, pulseStop := at0 })
    let tod := s.refin.tod
    if (tod.paired.isSome || tod.missed || s.bit Reg.TOD_CFG_LABEL) && !tod.ended then publishTod s c else s
  else
    s.feed c ⟨true, x.openAt, x.epoch, if phv then phi else none, nspan, span, false, none, 0⟩

/-- Open a window now with settings `set`; it is short when it runs for less than W (R87). The epoch has FRAC 0 (R64). The pair taken
before it calibrates its stops (R69); a window that opens again in the cycle in which it opened keeps its pair, and so does an EVT
channel, whose grid goes on (R71). -/
def openWindow (s : State) (c : Nat) (set : ChSet) : State :=
  let x := s.ch c
  let short := set.hasEpochs && decide (toEpoch s set < set.winNs)
  let same : Bool := !set.hasEpochs || (x.isOpen && x.openAt = s.freeNs)
  let (c1, c2) := if same then (x.c1, x.c2) else x.next.getD (0, 0)
  s.setCh c { x with
    set := set, changed := false, isOpen := set.hasEpochs, epoch := s.tbU - s.tbU % 65536, short := short, edges := 0, numbered := 0,
    stops := [], blind := false, missed := false, glitch := false, c1 := c1, c2 := c2,
    calOk := if same then x.calOk else x.next.isSome && !x.badNext, next := if same then x.next else none,
    badNext := same && x.badNext, openAt := s.freeNs }

/-- Take the registers' settings into measurement now (R87, R604): a change of TYPE makes the result group not valid until
its first result (R84); a channel that becomes OFF shows LOS (R63). R76 gives LOS for OFF, FREQ and PULSE alone: a channel that becomes
EVENT shows none (DESIGN CHOICE, log 71). -/
def takeIn (s : State) (c : Nat) : State :=
  let x := s.ch c
  let set := chSetOf s c
  let s := if set.type = x.set.type then s else s.put (Reg.RES_STAT_VALID c) 0
  let s := if set.type = 0 then
      (s.flagIf (!s.mapBit Reg.REFIN_LOS_LOS c) (Flag.CH_LOS c)).putMapBit Reg.REFIN_LOS_LOS c true else s
  let s := if set.type = 3 && x.set.type != 3 then s.putMapBit Reg.REFIN_LOS_LOS c false else s
  let s := openWindow s c set
  s.setCh c { s.ch c with setAt := some s.freeNs }

/-- The open window of channel c ends now: its result is published, once within one TB cycle (R603). -/
def endWindow (s : State) (c : Nat) : State :=
  let x := s.ch c
  if x.isOpen && x.openAt != s.freeNs then publishWindow (countTdcWindows s c) c else s

/-- Close the open window of channel c at its epoch, under the settings in force before it, and open the next: idempotent
within one TB cycle. -/
def closeWindow (s : State) (c : Nat) : State :=
  let x := s.ch c
  if x.isOpen && x.openAt = s.freeNs then s
  else
    let s := endWindow s c
    if x.changed then takeIn s c else openWindow s c (s.ch c).set

/-- WINDOW_CLOSE for channel c: at a closing epoch of the settings in force; for a channel without epochs, the
millisecond boundary that takes in a waiting register write (R604). -/
def windowClose (s : State) (c : Nat) : State :=
  let x := s.ch c
  if !measuring s then s
  else if x.set.hasEpochs then (if atEpoch s x.set then closeWindow s c else s)
  else if x.changed && s.atMs then takeIn s c else s

/-! ### Edges in windows -/

/-- A stop on the pulse channel (R81): the first of its window is the pulse, or a later one that lies nearer to the nominal instant
(R75). With LABEL = 1 the message held names it, if it completed 1 ms before; a pulse without one counts NOTOD. -/
def pulseStop (s : State) (x : Ch) (t : Int) : State :=
  let d := absN (centred (t - x.set.dly) (x.set.per * 512000000))
  let tod := s.refin.tod
  if !x.stops.isEmpty then
    (if d < tod.near then s.setTod (fun q => { q with pulse := some s.freeNs, near := d }) else s)
  else
    let s := s.setTod (fun q => { q with
      pulse := some s.freeNs, near := d, closed := false, ended := false, missed := false, paired := none, held := none })
    if !s.bit Reg.TOD_CFG_LABEL then s
    else match tod.held with
      | some l => if l.done + 1000000 ≤ s.freeNs then pairLabel s l
          else ((s.setFlag Flag.TOD_NOPULSE).setFlag Flag.TOD_NOTOD).setTod (fun q => { q with missed := true })
      | none => (s.setFlag Flag.TOD_NOTOD).setTod (fun q => { q with missed := true })

/-- An active edge in the open window of channel c (R65–R68, R72): `code` is the delay-line code, `isGlitch` that the opposite edge
follows within MINW. -/
def countEdge (s : State) (c code : Nat) (isGlitch : Bool) : State :=
  let x := s.ch c
  let blind := inCalInterval s x.set
  let x1 := { x with edges := x.edges + 1, blind := x.blind || blind }
  let s := s.flagIf blind (Flag.CH_BLIND c)
  if isGlitch && x.set.type = 2 && x.set.minw != 0 then
    (s.setFlag (Flag.CH_GLITCH c)).setCh c { x1 with glitch := true }
  else
    let k := x1.numbered
    let x2 := { x1 with numbered := k + 1 }
    if k % x.set.div != 0 || 32 ≤ k / x.set.div || blind || !x.calOk then s.setCh c x2
    else
      let free := freeStop s c code x.c1 x.c2
      if tooSoon x free then (s.setFlag (Flag.CH_MISSED c)).setCh c { x2 with missed := true }
      else
        let t := stopStamp s c code x.c1 x.c2
        let s := if x.set.pps then pulseStop s x t else s
        s.setCh c { x2 with stops := x2.stops ++ [(t, k)], lastStop := some free }

/-- An active edge on windowed channel c. One in the TB cycle of an epoch belongs to the window that the epoch opens (R64). -/
def inputEdge (s : State) (c code : Nat) (isGlitch : Bool) : State :=
  if !measuring s then s
  else
    let s := windowClose s c
    if !(s.ch c).isOpen then s else countEdge s c code isGlitch

/-- The row INPUT_EDGE. -/
def execInputEdge (c : Fin 16) (code : BitVec 12) (isGlitch : Bool) (s : State) : Out :=
  .next (settle (inputEdge s c code.toNat isGlitch))

/-! ### Calibration -/

/-- The calibration pair taken before the next epoch (R69, R70): an invalid one sets CALFAIL and reports TDC_CAL. -/
def takeCalibration (s : State) (c c1 c2 : Nat) : State :=
  let ok := calValid c1 c2
  let s := s.setCh c { s.ch c with next := some (c1, c2), badNext := !ok }
  let s := noteTrim s c (c2 - c1)
  reportCal (s.flagIf (!ok) (Flag.CH_CALFAIL c)) c c1 c2

/-- A REFIN_SET for channel c waits for its instant. -/
def setWaits (s : State) (c : Nat) : Bool := s.hif.waiting.any (fun w => w.opcode = 0x0210 && w.d.u8 16 = c)

/-- Now lies in the 24 ns before a millisecond boundary, at which channel c, without epochs, may open its first window. -/
def inFirstInterval (s : State) (c : Nat) : Bool :=
  let x := s.ch c
  !x.set.hasEpochs && (x.changed || setWaits s c) && decide (1000000 - s.tbU / 65536 % 1000000 ≤ 24)

/-- The row TDC_CALIBRATION: in [E − 24 ns, E) before an epoch of a windowed channel, or before the boundary at which one opens its
first window. -/
def execTdcCalibration (c : Fin 16) (c1 c2 : BitVec 12) (s : State) : Out := .next <|
  if !measuring s then s
  else if inCalInterval s (s.ch c).set || inFirstInterval s c then takeCalibration s c c1.toNat c2.toNat
  else s

/-- The channel is calibrated on the fixed grid: TYPE EVENT, or an EVT pin driven as an output (R71, R78). -/
def onGrid (s : State) (c : Nat) : Bool := 16 ≤ c && ((s.ch c).set.type = 3 || (s.ch c).set.dir)

/-- Now lies in [C − 24 ns, C) before a calibration instant (R71). -/
def inGridInterval (s : State) : Bool :=
  let r := ((500000 : Int) - (s.tbU / 65536 : Nat)) % 1000000
  0 < r && r ≤ 24

/-- The row EVT_CALIBRATION: the pair of one EVT channel at its calibration instant, which ends a "window" of the channel; with it an invalid pair sets CALFAIL
and reports TDC_CAL, and the edges until the next instant are not stamped (R71). -/
def execEvtCalibration (e : Fin 8) (c1 c2 : BitVec 12) (s : State) : Out := .next <|
  let c := 16 + e.val
  if !measuring s || !onGrid s c || !s.reached msU (500000 * 65536) then s
  else
    let ok := calValid c1.toNat c2.toNat
    let s := s.setCh c { s.ch c with c1 := c1.toNat, c2 := c2.toNat, calOk := ok }
    let s := noteTrim (countTdcWindows s c) c (c2.toNat - c1.toNat)
    reportCal (s.flagIf (!ok) (Flag.CH_CALFAIL c)) c c1.toNat c2.toNat

/-! ### EVENT channels -/

/-- The FIFO of an EVENT channel passes a stamp on every 1,000 ns, the sustained rate of R63; the spec gives its 64 places and no
rate of its own (DESIGN CHOICE, log 72). -/
def fifoNs : Nat := 1000

/-- The stamps that the FIFO of a channel still holds at elapsed time `t`. -/
def fifoAt (x : Ch) (t : Nat) : List Nat := x.fifo.filter (fun e => t < e)

/-- What an active edge on an EVT channel yields (R71, R77): the state with the edge counted, posted and flagged, and its
stamp in 2⁻¹⁶ ns when it was stamped. A glitch is counted, and its stamp discarded (R68). With TYPE EVENT and POST 0 edges are only
counted; an edge of a driven pin is stamped whatever POST is (R78). Before the first calibration instant no pair stands, and edges are
unstamped as after an invalid one (DESIGN CHOICE, log 71). -/
def stampEvt (s : State) (c code : Nat) (isGlitch : Bool) : State × Option Nat :=
  let x := s.ch c
  let x := { x with running := (x.running + 1) % 2 ^ 32 }
  if isGlitch && x.set.minw != 0 then ((s.setFlag (Flag.CH_GLITCH c)).setCh c x, none)
  else
    let blind := inGridInterval s
    let bad := !x.calOk
    let ev (s : State) (st : Nat) (ovf : Bool) : State :=
      if x.set.post then
        postEvent s x.set.evring 0x0001 c st
          (leBytes 4 x.running ++ leBytes 1 (b2n ovf + 2 * b2n blind + 4 * b2n (bad && !blind)))
      else s
    if blind then (ev ((s.setFlag (Flag.CH_BLIND c)).setCh c { x with ovf := false }) 0 x.ovf, none)
    else if !x.set.post && !x.set.dir then (s.setCh c x, none)
    else if bad then (ev (s.setCh c { x with ovf := false }) 0 x.ovf, none)
    else
      let free := freeStop s c code x.c1 x.c2
      let held := fifoAt x s.freeNs
      if tooSoon x free then ((s.setFlag (Flag.CH_MISSED c)).setCh c x, none)
      else if 64 ≤ held.length then
        ((s.setFlag (Flag.CH_OVF c)).setCh c { x with ovf := true, fifo := held, lastStop := some free }, none)
      else
        let out := max s.freeNs (held.getLast?.getD 0) + fifoNs
        let t := (stopStamp s c code x.c1 x.c2).toNat * 128
        (ev (s.setCh c { x with ovf := false, fifo := held ++ [out], lastStop := some free }) t x.ovf, some t)

/-! ### Register writes and REFIN_SET -/

/-- Addresses of the seven setting registers of channel c, in the order of REFIN_SET's MASK (R86). -/
def chSettingAddrs (c : Nat) : List Nat := (List.range 7).map (fun k => 0x041000 + 0x200 * c + 4 * k)

/-- The store rules of a channel that span fields: SLOPE both only on TYPE EVENT (R62), EPOFS modulo W (CH_EPOFS). -/
def normCh (s : State) (c : Nat) : State :=
  let s := if s.get (Reg.CH_CFG_SLOPE c) = 2 && s.get (Reg.CH_CFG_TYPE c) != 3 then s.put (Reg.CH_CFG_SLOPE c) 0 else s
  let w := (chSetOf s c).winNs
  if w = 0 then s else s.put (Reg.CH_EPOFS_EPOFS c) (s.get (Reg.CH_EPOFS_EPOFS c) % w)

/-- A setting of channel c is stored and waits for the channel's next epoch or millisecond boundary (R604). -/
def storeChSetting (s : State) (c k v : Nat) : State :=
  let s := normCh (s.storeWord (0x041000 + 0x200 * c + 4 * k) v) c
  s.setCh c { s.ch c with changed := true }

/-- The row REFIN_CH_WRITE: a SETUP write of setting register k (CH_CFG … CH_EPOFS) of channel c. -/
def execRefinChWrite (c : Fin 24) (k : Fin 7) (v : Word) (s : State) : Out := .next <|
  if s.mode = .setup then storeChSetting s c k v.toNat else s

/-- The mask bits of REFIN_SET. -/
def refinMask (d : Desc) (k : Nat) : Bool := bitOf (d.u16 18) k

/-- The value REFIN_SET gives register k would change a field PROTECTED covers: TYPE, SLOPE, DIFF, HYST, THR, PER or DLY
(R88, R410). -/
def refinTouches (s s' : State) (c : Nat) : Bool :=
  [Reg.CH_CFG_TYPE c, Reg.CH_CFG_SLOPE c, Reg.CH_CFG_DIFF c, Reg.CH_CFG_HYST c, Reg.CH_THR_THR c, Reg.CH_PER_PER c,
   Reg.CH_DLY_DLY c].any (fun f => s.get f != s'.get f)

/-- The registers after the selected values of REFIN_SET are stored. -/
def refinStore (s : State) (d : Desc) : State :=
  let c := d.u8 16
  normCh ((List.range 7).foldl (fun s k =>
    if refinMask d k then s.storeWord (0x041000 + 0x200 * c + 4 * k) (d.u32 (20 + 4 * k)) else s) s) c

/-- The reference channel c feeds: c, or 29 for the pulse channel (R57). -/
def refOfCh (s : State) (c : Nat) : Nat := if isPpsCh s c then 29 else c

/-- An EVT pin has enabled schedule entries. -/
def evtHasEntries (s : State) (c : Nat) : Bool :=
  s.pls.entries.any (fun p => p.2.enabled && (p.2.raw.getD 10 0).toNat = c)

/-- REFIN_SET (R86–R89). Descriptors that reach the same epoch are applied at it, though the first changes the epochs (R89). Result byte
24 names the next result's SEQ also where the channel becomes OFF and no result follows: R87 gives no value there (DESIGN CHOICE,
log 71). -/
def refinSetOp : OpSpec where
  opcode := 0x0210
  check _ d := if 23 < d.u8 16 || 2 ≤ d.u8 17 || 128 ≤ d.u16 18 || !d.zero 48 63 || d.past = 2 || strayPlaced d (d.u16 18) (chSettingAddrs (d.u8 16)) then St.invalid else 0
  due s d :=
    let x := s.ch (d.u8 16)
    x.setAt = some s.freeNs || (if d.u8 16 < 16 && x.set.hasEpochs then atEpoch s x.set else s.atMs)
  apply s w :=
    let c := w.d.u8 16
    let force := bitOf (w.d.u8 17) 0
    let s' := refinStore s w.d
    let changes := refinTouches s s' c
    if c < 16 && isSrc s (refOfCh s c) && changes && !force then refuseDesc s w St.protect
    else if 16 ≤ c && s.bit (Reg.CH_CFG_DIR c) != s'.bit (Reg.CH_CFG_DIR c) && evtHasEntries s c then refuseDesc s w St.busy
    else
      let s := takeIn (refinStore (endWindow s c) w.d) c
      let s := if force && changes && c < 16 && isNamed s (refOfCh s c) then
          { s with sel := { s.sel with dq := s.sel.dq ++ [(refOfCh s c, 9)] } } else s
      finishDesc s w St.ok (leBytes 1 (if c < 16 then (s.get (Reg.RES_STAT_SEQ c) + 1) % 256 else 0))
  periodic := false

/-- The row REFIN_SET. -/
def execRefinSet (d : Desc) (s : State) : Out := .next (submit refinSetOp s d)

/-! ### Time of day -/

/-- A complete ToD message (R80–R82): `good` the checksum holds, `framed` no framing error, `known` it carries the fields. With LABEL = 0
it is paired with the pulse before it; with LABEL = 1 it is held for the pulse to come. -/
def todMessage (s : State) (framed good known : Bool) (l : TodLabel) : State :=
  if !measuring s || !s.bit Reg.TOD_CFG_EN then s
  else if !framed then s.setFlag Flag.TOD_FRAMING
  else if !good then s.setFlag Flag.TOD_CKSUM
  else if !known then s.setFlag Flag.TOD_UNKNOWN
  else
    let tod := s.refin.tod
    let label1 := s.bit Reg.TOD_CFG_LABEL
    let age := match tod.pulse with | some p => s.freeNs - p | none => 0
    let inside := tod.pulse.isSome && (if label1 then 10000000 ≤ age else 1000000 ≤ age && age ≤ 990000000)
    if !inside then s.setFlag Flag.TOD_NOPULSE
    else if (if label1 then tod.held.isSome else tod.paired.isSome) then s.setFlag Flag.TOD_DUP
    else if label1 then s.setTod (fun d => { d with held := some l })
    else
      let s := pairLabel s l
      if tod.closed && !tod.ended then publishTod s (s.get Reg.TOD_CFG_PPS_CH) else s

/-- The row TOD_MESSAGE. -/
def execTodMessage (framed good known : Bool) (sec : BitVec 48) (utcOfs : BitVec 16) (l61 l59 utcv : Bool) (qual : Byte)
    (s : State) : Out :=
  .next (settle (todMessage s framed good known ⟨sec.toNat, qual.toNat, utcOfs.toInt, l61, l59, utcv, s.freeNs⟩))

/-- The row TOD_INTERVAL_END: with LABEL = 0 a pulse's interval ends without a message (R81): NOTOD once, and a result with TOD_OK 0.
With LABEL = 1 the interval ends before the pulse, which finds no message. -/
def execTodIntervalEnd (s : State) : Out := .next <|
  let tod := s.refin.tod
  match tod.pulse with
  | none => s
  | some p =>
    if !measuring s || !s.bit Reg.TOD_CFG_EN || s.bit Reg.TOD_CFG_LABEL || tod.missed || s.freeNs < p + 990000000 || tod.paired.isSome then s
    else
      let s := (s.setFlag Flag.TOD_NOTOD).setTod (fun d => { d with missed := true })
      if tod.ended || !tod.closed then s else publishTod s (s.get Reg.TOD_CFG_PPS_CH)

end Sys2Proof.Machine
end

