-- ==== Sys2Proof/Machine/Divide.lean ====
section
/-!
DEFINITION. The dividers and the edges of the clock outputs (R203, R205, R208, R209, R213, R217): what each PLL and output divides by, the grid an
output's edges lie on, where its divider places them, and the dither of its modulator.
-/

namespace Sys2Proof.Machine

/-- DPLL k beside its registers. -/
def State.dpll (s : State) (k : Nat) : DpllSt := s.syn.dplls.get (fun _ => DpllSt.zero) k

/-- Replace DPLL k. -/
def State.setDpll (s : State) (k : Nat) (d : DpllSt) : State :=
  { s with syn := { s.syn with dplls := s.syn.dplls.set (fun _ => DpllSt.zero) k d } }

/-- Output n beside its registers. -/
def State.out (s : State) (n : Nat) : OutSt := s.syn.outs.get (fun _ => OutSt.zero) n

/-- Replace output n. -/
def State.setOut (s : State) (n : Nat) (o : OutSt) : State :=
  { s with syn := { s.syn with outs := s.syn.outs.set (fun _ => OutSt.zero) n o } }

/-- The output's source (R219). -/
def outSrc (s : State) (n : Nat) : Nat := s.get (Reg.OUT_CFG_SRC n)

/-- The outputs whose source is DPLL k. -/
def dpllOuts (s : State) (k : Nat) : List Nat := (List.range 12).filter (fun n => outSrc s n = k)

/-- The reference that DPLL k uses: a table ID, 32 the time scale, 33 when REF is FSRC and none is named. -/
def dpllRef (s : State) (k : Nat) : Nat :=
  let r := s.get (Reg.DPLL_CFG_REF k)
  if r = 33 then (current s 1).getD 33 else r

/-! ### What the PLLs divide by (R203, R205) -/

/-- A fraction in 2⁻⁴⁸ as a ratio: 1 + y. -/
def ratio48 (y : Int) : Rat := 1 + (y : Rat) / ((2 ^ 48 : Nat) : Rat)

/-- 1 + FST × 2⁻⁴⁸. -/
def fstRatio (s : State) : Rat := ratio48 (s.getPairS Reg.TNS_FSTL_FST Reg.TNS_FSTH_FST)

/-- A divider held to a 48-bit fraction, in 2⁻⁴⁸ (R203). The spec gives no rounding; it is rounded down (DESIGN CHOICE, log 80). -/
def dividerWord (q : Rat) : Nat := (floorQ (q * ((2 ^ 48 : Nat) : Rat))).toNat

/-- The multiplier of a REFMUL code as numerator and denominator: 0 ×1, 1 ×2, 2 ÷2 (R218). -/
def mulOf (c : Nat) : Nat × Nat := if c = 1 then (2, 1) else if c = 2 then (1, 2) else (1, 1)

/-- APLL0's feedback divider N₀, in 2⁻⁴⁸ (R203). -/
def apll0Div (s : State) : Nat := dividerWord (4000000000 / (s.get Reg.SYN_OSC_FREQ : Rat) * fstRatio s)

/-- APLL1's feedback divider N₁ with the multiplier in use, in 2⁻⁴⁸ (R205). -/
def apll1Div (s : State) : Nat :=
  let m := mulOf (s.get Reg.SYN_APLL1_CFG_REFMUL_USED)
  dividerWord (10000000000 * (m.2 : Rat) / ((s.get Reg.SYN_OSC_FREQ : Rat) * (m.1 : Rat)) * fstRatio s * ratio48 (s.dpll 1).y)

/-- APLL2 multiplies its reference, the TB clock ÷ 40, by the integer 400 (R203). -/
def apll2Div : Nat := 400

/-- y of the source of output n: that of its DPLL, else 0. APLL1 itself follows DPLL1. -/
def srcRatio (s : State) (n : Nat) : Rat :=
  let k := outSrc s n
  if 1 ≤ k && k ≤ 3 then ratio48 (s.dpll k).y else 1

/-- What output n divides its APLL by: D × (1 + y_k)⁻¹, with D = 10¹⁰ × FD / FN (R205). -/
def outDiv (s : State) (n : Nat) : Rat :=
  10000000000 * (s.get (Reg.OUT_FD_FD n) : Rat) / (s.get (Reg.OUT_FN_FN n) : Rat) / srcRatio s n

/-- The frequency of output n in Hz while it runs (R205, R210, R216): FN/FD times that of its source; on the way of a SET_FREQ slew between
the frequency it leaves and the new one; f (1 ± ε) in a slewed alignment, `up` when its edges lie late. -/
def outFreq (s : State) (n : Nat) (up : Bool) : Rat :=
  let new : Rat := (s.get (Reg.OUT_FN_FN n) : Rat) / (s.get (Reg.OUT_FD_FD n) : Rat)
  let o := s.out n
  let f : Rat := match o.prev with
    | some p => let old : Rat := (p.1 : Rat) / (p.2 : Rat)
                clampQ (min old new) (max old new) (Config.slewFreq s.freeNs)
    | none =>
      if s.get (Reg.OUT_STAT_STATE n) != 3 then new
      else
        let e : Rat := (s.get Reg.SYN_RELOCK_FOVR_LIM : Rat) / 1000000
        if up then new * (1 + e) else new * (1 - e)
  f * srcRatio s n

/-! ### The common period of a FREQ reference (R206, R208) -/

/-- DPLL k's reference is a FREQ input. -/
def freqInput (s : State) (k : Nat) : Bool := dpllRef s k < 16 && classOf s (dpllRef s k) = 1

/-- f_out,k: the highest frequency among the outputs of DPLL k, as numerator and denominator in Hz; 1 kHz when it has none. -/
def topOut (s : State) (k : Nat) : Nat × Nat :=
  match (dpllOuts s k).map (fun n => (s.get (Reg.OUT_FN_FN n), s.get (Reg.OUT_FD_FD n))) with
  | [] => (1000, 1)
  | p :: t => t.foldl (fun a b => if a.1 * b.2 < b.1 * a.2 then b else a) p

/-- gcd(f_in, f_out,k) as a numerator in Hz over the denominator of f_out,k. -/
def commonHz (s : State) (k : Nat) : Nat × Nat :=
  let f := topOut s k
  (Nat.gcd (s.get (Reg.ENT_FNOM_F_NOM (dpllRef s k)) * f.2) f.1, f.2)

/-- Reference cycles in the common period. -/
def commonCycles (s : State) (k : Nat) : Nat :=
  let g := commonHz s k
  s.get (Reg.ENT_FNOM_F_NOM (dpllRef s k)) * g.2 / g.1

/-- The phase error in ps; of a FREQ reference modulo the common period (R206). -/
def phaseErr (s : State) (k : Nat) (e : Int) : Int :=
  if !freqInput s k then e
  else
    let g := commonHz s k
    let p : Rat := ((1000000000000 * g.2 : Nat) : Rat) / ((g.1 : Nat) : Rat)
    if p = 0 then e else roundQ ((e : Rat) - p * ((roundQ ((e : Rat) / p) : Int) : Rat))

/-- The period of DPLL k's FREQ reference in 2⁻⁹ ns, at the frequency the DPLL follows. -/
def refPeriod (s : State) (k : Nat) : Rat :=
  512000000000 / (s.get (Reg.ENT_FNOM_F_NOM (dpllRef s k)) : Rat) / ratio48 (s.dpll k).y

/-- The anchor at a lock (R208): the reference edge nearest to now; none where no edge of the reference is stamped. -/
def lockAnchor (s : State) (k : Nat) : Option Int :=
  if !freqInput s k then none
  else
    match (s.ch (dpllRef s k)).lastStop with
    | none => none
    | some t =>
      let p := refPeriod s k
      if p = 0 then some t else some (roundQ ((t : Rat) + p * ((roundQ (((s.freeNs * 512 : Nat) : Rat) / p - (t : Rat) / p) : Int) : Rat)))

/-- The anchor followed along the reference: the edge at or before the latest stop that lies whole common periods after it. -/
def followAnchor (s : State) (k : Nat) (a : Int) : Int :=
  match (s.ch (dpllRef s k)).lastStop with
  | none => a
  | some t =>
    let p := refPeriod s k
    let q := commonCycles s k
    if !freqInput s k || p = 0 || q = 0 then a
    else roundQ ((t : Rat) - p * ((roundQ (((t - a : Int) : Rat) / p) % (q : Int) : Int) : Rat))

/-! ### The grid (R208) -/

/-- An instant of the free-running counter (2⁻⁹ ns) in the time base (2⁻¹⁶ ns). -/
def freeToTb (s : State) (t : Int) : Rat := (((t - ((s.freeNs * 512 : Nat) : Int)) * 128 + (s.tbU : Int) : Int) : Rat)

/-- PHOFS − DLY in 2⁻¹⁶ ns. -/
def outOffset (s : State) (n : Nat) : Int :=
  ((s.getPair (Reg.OUT_PHOFS_LO_PHOFS n) (Reg.OUT_PHOFS_HI_PHOFS n) : Int) - s.getS (Reg.OUT_DLY_DLY n)) * 128

/-- The grid of output n in the time base, in 2⁻¹⁶ ns: one of its edges and its period (R208). On the time scale k/f + PHOFS − DLY; on a DPLL
locked to a PULSE or TIME reference the same with the reference's phase added; on one locked to a FREQ reference PHOFS − DLY after
its anchor. None where the rule places no edge: SRL1, PLS, and a DPLL that is not locked. -/
def outGrid (s : State) (n : Nat) : Option (Rat × Rat) :=
  let per : Rat := ((s.get (Reg.OUT_FD_FD n) * secU : Nat) : Rat) / (s.get (Reg.OUT_FN_FN n) : Rat)
  let o : Rat := (outOffset s n : Rat)
  let k := outSrc s n
  if k = 0 then some (o, per)
  else if 4 ≤ k || s.get (Reg.DPLL_STAT_STATE k) != 2 then none
  else if dpllRef s k = 32 then some (o, per)
  else if freqInput s k then (s.dpll k).anchor.map (fun a => (freeToTb s a + o, per / srcRatio s n))
  else (phiOf s (dpllRef s k)).map (fun p => (o + p * 65536 / 1000, per))

/-- The edge of output n's grid in this TB cycle (2⁻¹⁶ ns of the time base), when there is one. -/
def gridEdge (s : State) (n : Nat) : Option Rat :=
  match outGrid s n with
  | none => none
  | some (o, per) =>
    let now : Rat := ((s.tbU : Nat) : Rat)
    let e := o + per * (ceilQ ((now - o) / per) : Rat)
    if per ≤ 0 then none else if e < now + 65536 then some e else none

/-! ### Placing edges (R209) -/

/-- Steps of the phase interpolator in one second: 10¹⁰ VCO edges of 64 steps of 1.5625 ps. -/
def stepsHz : Nat := 640000000000

/-- The accumulator after j edges, modulo FN. -/
def edgeAcc (fn fd j : Nat) : Nat := j * stepsHz * fd % fn

/-- Steps from the first edge to edge j. -/
def edgeSteps (fn fd j : Nat) : Nat := j * stepsHz * fd / fn

/-- The VCO edge that edge j is placed on. -/
def edgeVco (fn fd j : Nat) : Nat := edgeSteps fn fd j / 64

/-- The phase interpolator's code at edge j. -/
def edgeCode (fn fd j : Nat) : Nat := edgeSteps fn fd j % 64

/-- An instant of the time base (2⁻¹⁶ ns) in interpolator steps from TB counter 0. The step at or before it is taken (DESIGN CHOICE, log 80). -/
def stepOf (s : State) (e : Rat) : Int := floorQ ((e - (s.tb.ofs : Rat)) * 640 / 65536)

/-! ### Dither (R217) -/

/-- The LFSR i steps after it was seeded. -/
def lfsrRun (seed : Nat) : Nat → Nat
  | 0 => seed % 2 ^ 32
  | i + 1 => Config.lfsrNext (lfsrRun seed i) % 2 ^ 32

/-- The dither of modulator cycle j, in steps: the second cycle of a pair undoes the first. -/
def ditherAt (seed j : Nat) : Int :=
  let x := Config.ditherOf (lfsrRun seed (j / 2))
  if j % 2 = 0 then x else -x

/-- Output n is dithered: never with SRC SRL1, nor where its division is an integer. -/
def dithers (s : State) (n : Nat) : Bool :=
  s.bit (Reg.OUT_CFG_DITHER n) && outSrc s n < 4 && outDiv s n != ((floorQ (outDiv s n) : Int) : Rat)

/-- Edge j of a sequence, in steps from its first one: FN, FD, the seed and whether it is dithered give it. -/
def edgeSeq (fn fd : Nat) (dither : Bool) (seed j : Nat) : Int :=
  (edgeSteps fn fd j : Int) + (if dither then ditherAt seed j else 0)

/-- Edge j of output n since its start, in steps from TB counter 0, where the model knows its first edge. -/
def outEdge (s : State) (n j : Nat) : Option Int :=
  let o := s.out n
  o.edge0.map (fun e => e + edgeSeq (s.get (Reg.OUT_FN_FN n)) (s.get (Reg.OUT_FD_FD n)) (dithers s n) o.lfsr j)

/-- Seed output n's LFSR from SEED: at every start and every realignment. -/
def seedOut (s : State) (n : Nat) : State := s.setOut n { s.out n with lfsr := s.get (Reg.OUT_SEED_SEED n) }

/-! ### The pins (R213, R214, R220) -/

/-- The levels of OUTn_P and OUTn_N while output n drives its active level or not; none is high impedance. INV inverts both. -/
def outPins (s : State) (n : Nat) (active : Bool) : Option Bool × Option Bool :=
  let p := active != s.bit (Reg.OUT_CFG_INV n)
  let e := s.get (Reg.OUT_CFG_ELEC n)
  if !s.bit (Reg.OUT_STAT_DRV n) then (none, none) else (some p, if e = 3 || e = 4 then none else some !p)

end Sys2Proof.Machine
end

