-- ==== Sys2Proof/Machine/Served.lean ====
section
/-!
DEFINITION. The quality fields the Q9600 serves (R192, R193), by time-scale state and TRACE.
-/

namespace Sys2Proof.Machine

/-- The Announce of the master chosen by the client of SRC, when SRC is a network reference. -/
def srcAnn (s : State) : Option Ann :=
  match current s 0 with
  | some i =>
    if 20 ≤ i && i ≤ 27 then
      let c := s.client (i - 20)
      (c.masters.find? (fun a => some a.1.ident = c.master)).map (fun a => a.1)
    else none
  | none => none

/-- The QL index of FSRC; 8 when it has none. -/
def fsrcQl (s : State) : Nat :=
  match current s 1 with
  | some f => if 20 ≤ f && f ≤ 27 then s.get (Reg.ENT_NETSTAT_QL f) else 8
  | none => 8

/-- clockClass sent (R192): under the telecom profiles, or under the others. -/
def clockClassOf (s : State) (telecom : Bool) : Nat :=
  let st := tsState s
  let t := s.tns.trace
  if st = 2 then
    if t = 1 || t = 2 || t = 6 then (if telecom then 6 else s.get Reg.TNS_CLS_DEF_CLS_LOCKED)
    else if t = 3 || t = 4 then s.get (Reg.ENT_NETSTAT_CLASS_RX s.tns.src)
    else if t = 5 then (s.cnj.peer.map (fun p => if telecom then p.clsT else p.clsD)).getD 248
    else if telecom then 248 else s.get Reg.TNS_CLS_DEF_CLS_HOST
  else if st = 3 then (if telecom then 7 else s.get Reg.TNS_CLS_DEF_CLS_HOLD)
  else if st = 4 then
    (if telecom then (if fsrcQl s ≤ 3 then 140 else if fsrcQl s = 4 then 150 else 160) else s.get Reg.TNS_CLS_DEF_CLS_LOST)
  else 248

/-- timeSource sent (R192). -/
def timeSourceOf (s : State) : Nat :=
  let st := tsState s
  let byTrace := if s.tns.trace = 5 then peerSource s else lockedTimeSource s.tns.trace
  if st = 2 then byTrace
  else if st = 3 || st = 4 then s.tns.timeSource.getD byTrace
  else if s.get Reg.TNS_CFG_OSC_CLASS = 1 || s.get Reg.TNS_CFG_OSC_CLASS = 2 then 0x10 else 0xA0

/-- timeTraceable and frequencyTraceable sent (R192). -/
def traceableOf (s : State) : Bool × Bool :=
  let st := tsState s
  let t := s.tns.trace
  let q : Bool := fsrcQl s ≤ 3
  if st = 2 then
    if t = 1 || t = 2 || t = 6 then (true, true)
    else if t = 3 || t = 4 then (match srcAnn s with | some a => (a.timeTrace, a.freqTrace) | none => (false, false))
    else if t = 5 then (match s.cnj.peer with | some p => (bitOf p.trc 0, bitOf p.trc 1) | none => (false, false))
    else (false, false)
  else if st = 3 then (true, q)
  else if st = 4 then (false, q)
  else (false, false)

/-- clockAccuracy sent (R192): `b` is the served core bound. -/
def accuracyOf (s : State) (telecom : Bool) (b : Option Nat) : Nat :=
  if telecom then (if clockClassOf s true = 6 then 0x21 else 0xFE)
  else match b with
    | none => 0xFE
    | some b => ((List.range 27).map (· + 0x17)).find? (fun a => b ≤ accLimit a) |>.getD 0xFE

/-- stepsRemoved sent (R330). -/
def stepsOf (s : State) : Nat :=
  let t := s.tns.trace
  if tsState s != 2 then 0
  else if t = 3 || t = 4 then (match srcAnn s with | some a => a.steps + 1 | none => 1)
  else if t = 5 then (s.cnj.peer.map (fun p => p.steps)).getD 0 + 1
  else 0

/-- Stratum of an NTP reply (R193). -/
def stratumOf (s : State) : Nat :=
  let st := tsState s
  if st = 0 || (st = 1 && !s.tns.timeSet) then 16 else 1

/-- Leap indicator of an NTP reply sent at `ttx` (R29, R193). -/
def leapIndAt (s : State) (ttx : Nat) : Nat :=
  let st := tsState s
  if st = 2 || st = 3 then
    if !utcValid s then 3
    else match leapAt s ttx with
      | some true => 1
      | some false => 2
      | none => 0
  else 3

/-- The four characters of a reference ID as a number, the first in the highest byte. -/
def refChars (a b c d : Nat) : Nat := ((a * 256 + b) * 256 + c) * 256 + d

/-- Reference ID of an NTP reply (R193). -/
def refIdOf (s : State) : Nat :=
  let t := s.tns.trace
  if stratumOf s = 16 then refChars 0x49 0x4E 0x49 0x54
  else if t = 1 || t = 2 then
    (let k := s.get Reg.GNSS_CFG_TSYS
     if k = 0 then refChars 0x47 0x50 0x53 0 else if k = 1 then refChars 0x47 0x41 0x4C 0 else refChars 0x42 0x44 0x53 0)
  else if t = 3 || t = 4 then refChars 0x50 0x54 0x50 0
  else if t = 5 then (s.cnj.peer.map (fun p => p.refId)).getD 0
  else if t = 6 then refChars 0x50 0x50 0x53 0
  else s.get Reg.TNS_NTP_REF7_REFID7

end Sys2Proof.Machine
end

