-- ==== Sys2Proof/Machine/Irig.lean ====
section
/-!
DEFINITION. Contents of IRIG-B frames (R239–R241): calendar, BCD fields, control functions, time quality and parity. The
places of the bits in the code are those of IRIG Standard 200 (log 30).
-/

namespace Sys2Proof.Machine

/-- Days from 1970-01-01 to 1 January of year y (y ≥ 1970). -/
def daysToYear (y : Nat) : Nat := 365 * (y - 1970) + (y - 1969) / 4 - (y - 1901) / 100 + (y - 1601) / 400

/-- The year of a day counted from 1970-01-01. -/
def yearOf (days : Nat) : Nat :=
  let y := 1970 + days * 400 / 146097
  if daysToYear (y + 1) ≤ days then y + 1 else if days < daysToYear y then y - 1 else y

/-- Day of year (1–366) of a day counted from 1970-01-01. -/
def dayOfYear (days : Nat) : Nat := days - daysToYear (yearOf days) + 1

/-- `n` bits of v, lowest first, placed from position p: the positions that hold a 1. -/
def bitsAt (p n v : Nat) : List Nat := (List.range n).filterMap (fun k => if bitOf v k then some (p + k) else none)

/-- The civil second a frame carries: seconds since 1970 of UTC + LOC_OFS for the PT second `sec`, and whether it is an inserted
second (read as 60). -/
def civilSecond (s : State) (n sec : Nat) : Nat × Bool :=
  let leap : Bool := s.utc.inLeapEnd = some (sec + 1) || (utcValid s && s.utc.leap = some (sec, true))
  let utc : Int := (sec : Int) - taiUtcAt s (sec * secU)
  let ofs : Int := s.getS (Reg.GEN_IRIG_LOC_OFS n) * 1800
  ((utc + ofs).toNat, leap)

/-- Smallest code from 1 whose limit (1 ns, 10 ns, …) exceeds the bound in ps; 0xF beyond 0xB. -/
def tqFrom : Nat → Nat → Nat → Nat → Nat
  | 0, _, _, _ => 0xF
  | f + 1, c, lim, b => if b < lim then c else tqFrom f (c + 1) (lim * 10) b

/-- Time quality (R241) of a served Gloss word. -/
def timeQuality (s : State) (n w : Nat) : Nat :=
  match encodedBound w with
  | none => 0xF
  | some b =>
    if !utcValid s then 0xF
    else if s.bit (Reg.GEN_IRIG_TQ_MODE n) && glossState w = 2 && b < 1000000 then 0
    else tqFrom 11 1 1000 b

/-- Continuous time quality (R241): 1 below 100 ns, 2 below 1 µs, …, 6 below 10 ms, 7 otherwise. -/
def ctqFrom : Nat → Nat → Nat → Nat → Nat
  | 0, _, _, _ => 7
  | f + 1, c, lim, b => if b < lim then c else ctqFrom f (c + 1) (lim * 10) b

/-- Continuous time quality of a served Gloss word. -/
def contQuality (w : Nat) : Nat := match encodedBound w with | none => 7 | some b => ctqFrom 6 1 100000 b

/-- The positions that carry a binary 1 in the frame of generator n for the PT second `sec`, paired with the served Gloss
word `w` (R240). -/
def irigOnes (s : State) (n sec w : Nat) : List Nat :=
  let (civ, leap) := civilSecond s n sec
  let fmt := s.get (Reg.GEN_IRIG_FORMAT n)
  let ext := s.get (Reg.GEN_IRIG_EXT n)
  let days := civ / 86400
  let sod := civ % 86400
  let ss := if leap then 60 else sod % 60
  let mi := sod / 60 % 60
  let hh := sod / 3600
  let doy := dayOfYear days
  let yy := yearOf days % 100
  let bcd := bitsAt 1 4 (ss % 10) ++ bitsAt 6 3 (ss / 10) ++ bitsAt 10 4 (mi % 10) ++ bitsAt 15 3 (mi / 10)
    ++ bitsAt 20 4 (hh % 10) ++ bitsAt 25 2 (hh / 10) ++ bitsAt 30 4 (doy % 10) ++ bitsAt 35 4 (doy / 10 % 10)
    ++ bitsAt 40 2 (doy / 100)
  let year := if 4 ≤ fmt then bitsAt 50 4 (yy % 10) ++ bitsAt 55 4 (yy / 10) else []
  let cf :=
    if ext = 0 then []
    else
      let near : Bool := match s.utc.leap with | some (tl, _) => decide (sec < tl ∧ tl ≤ sec + 60) | none => false
      let del : Bool := match s.utc.leap with | some (_, ins) => !ins | none => false
      let ofs : Int := s.getS (Reg.GEN_IRIG_LOC_OFS n) * (if ext = 1 then -1 else 1)
      let h := absN ofs
      bitsAt 60 1 (b2n near) ++ bitsAt 61 1 (b2n del) ++ bitsAt 62 1 (b2n (s.bit (Reg.GEN_IRIG_DSP n)))
        ++ bitsAt 63 1 (b2n (s.bit (Reg.GEN_IRIG_DST n))) ++ bitsAt 64 1 (b2n (decide (ofs < 0))) ++ bitsAt 65 4 (h / 2)
        ++ bitsAt 70 1 (h % 2) ++ bitsAt 71 4 (timeQuality s n w)
  let upto := bcd ++ year ++ cf
  let par := if ext = 0 then [] else bitsAt 75 1 (upto.length % 2)
  let ctq := if ext = 2 then bitsAt 76 3 (contQuality w) else []
  let sbsV := if leap then sod + 1 else sod
  let sbs := if fmt = 0 || fmt = 3 || fmt = 4 || fmt = 7 then bitsAt 80 9 sbsV ++ bitsAt 90 8 (sbsV / 512) else []
  upto ++ par ++ ctq ++ sbs

/-- Position p is the reference marker or a position identifier. -/
def isMarker (p : Nat) : Bool := p = 0 || p % 10 = 9

/-- The 100 symbols of the frame: 2 a marker, 1 or 0 a bit (R239). -/
def irigFrame (s : State) (n sec w : Nat) : List Nat :=
  let ones := irigOnes s n sec w
  (List.range 100).map (fun p => if isMarker p then 2 else if ones.contains p then 1 else 0)

/-- Length of a symbol's active phase in ns (R239). -/
def symbolNs (k : Nat) : Nat := if k = 2 then 8000000 else if k = 1 then 5000000 else 2000000

end Sys2Proof.Machine
end

