-- ==== Sys2Proof/Machine/Pulses.lean ====
section
/-!
DEFINITION. Pulses, timecodes and the schedule table (spec/07_pulses_schedule.md): generators and their pins, committed
occurrences, IRIG-B frames, the ToD output, realignment, and the commands of the chapter.
-/

namespace Sys2Proof.Machine

/-- Update the pulse unit's own state. -/
def State.setPls (s : State) (f : Pls → Pls) : State := { s with pls := f s.pls }

/-! ### Generators and pins (R229) -/

/-- GEN_CFG is in error: EXT 1 or 2 with a FORMAT other than 4 or 5 in mode IRIGB (R240). -/
def genCfgErr (s : State) (n : Nat) : Bool :=
  s.get (Reg.GEN_CFG_MODE n) = 2 && s.get (Reg.GEN_IRIG_EXT n) != 0 &&
    !(s.get (Reg.GEN_IRIG_FORMAT n) = 4 || s.get (Reg.GEN_IRIG_FORMAT n) = 5)

/-- The mode in force: OFF while in error. -/
def genMode (s : State) (n : Nat) : Nat := if genCfgErr s n then 0 else s.get (Reg.GEN_CFG_MODE n)

/-- A frame of generator n is in progress. -/
def frameRunning (s : State) (n : Nat) : Bool :=
  match (s.gen n).frame with | some m => decide (ptNow s n < m + secU) | none => false

/-- The generator is at its active level now. -/
def genActive (s : State) (n : Nat) : Bool :=
  match (s.gen n).frame with
  | some m =>
    let t := (ptNow s n - m) / 65536
    let sym := (s.pls.frames.get (fun _ => []) n).getD (t / 10000000) 0
    if t < 1000000000 then decide (t % 10000000 < symbolNs sym) else (s.gen n).level
  | none => (s.gen n).level

/-- The pin of generator n is driven (R229). -/
def genDriven (s : State) (n : Nat) : Bool :=
  s.mode != .boot && s.mode != .test &&
  (if n < 12 then s.get (Reg.OUT_CFG_SRC n) = 5 && (s.get (Reg.OUT_STAT_STATE n) = 2 || s.get (Reg.OUT_STAT_STATE n) = 4)
      && s.bit (Reg.OUT_STAT_DRV n)
   else (s.ch n).set.dir)

/-- Show a generator's status, with a new SEQ when it changes (R84). -/
def showGen (s : State) (n : Nat) : State :=
  let st := match (s.gen n).align with
    | some a => if a.slew then 3 else 2
    | none => if genMode s n = 0 then 0 else 1
  let s' := ((s.put (Reg.GEN_STAT_STATE n) st).putB (Reg.GEN_STAT_LEVEL n) (genActive s n)).putB (Reg.GEN_STAT_DRV n) (genDriven s n)
  let s' := s'.putB (Reg.GEN_STAT_CFGERR n) (genCfgErr s n)
  if s'.regs = s.regs then s else s'.publish (Reg.GEN_STAT_VALID n) (Reg.GEN_STAT_SEQ n)

/-- ToD output in error: GEN is not in mode PULSE (R242). -/
def todCfgErr (s : State) : Bool :=
  s.bit Reg.PLS_TOD_CFG_EN && !(isTarget (s.get Reg.PLS_TOD_CFG_GEN) && genMode s (s.get Reg.PLS_TOD_CFG_GEN) = 1)

/-- Show the ToD output's CFGERR. -/
def showTod (s : State) : State := s.putB Reg.PLS_TOD_STAT_CFGERR (todCfgErr s)

/-- Shortest phase of a pin in 2⁻¹⁶ ns (R235). -/
def minPhase (n : Nat) : Nat := if n < 12 then 2 * 65536 else 10 * 65536

/-- The calibrated uncertainty of a generator's edges in ps (R232). -/
def genUdist (s : State) (n : Nat) : Nat :=
  if n < 12 then s.get (Reg.OUT_UDIST_U_DIST n) else s.get (Reg.GEN_UDIST_U_DIST n)

/-- ⌈|H_n|⌉ ps. -/
def heldPs (s : State) (n : Nat) : Nat := ceilDiv (absN (heldNow s n) * 1000) 65536

/-- The Gloss served for an edge of generator n at time-base instant `u`; `held` is its |H_n| term (R47, R232). -/
def edgeGloss (s : State) (n u held : Nat) : Nat :=
  let p := s.glossAt u
  if s.bit (Reg.GEN_STAT_H_SAT n) then unbounded p.word else servedWord p.word p.bound (genUdist s n + held)

/-- Journal an edge as GLOSS_EDGE, at most 16 a second for each generator (R54, R251). -/
def journalEdge (s : State) (n u held : Nat) : State :=
  let g := s.gen n
  let sec := tbSec s.tbU
  let used := if g.jsec = sec then g.jn else 0
  if 16 ≤ used then s.bumpSat (Reg.GEN_JDROP_JRNL_DROP n) 1
  else
    let s := s.setGen n { g with jsec := sec, jn := used + 1 }
    s.journalAt (shortOf u) 0 0x0008 0x0205 (leBytes 8 (edgeGloss s n u held) ++ leBytes 1 n)

/-- An edge of generator n at time-base instant `u`, to level `lv`; `jr` asks for GLOSS_EDGE. On a driven EVT pin the edge
waits for its measured stamp. -/
def driveEdge (s : State) (n : Nat) (lv : Bool) (u held : Nat) (jr : Bool) : State :=
  let s := s.setGen n { s.gen n with level := lv, joined := false, last := some (s.freeNs * 65536) }
  let s := if !genDriven s n then s
    else
      let s := s.putPair (Reg.GEN_LAST_LO_LAST n) (Reg.GEN_LAST_HI_LAST n) (tbSec u % 2 ^ 32 * 2 ^ 32 + tbNs u)
      if n < 12 then (if jr && lv then journalEdge s n u held else s)
      else s.setGen n { s.gen n with planned := (s.gen n).planned ++ [⟨u, jr && lv, held⟩] }
  showGen s n

/-- An edge now would leave a phase shorter than the pin allows: it is suppressed (R235). -/
def tooShort (s : State) (n : Nat) : Bool :=
  match (s.gen n).last with | some t => decide (s.freeNs * 65536 < t + minPhase n) | none => false

/-- The time-base instant of `t` on an entry's clock: the time base (`clk`) or PT_n. -/
def toTb (s : State) (n : Nat) (clk : Bool) (t : Nat) : Nat := if clk then t else ((t : Int) + heldNow s n).toNat

/-- A committed occurrence will turn generator n back within the shortest phase its pin allows, if it turns to `lv` at `u`: the edge
at `u` is suppressed, and the phases before and after the short one join (R235). DEDUCED: log 39. -/
def turnsBack (s : State) (n u : Nat) (lv : Bool) : Bool :=
  !schedHeld s && genMode s n = 1 && s.pls.comms.any (fun c =>
    let e := s.entry c.entry
    let v := toTb s n e.clk c.due
    e.target = n && (e.action = 2) = lv && u ≤ v && v < u + minPhase n)

/-- Entry e has an occurrence not used up, or one committed, at instant t of its clock. -/
def occursAt (s : State) (i t : Nat) : Bool :=
  let e := s.entry i
  s.pls.comms.any (fun c => c.entry = i && c.due = t) ||
    (e.more && (if e.periodic then e.occ e.nextIdx ≤ t && (t - e.occ e.nextIdx) % (e.period * 128) = 0 else e.first = t))

/-- The next labelled pulse of generator n after PT_n = `pt` (R242): the first whole second, of the 512 that the longest PERIOD spans, at which
an entry raises it. -/
def nextLabel (s : State) (n pt : Nat) : Option Nat :=
  let rises := s.pls.entries.filter (fun p => p.2.target = n && !p.2.clk && p.2.action != 2)
  ((List.range 512).map (fun k => pt / secU + 1 + k)).find? (fun sec => rises.any (fun p => occursAt s p.1 (sec * secU)))

/-- A labelled pulse (R242): a rising edge of the ToD output's generator at a whole second of PT_n. The message names it, or with LABEL = 1 the
next one; where none is to come, none is sent (R243). -/
def labelPulse (s : State) (n u : Nat) : State :=
  let pt := ((u : Int) - heldNow s n).toNat
  if s.bit Reg.PLS_TOD_CFG_EN && s.get Reg.PLS_TOD_CFG_GEN = n && !todCfgErr s && pt % secU = 0 then
    let sec := if s.bit Reg.PLS_TOD_CFG_LABEL then nextLabel s n pt else some (tbSec pt)
    let m := sec.map (fun x => (s.freeNs, (⟨x, taiUtc s, utcValid s, leap61 s, leap59 s, clockClassOf s true⟩ : TodMsg)))
    s.setPls (fun p => { p with pulse := m })
  else s

/-! ### Occurrences (R234–R238, R605) -/

/-- The schedule is held and the next occurrence of entry i has fallen: it is passed (R605). -/
def passEntry (s : State) (i : Nat) : State :=
  let e := s.entry i
  let now := clkNow s e
  if !e.more || now < e.occ e.nextIdx then s
  else
    let t := e.occ e.nextIdx
    let last := if e.periodic then e.nextIdx + (now - t) / (e.period * 128) else 0
    let s := if e.heldNoted then s
      else s.journal 0 0x000A 0x0A02 (leBytes 2 i ++ leBytes 1 e.past ++ leBytes 1 2 ++ leBytes 8 (shortOf t))
    s.setEntry i { e with lastIdx := some last, heldNoted := true, enabled := e.periodic }

/-- The hold of the schedule ends: what fell during it is passed. -/
def endHold (s : State) : State :=
  let ids := (s.pls.entries.filter (fun p => p.2.enabled)).map (fun p => p.1)
  let s := ids.foldl passEntry s
  ids.foldl (fun s i => s.setEntry i { s.entry i with heldNoted := false }) s

/-- Committed occurrences of entry i. -/
def commsOf (s : State) (i : Nat) : List Comm := s.pls.comms.filter (fun c => c.entry = i)

/-- The time-base instants in [lo, hi) at which an entry's occurrences fall. -/
def occsIn (s : State) (e : PlsEntry) (lo hi : Nat) : List Nat :=
  let first := toTb s e.target e.clk e.first
  if !e.enabled then []
  else if e.period = 0 then (if lo ≤ first && first < hi then [first] else [])
  else
    let per := e.period * 128
    let k0 := ceilDiv (lo - first) per
    (List.range (ceilDiv (hi - first) per - k0)).map (fun k => first + (k0 + k) * per)

/-- The instant t lies in an interval of `len` that holds more than `lim` of the instants. -/
def crowded (l : List Nat) (len lim t : Nat) : Bool :=
  l.any (fun x => x ≤ t && t < x + len && lim < (l.filter (fun y => x ≤ y && y < x + len)).length)

/-- The instant t lies in an interval that holds more occurrences than the scheduler's capacity (R236). -/
def overloaded (s : State) (t : Nat) : Bool :=
  let near (len : Nat) : List Nat := s.pls.entries.flatMap (fun p => occsIn s p.2 (t - len) (t + len))
  crowded (near msU) msU 4000 t || crowded (near leadU) leadU 64 t

/-- The row SCHED_COMMIT: entry i's next occurrence is committed by its lead (R236). Only one that lies in an interval beyond the scheduler's
capacity can fail: that it is not committed by its lead, when the command comes later, is then MISSED. -/
def execSchedCommit (i : Fin 2048) (s : State) : Out := .next <|
  let e := s.entry i
  if !s.tbLive || !e.more || (e.periodic && e.count != 0 && e.count ≤ e.fired + (commsOf s i).length) then s
  else if schedHeld s then passEntry s i
  else
    let k := e.nextIdx
    let t := e.occ k
    let s := s.setEntry i { e with lastIdx := some k }
    if clkNow s e + leadU ≤ t || !overloaded s (toTb s e.target e.clk t) then addComm s ⟨i, k, t⟩
    else
      ((s.setEntry i { s.entry i with enabled := e.periodic }).setFlag Flag.PLS_MISSED).journal 1 0x000A 0x0A01
        (leBytes 2 i ++ leBytes 1 e.target ++ leBytes 1 0 ++ leBytes 8 (shortOf t))

/-- An action of an entry at instant `t` of its clock (R235). -/
def act (s : State) (e : PlsEntry) (t : Nat) : State :=
  let n := e.target
  let g := s.gen n
  let held := if e.clk then 0 else heldPs s n
  let u := toTb s n e.clk t
  let jr := e.jrnl && s.bit (Reg.GEN_CFG_JRNL_EDGE n)
  if e.action = 0 then
    let fin := t + e.width * 65536
    if g.joined then s.setGen n { g with joined := false, ends := some (e.clk, fin) }
    else if g.level then
      let s := s.setFlag Flag.PLS_OVERLAP
      match g.ends with
      | some (c, old) => if toTb s n c old < toTb s n e.clk fin then s.setGen n { g with ends := some (e.clk, fin) } else s
      | none => s.setGen n { g with ends := some (e.clk, fin) }
    else if tooShort s n || turnsBack s n u true then s.setFlag Flag.PLS_SPACING
    else labelPulse (driveEdge (s.setGen n { g with ends := some (e.clk, fin) }) n true u held jr) n u
  else if e.action = 1 then
    let s := s.setGen n { g with joined := false, ends := none }
    if g.level then s
    else if tooShort s n || turnsBack s n u true then s.setFlag Flag.PLS_SPACING
    else labelPulse (driveEdge s n true u held jr) n u
  else
    let s := s.setGen n { g with joined := false, ends := none }
    if !g.level then s
    else if tooShort s n then s.setFlag Flag.PLS_SPACING
    else if turnsBack s n u false then (s.setGen n { g with joined := true, ends := none }).setFlag Flag.PLS_SPACING
    else driveEdge s n false u held jr

/-- Whether a committed occurrence's instant is reached. -/
def commDue (s : State) (c : Comm) : Bool := decide (c.due ≤ clkNow s (s.entry c.entry))

/-- A committed occurrence has reached its instant: it fires, is passed during a hold, or meets a generator out of mode PULSE (R235, R605).
At an instant of a periodic entry what is still to come of it is evaluated (R237). -/
def fireComm (s : State) (c : Comm) : State :=
  let i := c.entry
  let s := s.setPls (fun p => { p with comms := p.comms.filter (fun x => !(x.entry = c.entry && x.idx = c.idx)) })
  let e := s.entry i
  if schedHeld s then
    let s := if e.heldNoted then s
      else s.journal 0 0x000A 0x0A02 (leBytes 2 i ++ leBytes 1 e.past ++ leBytes 1 2 ++ leBytes 8 (shortOf c.due))
    s.setEntry i { e with heldNoted := true, enabled := e.enabled && e.periodic }
  else if genMode s e.target != 1 then (s.setEntry i { e with enabled := e.enabled && e.periodic }).setFlag Flag.PLS_CONFLICT
  else
    let fired := e.fired + 1
    let ended : Bool := if e.periodic then e.count != 0 && e.count ≤ fired else true
    let top := match e.firedIdx with | some k => max k c.idx | none => c.idx
    let s := act (s.setEntry i { e with fired := fired, firedIdx := some top, enabled := e.enabled && !ended }) e c.due
    if e.periodic then evalPast s i 0 else s

/-- The instant of a committed occurrence in the time base, and its entry: the order in which actions on one generator apply (R235). -/
def commKey (s : State) (c : Comm) : Nat × Nat :=
  let e := s.entry c.entry
  (toTb s e.target e.clk c.due, c.entry)

/-- The key a comes before b. -/
def keyLt (a b : Nat × Nat) : Bool := a.1 < b.1 || (a.1 = b.1 && a.2 < b.2)

/-- Insert a committed occurrence in the order of its key. -/
def insertComm (s : State) (c : Comm) : List Comm → List Comm
  | [] => [c]
  | d :: l => if keyLt (commKey s c) (commKey s d) then c :: d :: l else d :: insertComm s c l

/-- Committed occurrences in the order in which they apply. -/
def sortComms (s : State) : List Comm → List Comm
  | [] => []
  | c :: l => insertComm s c (sortComms s l)

/-- The row SCHED_OCCURRENCE: a committed occurrence of entry i reaches its instant. Those of its generator that come before it, at earlier
instants or at the same one with a lower index, act first. -/
def execSchedOccurrence (i : Fin 2048) (s : State) : Out := .next <|
  match s.pls.comms.find? (fun c => c.entry = i.val && commDue s c) with
  | none => s
  | some c =>
    let n := (s.entry i).target
    let due := s.pls.comms.filter (fun d => (s.entry d.entry).target = n && commDue s d && keyLt (commKey s d) (commKey s c))
    (sortComms s due ++ [c]).foldl (fun s d => if s.pls.comms.contains d then fireComm s d else s) s

/-- The row PULSE_END: the end due of generator n is reached. -/
def execPulseEnd (n : Fin 24) (s : State) : Out := .next <|
  let g := s.gen n
  match g.ends with
  | none => s
  | some (c, t) =>
    if (if c then s.tbU else ptNow s n) < t then s
    else if turnsBack s n (toTb s n c t) false then (s.setGen n { g with joined := true, ends := none }).setFlag Flag.PLS_SPACING
    else driveEdge (s.setGen n { g with ends := none }) n false (toTb s n c t) 0 false

/-! ### IRIG-B frames and ToD messages (R239–R243) -/

/-- The pulse unit may begin frames and send messages (R250). -/
def plsRuns (s : State) : Bool := s.tbLive && (s.mode = .setup || s.mode = .service)

/-- The edges of a frame of these symbols, ns from its on-time mark. -/
def frameEdges (syms : List Nat) : List Nat :=
  (List.range 100).flatMap (fun p => [10000000 * p, 10000000 * p + symbolNs (syms.getD p 0)])

/-- GEN_LAST follows the edges of the frame that generator n drives. -/
def lastFrameEdge (s : State) (n : Nat) : State :=
  match (s.gen n).frame with
  | none => s
  | some m =>
    let t := (ptNow s n - m) / 65536
    let p := min (t / 10000000) 99
    let fall := 10000000 * p + symbolNs ((s.pls.frames.get (fun _ => []) n).getD p 0)
    let u := toTb s n false (m + (if fall ≤ t then fall else 10000000 * p) * 65536)
    if genDriven s n then s.putPair (Reg.GEN_LAST_LO_LAST n) (Reg.GEN_LAST_HI_LAST n) (tbSec u % 2 ^ 32 * 2 ^ 32 + tbNs u) else s

/-- The row IRIG_FRAME: at the on-time mark of generator n. While a realignment by STEP waits for the frame's end, none begins (R246). -/
def execIrigFrame (n : Fin 24) (s : State) : Out := .next <|
  let g := s.gen n
  let pt := ptNow s n
  let mark := pt - pt % secU
  let stepping : Bool := match g.align with | some a => !a.slew | none => false
  let due : Bool := pt % secU < 65536 && g.frame != some mark && !stepping &&
    (match g.nextMark with | some m => m ≤ mark | none => true)
  if !plsRuns s || !isTarget n || genMode s n != 2 || !due then s
  else
    let u := toTb s n false mark
    let w := edgeGloss s n u (heldPs s n)
    let s := s.setPls (fun p => { p with frames := p.frames.set (fun _ => []) n (irigFrame s n (tbSec mark) w) })
    let s := s.setGen n { g with frame := some mark, nextMark := none }
    let s := showGen (lastFrameEdge s n) n
    let jr := s.bit (Reg.GEN_CFG_JRNL_EDGE n)
    if !genDriven s n then s
    else if n.val < 12 then (if jr then journalEdge s n u (heldPs s n) else s)
    else
      let plan (o : Nat) : Planned := ⟨toTb s n false (mark + o * 65536), jr && o = 0, heldPs s n⟩
      let edges := (frameEdges (s.pls.frames.get (fun _ => []) n)).map plan
      s.setGen n { s.gen n with planned := (s.gen n).planned ++ edges }

/-- The row TOD_TX_MESSAGE: TX_OFS after a labelled pulse, the time event and time announce messages are sent. -/
def execTodTxMessage (s : State) : Out := .next <|
  match s.pls.pulse with
  | none => s
  | some (t, m) =>
    if !plsRuns s || s.freeNs < t + s.get Reg.PLS_TOD_CFG_TX_OFS * 1000000 then s
    else
      let s := s.setPls (fun p => { p with pulse := none, sent := some m })
      (s.put Reg.PLS_TOD_SECL_SEC m.sec).publish Reg.PLS_TOD_STAT_VALID Reg.PLS_TOD_STAT_SEQ

/-! ### Measured EVT edges (R252) -/

/-- The measured stamp of a driven EVT edge meets its planned instant: calibration, tolerance and GLOSS_EDGE. -/
def matchEdge (s : State) (n t : Nat) : State :=
  let g := s.gen n
  let dist (p : Planned) : Nat := absN ((p.due : Int) - t)
  match g.planned with
  | [] => s
  | p0 :: _ =>
    let best := g.planned.foldl (fun b p => if dist p < dist b then p else b) p0
    let rest := (g.planned.dropWhile (fun p => p.due != best.due)).drop 1
    let diff : Int := roundQ (((t : Int) - best.due : Int) * 1000 / 65536)
    let diffs := (diff :: g.diffs).take 64
    let s := s.setGen n { g with planned := rest, diffs := diffs }
    let s := s.putSat (Reg.GEN_EVTCAL_CAL n) (roundQ (meanQ (diffs.map (fun (d : Int) => (d : Rat)))))
    let s := if best.jrnl then journalEdge s n t best.held else s
    let bad : Bool := s.get (Reg.GEN_TOL_EDGE_TOL n) < absN diff
    let inst := if n < 12 then n else n - 4
    let s := checkAt s (0x48 + inst) bad 0 0xFF 0 (satS 32 diff)
    if bad then
      (s.setFlag Flag.PLS_EDGE_ERR).journal 2 0x000A 0x0A04 (leBytes 1 n ++ leBytes 3 0 ++ leBytes 4 (satS 32 diff))
    else s

/-- The row EVT_EDGE: an active edge on EVT pin k, with the TDC's code. -/
def execEvtEdge (k : Fin 8) (code : Nat) (glitch : Bool) (s : State) : Out := .next <|
  let c := 16 + k.val
  let driven := (s.ch c).set.dir
  if !measuring s || (!driven && (s.ch c).set.type != 3) then s
  else
    match stampEvt s c code glitch with
    | (s, some t) => if driven then matchEdge s c t else s
    | (s, none) => s

/-- An uncorrectable error in schedule entry i: it is disabled (R252). -/
def schedEntryFault (s : State) (i : Nat) : State :=
  let s := s.setEntry i { s.entry i with enabled := false }
  let s := s.setPls (fun p => { p with comms := p.comms.filter (fun c => c.entry != i) })
  check (s.setFlag Flag.PLS_TABLE_ERR) 0x0C true

/-! ### Realignment (R244, R246) -/

/-- GEN_ALIGN journalled. -/
def journalAlign (s : State) (n : Nat) (slew begins : Bool) : State :=
  s.journal 0 0x000A 0x0A03
    (leBytes 1 n ++ leBytes 1 (b2n slew) ++ leBytes 1 (b2n begins) ++ leBytes 1 0 ++ leBytes 8 (unsigned 64 (heldNow s n)))

/-- One generator of a job has ended, with the H_n it removed (none: no quiet instant). The last one completes the
descriptor. -/
def jobEnds (s : State) (job n : Nat) (removed : Option Int) : State :=
  match s.pls.jobs.find? (fun j => j.w.aseq = job) with
  | none => s
  | some j =>
    let r := match removed with | some h => if absN j.removed < absN h then h else j.removed | none => j.removed
    let j := { j with left := j.left.filter (· != n), removed := r, busy := j.busy || removed.isNone }
    if !j.left.isEmpty then s.setPls (fun p => { p with jobs := p.jobs.map (fun x => if x.w.aseq = job then j else x) })
    else
      let s := s.setPls (fun p => { p with jobs := p.jobs.filter (fun x => x.w.aseq != job) })
      if j.busy then refuseDesc s j.w St.busy
      else if j.slew then completeDesc s j.w.d St.ok false j.applied (leBytes 8 (unsigned 64 j.removed))
      else finishDesc s j.w St.ok (leBytes 8 (unsigned 64 j.removed))

/-- Begin a realignment of the targets by METHOD; statuses of R249. -/
def startAlign (s : State) (w : Waiting) (targets : List Nat) (slew : Bool) : State :=
  if targets.any (fun n => (s.gen n).align.isSome) then refuseDesc s w St.busy
  else if slew && targets.any (fun n => s.bit (Reg.GEN_STAT_H_SAT n)) then refuseDesc s w St.invalid
  else if targets.isEmpty then finishDesc s w St.ok (leBytes 8 0)
  else
    let s := if slew then descApplied s w St.ok s.nowShort else s
    let s := s.setPls (fun p => { p with jobs := p.jobs ++ [⟨w, targets, 0, false, slew, s.nowShort⟩] })
    targets.foldl (fun s n =>
      let s := journalAlign s n slew true
      showGen (s.setGen n { s.gen n with align := some ⟨slew, heldReg s n, 0, s.freeNs, w.aseq⟩ }) n) s

/-- Generator n's realignment ends with H_n 0. -/
def endAlign (s : State) (n : Nat) (a : Align) (removed : Int) : State :=
  let s := s.setGen n { s.gen n with align := none }
  let s := (setHeld s n 0).putB (Reg.GEN_STAT_H_SAT n) false
  let s := journalAlign (showGen s n) n a.slew false
  jobEnds s a.job n (some removed)

/-- Instants on generator n's clock at which an edge is due: ends, and the next occurrences of its entries. -/
def edgesDue (s : State) (n : Nat) : List (Bool × Nat) :=
  (match (s.gen n).ends with | some e => [e] | none => [])
    ++ (s.pls.comms.filterMap (fun c => let e := s.entry c.entry; if e.target = n then some (e.clk, c.due) else none))
    ++ (s.pls.entries.filterMap (fun p => if p.2.target = n && p.2.more then some (p.2.clk, p.2.occ p.2.nextIdx) else none))

/-- Now is a quiet instant of generator n (R246). -/
def isQuiet (s : State) (n : Nat) : Bool :=
  if genMode s n = 2 then !frameRunning s n
  else
    let h := heldNow s n
    let lim : Int := (absN h : Int) + 10000 * 65536
    !(s.gen n).level && (edgesDue s n).all (fun e =>
      let old : Int := (e.2 : Int) + (if e.1 then 0 else h) - s.tbU
      let new : Int := (e.2 : Int) - s.tbU
      decide (lim < absN old) && decide (lim < absN new))

/-- The row ALIGN_QUIET_INSTANT. -/
def execAlignQuietInstant (n : Fin 24) (s : State) : Out := .next <|
  match (s.gen n).align with
  | none => s
  | some a =>
    if a.slew || !isQuiet s n then s
    else
      let h := heldNow s n
      let old := (s.gen n).frame
      let s := endAlign s n a h
      if genMode s n != 2 then s
      else
        let m := ceilDiv (s.tbU + 10000 * 65536) secU * secU
        let s := s.setGen n { s.gen n with nextMark := some m }
        match old with
        | some f =>
          let skip := tbSec m - (tbSec f + 1)
          if skip = 0 then s
          else (s.setFlag Flag.PLS_FRAME_SKIP).journal 1 0x000A 0x0A05 (leBytes 1 n ++ leBytes 1 (satU 8 skip))
        | none => s

/-- The row ALIGN_SLEW_END. -/
def execAlignSlewEnd (n : Fin 24) (s : State) : Out := .next <|
  match (s.gen n).align with
  | none => s
  | some a => if a.slew && heldNow s n = 0 then endAlign s n a (a.gone + a.h0) else s

/-- The row ALIGN_TIMEOUT: no quiet instant within 1 s. -/
def execAlignTimeout (n : Fin 24) (s : State) : Out := .next <|
  match (s.gen n).align with
  | none => s
  | some a =>
    if a.slew || s.freeNs < a.since + 1000000000 then s
    else jobEnds (showGen (s.setGen n { s.gen n with align := none }) n) a.job n none

/-- PLS_ALIGN (R244). -/
def plsAlignOp : OpSpec where
  opcode := 0x0262
  check s d :=
    let t := d.u8 16
    if !(isTarget t || t = 255) || 1 < d.u8 17 || !d.zero 18 63 || d.past = 2 then St.invalid
    else if t != 255 && d.u8 17 = 1 && s.bit (Reg.GEN_STAT_H_SAT t) then St.invalid else 0
  due s _ := s.atMs
  apply s w :=
    let t := w.d.u8 16
    startAlign s w (if t = 255 then genTargets.filter (fun n => heldNow s n != 0) else [t]) (w.d.u8 17 = 1)
  periodic := false

/-- The row PLS_ALIGN. -/
def execPlsAlign (d : Desc) (s : State) : Out := .next (submit plsAlignOp s d)

/-! ### PLS_SCHED, PLS_SET and register access (R247–R249) -/

/-- The time-base short stamp of the first occurrence of entry i that will fire; 0 for none. -/
def firstFire (s : State) (i : Nat) : Nat :=
  let e := s.entry i
  match (commsOf s i).head? with
  | some c => shortOf (toTb s e.target e.clk c.due)
  | none => if e.more then shortOf (toTb s e.target e.clk (e.occ e.nextIdx)) else 0

/-- Replace entry i, dropping what was committed of it. -/
def replaceEntry (s : State) (i : Nat) (e : PlsEntry) : State :=
  (s.setPls (fun p => { p with comms := p.comms.filter (fun c => c.entry != i) })).setEntry i e

/-- The occurrence due first is past under PAST_POLICY 0. -/
def lateEntry (s : State) (e : PlsEntry) : Bool :=
  e.more && e.past = 0 && decide (e.occ e.nextIdx < clkNow s e + leadU)

/-- Bytes 20–51 of a descriptor. -/
def schedImage (d : Desc) : List Byte := (d.op.drop 4).take 32

/-- PLS_SCHED (R247). -/
def plsSchedOp : OpSpec where
  opcode := 0x0260
  check s d :=
    let o := d.u8 18
    if 2047 < d.u16 16 || 3 < o || d.u8 19 != 0 || !d.zero 52 63 || d.past = 2 || (o != 0 && !d.zero 20 51) then St.invalid
    else if o = 0 && !imageValid (entryOf s (schedImage d)) then St.invalid else 0
  due s _ := s.atMs
  apply s w :=
    let i := w.d.u16 16
    let o := w.d.u8 18
    let done (s : State) : State := finishDesc s w St.ok (leBytes 8 (firstFire s i))
    if o = 0 then
      let e := entryOf s (schedImage w.d)
      if lateEntry s e then refuseDesc s w St.late else done (evalPast (replaceEntry s i e) i 0)
    else if o = 1 then
      let e := { (s.entry i).reopened with enabled := true }
      let e := { e with enabled := e.more }
      if !imageValid e then refuseDesc s w St.invalid
      else if (s.entry i).enabled then done s
      else if lateEntry s e then refuseDesc s w St.late
      else done (evalPast (s.setEntry i e) i 0)
    else if o = 2 then done (replaceEntry s i { (s.entry i).reopened with enabled := false })
    else done (replaceEntry s i PlsEntry.zero)
  periodic := false

/-- The row PLS_SCHED. -/
def execPlsSched (d : Desc) (s : State) : Out := .next (submit plsSchedOp s d)

/-- The generator registers of PLS_SET's MASK. -/
def genAddrs (n : Nat) : List Nat := (List.range 4).map (fun k => 0x0A1000 + 0x40 * n + 4 * k)

/-- The registers PLS_SET's MASK selects for a TARGET. -/
def plsAddrs (t : Nat) : List Nat := if t = 255 then [0x0A0000, 0x0A0004, 0x0A0080] else genAddrs t

/-- The state with PLS_SET's values stored. GEN_UDIST of an OUT target reads 0. -/
def plsStore (s : State) (d : Desc) : State :=
  let t := d.u8 16
  if t = 255 then storeMasked s d (d.u16 18) (plsAddrs t)
  else
    let s := storeMasked s d (d.u16 18) (plsAddrs t)
    if t < 12 then s.put (Reg.GEN_UDIST_U_DIST t) 0 else s

/-- Slews of H_n go on from where they are when their rate changes. -/
def rebaseSlews (s : State) : State := genTargets.foldl (fun s n => rebaseAlign s n (heldNow s n)) s

/-- GEN_HELD, GEN_LAST and LEVEL follow a slew of H_n at each TB millisecond, and a frame at each of its edges (R246, R239). -/
def liveGen (s : State) (n : Nat) : State :=
  let g := s.gen n
  let slews : Bool := match g.align with | some a => a.slew | none => false
  let s' := if slews && s.atMs then s.putPairSat (Reg.GEN_HELD_LO_H n) (Reg.GEN_HELD_HI_H n) (heldNow s n) else s
  let s' := if s'.regs = s.regs then s else s'.publish (Reg.GEN_STAT_VALID n) (Reg.GEN_STAT_SEQ n)
  if g.frame.isSome && genActive s n != s.bit (Reg.GEN_STAT_LEVEL n) then showGen (lastFrameEdge s' n) n else s'

/-- Every generator's. -/
def liveGens (s : State) : State := genTargets.foldl liveGen s

/-- After a change of the schedule's hold. -/
def holdEdge (before s : State) : State := if schedHeld before && !schedHeld s then endHold s else s

/-- PLS_SET (R248). -/
def plsSetOp : OpSpec where
  opcode := 0x0261
  check _ d :=
    let t := d.u8 16
    if !(isTarget t || t = 255) || d.u8 17 != 0 || d.past = 2 then St.invalid
    else if (if t = 255 then 8 else 16) ≤ d.u16 18 || strayValue d (d.u16 18) (plsAddrs t) then St.invalid else 0
  due s d :=
    let t := d.u8 16
    if t = 255 then s.atMs
    else decide (ptNow s t % secU < 65536) && s.tbLive && !genActive s t && !frameRunning s t
  apply s w :=
    let t := w.d.u8 16
    let s' := plsStore (rebaseSlews s) w.d
    if (t != 255 && genCfgErr s' t) || (!todCfgErr s && todCfgErr s') then refuseDesc s w St.invalid
    else
      let s' := holdEdge s s'
      let s' := if t != 255 && bitOf (w.d.u16 18) 0 then windowEvent s' 9 t 0 else s'
      finishDesc (showTod (if t = 255 then s' else showGen s' t)) w St.ok []
  periodic := false

/-- The row PLS_SET. -/
def execPlsSet (d : Desc) (s : State) : Out := .next (submit plsSetOp s d)

/-- The row PLS_SCH_READ: an entry is latched into the data registers. -/
def execPlsSchRead (i : Fin 2048) (s : State) : Out := .next <|
  let s := (s.put Reg.PLS_SCH_ADDR_INDEX i).putB Reg.PLS_SCH_ADDR_ERR false
  let e := s.entry i
  (List.range 8).foldl (fun s k =>
    let v := leNat e.raw (4 * k) 4
    s.put (Reg.PLS_SCH_DATA_DATA k) (if k = 2 then setBit v 24 e.enabled else v)) s

/-- The entry image in the data registers. -/
def schData (s : State) : List Byte := (List.range 8).flatMap (fun k => leBytes 4 (s.get (Reg.PLS_SCH_DATA_DATA k)))

/-- The row PLS_SCH_WRITE: in SETUP the image in the data registers is installed, or ERR is set. -/
def execPlsSchWrite (i : Fin 2048) (s : State) : Out := .next <|
  if s.mode != .setup then s
  else
    let s := s.put Reg.PLS_SCH_ADDR_INDEX i
    let e := entryOf s (schData s)
    if imageValid e then evalPast (replaceEntry (s.putB Reg.PLS_SCH_ADDR_ERR false) i e) i 0
    else s.putB Reg.PLS_SCH_ADDR_ERR true

/-! ### Modes (R250) -/

/-- On entry to RECOVERY, a level held active ends; pulses and frames in progress run to their ends. -/
def plsRecovery (s : State) : State :=
  genTargets.foldl (fun s n =>
    if (s.gen n).level && (s.gen n).ends.isNone then driveEdge s n false s.tbU 0 false else s) s

/-- On entry to SAFE every pin goes to its inactive level, and a ToD message is cut short. -/
def plsSafe (s : State) : State :=
  let s := genTargets.foldl (fun s n =>
    let g := s.gen n
    showGen (s.setGen n { g with level := false, joined := false, ends := none, frame := none }) n) s
  s.setPls (fun p => { p with comms := [], pulse := none })

end Sys2Proof.Machine
end

