-- ==== Sys2Proof/Machine/Synth.lean ====
section
/-!
DEFINITION. Frequency synthesis and clock outputs (spec/06_synthesis_outputs.md): the digital PLLs, the outputs and their state
machine, SyncE quality levels, and OUT_CTL. The APLLs and SYN_SET are in Clocks.
-/

namespace Sys2Proof.Machine

/-! ### Output settings (R219, R220) -/

/-- OUT_STAT.STATE: 0 OFF, 1 STARTING, 2 RUNNING, 3 SLEWING, 4 STOPPING, 5 SQUELCHED. -/
def outState (s : State) (n : Nat) : Nat := s.get (Reg.OUT_STAT_STATE n)

/-- Highest frequency of an electrical mode, Hz. -/
def elecLimit (e : Nat) : Nat :=
  if e = 1 then 400000000 else if e = 3 || e = 5 then 250000000 else if e = 4 then 200000000 else 1250000000

/-- The settings violate R219 or R220, or R513 for a shared output of a unit in Q5800-compatible mode: CFGERR. -/
def outCfgErr (s : State) (n : Nat) : Bool :=
  let fn := s.get (Reg.OUT_FN_FN n)
  let fd := s.get (Reg.OUT_FD_FD n)
  let src := outSrc s n
  let shared : Bool := s.bit Reg.CNJ_CFG_Q58 && s.bit (Reg.OUT_CFG_SHARED n) &&
    !(3 ≤ s.get (Reg.OUT_CFG_ELEC n) && s.get (Reg.OUT_CFG_ELEC n) ≤ 5)
  if shared then true
  else if src = 5 then false
  else
    let tooFast : Bool := elecLimit (s.get (Reg.OUT_CFG_ELEC n)) * fd < fn
    if src = 4 then
      (let q := 10000000000 * fd
       q % fn != 0 || q / fn < 8 || 65535 < q / fn || n < 8 || tooFast)
    else fn < fd || 1250000000 * fd < fn || tooFast

/-- PHOFS of output n brought into its period: the whole 2⁻⁹ ns that remain (R208). -/
def normOut (s : State) (n : Nat) : State :=
  let v := s.getPair (Reg.OUT_PHOFS_LO_PHOFS n) (Reg.OUT_PHOFS_HI_PHOFS n)
  let fn := s.get (Reg.OUT_FN_FN n)
  let per := 512000000000 * s.get (Reg.OUT_FD_FD n)
  s.putPair (Reg.OUT_PHOFS_LO_PHOFS n) (Reg.OUT_PHOFS_HI_PHOFS n) (if fn = 0 then v else (v * fn % per) / fn)

/-- The drivers are enabled: from the start to the stop, and for a SHARED output of a pair only while the interlock allows
it (R214). -/
def outDrv (s : State) (n : Nat) : Bool :=
  outState s n != 0 && (!s.bit (Reg.OUT_CFG_SHARED n) || !s.bit Reg.GEN_STRAP_PAIR_EN || bitOf s.cnj.drv n)

/-- Show CFGERR and the drivers, with a new SEQ when the status changes (R84). -/
def showOut (s : State) (n : Nat) : State :=
  let err := outCfgErr s n
  let s := s.flagIf (err && !s.bit (Reg.OUT_STAT_CFGERR n)) (Flag.OUT_CFGERR n)
  let s' := (s.putB (Reg.OUT_STAT_CFGERR n) err).putB (Reg.OUT_STAT_DRV n) (outDrv s n)
  let s' := if s'.regs = s.regs then s else s'.publish (Reg.OUT_STAT_VALID n) (Reg.OUT_STAT_SEQ n)
  if outSrc s n = 5 then showGen s' n else s'

/-- Every output's status after a change of the interlock. -/
def showOuts (s : State) : State := (List.range 12).foldl showOut s

/-- Output n takes state `st`: OUT_STATE journalled with its cause (R228). -/
def setOutState (s : State) (n st cause tag : Nat) : State :=
  if outState s n = st then s
  else
    let s := (s.put (Reg.OUT_STAT_STATE n) st).publish (Reg.OUT_STAT_VALID n) (Reg.OUT_STAT_SEQ n)
    let s := s.journal 0 0x0009 0x0903 (leBytes 1 n ++ leBytes 1 st ++ leBytes 1 cause ++ leBytes 1 0 ++ leBytes 4 tag)
    showOut s n

/-! ### Start, stop and squelch (R213) -/

/-- The APLL that serves output n is locked (R212). -/
def outClocked (s : State) (n : Nat) : Bool := s.mapBit Reg.SYN_APLL_STAT_LOCK (if outSrc s n = 4 then 1 else 2)

/-- The shortest time an output is held inactive before it starts, 2 µs. -/
def startLead : Nat := 2000

/-- The result of an action that finished now. -/
def nowResult (s : State) : List Byte := leBytes 8 s.nowShort

/-- Complete the OUT_CTL START descriptors whose start is cancelled (R225), with what waits for the restart of an output that is
STARTING. -/
def cancelStarts (s : State) (n : Nat) : State :=
  let o := s.out n
  let s := s.setOut n { o with starts := [], again := false }
  let s := if outState s n = 1 then closeOpens s 0x0251 n St.ok (leBytes 8 0) else s
  o.starts.foldl (fun s w => finishDesc s w St.ok (leBytes 8 0)) s

/-- Request the start of output n: held inactive until a grid edge at least 2 µs from now. A stop in progress completes first, and a squelched
output whose APLL is not locked waits for it. -/
def requestStart (s : State) (n cause tag : Nat) : State :=
  let st := outState s n
  if outCfgErr s n || (1 ≤ st && st ≤ 3) then s
  else if st = 4 || (st = 5 && !outClocked s n) then s.setOut n { s.out n with again := true }
  else
    let s := s.setOut n { s.out n with startAt := some (s.freeNs + startLead), again := false, cause := cause, tag := tag }
    setOutState s n 1 cause tag

/-- Request the stop of output n, `squelch` as a squelch; `again` when a start follows it; `halt` when nothing but a new start undoes
it. A start in progress is cancelled, but for one that a change of the output only defers. -/
def requestStop (s : State) (n cause tag : Nat) (squelch again halt : Bool) : State :=
  let st := outState s n
  let o := s.out n
  if st = 1 then
    let s := if again then s else cancelStarts s n
    let s := setOutState (s.setOut n { s.out n with startAt := none }) n 0 cause tag
    if again then requestStart s n cause tag else s
  else if st = 2 || st = 3 then
    setOutState (s.setOut n { o with again := again, squelch := squelch, halted := halt, cause := cause, tag := tag }) n 4 cause tag
  else if st = 4 then
    s.setOut n { o with again := again, squelch := squelch || (again && o.squelch), halted := o.halted || halt }
  else if st = 5 && !again then setOutState (s.setOut n { o with again := false }) n (if squelch then 5 else 0) cause tag
  else s

/-- APLL k has locked: the outputs it serves that were squelched for it restart (R212). -/
def restartFor (s : State) (k : Nat) : State :=
  (List.range 12).foldl (fun s n =>
    let o := s.out n
    let mine : Bool := if outSrc s n = 4 then k = 1 else outSrc s n != 5 && k = 2
    if mine && outState s n = 5 && o.again then requestStart s n 1 0
    else if mine && outState s n = 1 then s.setOut n { o with startAt := some (s.freeNs + startLead) }
    else s) s

/-- Squelch output n for a relock of its APLL (R212, R213): a start is cancelled, a running output restarts after the lock, and one that is
already stopping restarts only if it would have. -/
def squelchOut (s : State) (n : Nat) : State :=
  let s := s.setFlag (Flag.OUT_RELOCK_SQ n)
  let o := s.out n
  if outState s n = 1 then requestStop s n 1 0 false false false
  else if outState s n = 4 then (if o.again then s.setOut n { o with squelch := true } else s)
  else requestStop s n 1 0 true true false

/-- Squelch the outputs that satisfy `p` for a relock (R212). -/
def squelchFor (s : State) (p : Nat → Bool) : State :=
  let hit := (List.range 12).filter (fun n => p n && (outState s n = 1 || outState s n = 2 || outState s n = 3 || outState s n = 4))
  hit.foldl squelchOut (s.flagIf (!hit.isEmpty) Flag.SYN_RELOCK_SQ)

/-- Now is an instant at which output n may start: an edge of its grid (R208), or for SRC PLS an inactive level of the generator. Where no
rule places the edges, the command names one. -/
def startEdge (s : State) (n : Nat) : Bool :=
  if outSrc s n = 5 then !genActive s n && !frameRunning s n
  else match outGrid s n with
    | some _ => (gridEdge s n).isSome
    | none => true

/-- The source of output n is locked, so that its edges lie as R208 says. -/
def srcLocked (s : State) (n : Nat) : Bool :=
  let k := outSrc s n
  k = 0 || (1 ≤ k && k ≤ 3 && s.get (Reg.DPLL_STAT_STATE k) = 2)

/-- Output n as it starts: the stamp of its first edge is kept, its LFSR seeded, nothing left over from before (R209, R217). -/
def started (s : State) (n : Nat) : OutSt :=
  { s.out n with
    startAt := none, starts := [], off := 0, again := false, halted := false, prev := none, slewTo := none,
    edge0 := (gridEdge s n).map (stepOf s), lfsr := s.get (Reg.OUT_SEED_SEED n) }

/-- The row OUTPUT_START: output n, held inactive, starts at a grid edge at least 2 µs after the request. -/
def execOutputStart (n : Fin 12) (s : State) : Out := .next <|
  let o := s.out n
  match o.startAt with
  | none => s
  | some t =>
    if outState s n != 1 || s.freeNs < t || (outSrc s n != 5 && !outClocked s n) || !startEdge s n then s
    else
      let s := s.setOut n (started s n)
      let s := s.putB (Reg.OUT_STAT_ALIGNED n) (srcLocked s n)
      let s := setOutState s n 2 o.cause o.tag
      let s := o.starts.foldl (fun s w => finishDesc s w St.ok (nowResult s)) s
      closeOpens s 0x0251 n St.ok (nowResult s)

/-- The row OUTPUT_STOP: output n runs to its falling edge, which is now, and then holds the inactive level. On SRC PLS that is the
first instant at which the generator is inactive. A correction that was running ends here unless a start follows (R225). -/
def execOutputStop (n : Fin 12) (s : State) : Out := .next <|
  let o := s.out n
  if outState s n != 4 || (outSrc s n = 5 && (genActive s n || frameRunning s n)) then s
  else
    let s := s.setOut n { o with
      stops := [], reload := [], squelch := false, halted := false, slewTo := none, prev := none, edge0 := none }
    let s := s.putB (Reg.OUT_STAT_ALIGNED n) false
    let s := setOutState s n (if o.squelch then 5 else 0) o.cause o.tag
    let s := o.reload.foldl (fun s p => s.storeWord p.1 p.2) s
    let s := if o.reload.isEmpty then s else showOut (normOut s n) n
    let s := o.stops.foldl (fun s w => finishDesc s w St.ok (nowResult s)) s
    if o.again && !outCfgErr s n then requestStart s n o.cause o.tag
    else closeOpens (cancelStarts s n) 0x0251 n St.ok (nowResult s)

/-- Output n after its slew: a slewed alignment leaves it on its grid and seeds its LFSR anew, a SET_FREQ slew leaves what there was (R215–R217). -/
def slewed (s : State) (n : Nat) : State :=
  let o := s.out n
  if o.prev.isSome then s.setOut n { o with slewTo := none, prev := none, edge0 := none }
  else (s.setOut n { o with slewTo := none, off := 0, edge0 := (gridEdge s n).map (stepOf s), lfsr := s.get (Reg.OUT_SEED_SEED n) }).putB
    (Reg.OUT_STAT_ALIGNED n) (srcLocked s n)

/-- The row OUTPUT_SLEW_END: a frequency slew or a slewed alignment ends, and the output returns to its frequency. -/
def execOutputSlewEnd (n : Fin 12) (s : State) : Out := .next <|
  let o := s.out n
  if outState s n != 3 || (match o.slewTo with | some t => decide (s.freeNs < t) | none => false) then s
  else
    let s := setOutState (slewed s n) n 2 0 o.tag
    closeOpens s 0x0251 n St.ok (nowResult s)

/-- After a write of OUT_CFG, OUT_FN, OUT_FD, OUT_PHOFS, OUT_DLY or OUT_SEED in SETUP: PHOFS is brought into the period, an output in
error stops, EN starts or stops it (R227, R245), and a running one restarts on its new grid as R224 gives. -/
def outWritten (s : State) (n : Nat) (cfg : Bool) : State :=
  let s := showOut (normOut s n) n
  let st := outState s n
  if outCfgErr s n then requestStop s n 4 0 false false true
  else if cfg && !s.bit (Reg.OUT_CFG_EN n) then requestStop s n 0 0 false false true
  else if cfg && (st = 0 || 4 ≤ st) then requestStart s n 0 0
  else if st = 0 then (if s.bit (Reg.OUT_CFG_EN n) then requestStart s n 0 0 else s)
  else if 4 ≤ st then s
  else requestStop s n 0 0 false true false

/-- The row OUT_EN_WRITE: a SETUP write of OUT_CFG. -/
def execOutEnWrite (n : Fin 12) (v : Word) (s : State) : Out := .next <|
  if s.mode != .setup then s else outWritten (s.storeWord (0x091000 + 0x80 * n) v.toNat) n true

/-! ### Digital PLLs (R205–R210) -/

/-- The reference is in LOS, DISABLED or FAILED, or not named (R206). -/
def dpllLost (s : State) (r : Nat) : Bool :=
  if r = 32 then false else if r = 33 then true
  else refState s r = 0 || refState s r = 1 || losNow s r

/-- y of a DPLL in 10⁻¹². -/
def yPico (y : Int) : Int := roundQ ((y : Rat) * tera / ((2 ^ 48 : Nat) : Rat))

/-- DPLL k takes state `st`: DPLL_STATE journalled; leaving LOCKED sets DPLL_UNLOCK. -/
def setDpllState (s : State) (k st r : Nat) : State :=
  let old := s.get (Reg.DPLL_STAT_STATE k)
  if old = st then s
  else
    let s := s.flagIf (decide (old = 2)) Flag.SYN_DPLL_UNLOCK
    let s := (s.put (Reg.DPLL_STAT_STATE k) st).publish (Reg.DPLL_STAT_VALID k) (Reg.DPLL_STAT_SEQ k)
    s.journal 0 0x0009 0x0901
      (leBytes 1 k ++ leBytes 1 st ++ leBytes 1 old ++ leBytes 1 r ++ leBytes 4 (satS 32 (yPico (s.dpll k).y)))

/-- y held in HOLDOVER: the mean over the valid updates of the last DHO_AVG seconds. -/
def holdY (d : DpllSt) : Int := if d.hist.isEmpty then d.y else roundQ (meanQ (d.hist.map (fun p => (p.2 : Rat))))

/-- DPLL k enters ACQUIRE on reference r. From HOLDOVER or DISABLED, on a reference switch or a change of REF (`slew`), its frequency slews from
here and R210 bounds the excursion; after a loss of lock it goes on. -/
def enterAcquire (s : State) (k r : Nat) (slew : Bool) : State :=
  let d := s.dpll k
  let s := s.setDpll k { d with good := 0, bad := 0, slewing := slew, yOld := d.y, top := d.y, bound := slew, anchor := none }
  (setDpllState s k 1 r).putB (Reg.DPLL_STAT_SLEWING k) slew |>.putB (Reg.DPLL_STAT_CLAMP k) false

/-- DPLL k is disabled (EN = 0): its outputs stop hitlessly (R206, R213). -/
def disableDpll (s : State) (k r : Nat) : State :=
  let s := s.setDpll k { s.dpll k with good := 0, bad := 0, slewing := false, bound := false, anchor := none }
  let s := (s.putB (Reg.DPLL_STAT_SLEWING k) false).putB (Reg.DPLL_STAT_CLAMP k) false
  (dpllOuts s k).foldl (fun s n => requestStop s n 3 0 false false true) (setDpllState s k 0 r)

/-- The frequency headroom above y: (1 + y)(1 + ε) − 1 in 2⁻⁴⁸. -/
def headroom (s : State) (y : Int) : Int :=
  let e : Rat := (s.get Reg.SYN_RELOCK_FOVR_LIM : Rat) / 1000000
  floorQ ((((2 ^ 48 : Nat) : Rat) + (y : Rat)) * (1 + e)) - 2 ^ 48

/-- A frequency on the slew of ACQUIRE: from y towards `dem` by at most `lim`, never back the way it came (R210); and whether it has
arrived. -/
def slewY (d : DpllSt) (lim dem : Int) : Int × Bool :=
  if d.yOld < d.y then (clampI d.y (d.y + lim) dem, dem ≤ d.y + lim)
  else if d.y < d.yOld then (clampI (d.y - lim) d.y dem, d.y - lim ≤ dem)
  else (clampI (d.y - lim) (d.y + lim) dem, absN (dem - d.y) ≤ lim.toNat)

/-- The frequency at an update: towards what the loop asks for, `dem`, by FSLEW while the slew of ACQUIRE runs, then within the
headroom (R210). CLAMP shows while the clamp acts. -/
def moveY (s : State) (k : Nat) (dem : Int) : State :=
  let d := s.dpll k
  let st := s.get (Reg.DPLL_STAT_STATE k)
  if st = 1 && d.slewing then
    let dt := s.freeNs - d.updated
    let lim : Int := floorQ ((s.get (Reg.DPLL_FSLEW_FSLEW k) : Rat) * (dt : Rat) / tera / 1000000 * ((2 ^ 48 : Nat) : Rat))
    let r := slewY d lim dem
    let s := s.setDpll k { d with y := r.1, slewing := !r.2, top := max d.yOld r.1 }
    (s.putB (Reg.DPLL_STAT_SLEWING k) (!r.2)).putB (Reg.DPLL_STAT_CLAMP k) false
  else
    let top := headroom s d.top
    let clamp : Bool := st = 1 && d.bound && decide (top < dem)
    let s := s.flagIf (clamp && !s.bit (Reg.DPLL_STAT_CLAMP k)) Flag.SYN_CLAMP
    (s.setDpll k { d with y := if clamp then top else dem }).putB (Reg.DPLL_STAT_CLAMP k) clamp

/-- The outputs of DPLL k after its lock: those that run are aligned (R206). -/
def alignOuts (s : State) (k : Nat) : State :=
  (dpllOuts s k).foldl (fun s n => if outState s n = 2 then
    (s.putB (Reg.OUT_STAT_ALIGNED n) true).nextSeq (Reg.OUT_STAT_SEQ n) else s) s

/-- DPLL k locks: its anchor is fixed and its outputs are aligned (R206, R208). -/
def lockDpll (s : State) (k r : Nat) : State :=
  let a := lockAnchor s k
  let s := setDpllState (s.setDpll k { s.dpll k with good := 0, bad := 0, bound := false, anchor := a }) k 2 r
  alignOuts (s.putB (Reg.DPLL_STAT_CLAMP k) false) k

/-- A valid update in ACQUIRE or LOCKED, with phase error `e` (ps): lock and loss of lock (R206). -/
def trackDpll (s : State) (k r : Nat) (e : Int) : State :=
  let d := s.dpll k
  let win := s.get (Reg.DPLL_LOCK_LOCK_WIN k)
  if s.get (Reg.DPLL_STAT_STATE k) = 1 then
    let good := if absN e ≤ win && !d.slewing then d.good + 1 else 0
    if s.get (Reg.DPLL_LOCK_LOCK_CNT k) ≤ good then lockDpll s k r else s.setDpll k { d with good := good }
  else
    let bad := if 2 * win < absN e then d.bad + 1 else 0
    if r != 32 && 4 ≤ bad then enterAcquire s k r false
    else s.setDpll k { d with bad := bad, anchor := d.anchor.map (followAnchor s k) }

/-- The state machine of R206 at an update with phase error `e` (ps) and demanded frequency `dem`. -/
def dpllStep (s : State) (k : Nat) (e dem : Int) : State :=
  let st := s.get (Reg.DPLL_STAT_STATE k)
  let r := dpllRef s k
  let changed : Bool := r != (s.dpll k).ref
  let lost := dpllLost s r
  let s := s.setDpll k { s.dpll k with ref := r }
  if !s.bit (Reg.DPLL_CFG_EN k) then (if st = 0 then s else disableDpll s k r)
  else if st = 0 then enterAcquire s k r true
  else if st = 3 then (if !lost || changed then enterAcquire s k r true else s)
  else if lost then
    let s := s.setDpll k { s.dpll k with y := holdY (s.dpll k), slewing := false, bound := false, anchor := none }
    setDpllState ((s.putB (Reg.DPLL_STAT_SLEWING k) false).putB (Reg.DPLL_STAT_CLAMP k) false) k 3 r
  else if changed then enterAcquire s k r true
  else
    let s := moveY s k dem
    let d := s.dpll k
    let keep := s.get (Reg.DPLL_CFG_DHO_AVG k) * 1000000000
    let e := phaseErr s k e
    let s := s.setDpll k { d with hist := (s.freeNs, d.y) :: d.hist.filter (fun p => s.freeNs ≤ p.1 + keep) }
    trackDpll (s.putSat (Reg.DPLL_PHERR_E k) e) k r e

/-- One measurement of the recovered clock of port p (2⁻⁴⁸) by the phase detector: y of the SyncE reference is its mean over the
last second (R137, R258). -/
def laneClock (s : State) (p : Nat) (y : Int) : State :=
  let i := 20 + p
  if !portUp s p then s
  else
    let l := (s.freeNs, y) :: (s.syn.lanes.get (fun _ => []) p).filter (fun q => s.freeNs < q.1 + 1000000000)
    let s := { s with syn := { s.syn with lanes := s.syn.lanes.set (fun _ => []) p l } }
    let m : Rat := meanQ (l.map (fun q => (q.2 : Rat))) / ((2 ^ 48 : Nat) : Rat)
    let r := s.ref i
    let mode := s.get (Reg.ENT_NET_NETMODE i)
    if mode != 1 && mode != 2 then s
    else
      let s := s.putB (Reg.ENT_NETSTAT_SYNCE_OK i) true
      if mode = 1 || classOf s i = 1 then
        (s.setRef i { r with sy := some m, y := some m, got := true, lost := false, measAt := some s.freeNs }).putSat
          (Reg.ENT_FREQ_Y i) (roundQ (m * tera))
      else s.setRef i { r with sy := some m }

/-! ### SyncE quality levels (R222) -/

/-- The index port p transmits. -/
def txQl (s : State) (p : Nat) : Nat :=
  let r := dpllRef s 1
  let st := s.get (Reg.DPLL_STAT_STATE 1)
  if s.mode = .recovery then 8
  else if r = 20 + p then 8
  else if st = 3 then s.get Reg.SYN_SYNCE_CFG_QL_TX_HOLD1
  else if r = 32 then
    (if st != 2 then s.get Reg.SYN_SYNCE_CFG_QL_TX_FREE
     else if tsState s = 2 then s.get Reg.SYN_SYNCE_CFG_QL_TX_LOCK
     else if tsState s = 3 then s.get Reg.SYN_SYNCE_CFG_QL_TX_HOLD else s.get Reg.SYN_SYNCE_CFG_QL_TX_FREE)
  else if st != 2 then 8
  else if 20 ≤ r && r ≤ 27 then s.get (Reg.ENT_NETSTAT_QL r)
  else if r < 16 then s.get Reg.SYN_SYNCE_CFG_QL_REFIN
  else 8

/-- Cascaded eEEC and EEC counts sent: those received from DPLL1's network reference, eEEC incremented, or 0. -/
def txCascade (s : State) : Nat × Nat :=
  let r := dpllRef s 1
  if 20 ≤ r && r ≤ 27 then
    let c := s.syn.casc.get (fun _ => (0, 0)) (r - 20)
    (c.1 + 1, c.2)
  else (0, 0)

/-- Octets of an ESMC PDU with the extended QL TLV, destination address to FCS (padded to the Ethernet minimum). -/
def esmcLen : Nat := 64

/-- The SSM and enhanced SSM codes of a QL index (R156). -/
def ssmOf (q : Nat) : Nat × Nat :=
  if q = 0 then (0x2, 0x21) else if q = 1 then (0x2, 0x20) else if q = 2 then (0x2, 0x23) else if q = 3 then (0x2, 0xFF)
  else if q = 4 then (0x4, 0xFF) else if q = 5 then (0x8, 0xFF) else if q = 6 then (0xB, 0x22) else if q = 7 then (0xB, 0xFF)
  else (0xF, 0xFF)

/-- The ESMC PDU of port p at its level. -/
def esmcPduOf (s : State) (p : Nat) (event : Bool) : EsmcOut :=
  let c := txCascade s
  let q := ssmOf (s.syn.esmcTx.get (fun _ => 8) p)
  ⟨event, q.1, q.2, Config.portIdentity p, c.1, c.2⟩

/-- Hand an ESMC PDU to port p. -/
def sendEsmc (s : State) (p : Nat) (event : Bool) : State := enqueue s ⟨p, .esmc (esmcPduOf s p event), esmcLen, none, none⟩

/-- ESMC is sent on port p (R222, R227, R289): not in BOOT, SAFE or TEST. -/
def esmcOn (s : State) (p : Nat) : Bool :=
  s.mapBit Reg.SYN_SYNCE_CFG_ESMC_EN p && s.mode != .boot && s.mode != .safe && s.mode != .test

/-- The level of port p: a change is journalled and sends an event PDU. -/
def esmcLevel (s : State) (p : Nat) : State :=
  let old := s.syn.esmcTx.get (fun _ => 8) p
  let new := txQl s p
  if !esmcOn s p || old = new then s
  else
    let s := { s with syn := { s.syn with esmcTx := s.syn.esmcTx.set (fun _ => 8) p new } }
    sendEsmc (s.journal 0 0x0009 0x0904 (leBytes 1 p ++ leBytes 1 new ++ leBytes 1 old)) p true

/-- The levels of all ports. -/
def esmcLevels (s : State) : State := (List.range 8).foldl esmcLevel s

/-- The row DPLL_UPDATE: a phase-detector update of DPLL k + 1, with its phase error (ps), the frequency its loop asks for
(2⁻⁴⁸) and, for DPLL1, the recovered clocks measured. The synthesis unit's PLLs run in every mode but BOOT and TEST. -/
def execDpllUpdate (k : Fin 3) (e dem : Int) (clocks : List (Fin 8 × Int)) (s : State) : Out := .next <|
  if s.mode = .boot || s.mode = .test || !s.tbLive then s
  else
    let k := k.val + 1
    let s := if k = 1 then clocks.foldl (fun s c => laneClock s c.1 c.2) s else s
    let before := s.regs
    let s := dpllStep s k e dem
    let s := s.setDpll k { s.dpll k with updated := s.freeNs }
    let s := (s.putSat (Reg.DPLL_FOFS_Y k) (yPico (s.dpll k).y)).put (Reg.DPLL_STAT_REF_USE k) (dpllRef s k)
    let s := if s.regs = before then s else s.publish (Reg.DPLL_STAT_VALID k) (Reg.DPLL_STAT_SEQ k)
    if k = 1 then esmcLevels s else s

/-- The row ESMC_INFO_TX: once a second an information PDU is sent on each enabled port. -/
def execEsmcInfoTx (p : Fin 8) (s : State) : Out := .next <|
  let t := s.syn.esmcAt.get (fun _ => 0) p
  if !s.tbLive || !esmcOn s p || (t != 0 && s.freeNs < t - 1 + 900000000) then s
  else
    let s := { s with syn := { s.syn with esmcAt := s.syn.esmcAt.set (fun _ => 0) p (s.freeNs + 1) } }
    sendEsmc (esmcLevel s p) p false

/-! ### OUT_CTL (R225, R226, R245) -/

/-- The output's frequency change stays within ε (R211). -/
def smallChange (s : State) (n fn fd : Nat) : Bool :=
  let old : Rat := (s.get (Reg.OUT_FN_FN n) : Rat) / (s.get (Reg.OUT_FD_FD n) : Rat)
  let new : Rat := (fn : Rat) / (fd : Rat)
  decide (absQ (new / old - 1) ≤ (s.get Reg.SYN_RELOCK_FOVR_LIM : Rat) / 1000000)

/-- The state with FN and FD stored by SET_FREQ. -/
def storeFreq (s : State) (n fn fd : Nat) : State :=
  normOut ((s.put (Reg.OUT_FN_FN n) (if fn = 0 then 1 else fn)).put (Reg.OUT_FD_FD n) fd) n

/-- The output is in a state, or its source in ACQUIRE, that leaves ALIGN and SET_FREQ BUSY (R226). -/
def outBusy (s : State) (n : Nat) : Bool :=
  let st := outState s n
  let k := outSrc s n
  st = 1 || st = 3 || st = 4 || (1 ≤ k && k ≤ 3 && s.get (Reg.DPLL_STAT_STATE k) = 1)

/-- START: its applied stamp is the first edge. -/
def outStart (s : State) (w : Waiting) (n tag : Nat) : State :=
  if outCfgErr s n then refuseDesc s w St.invalid
  else
    let st := outState s n
    if st = 2 || st = 3 then finishDesc s w St.ok (nowResult s)
    else
      requestStart (s.setOut n { s.out n with starts := (s.out n).starts ++ [w] }) n 0 tag

/-- STOP: its applied stamp is the final falling edge. -/
def outStop (s : State) (w : Waiting) (n tag : Nat) : State :=
  let st := outState s n
  if st = 0 then finishDesc s w St.ok (nowResult s)
  else if st = 1 || st = 5 then
    finishDesc (requestStop (cancelStarts s n) n 0 tag false false false) w St.ok (nowResult s)
  else
    let s := if st = 4 then cancelStarts s n else s
    let s := s.setOut n { s.out n with stops := (s.out n).stops ++ [w] }
    requestStop s n 0 tag false false false

/-- What a slewed alignment of output n removes, modulo the period in the direction of smaller magnitude, in 2⁻¹⁶ ns (R216): what the steps
left on the time scale, nothing on a locked DPLL (R208), and elsewhere a free value. -/
def alignErr (s : State) (n : Nat) : Rat × State :=
  let per : Rat := ((s.get (Reg.OUT_FD_FD n) * secU : Nat) : Rat) / (s.get (Reg.OUT_FN_FN n) : Rat)
  let fold (e : Rat) : Rat := e - per * (roundQ (e / per) : Rat)
  if srcLocked s n then (fold ((s.out n).off : Rat), s)
  else
    let r := s.freeVal
    (fold (r.1 : Rat), r.2)

/-- The elapsed ns at which a slewed alignment that begins now ends: |e_p| / ε from now. -/
def alignEnd (s : State) (e : Rat) : Nat := s.freeNs + ceilNatQ (absQ e / 65536 * 1000000 / (s.get Reg.SYN_RELOCK_FOVR_LIM : Rat))

/-- ALIGN (R216); on SRC PLS it is carried out as PLS_ALIGN (R245). -/
def outAlign (s : State) (w : Waiting) (n tag : Nat) (slew : Bool) : State :=
  if outBusy s n then refuseDesc s w St.busy
  else if outSrc s n = 5 then startAlign s w [n] slew
  else if outState s n != 2 then finishDesc s w St.ok (nowResult s)
  else if slew then
    let r := alignErr s n
    setOutState ((openDesc r.2 w n).setOut n { s.out n with slewTo := some (alignEnd s r.1), tag := tag }) n 3 0 tag
  else requestStop (openDesc s w n) n 0 tag false true false

/-- SET_FREQ (R211, R225). -/
def outSetFreq (s : State) (w : Waiting) (n tag fn fd : Nat) : State :=
  if outBusy s n then refuseDesc s w St.busy
  else if outSrc s n = 5 || outCfgErr (storeFreq s n fn fd) n then refuseDesc s w St.invalid
  else if outState s n != 2 then finishDesc (showOut (storeFreq s n fn fd) n) w St.ok (nowResult s)
  else if smallChange s n fn fd then
    let s' := (storeFreq (openDesc s w n) n fn fd)
    let old := (s.get (Reg.OUT_FN_FN n), s.get (Reg.OUT_FD_FD n))
    setOutState (s'.setOut n { s'.out n with slewTo := none, prev := some old, tag := tag }) n 3 0 tag
  else
    let a := 0x091000 + 0x80 * n
    let s' := openDesc s w n
    requestStop (s'.setOut n { s'.out n with reload := [(a + 4, fn), (a + 8, fd)] }) n 0 tag false true false

/-- OUT_CTL. -/
def outCtlOp : OpSpec where
  opcode := 0x0251
  check s d :=
    let a := d.u8 17
    if 11 < d.u8 16 || 3 < a || (if a = 2 then 1 else 0) < d.u8 18 || d.u8 19 != 0 || !d.zero 26 63 || d.past = 2 then St.invalid
    else if a = 3 && (d.u16 24 = 0 || outSrc s (d.u8 16) = 5) then St.invalid else 0
  due s _ := s.atMs
  apply s w :=
    let n := w.d.u8 16
    let a := w.d.u8 17
    let tag := w.d.tag.toNat
    if a = 0 then outStart s w n tag
    else if a = 1 then outStop s w n tag
    else if a = 2 then outAlign s w n tag (w.d.u8 18 = 1)
    else outSetFreq s w n tag (w.d.u32 20) (w.d.u16 24)
  periodic := false

/-- The row OUT_CTL. -/
def execOutCtl (d : Desc) (s : State) : Out := .next (submit outCtlOp s d)

/-! ### Modes (R227) -/

/-- On entry to RECOVERY every output is stopped hitlessly. -/
def outsRecovery (s : State) : State :=
  (List.range 12).foldl (fun s n => requestStop (cancelStarts s n) n 5 0 false false true) s

/-- In the safe state every output is squelched, and none restarts (R213). -/
def outsSafe (s : State) : State :=
  (List.range 12).foldl (fun s n =>
    if outState s n = 0 then s
    else if outState s n = 5 then cancelStarts s n
    else requestStop ((cancelStarts s n).setFlag (Flag.OUT_SQUELCH n)) n 2 0 true false true) s

/-- A STOP aborted before its falling edge is undone (R227), unless something else ends the output or restarts it. -/
def undoStop (s : State) (n : Nat) : State :=
  let o := s.out n
  if outState s n != 4 || o.halted then s
  else if !o.reload.isEmpty || o.squelch then s.setOut n { o with again := true }
  else
    let s := s.setOut n { o with starts := [], again := false }
    let s := setOutState s n (if o.slewTo.isSome || o.prev.isSome then 3 else 2) 0 0
    o.starts.foldl (fun s w => finishDesc s w St.ok (nowResult s)) s

end Sys2Proof.Machine
end

