-- ==== Sys2Proof/Machine/Ports.lean ====
section
/-!
DEFINITION. Serial lanes and Ethernet ports (spec/08_lanes_and_ports.md): bring-up, loopbacks, pauses, eye monitors, redundancy
groups and the descriptors of the chapter. Reception of frames is in Receive.
-/

namespace Sys2Proof.Machine

/-- Port p beside its registers. -/
def State.port (s : State) (p : Nat) : PortSt := s.lan.ports.get (fun _ => PortSt.zero) p

/-- Replace port p. -/
def State.setPort (s : State) (p : Nat) (x : PortSt) : State :=
  { s with lan := { s.lan with ports := s.lan.ports.set (fun _ => PortSt.zero) p x } }

/-- Lane l beside its registers. -/
def State.lane (s : State) (l : Nat) : LaneSt := s.lan.lanes.get (fun _ => LaneSt.zero) l

/-- Replace lane l. -/
def State.setLane (s : State) (l : Nat) (x : LaneSt) : State :=
  { s with lan := { s.lan with lanes := s.lan.lanes.set (fun _ => LaneSt.zero) l x } }

/-- MAC_STAT.LINK: 0 DISABLED, 1 DOWN, 2 BRINGUP, 3 UP, 4 LOOPBACK, 5 UNAVAILABLE. -/
def link (s : State) (p : Nat) : Nat := s.get (Reg.MAC_STAT_LINK p)

/-! ### Configuration (R255, R256, R278) -/

/-- The port that uses lane l. -/
def portOfLane (s : State) (l : Nat) : Option Nat := (List.range 8).find? (fun p => l ∈ lanesOf s p)

/-- Group g in MODE PRP or HSR violates R278. -/
def groupErr (s : State) (g : Nat) : Bool :=
  let a := s.get (Reg.RG_CFG_PORT_A g)
  let b := s.get (Reg.RG_CFG_PORT_B g)
  let shared : Bool := (List.range 4).any (fun h => h != g && s.get (Reg.RG_CFG_MODE h) != 0 &&
    [s.get (Reg.RG_CFG_PORT_A h), s.get (Reg.RG_CFG_PORT_B h)].any (fun x => x = a || x = b))
  s.get (Reg.RG_CFG_MODE g) != 0 && (a = b || s.get (Reg.MAC_MODE_MODE a) != s.get (Reg.MAC_MODE_MODE b) ||
    s.get (Reg.MAC_MODE_FEC a) != s.get (Reg.MAC_MODE_FEC b) || shared)

/-- The two ports of a group in force share one set of start positions: both UP and aligned (R305). -/
def aligned (s : State) (g : Nat) : Bool :=
  s.get (Reg.RG_CFG_MODE g) != 0 && !groupErr s g && portUp s (s.get (Reg.RG_CFG_PORT_A g)) && portUp s (s.get (Reg.RG_CFG_PORT_B g))

/-- Release grid in ps (R304). -/
def gridPs (m : Nat) : Nat := if m = 0 then 16000 else if m = 1 then 3200 else if m = 2 then 1280 else 640

/-- Port stamp uncertainty of a mode in ps (R300). -/
def modeUnc (m : Nat) : Nat := if m = 0 then 400 else if m = 1 then 250 else 150

/-- Show what follows from the configuration: CFGERR of ports and groups, GRP, and the TSU's mode values. -/
def showPorts (s : State) : State :=
  let s := (List.range 4).foldl (fun s g =>
    let s' := s.putB (Reg.RG_STAT_CFGERR g) (groupErr s g)
    if s'.regs = s.regs then s else s'.publish (Reg.RG_STAT_VALID g) (Reg.RG_STAT_SEQ g)) s
  (List.range 8).foldl (fun s p =>
    let err : Bool := !modeFecOk s p || (List.range 4).any (fun g => groupErr s g &&
      (s.get (Reg.RG_CFG_PORT_A g) = p || s.get (Reg.RG_CFG_PORT_B g) = p))
    let s := s.flagIf (err && !s.bit (Reg.MAC_STAT_CFGERR p)) (Flag.MAC_CFGERR p)
    let s' := s.putB (Reg.MAC_STAT_CFGERR p) err
    let s := if s'.regs = s.regs then s else s'.publish (Reg.MAC_STAT_VALID p) (Reg.MAC_STAT_SEQ p)
    let m := s.get (Reg.MAC_MODE_MODE p)
    let on := s.bit (Reg.MAC_MODE_EN p)
    let s := (s.put (Reg.TSU_LAT_T_RXP p) (if on then tRxpOf m else 0)).put (Reg.TSU_LAT_T_TXP p) (if on then tTxpOf m else 0)
    let s := (s.put (Reg.TSU_GRID_GRID p) (if on then gridPs m else 0)).put (Reg.TSU_UNC_UNC p) (if on then modeUnc m else 0)
    let grp : Bool := match groupOf s p with | some g => aligned s g | none => false
    let s' := s.putB (Reg.TSU_STAT_GRP p) grp
    if s'.regs = s.regs then s else s'.publish (Reg.TSU_STAT_VALID p) (Reg.TSU_STAT_SEQ p)) s
where
  tRxpOf (m : Nat) : Nat := if m = 0 then 900 else if m = 1 then 320 else if m = 2 then 180 else 120
  tTxpOf (m : Nat) : Nat := if m = 0 then 800 else if m = 1 then 280 else if m = 2 then 160 else 110

/-! ### Link states (R264) -/

/-- Lane l takes state `st`, showing whether it is aligned in LANE_SUM. -/
def setLaneState (s : State) (l st : Nat) : State :=
  let s := (s.put (Reg.LN_STAT_STATE l) st).publish (Reg.LN_STAT_VALID l) (Reg.LN_STAT_SEQ l)
  s.putMapBit Reg.LANE_SUM_UP l (st = 5)

/-- RX_INV_DET of the port's lanes, lowest lane in bit 0. -/
def invBits (s : State) (p : Nat) : Nat :=
  ((lanesOf s p).zipIdx).foldl (fun a q => a + s.get (Reg.LN_STAT_RX_INV_DET q.1) * 2 ^ q.2) 0

/-- Port p takes link state `st` with CAUSE: LINK_STATE journalled (R296). -/
def setLink (s : State) (p st cause : Nat) : State :=
  let old := link s p
  if old = st then s
  else
    let s := ((s.put (Reg.MAC_STAT_LINK p) st).put (Reg.MAC_STAT_CAUSE p) cause).publish (Reg.MAC_STAT_VALID p) (Reg.MAC_STAT_SEQ p)
    let ls := if st = 2 then 2 else if st = 3 then 5 else if st = 4 then 6 else if st = 1 then 1 else 0
    let s := (lanesOf s p).foldl (fun s l =>
      setLaneState (if st = 0 || st = 4 then s else s.putB (Reg.LN_STAT_PRBS_LOCK l) false) l ls) s
    let s := if st = 3 then windowEvent s 8 p 10000000 else s
    let s := s.flagIf (decide (old = 3)) (Flag.MAC_LINK_DOWN p)
    let s := macIf s (old = 3 && st = 1) p 42
    let s := s.journal (if old = 3 then 1 else 0) 0x000B 0x0B01
      (leBytes 1 p ++ leBytes 1 st ++ leBytes 1 old ++ leBytes 1 cause ++ leBytes 1 (s.get (Reg.MAC_STAT_LANE_MAP p)) ++
        leBytes 1 (invBits s p) ++ leBytes 2 (s.get (Reg.MAC_DESKEW_DESKEW p)))
    showPorts s

/-- The state a port that is not up, looped or coming up is in: UNAVAILABLE, DISABLED or DOWN. -/
def baseLink (s : State) (p : Nat) : Nat :=
  if unavailable s p then 5
  else if !s.bit (Reg.MAC_MODE_EN p) || !modeFecOk s p || s.mode = .boot || s.mode = .test then 0 else 1

/-- The lanes lose what bring-up established. -/
def lanesDown (s : State) (p : Nat) (signal : Bool) : State :=
  (lanesOf s p).foldl (fun s l =>
    let s := s.flagIf (s.bit (Reg.LN_STAT_CDR_LOCK l)) (Flag.LN_CDR_LOSS l)
    (s.putB (Reg.LN_STAT_CDR_LOCK l) false).putB (Reg.LN_STAT_SIG_DET l) (signal && s.bit (Reg.LN_STAT_SIG_DET l))) s

/-- Port p leaves what it does for its base state. -/
def portDown (s : State) (p cause : Nat) (signal : Bool) : State :=
  let s := s.setPort p { s.port p with retryAt := none, kind := 0 }
  setLink (lanesDown s p signal) p (baseLink s p) cause

/-- Lane l starts its search, in the received polarity, or in RX_INV when RX_POL_AUTO is 0 (R265). -/
def startLane (s : State) (l : Nat) : State :=
  let inv : Bool := !s.bit (Reg.LN_CFG_RX_POL_AUTO l) && s.bit (Reg.LN_CFG_RX_INV l)
  s.setLane l { s.lane l with tried := 0, inv := inv }

/-- The row SIGNAL_DETECT: signal on every lane of a DOWN port. -/
def execSignalDetect (p : Fin 8) (s : State) : Out := .next <|
  if link s p != 1 || (s.port p).retryAt.isSome || !s.mapBit Reg.SYN_APLL_STAT_LOCK 1 then s
  else
    let s := (lanesOf s p).foldl (fun s l =>
      (startLane s l).putB (Reg.LN_STAT_SIG_DET l) true) s
    setLink s p 2 0

/-- The row POLARITY_TIMEOUT: POL_TO passed on lane l without a pattern, and it searches in the other polarity (R265). -/
def execPolarityTimeout (l : Fin 16) (s : State) : Out := .next <|
  match portOfLane s l with
  | none => s
  | some p =>
    let x := s.lane l
    if link s p != 2 || !s.bit (Reg.LN_CFG_RX_POL_AUTO l) || 2 ≤ x.tried then s
    else setLaneState (s.setLane l { x with tried := x.tried + 1, inv := !x.inv }) l 4

/-- Lane l is locked and aligned in the polarity of its search, and carries a FEC lane (R265, R266). -/
def laneUp (s : State) (l fec : Nat) : State :=
  let x := s.lane l
  let s := s.flagIf (match x.was with | some w => w != x.inv | none => false) (Flag.LN_POL_CHANGE l)
  let s := (s.setLane l { x with was := some x.inv }).putB (Reg.LN_STAT_RX_INV_DET l) (x.inv && s.bit (Reg.LN_CFG_RX_POL_AUTO l))
  (s.putB (Reg.LN_STAT_CDR_LOCK l) true).put (Reg.LN_STAT_FEC_LANE l) fec

/-- The FEC lanes of a four-lane port, 2 bits each, are each on one lane (R266). -/
def isPermutation (map : Nat) : Bool := (List.range 4).all (fun k => (List.range 4).any (fun j => map / 4 ^ j % 4 = k))

/-- The row BRINGUP_COMPLETE: every lane of the port is locked, adapted and aligned. `map` is the FEC lane each lane carries, `skew` the
largest skew in UI, `inv` the polarities in which the patterns were found. -/
def execBringupComplete (p : Fin 8) (map : Byte) (skew : Fin 181) (anDone : Bool) (s : State) : Out := .next <|
  let m := s.get (Reg.MAC_MODE_MODE p)
  if link s p != 2 || s.bit (Reg.MAC_STAT_LF p) || (m = 0 && s.bit (Reg.MAC_MODE_AN_EN p) && !anDone) ||
      (m = 3 && !isPermutation map.toNat) then s
  else
    let four : Bool := m = 3
    let s := ((lanesOf s p).zipIdx).foldl (fun s q => laneUp s q.1 (if four then map.toNat / 4 ^ q.2 % 4 else 0)) s
    let s := (s.put (Reg.MAC_STAT_LANE_MAP p) (if four then map.toNat else 0)).putB (Reg.MAC_STAT_REV p) (four && map.toNat = 27)
    let s := (s.put (Reg.MAC_DESKEW_DESKEW p) (if four then skew else 0)).putB (Reg.MAC_STAT_FEC_LOCK p)
      (s.get (Reg.MAC_MODE_FEC p) != 0)
    setLink (s.putB (Reg.MAC_STAT_AN_DONE p) (m = 0 && anDone)) p 3 0

/-- The row BRINGUP_FAIL: a lane failed to align in both polarities, or lost its signal. -/
def execBringupFail (p : Fin 8) (lost : Bool) (s : State) : Out := .next <|
  if link s p != 2 then s
  else
    let s := portDown s p (if lost then 1 else 3) (!lost)
    s.setPort p { s.port p with retryAt := some (s.freeNs + 1000000) }

/-- The row BRINGUP_RETRY: 1 ms after a failed bring-up. -/
def execBringupRetry (p : Fin 8) (s : State) : Out := .next <|
  match (s.port p).retryAt with
  | none => s
  | some t =>
    if s.freeNs < t then s
    else
      let s := s.setPort p { s.port p with retryAt := none }
      if link s p = 1 && (lanesOf s p).all (fun l => s.bit (Reg.LN_STAT_SIG_DET l)) then
        setLink ((lanesOf s p).foldl startLane s) p 2 0
      else s

/-- The row LINK_LOSS: an UP port loses signal (1), CDR lock (2), alignment (3), has hi_ber (4), receives local fault (5) or restarts
Clause 37 (6). -/
def execLinkLoss (p : Fin 8) (cause : Fin 7) (s : State) : Out := .next <|
  if link s p != 3 || cause.val = 0 then s
  else portDown (macIf s (cause.val = 4) p 40) p cause (cause.val != 1)

/-- The row LINK_FAULT_RX: the port receives local fault (1), remote fault (2) or neither (0) (R263). -/
def execLinkFaultRx (p : Fin 8) (k : Fin 3) (s : State) : Out := .next <|
  let lf : Bool := k.val = 1
  let rf : Bool := k.val = 2
  let s := s.flagIf (lf && !s.bit (Reg.MAC_STAT_LF p)) (Flag.MAC_LF p)
  let s := s.flagIf (rf && !s.bit (Reg.MAC_STAT_RF p)) (Flag.MAC_RF p)
  let s' := (s.putB (Reg.MAC_STAT_LF p) lf).putB (Reg.MAC_STAT_RF p) rf
  let s := if s'.regs = s.regs then s else s'.publish (Reg.MAC_STAT_VALID p) (Reg.MAC_STAT_SEQ p)
  if lf && link s p = 3 then portDown s p 5 true else s

/-- Port p may begin a frame: UP, or LOOPBACK of the near end, with no fault signalling and no disturbing change (R263, R269,
R291). -/
def mayTransmit (s : State) (p : Nat) : Bool :=
  (link s p = 3 || (link s p = 4 && (s.port p).kind != 3)) && !s.bit (Reg.MAC_STAT_LF p) && !s.bit (Reg.MAC_STAT_RF p)
    && (s.port p).disturb.isNone && s.mode != .safe

/-! ### Pauses (R283–R285) -/

/-- The pause of class c (0–7, 8 link) of port p. -/
def pauseOf (s : State) (p c : Nat) : PauseSt := (s.port p).pauses.get (fun _ => PauseSt.zero) c

/-- Replace it. -/
def setPause (s : State) (p c : Nat) (x : PauseSt) : State :=
  let pt := s.port p
  s.setPort p { pt with pauses := pt.pauses.set (fun _ => PauseSt.zero) c x }

/-- Line rate of a mode in Gb/s. -/
def rateGb (m : Nat) : Nat := if m = 0 then 1 else if m = 1 then 10 else if m = 2 then 25 else 100

/-- A pause of `q` quanta for class c is received: honoured unless disabled or ignored by the watchdog. -/
def receivePause (s : State) (p c q : Nat) : State :=
  let on : Bool := if c = 8 then s.bit (Reg.MAC_PFC_PAUSE_EN p) else s.mapBit (Reg.MAC_PFC_PFC_EN p) c
  let x := pauseOf s p c
  if !on || s.freeNs < x.ignore then s
  else
    let till := s.freeNs + q * 512 / rateGb (s.get (Reg.MAC_MODE_MODE p))
    let s := setPause s p c { x with holdTo := till, since := if q = 0 then none else some (x.since.getD s.freeNs) }
    s.putMapBit (Reg.MAC_PAUSE_STAT_PAUSED p) c (q != 0)

/-- The row PAUSE_RX: a PAUSE frame, or a PFC frame with its enabled priorities and their quanta. -/
def execPauseRx (p : Fin 8) (quanta : List (Fin 9 × BitVec 16)) (s : State) : Out := .next <|
  if !portUp s p then s else quanta.foldl (fun s q => receivePause s p q.1 q.2.toNat) s

/-- The row PAUSE_EXPIRY: the quanta of class c have run out. -/
def execPauseExpiry (p : Fin 8) (c : Fin 9) (s : State) : Out := .next <|
  let x := pauseOf s p c
  if x.since.isNone || s.freeNs < x.holdTo then s
  else (setPause s p c { x with since := none }).putMapBit (Reg.MAC_PAUSE_STAT_PAUSED p) c false

/-- The row PAUSE_WATCHDOG: a pause has held for more than PWD_LIM. -/
def execPauseWatchdog (p : Fin 8) (c : Fin 9) (s : State) : Out := .next <|
  let x := pauseOf s p c
  match x.since with
  | none => s
  | some t =>
    if s.freeNs ≤ t + s.get (Reg.MAC_PWD_PWD_LIM p) * 1000000 then s
    else
      let s := setPause s p c { x with since := none, holdTo := s.freeNs, ignore := s.freeNs + s.get (Reg.MAC_PWD_PWD_HOLD p) * 1000000 }
      let s := (s.putMapBit (Reg.MAC_PAUSE_STAT_PAUSED p) c false).putMapBit (Reg.MAC_PAUSE_STAT_HOLD p) c true
      let s := macBump (s.setFlag (Flag.MAC_PWD_TRIP p)) p 43 1
      s.journal 1 0x000B 0x0B02 (leBytes 1 p ++ leBytes 1 c ++ leBytes 2 0 ++ leBytes 4 ((s.freeNs - t) / 1000))

/-- The row PWD_HOLD_EXPIRY: pause frames of class c are honoured again. -/
def execPwdHoldExpiry (p : Fin 8) (c : Fin 9) (s : State) : Out := .next <|
  if s.freeNs < (pauseOf s p c).ignore then s else s.putMapBit (Reg.MAC_PAUSE_STAT_HOLD p) c false

/-- The priority of a frame of port p: the PCP of its outer VLAN tag, 0 for an untagged one (log 86). -/
def msgPrio (s : State) (p : Nat) : Msg → Nat
  | .ptp m => (m.env.tci.getD 0) / 8192
  | .ntp m => (m.env.tci.getD 0) / 8192
  | .injected l =>
    let tpid := leNat ((l.drop 12).take 2).reverse 0 2
    if tpid = s.get (Reg.MAC_VLAN_STPID p) || tpid = s.get (Reg.MAC_VLAN_CTPID p) then (l.getD 14 0).toNat / 32 else 0
  | .esmc _ => 0
  | .supervision _ => 0
  | .probe => 0

/-- A frame of priority `prio` is held by a pause. -/
def heldByPause (s : State) (p prio : Nat) : Bool :=
  s.mapBit (Reg.MAC_PAUSE_STAT_PAUSED p) 8 || s.mapBit (Reg.MAC_PAUSE_STAT_PAUSED p) prio

/-- Host-injected frames and ESMC are held by a pause, and the rest too with EXEMPT = 0 (R284). -/
def pauseHolds (s : State) (u : Unbooked) : Bool :=
  heldByPause s u.port (msgPrio s u.port u.msg) && (!s.bit (Reg.MAC_PFC_EXEMPT u.port) ||
    (match u.msg with | .injected _ => true | .esmc _ => true | _ => false))

/-- TX_PAUSED_NS counts the TB cycles in which some frame is held (R286). -/
def pauseTick (s : State) : State :=
  (List.range 8).foldl (fun s p =>
    macIf s (s.get (Reg.MAC_PAUSE_STAT_PAUSED p) != 0 && s.lan.unb.any (fun u => u.port = p && pauseHolds s u)) p 32) s

/-! ### Eye monitors and PRBS (R270–R272) -/

/-- The row EYE_MEASURE: a result of lane l (16 CL0, 17 CL1), in 1/256 UI and mV. -/
def execEyeMeasure (l : Fin 18) (h v : BitVec 16) (s : State) : Out := .next <|
  let i := s.get (Reg.LN_EYE_CFG_EYE_INT l)
  let x := s.lane l
  if i = 0 || (16 ≤ l.val && !s.bit Reg.GEN_STRAP_PAIR_EN) || !s.tbLive || s.mode = .boot || s.mode = .test || (x.eyeAt != 0 && s.freeNs < x.eyeAt - 1 + i * 1000000000) then s
  else
    let s := ((s.put (Reg.LN_EYE_EYE_H l) h.toNat).put (Reg.LN_EYE_EYE_V l) v.toNat).publish (Reg.LN_STAT_VALID l) (Reg.LN_STAT_SEQ l)
    let low : Bool := h.toNat < s.get (Reg.LN_EYE_CFG_EYE_MIN_H l) || v.toNat < 4 * s.get (Reg.LN_EYE_CFG_EYE_MIN_V l)
    let s := s.setLane l { x with eyeAt := s.freeNs + 1, eyeLow := low }
    let s := s.flagIf low (Flag.LN_EYE_LOW l)
    if !low && !x.eyeLow then s
    else s.journal 1 0x000B 0x0B03 (leBytes 1 l ++ leBytes 1 (b2n low) ++ leBytes 2 h.toNat ++ leBytes 2 v.toNat)

/-- Lane l may send a test pattern: its port is in LOOPBACK or DISABLED. -/
def prbsAllowed (s : State) (l : Nat) : Bool :=
  match portOfLane s l with | some p => link s p = 4 || link s p = 0 | none => l < 16

/-- The row PRBS_LOCK: the checker of lane l is locked to the pattern, with `errs` bit errors counted since. -/
def execPrbsLock (l : Fin 16) (errs : BitVec 48) (s : State) : Out := .next <|
  if s.get (Reg.LN_CFG_PRBS l) = 0 || (portOfLane s l).isNone || !prbsAllowed s l then s
  else
    let s := (s.putB (Reg.LN_STAT_PRBS_LOCK l) true).publish (Reg.LN_STAT_VALID l) (Reg.LN_STAT_SEQ l)
    s.bump (Reg.LN_PRBS_LO_ERR l) (Reg.LN_PRBS_HI_ERR l) errs.toNat

/-! ### Redundancy supervision (R282) -/

/-- Octets of a supervision frame, destination address to FCS. -/
def supLen : Nat := 70

/-- The row SUPERVISION_TX: every SUP_INT ms, on both ports of group g. -/
def execSupervisionTx (g : Fin 4) (s : State) : Out := .next <|
  let t := s.lan.supAt.get (fun _ => 0) g
  if s.get (Reg.RG_CFG_MODE g) = 0 || groupErr s g || !s.bit (Reg.RG_CFG_SUP_EN g) || s.mode = .boot || s.mode = .safe || s.mode = .test
      || (t != 0 && s.freeNs < t - 1 + s.get (Reg.RG_SUP_SUP_INT g) * 1000000) then s
  else
    let n := s.lan.supSeq.get (fun _ => 0) g
    let s := { s with lan := { s.lan with supAt := s.lan.supAt.set (fun _ => 0) g (s.freeNs + 1),
                                          supSeq := s.lan.supSeq.set (fun _ => 0) g ((n + 1) % 65536) } }
    (portsOf s (16 + g)).foldl (fun s p => enqueue s ⟨p, .supervision n, supLen, none, none⟩) s

/-! ### Disturbing changes and commands (R290–R295) -/

/-- Reference 20 + p is named by SRC or FSRC, or is the REF of DPLL1. -/
def portProtected (s : State) (p : Nat) : Bool := isNamed s (20 + p) || s.get (Reg.DPLL_CFG_REF 1) = 20 + p

/-- The lanes of port p's group that no port uses are powered down (R255). -/
def idleLanes (s : State) (p : Nat) : State :=
  ((List.range 4).map (fun k => 4 * (p / 2) + k)).foldl (fun s l =>
    if (portOfLane s l).isNone && s.get (Reg.LN_STAT_STATE l) != 0 then
      setLaneState (((s.putB (Reg.LN_STAT_CDR_LOCK l) false).putB (Reg.LN_STAT_SIG_DET l) false).putB (Reg.LN_STAT_PRBS_LOCK l) false) l 0
    else s) s

/-- A frame of port p is being transmitted: launched, or on the line until its wire interval ends. -/
def lineBusy (s : State) (p : Nat) : Bool :=
  s.tsu.books.any (fun b => b.port = p && b.launched) || (match (s.port p).line with | some f => s.freeNs < f.till | none => false)

/-- After the stored settings of port p have changed outside a descriptor, or at a disturbing change: the port and its odd
neighbour take their states. -/
def settlePort (s : State) (p cause : Nat) : State :=
  let s := idleLanes (showPorts s) p
  let s := if link s p = baseLink s p then s else portDown s p cause true
  if p % 2 = 0 && (link s (p + 1) = 5) != unavailable s (p + 1) then portDown s (p + 1) 7 true else s

/-- The values of a disturbing change act on port p: it goes down, or into LOOPBACK, and the descriptor completes. -/
def disturbActs (s : State) (p : Nat) (d : Disturb) : State :=
  let s := showPorts (d.regs.foldl (fun s r => s.storeWord r.1 r.2) s)
  let s := if d.link = 4 && baseLink s p = 1 then
      setLink (s.setPort p { s.port p with kind := d.kind, retryAt := none }) p 4 9
    else settlePort (if link s p = baseLink s p then s else portDown s p d.cause true) p d.cause
  match d.w with
  | some w =>
    let s := if w.opcode = 0x0272 then
        s.journal 0 0x000B 0x0B04 (leBytes 1 p ++ leBytes 1 d.kind ++ leBytes 2 0 ++ leBytes 4 w.d.tag.toNat) else s
    if w.opcode = 0x0280 then s else finishDesc s w St.ok []
  | none => s

/-- Another port is still to go down for the descriptor of a change of port p. -/
def disturbPeer (s : State) (p : Nat) (d : Disturb) : Bool :=
  d.w.isSome && (List.range 8).any (fun q => q != p && (match (s.port q).disturb with | some e => e.w = d.w | none => false))

/-- The row PORT_DISTURB: once the frame in transmission has ended, the port goes down, or into LOOPBACK, and the new values act: for a
change of two ports, when the second goes down (R291). -/
def execPortDisturb (p : Fin 8) (s : State) : Out := .next <|
  match (s.port p).disturb with
  | none => s
  | some d =>
    if lineBusy s p then s
    else
      let s := s.setPort p { s.port p with disturb := none }
      if disturbPeer s p d then (if link s p = baseLink s p then s else portDown s p d.cause true) else disturbActs s p d

/-- Begin a disturbing change of port p, beside one that has not yet acted. -/
def disturb (s : State) (p : Nat) (d : Disturb) : State :=
  let d := match (s.port p).disturb with
    | some e => { d with regs := e.regs ++ d.regs, w := if d.w.isSome then d.w else e.w }
    | none => d
  s.setPort p { s.port p with disturb := some d }

/-- The pairs of address and value that a masked descriptor stores. -/
def maskedRegs (d : Desc) (mask : Nat) (l : List Nat) : List (Nat × Nat) :=
  (l.zipIdx).filterMap (fun p => if bitOf mask p.2 then some (p.1, maskedValue d mask p.2) else none)

/-- The registers of PORT_SET's MASK. -/
def portAddrs (p : Nat) : List Nat := (List.range 8).map (fun k => 0x0C0000 + 0x2000 * p + 4 * k)

/-- The change from s to s' disturbs the link of port p. -/
def disturbs (s s' : State) (p : Nat) : Bool :=
  [Reg.MAC_MODE_EN p, Reg.MAC_MODE_MODE p, Reg.MAC_MODE_FEC p, Reg.MAC_MODE_AN_EN p, Reg.MAC_MODE_TX_REV p].any (fun f => s.get f != s'.get f)

/-- PORT_SET. -/
def portSetOp : OpSpec where
  opcode := 0x0270
  check _ d :=
    if 7 < d.u8 16 || 2 ≤ d.u8 17 || 256 ≤ d.u16 18 || !d.zero 52 63 || d.past = 2 ||
        strayValue d (d.u16 18) (portAddrs (d.u8 16)) then St.invalid else 0
  due s _ := s.atMs
  apply s w :=
    let p := w.d.u8 16
    let regs := maskedRegs w.d (w.d.u16 18) (portAddrs p)
    let s' := showPorts (regs.foldl (fun s r => s.storeWord r.1 r.2) s)
    let newErr : Bool := (List.range 8).any (fun q => s'.bit (Reg.MAC_STAT_CFGERR q) && !s.bit (Reg.MAC_STAT_CFGERR q))
    if newErr then refuseDesc s w St.invalid
    else if !disturbs s s' p then finishDesc s' w St.ok []
    else if (s.port p).disturb.isSome then refuseDesc s w St.busy
    else if (portProtected s p || (p % 2 = 0 && unavailable s' (p + 1) != unavailable s (p + 1) && portProtected s (p + 1))) &&
        !bitOf (w.d.u8 17) 0 then refuseDesc s w St.protect
    else disturb s p ⟨1, regs, 0, 7, some w⟩
  periodic := false

/-- The row PORT_SET. -/
def execPortSet (d : Desc) (s : State) : Out := .next (submit portSetOp s d)

/-- The registers of LANE_SET's MASK. -/
def laneAddrs (l : Nat) : List Nat := (List.range 3).map (fun k => 0x0B1000 + 0x100 * l + 4 * k)

/-- After LN_CFG of lane l is stored: turning the pattern off clears PRBS_LOCK. -/
def laneStored (s : State) (l : Nat) : State :=
  if s.get (Reg.LN_CFG_PRBS l) = 0 then s.putB (Reg.LN_STAT_PRBS_LOCK l) false else s

/-- LANE_SET. -/
def laneSetOp : OpSpec where
  opcode := 0x0271
  check _ d :=
    let m := d.u16 18
    if 17 < d.u8 16 || 2 ≤ d.u8 17 || 8 ≤ m || (16 ≤ d.u8 16 && bitOf m 0) || !d.zero 32 63 || d.past = 2 ||
        strayValue d m (laneAddrs (d.u8 16)) then St.invalid else 0
  due s _ := s.atMs
  apply s w :=
    let l := w.d.u8 16
    let regs := maskedRegs w.d (w.d.u16 18) (laneAddrs l)
    let s' := regs.foldl (fun s r => s.storeWord r.1 r.2) s
    let cfg : Bool := s.loadWord (0x0B1000 + 0x100 * l) != s'.loadWord (0x0B1000 + 0x100 * l)
    if s'.get (Reg.LN_CFG_PRBS l) != s.get (Reg.LN_CFG_PRBS l) && !prbsAllowed s l then refuseDesc s w St.busy
    else
      match if cfg then portOfLane s l else none with
      | some p =>
        if link s p = 0 || link s p = 5 then finishDesc (laneStored s' l) w St.ok []
        else if (s.port p).disturb.isSome then refuseDesc s w St.busy
        else if portProtected s p && !bitOf (w.d.u8 17) 0 then refuseDesc s w St.protect
        else disturb s p ⟨if link s p = 4 then 4 else 1, regs, (s.port p).kind, 7, some w⟩
      | none => finishDesc (laneStored s' l) w St.ok []
  periodic := false

/-- The row LANE_SET. -/
def execLaneSet (d : Desc) (s : State) : Out := .next (submit laneSetOp s d)

/-- PORT_LOOPBACK. A port that is neither UP nor in LOOPBACK has nothing to enter or leave (R264; log 85). -/
def portLoopbackOp : OpSpec where
  opcode := 0x0272
  check _ d :=
    if 7 < d.u8 16 || 3 < d.u8 17 || 2 ≤ d.u8 18 || !d.zero 19 63 || d.past = 2 then St.invalid else 0
  due s _ := s.atMs
  apply s w :=
    let p := w.d.u8 16
    let k := w.d.u8 17
    if link s p != 4 && (k = 0 || link s p != 3) then finishDesc s w St.ok []
    else if (s.port p).disturb.isSome then refuseDesc s w St.busy
    else if portProtected s p && !bitOf (w.d.u8 18) 0 then refuseDesc s w St.protect
    else disturb s p ⟨if k = 0 then 1 else 4, [], k, 9, some w⟩
  periodic := false

/-- The row PORT_LOOPBACK. -/
def execPortLoopback (d : Desc) (s : State) : Out := .next (submit portLoopbackOp s d)

/-- The ports a group's change touches. -/
def groupPorts (s : State) (g : Nat) : List Nat :=
  if s.get (Reg.RG_CFG_MODE g) = 0 then [] else [s.get (Reg.RG_CFG_PORT_A g), s.get (Reg.RG_CFG_PORT_B g)]

/-- RG_SET. -/
def rgSetOp : OpSpec where
  opcode := 0x0273
  check _ d :=
    if 3 < d.u8 16 || 2 ≤ d.u8 17 || 4 ≤ d.u16 18 || !d.zero 28 63 || d.past = 2 ||
        strayValue d (d.u16 18) [0x0D0000 + 0x20 * d.u8 16, 0x0D0004 + 0x20 * d.u8 16] then St.invalid else 0
  due s _ := s.atMs
  apply s w :=
    let g := w.d.u8 16
    let a := 0x0D0000 + 0x20 * g
    let regs := maskedRegs w.d (w.d.u16 18) [a, a + 4]
    let s' := showPorts (regs.foldl (fun s r => s.storeWord r.1 r.2) s)
    let moved : Bool := [Reg.RG_CFG_MODE g, Reg.RG_CFG_PORT_A g, Reg.RG_CFG_PORT_B g].any (fun f => s.get f != s'.get f)
    let ps := ((groupPorts s g ++ groupPorts s' g).dedup).filter (fun p => link s p != 0 && link s p != 5)
    if groupErr s' g then refuseDesc s w St.invalid
    else if !moved || ps.isEmpty then finishDesc s' w St.ok []
    else if ps.any (fun p => (s.port p).disturb.isSome) then refuseDesc s w St.busy
    else if ps.any (portProtected s) && !bitOf (w.d.u8 17) 0 then refuseDesc s w St.protect
    else
      ps.foldl (fun s p => disturb s p ⟨1, regs, 0, 7, some w⟩) s
  periodic := false

/-- The row RG_SET. -/
def execRgSet (d : Desc) (s : State) : Out := .next (submit rgSetOp s d)

/-! ### Modes (R267, R289, R293) -/

/-- Ports take their states on entry to SETUP. -/
def portsSetup (s : State) : State := (List.range 8).foldl (fun s p => settlePort s p 0) s

/-- SERVICE is left: loopbacks end, and a disturbing change not yet applied has no effect. -/
def portsLeave (s : State) : State :=
  (List.range 8).foldl (fun s p => if link s p = 4 then portDown s p 9 true else s) s

/-- An APLL1 relock interrupts every port (R267). -/
def portsClock (s : State) : State :=
  (List.range 8).foldl (fun s p => if 2 ≤ link s p && link s p ≤ 4 then portDown s p 8 true else s) s

/-- Device reset or TEST: every port DISABLED. -/
def portsOff (s : State) : State :=
  (List.range 8).foldl (fun s p => if link s p = 0 then s else setLink (s.setPort p PortSt.zero) p 0 7) s

end Sys2Proof.Machine
end

