-- ==== Sys2Proof/Machine/Tsu.lean ====
section
/-!
DEFINITION. Scheduled egress (spec/09_timestamping_egress.md): booking and the release of booked
frames, late frames, frames that are not booked, port calibration and TSU_SET.
-/

namespace Sys2Proof.Machine

/-! ### Wire intervals and start positions (R304, R306) -/

/-- One octet time of a mode in ps. -/
def octetPs (m : Nat) : Nat := if m = 0 then 8000 else if m = 1 then 800 else if m = 2 then 320 else 80

/-- The wire interval of a frame of `len` octets whose timestamp point lies at `p` (2⁻¹⁶ ns), in 2⁻¹⁶ ps: from 8 octet times before
it, for len + 20 octet times. -/
def wire (m p len : Nat) : Int × Int :=
  let lo : Int := (p * 1000 : Nat) - (8 * octetPs m * 65536 : Nat)
  (lo, lo + ((len + 20) * octetPs m * 65536 : Nat))

/-- Two intervals overlap. -/
def overlap (a b : Int × Int) : Bool := decide (a.1 < b.2) && decide (b.1 < a.2)

/-- The bookings of port p. -/
def booksOf (s : State) (p : Nat) : List Booking := s.tsu.books.filter (fun b => b.port = p)

/-- The instant in the time base, in 2⁻¹⁶ ps, at which what is on the line of port p ends. -/
def lineEnd (s : State) (p : Nat) : Int :=
  match (s.port p).line with
  | some f => ((s.tbU * 1000 : Nat) : Int) + ((f.till - s.freeNs) * 65536000 : Nat)
  | none => 0

/-- The wire interval of a start position is free on port p: of the bookings, and of what is on the line. -/
def wireFree (s : State) (p pos len : Nat) : Bool :=
  let m := portMode s p
  decide (lineEnd s p ≤ (wire m pos len).1) && (booksOf s p).all (fun b => !overlap (wire m pos len) (wire m b.start (max b.len b.clen)))

/-- The spacing of port p's start positions in 2⁻¹⁶ ns: the grid of its mode at the rate of APLL1 (R304). -/
def gridStep (s : State) (p : Nat) : Rat := txUi s ((gridPs (portMode s p) * 65536 : Nat) / 1000)

/-- Start position k of a grid of port p, in 2⁻¹⁶ ns. -/
def startPos (s : State) (p : Nat) (g : StartGrid) (k : Int) : Rat := (g.origin : Rat) / 65536 + (k : Rat) * gridStep s p

/-- The latest start position of a grid of port p at or before T_nom and after T_nom − SLIP, still ahead, whose interval is free on all the
ports (R306), rounded down to 2⁻¹⁶ ns. -/
def bestStart (s : State) (ports : List Nat) (tnom len p : Nat) (g : StartGrid) : Option Nat :=
  let slip := s.get Reg.TSU_CFG_SLIP * 65536
  let last := floorQ (((tnom : Rat) - (g.origin : Rat) / 65536) / gridStep s p)
  let n := ceilNatQ ((slip : Rat) / gridStep s p)
  (List.range (n + 1)).findSome? (fun i =>
    let k := last - (i : Int)
    let x := startPos s p g k
    let pos := (floorQ x).toNat
    if (tnom : Rat) < x + (slip : Rat) && !g.blocked.contains k && s.tbU < pos && ports.all (fun q => wireFree s q pos len) then some pos
    else none)

/-! ### Late frames (R312–R314) -/

/-- L = T_tx − T_txp. -/
def launchAt (s : State) (b : Booking) : Int := (b.ttx : Int) - (tTxp (portMode s b.port) * 65536 : Nat)

/-- D = L − G_egr. -/
def deadlineAt (s : State) (b : Booking) : Int := launchAt s b - (gEgr * 65536 : Nat)

/-- The row FRAME_ARM: at D of the first booking of port p not yet armed, the frame is armed, or discarded with cause DEADLINE. -/
def execFrameArm (p : Fin 8) (s : State) : Out := .next <|
  match (booksOf s p).find? (fun b => !b.armed && deadlineAt s b ≤ (s.tbU : Int)) with
  | none => s
  | some b =>
    if b.inTsu then putBook s { b with armed := true }
    else if b.dead then freeBook s b
    else discard s b 0

/-- A message of a port's PTP client, which runs in SETUP and RECOVERY too (R359). -/
def clientMsg : Msg → Bool
  | .ptp m => m.type = 1
  | _ => false

/-- The lowest code of R312 that withholds a frame at L. -/
def launchCause (s : State) (b : Booking) : Option Nat :=
  if s.mode != .safe && (!mayTransmit s b.port || link s b.port != 3) then some 2
  else if heldByPause s b.port (msgPrio s b.port b.msg) && !s.bit (Reg.MAC_PFC_EXEMPT b.port) then some 3
  else if s.mode = .safe then some 7
  else if s.mode != .service && !(clientMsg b.msg && (s.mode = .setup || s.mode = .recovery)) then some 6
  else none

/-- The row FRAME_LAUNCH: at L of the first armed booking of port p, the frame is launched or discarded. -/
def execFrameLaunch (p : Fin 8) (s : State) : Out := .next <|
  match (booksOf s p).find? (fun b => b.armed && !b.launched && launchAt s b ≤ (s.tbU : Int)) with
  | none => s
  | some b =>
    match launchCause s b with
    | some c => discard s b c
    | none => putBook s { b with launched := true }

/-! ### Departure (R286, R309, R310) -/

/-- The destination of a message: 0 unicast, 1 multicast, 2 broadcast. -/
def msgDest : Msg → Nat
  | .ptp m => if m.unicast then 0 else 1
  | .ntp _ => 0
  | .esmc _ => 1
  | .supervision _ => 1
  | .injected l => if (l.take 6).all (fun b => b.toNat = 255) then 2 else if (l.headD 0).toNat % 2 = 1 then 1 else 0
  | .probe => 1

/-- The frame on the line of port p has been sent whole (R286); a booked one counts as RELEASED. -/
def lineSent (s : State) (p : Nat) (f : LineFrame) : State :=
  let s := s.setPort p { s.port p with line := none }
  let s := macBump (macBump s p 26 f.len) p 27 1
  let s := (macBump s p (28 + f.dest) 1).perf 0x043 p f.len
  if f.booked then (tsuBump s p 9).perf 0x041 p 1 else s

/-- Frames whose wire interval has ended have been sent whole. -/
def lineTick (s : State) : State :=
  (List.range 8).foldl (fun s p =>
    match (s.port p).line with
    | some f => if f.till ≤ s.freeNs then lineSent s p f else s
    | none => s) s

/-- A frame's timestamp point leaves port p: the frame is on the line for the `len` + 12 octet times that follow (R306). -/
def departs (s : State) (p : Nat) (m : Msg) (red : Option Nat) (len stamp : Nat) (booked : Bool) : State :=
  let x : LineFrame := ⟨len, msgDest m, booked, s.freeNs + ceilDiv ((len + 12) * octetPs (portMode s p)) 1000⟩
  let y : SentFrame := ⟨p, m, len, red, stamp, true⟩
  let s : State := { s with lan := { s.lan with sent := s.lan.sent ++ [y] } }
  s.setPort p { s.port p with line := some x }

/-- A frame of port p is ended by an error character (R288). -/
def cutOff (s : State) (p : Nat) (m : Msg) (red : Option Nat) (len stamp : Nat) : State :=
  let y : SentFrame := ⟨p, m, len, red, stamp, false⟩
  let s : State := { s with lan := { s.lan with sent := s.lan.sent ++ [y] } }
  macBump s p 31 1

/-- What is on the line of each port is ended by an error character (R267, R288). -/
def cutLines (s : State) : State :=
  (List.range 8).foldl (fun s p =>
    match (s.port p).line with
    | some _ => macBump (s.setPort p { s.port p with line := none }) p 31 1
    | none => s) (lineTick s)

/-- The measured egress stamp returns to what sent the frame (R302, R303, R333): a two-step event message awaits its Follow_Up, and a
port client's Delay_Req gives t3, corrected by A. -/
def stampReturns (s : State) (b : Booking) (stamp : Nat) : State :=
  match b.msg with
  | .ptp m =>
    if (m.type = 0 || m.type = 3) && m.twoStep then
      if s.cla.fus.any (fun f => f.target = b.target && f.bind = b.bind && f.event.type = m.type && f.event.seqId = m.seqId) then s
      else { s with cla := { s.cla with fus := s.cla.fus ++ [⟨b.target, b.bind, m, b.ttx, stamp⟩] } }
    else if m.type = 1 then
      let c := s.client b.port
      let t3 : Int := (stamp : Int) - s.getS (Reg.TSU_ASYM_A b.port) * 128
      s.setClient b.port { c with dreq := some (m.seqId, t3) }
    else s
  | _ => s

/-- The row EGRESS_VERIFY: the timestamp point of the launched frame of port p lies at `edge`. -/
def execEgressVerify (p : Fin 8) (edge : Edge) (s : State) : Out := .next <|
  match (booksOf s p).find? (fun b => b.launched) with
  | none => s
  | some b =>
    let stamp := egressStamp s p edge b.txDly
    let diff : Int := roundQ (((stamp : Int) - (b.ttx : Int) : Int) * 1000 / 65536)
    let s := freeBook s b
    let bad : Bool := s.get Reg.TSU_CFG_VTOL < absN diff
    if b.cut then cutOff s p b.msg b.red b.clen stamp
    else if bad && b.stepped then cutOff (lateDiscard s p 1 b.ttx b.cls) p b.msg b.red b.clen stamp
    else
      let s := checkAt s (0x40 + p.val) bad 0 0xFF 0 (satS 32 diff)
      if bad then
        let s := (tsuBump s p 8).setFlag (Flag.TSU_VERIFY p)
        let s := s.journal 2 0x000E 0x0E02 (leBytes 1 p ++ leBytes 3 0 ++ leBytes 4 (satS 32 diff))
        cutOff s p b.msg b.red b.clen stamp
      else stampReturns (departs (lineTick s) p b.msg b.red b.clen stamp true) b stamp

/-- The modes in which a frame that is not booked may leave (R289, R359). -/
def mayLeave (s : State) (u : Unbooked) : Bool :=
  match u.msg with
  | .injected _ => s.mode = .setup || s.mode = .service
  | .esmc _ => s.mode = .setup || s.mode = .service || s.mode = .recovery
  | .supervision _ => s.mode = .setup || s.mode = .service || s.mode = .recovery
  | .ptp _ => s.mode = .service || s.mode = .setup || s.mode = .recovery
  | .ntp _ => s.mode = .service
  | .probe => s.mode = .service

/-- A frame of port p whose timestamp point lies at `stamp` has its whole wire interval before the booked interval that follows, less
G_egr, does not begin between D and L of a booked frame, and finds the line free (R308, R309). -/
def fitsNow (s : State) (p len stamp : Nat) : Bool :=
  let m := portMode s p
  let w := wire m stamp len
  let guard : Int := (gEgr * 65536 * 1000 : Nat)
  decide (lineEnd s p ≤ w.1) && (booksOf s p).all (fun b =>
    let v := wire m b.start (max b.len b.clen)
    (decide (v.2 ≤ w.1) || decide (w.2 + guard ≤ v.1)) &&
      !(decide (deadlineAt s b * 1000 ≤ w.1) && decide (w.1 < launchAt s b * 1000)))

/-- Take the first frame that satisfies `f` out of a queue. -/
def takeFirst (f : Unbooked → Bool) : List Unbooked → List Unbooked
  | [] => []
  | u :: l => if f u then l else u :: takeFirst f l

/-- The row UNBOOKED_TX: the first frame of port p that no pause holds leaves, with its timestamp point at `edge`; an injected frame's completion returns its stamp (R309, R424). -/
def execUnbookedTx (p : Fin 8) (edge : Edge) (s : State) : Out := .next <|
  let f (u : Unbooked) : Bool := u.port = p.val && !pauseHolds s u && mayLeave s u
  match s.lan.unb.find? f with
  | none => s
  | some u =>
    let stamp := egressStamp s p edge (s.get (Reg.TSU_TXDLY_TX_DLY p))
    if !mayTransmit s p || !fitsNow s p u.len stamp then s
    else
      let s := { s with lan := { s.lan with unb := takeFirst f s.lan.unb } }
      let s := departs (lineTick s) p u.msg u.red u.len stamp false
      match u.inj with
      | none => s
      | some (r, tag, ret) =>
        postCompletion s (cqOf s r) ⟨tag, St.ok, false, r, 0, if ret then shortOf stamp else 0,
          if ret then leBytes 2 (tbFrac stamp) ++ leBytes 1 p else []⟩ false

/-- The row TSU_PD_CALIBRATION: at each millisecond the phase detectors of port p's lanes are calibrated. The spec gives the calibration
no visible state: the operand of each stamp is a calibrated reading. -/
def execTsuPdCalibration (_ : Fin 8) (s : State) : Out := .next s

/-- Every frame of a mode not launched is discarded on a mode change (R320): cause MODE (6) or SAFE (7); in the safe state each frame in
transmission is ended (R288). -/
def tsuLeave (s : State) (cause : Nat) : State :=
  let s := (s.tsu.books.filter (fun b => !b.launched)).foldl (fun s b => if b.dead then freeBook s b else discard s b cause) s
  if cause = 7 then cutLines (s.setTsu (fun x => { x with books := x.books.map (fun b => { b with cut := true }) })) else s

/-- Each frame in transmission is ended by an error character, for a relock (R267, R288). -/
def cutFrames (s : State) : State :=
  cutLines ((s.tsu.books.filter (fun b => b.launched)).foldl (fun s b => cutOff (freeBook s b) b.port b.msg b.red b.clen b.ttx) s)

/-! ### Port calibration (R315–R318) -/

/-- The calibration of port p, running or suspended. -/
def calOp (s : State) (p : Nat) : Option LongOp := longOp s 0x0280 p

/-- METHOD of a PORT_CALIBRATE. -/
def calMethod (d : Desc) : Nat := d.u8 17

/-- Show what runs on port p. -/
def showCal (s : State) (p : Nat) : State :=
  let s' := match calOp s p with
    | some l => ((s.putB (Reg.TSU_STAT_CAL_RUN p) (!l.suspended)).putB (Reg.TSU_STAT_CAL_SUSP p) l.suspended).put
        (Reg.TSU_STAT_CAL_METHOD p) (calMethod l.d)
    | none => (s.putB (Reg.TSU_STAT_CAL_RUN p) false).putB (Reg.TSU_STAT_CAL_SUSP p) false
  if s'.regs = s.regs then s else s'.publish (Reg.TSU_STAT_VALID p) (Reg.TSU_STAT_SEQ p)

/-- Progress of port p's calibration. -/
def State.cal (s : State) (p : Nat) : Cal := s.tsu.cals.get (fun _ => Cal.zero) p

/-- Replace it. -/
def State.setCal (s : State) (p : Nat) (c : Cal) : State := s.setTsu (fun x => { x with cals := x.cals.set (fun _ => Cal.zero) p c })

/-- The port is disturbed at the start or the resumption of METHOD 0 or 1: into LOOPBACK KIND 1, or down to come up through the external
loop. -/
def calDisturb (s : State) (p method : Nat) : State :=
  if method = 0 then disturb s p ⟨4, [], 1, 9, none⟩ else if method = 1 then disturb s p ⟨1, [], 0, 7, none⟩ else s

/-- The port is restored. -/
def calRestore (s : State) (p method : Nat) : State := if method ≤ 1 then disturb s p ⟨1, [], 0, 9, none⟩ else s

/-- METHOD 2's condition: LOCKED to a reference other than 20 + p. -/
def calLocked (s : State) (p : Nat) : Bool := tsState s = 2 && !isSrc s (20 + p)

/-- PORT_CALIBRATE. -/
def portCalibrateOp : OpSpec where
  opcode := 0x0280
  check s d :=
    let p := d.u8 16
    let m := d.u8 17
    let n := d.u32 20
    if 7 < p || 2 < m || 4 ≤ d.u8 18 || n < 16 || 1000000 < n || !d.zero 36 63 || d.past = 2 then St.invalid
    else if m != 1 && (d.u8 19 != 0 || !d.zero 24 35) then St.invalid
    else if m = 2 && (!s.bit (Reg.ENT_CFG_EN (20 + p)) || s.get (Reg.ENT_NET_NETMODE (20 + p)) = 1) then St.invalid
    else 0
  due _ _ := true
  apply s w :=
    let p := w.d.u8 16
    let m := calMethod w.d
    if (calOp s p).isSome || link s p = 4 then refuseDesc s w St.busy
    else if m ≤ 1 && portProtected s p && !bitOf (w.d.u8 18) 0 then refuseDesc s w St.protect
    else if m = 2 && !calLocked s p then refuseDesc s w St.refusedBound
    else
      let s := startLong (s.setCal p { Cal.zero with probeAt := s.freeNs }) w p
      showCal (calDisturb s p m) p
  periodic := false

/-- The row PORT_CALIBRATE. -/
def execPortCalibrate (d : Desc) (s : State) : Out := .next (submit portCalibrateOp s d)

/-- A sample x (2⁻⁹ ns) of port p's calibration. -/
def calSample (s : State) (p : Nat) (x : Int) : State :=
  let c := s.cal p
  s.setCal p { c with n := c.n + 1, sum := c.sum + x, sq := c.sq + (x * x).toNat, probeAt := s.freeNs }

/-- The calibration of port p takes samples now: running, and its port is looped (METHOD 0) or UP (METHOD 1). -/
def calRuns (s : State) (p method : Nat) : Bool :=
  match calOp s p with
  | some l => calMethod l.d = method && !l.suspended && (s.cal p).n < l.d.u32 20 && (s.port p).disturb.isNone &&
      (if method = 0 then link s p = 4 else if method = 1 then link s p = 3 else true)
  | none => false

/-- The row CAL_PROBE: a probe of METHOD 0 or 1 on port p leaves the ball at `tx` and returns at `rx` (2⁻⁹ ns, with TX_DLY = RX_DLY =
0). -/
def execCalProbe (p : Fin 8) (tx rx : Int) (s : State) : Out := .next <|
  if s.freeNs < (s.cal p).probeAt + 10000 then s
  else if calRuns s p 0 then calSample s p (rx - tx - Config.kLoop p - (s.tsu.trims.get (fun _ => 0) p) * 512 / 1000)
  else if calRuns s p 1 then calSample s p (rx - tx)
  else s

/-- Mean and variance of the samples in ps and ps². -/
def calStats (c : Cal) : Rat × Rat :=
  if c.n = 0 then (0, 0)
  else
    let m : Rat := (c.sum : Rat) / (c.n : Rat)
    let v : Rat := (c.sq : Rat) / (c.n : Rat) - m * m
    (m * 125 / 64, v * 15625 / 4096)

/-- R and U of a calibration in ps (R316). -/
def calResult (s : State) (p : Nat) (d : Desc) (c : Cal) : Int × Nat :=
  let (m, v) := calStats c
  if calMethod d = 0 then (ceilQ m, ceilSqrtQ (9 * v) + 10)
  else if calMethod d = 1 then
    (ceilQ (m - (d.s64 24 : Rat) * 1000 / 65536), d.u32 32 + ceilSqrtQ (9 * v))
  else
    (ceilQ m, ((coreBound s).getD (2 ^ 32)) + ((s.ref (20 + p)).src.getD (2 ^ 32)) + ceilSqrtQ (9 * v / (if c.n = 0 then 1 else (c.n : Rat))))

/-- The results are applied (R316). -/
def calApply (s : State) (p : Nat) (d : Desc) (r : Int) (u : Nat) : State :=
  if calMethod d = 0 then s.setTsu (fun x => { x with trims := x.trims.set (fun _ => 0) p (x.trims.get (fun _ => 0) p + r) })
  else if calMethod d = 1 then
    let tx := roundQ ((ofPs (r : Rat) : Rat) * (d.u8 19 : Rat) / 256)
    let rx := ofPs (r : Rat) - tx
    let put (s : State) (f : Field) (x : Int) : State := s.put f (clampI 0 10240 x).toNat
    (put (put s (Reg.TSU_TXDLY_TX_DLY p) tx) (Reg.TSU_RXDLY_RX_DLY p) rx).putSatU (Reg.TSU_UDLY_U_TXDLY p) u
  else s.putSat (Reg.TSU_ASYM_A p) (ofPs (r : Rat))

/-- A calibration ends with a status: results published, PORT_CAL journalled, the port restored. -/
def endCal (s : State) (l : LongOp) (status : Nat) : State :=
  let p := l.port
  let c := s.cal p
  let (r, u) := calResult s p l.d c
  let s := if status = St.ok && bitOf (l.d.u8 18) 1 then calApply s p l.d r u else s
  let s := if status = St.ok || status = St.partialDone then
      let s := (s.putSat (Reg.TSU_CAL_RES_R p) r).putSatU (Reg.TSU_CAL_U_U p) u
      (s.put (Reg.TSU_CAL_N_N p) c.n).setFlag (Flag.TSU_CAL_DONE p)
    else s
  let s := s.journal 0 0x000E 0x0E03
    (leBytes 1 p ++ leBytes 1 (calMethod l.d) ++ leBytes 2 status ++ leBytes 4 (satS 32 r) ++ leBytes 4 (satU 32 u))
  let s := calRestore s p (if l.suspended then 2 else calMethod l.d)
  let s := endLong s l status (if status = St.ok || status = St.partialDone then leBytes 4 (satS 32 r) ++ leBytes 4 (satU 32 u) else [])
  showCal (s.setCal p Cal.zero) p

/-- The row PORT_CALIBRATE_DONE: the calibration of port p reaches N samples, loses its condition, or is suspended or cancelled. -/
def execPortCalibrateDone (p : Fin 8) (s : State) : Out := .next <|
  match calOp s p with
  | none => s
  | some l =>
    let c := s.cal p
    let m := calMethod l.d
    let lost : Bool := if m = 2 then !calLocked s p
      else (s.port p).disturb.isNone && (m = 0 || c.n != 0) && !calRuns s p m && c.n < l.d.u32 20
    if l.cancelReq then endCal s l St.cancelled
    else if l.suspended then s
    else if l.d.u32 20 ≤ c.n then endCal s l St.ok
    else if l.suspReq then showCal (suspendLong (calRestore s p m) l) p
    else if lost then endCal s l (if 16 ≤ c.n then St.partialDone else if m = 2 then St.refusedBound else St.partialDone)
    else s

/-- A suspended calibration resumes: the port is disturbed again. -/
def calResume (s : State) (p : Nat) : State :=
  match calOp s p with | some l => showCal (calDisturb s p (calMethod l.d)) p | none => s

/-! ### TSU_SET (R319) -/

/-- The registers of TSU_SET's MASK. -/
def tsuAddrs (t : Nat) : List Nat := if t = 255 then [0x0E0000] else (List.range 4).map (fun k => 0x0E1000 + 0x100 * t + 4 * k)

/-- TSU_SET. -/
def tsuSetOp : OpSpec where
  opcode := 0x0281
  check _ d :=
    let t := d.u8 16
    if (7 < t && t != 255) || 2 ≤ d.u8 17 || (if t = 255 then 2 else 16) ≤ d.u16 18 || !d.zero 36 63 || d.past = 2 ||
        strayValue d (d.u16 18) (tsuAddrs t) then St.invalid else 0
  due s _ := s.atMs
  apply s w :=
    let t := w.d.u8 16
    let s' := storeMasked s w.d (w.d.u16 18) (tsuAddrs t)
    let moved : Bool := t != 255 && (s.get (Reg.TSU_RXDLY_RX_DLY t) != s'.get (Reg.TSU_RXDLY_RX_DLY t) ||
      s.get (Reg.TSU_ASYM_A t) != s'.get (Reg.TSU_ASYM_A t))
    if moved && portProtected s t && !bitOf (w.d.u8 17) 0 then refuseDesc s w St.protect
    else
      let s' := if moved && portProtected s t then { s' with sel := { s'.sel with dq := s'.sel.dq ++ [(20 + t, 9)] } } else s'
      finishDesc s' w St.ok []
  periodic := false

/-- The row TSU_SET. -/
def execTsuSet (d : Desc) (s : State) : Out := .next (submit tsuSetOp s d)

end Sys2Proof.Machine
end

