-- ==== Sys2Proof/Machine/Receive.lean ====
section
/-!
DEFINITION. A received frame (R273–R282, R286, R324–R328, R345, R352, R353): counted, filtered, flagged, deduplicated, stamped,
classified, matched, and delivered, punted or dropped.
-/

namespace Sys2Proof.Machine

/-- Update the classifier's and engines' own state. -/
def State.setCla (s : State) (f : Cla → Cla) : State := { s with cla := f s.cla }

/-! ### In the MAC -/

/-- MAC_ADDR of port p. -/
def macAddr (s : State) (p : Nat) : Nat := s.getPair (Reg.MAC_ADDR_LO_ADDR p) (Reg.MAC_ADDR_HI_ADDR p)

/-- MAX_LEN of port p. -/
def maxLen (s : State) (p : Nat) : Nat := s.get (Reg.MAC_MODE_MAX_LEN p)

/-- The broadcast address. -/
def broadcastDa : Nat := 2 ^ 48 - 1

/-- A group address. -/
def isMulticast (da : Nat) : Bool := da / 2 ^ 40 % 2 = 1

/-- Port p accepts a destination (R273). -/
def daOk (s : State) (p da : Nat) : Bool :=
  da = macAddr s p || s.bit (Reg.MAC_RXF_PROMISC p) || (da = broadcastDa && s.bit (Reg.MAC_RXF_BCAST p)) ||
    ((da = 0x011B19000000 || da = 0x0180C200000E) && s.bit (Reg.MAC_RXF_PTP_L2 p)) ||
    (isMulticast da && da != broadcastDa && s.bit (Reg.MAC_RXF_MCAST_ALL p))

/-- The tags recognised (R274): an outer tag with TPID STPID or CTPID, an inner one with CTPID. -/
def vlanTags (s : State) (p : Nat) (f : FrameIn) : List Nat :=
  let stp := s.get (Reg.MAC_VLAN_STPID p)
  let ctp := s.get (Reg.MAC_VLAN_CTPID p)
  match f.tags with
  | (a, x) :: (b, y) :: _ => if a = stp || a = ctp then (if b = ctp then [x, y] else [x]) else []
  | [(a, x)] => if a = stp || a = ctp then [x] else []
  | [] => []

/-- VID of the outer tag, 0 for untagged. -/
def outerVid (s : State) (p : Nat) (f : FrameIn) : Nat := (vlanTags s p f).headD 0 % 4096

/-- The LanId the other port of a PRP group uses. -/
def wrongLan (s : State) (g p : Nat) (r : RedIn) : Bool :=
  !r.hsr && (if s.get (Reg.RG_CFG_PORT_A g) = p then r.lan = 0xB else r.lan = 0xA)

/-- The trailer or tag of a frame, on a port of a redundancy group in force of that protocol (MODE 1 PRP, 2 HSR). -/
def redOf (s : State) (p : Nat) (f : FrameIn) : Option (Nat × RedIn) :=
  match groupOf s p, f.red with
  | some g, some r => if r.hsr = decide (s.get (Reg.RG_CFG_MODE g) = 2) then some (g, r) else none
  | _, _ => none

/-- A PRP trailer or HSR tag that is valid: a malformed trailer is no trailer. -/
def validRed (r : RedIn) : Bool := !r.malformed && (r.hsr || r.lan = 0xA || r.lan = 0xB)

/-- RED_BAD (R282). -/
def redBad (s : State) (p : Nat) (f : FrameIn) : Bool :=
  match redOf s p f with
  | some (g, r) => if r.malformed then r.hsr else wrongLan s g p r
  | none => false

/-- RXFLAGS of a frame (R275). -/
def rxFlags (s : State) (p : Nat) (f : FrameIn) : Nat :=
  b2n (!f.fcsOk) + 2 * b2n (decide (f.len < 64)) + 4 * b2n (decide (maxLen s p < f.len)) + 8 * b2n f.codeErr + 16 * b2n f.fecUncorr
    + 32 * b2n (decide ((vlanTags s p f).length = 2) && decide (2 < f.tags.length)) + 64 * b2n f.ipErr + 128 * b2n f.l4Err
    + 256 * b2n f.frag + 512 * b2n (redBad s p f) + 1024 * b2n (decide (link s p = 4) && decide ((s.port p).kind ≤ 2))

/-- The counter of a frame's length (R286). -/
def sizeCounter (n mx : Nat) : Option Nat :=
  if n = 64 then some 15 else if 65 ≤ n && n ≤ 127 then some 16 else if 128 ≤ n && n ≤ 255 then some 17
  else if 256 ≤ n && n ≤ 511 then some 18 else if 512 ≤ n && n ≤ 1023 then some 19 else if 1024 ≤ n && n ≤ 1518 then some 20
  else if 1519 ≤ n && n ≤ mx then some 21 else none

/-- Every frame is counted, whatever its handling (R286). -/
def countRx (s : State) (p : Nat) (f : FrameIn) : State :=
  let mx := maxLen s p
  let good : Bool := rxFlags s p f = 0
  let s := (macBump s p 0 f.len).perf 0x042 p f.len
  let s := if good then
      let s := macBump (macBump s p 1 f.len) p 2 1
      macBump s p (if f.da = broadcastDa then 5 else if isMulticast f.da then 4 else 3) 1
    else s
  let short : Bool := f.len < 64
  let long : Bool := mx < f.len
  let s := macIf s (!f.fcsOk && !short && !long) p 6
  let s := macIf (macIf s (short && f.fcsOk) p 7) (short && !f.fcsOk) p 8
  let s := macIf (macIf s (long && f.fcsOk) p 9) (long && !f.fcsOk) p 10
  let s := macIf s f.codeErr p 11
  let s := macIf (macIf s (f.pay = .pause) p 12) (f.pay = .pfc) p 13
  let s := macIf s (!(vlanTags s p f).isEmpty) p 14
  match sizeCounter f.len mx with
  | some k => macBump s p k 1
  | none => s

/-- Slot of the duplicate-discard cache of group g (R281): the spec does not give the hash. -/
def dupSlot (g src seq : Nat) : Nat := g * 65536 + Config.dupHash src seq % 65536

/-- Duplicate discard: the state after, and whether the frame is a duplicate. -/
def dedup (s : State) (p : Nat) (f : FrameIn) : State × Bool :=
  match redOf s p f with
  | none => (s, false)
  | some (g, r) =>
    if !validRed r then (macIf s (r.hsr && r.malformed) p 36, false)
    else
      let s := macIf s (wrongLan s g p r) p 34
      let key := dupSlot g f.sa r.seq
      let young (d : Dup) : Bool := s.freeNs < d.seen + s.get (Reg.RG_CFG_FORGET g) * 1000000
      let old := s.lan.dups.get (fun _ => none) key
      let hit : Bool := match old with | some d => d.src = f.sa && d.seq = r.seq && young d | none => false
      if hit then (macBump s p 33 1, true)
      else
        let evict : Bool := match old with | some d => young d | none => false
        let s := macIf s evict p 35
        ({ s with lan := { s.lan with dups := s.lan.dups.set (fun _ => none) key (some ⟨f.sa, r.seq, s.freeNs⟩) } }, false)

/-! ### Rules (R325, R326) -/

/-- Byte k of a rule. -/
def ruleByte (r : List Byte) (k : Nat) : Nat := (r.getD k 0).toNat

/-- A valid rule image. -/
def ruleValid (r : List Byte) : Bool :=
  ruleByte r 16 ≤ 128 && ruleByte r 22 ≤ 2 && ruleByte r 23 ≤ 63 && ruleByte r 24 ≤ 63 && ruleByte r 25 < 8 &&
    leNat r 20 2 / 4096 % 8 = 0 && leNat r 28 4 = 0

/-- The kind of a frame (R324), the first of the table that matches. -/
def kindOf (f : FrameIn) : Nat :=
  match f.pay with
  | .ntsKe => 6
  | .ntp _ m => if m.nts.isSome then 1 else 0
  | .ptp _ m => if m.auth.isSome then 3 else 2
  | .addr => 5
  | .other => 7
  | .pause => 7
  | .pfc => 7

/-- PTP over EtherType 0x88F7. -/
def isL2Ptp (f : FrameIn) : Bool := match f.pay with | .ptp t _ => t = 0 | _ => false

/-- domainNumber of a PTP message. -/
def domainOf (f : FrameIn) : Nat := match f.pay with | .ptp _ m => m.domain | _ => 0

/-- A rule matches a frame received on port p. -/
def ruleMatches (s : State) (p : Nat) (f : FrameIn) (r : List Byte) : Bool :=
  let fl := ruleByte r 25
  let v := leNat r 20 2
  let k := kindOf f
  let pre := ruleByte r 16
  bitOf fl 0 && bitOf (ruleByte r 17) p && bitOf (ruleByte r 18) k && (bitOf v 15 || v % 4096 = outerVid s p f) &&
    (bitOf fl 1 || (k != 2 && k != 3) || ruleByte r 19 = domainOf f) &&
    (pre = 0 || (!isL2Ptp f && f.ip / 2 ^ (128 - pre) = beNat r 0 16 / 2 ^ (128 - pre)))

/-- The rule taken: the highest PRIO, then the lowest index. -/
def ruleTaken (s : State) (p : Nat) (f : FrameIn) : Option (Nat × List Byte) :=
  (s.cla.rules.filter (fun r => ruleMatches s p f r.2)).foldl (fun best r =>
    match best with
    | none => some r
    | some b => if leNat b.2 26 2 < leNat r.2 26 2 then some r else some b) none

/-! ### Violations and what answers them (R352, R353) -/

/-- Violation k on port p is counted. -/
def violation (s : State) (p k : Nat) : State :=
  let s := (s.bump (Reg.CLA_VIO_LO_VIO k) (Reg.CLA_VIO_HI_VIO k) 1).setFlag Flag.CLA_VIOLATION
  s.setCla (fun c => { c with vioPort := c.vioPort.set (fun _ => 0) k p })

/-- Octets of a frame around its UDP payload: header, tags, IP and UDP headers, FCS. -/
def aroundUdp (f : FrameIn) : Nat :=
  18 + 4 * f.tags.length + (match f.pay with | .ntp t _ => (if t = 2 then 48 else 28) | _ => 0)

/-- Octets of a frame, at least 64, with a trailer or tag for a group. -/
def frameLen (s : State) (p n : Nat) : Nat := max 64 n + (if isGroup (targetOf s p) then 6 else 0)

/-- Send an unbooked frame to a target: on each UP port of it; the copy for a port that is not UP is discarded under the late-frame
rule, while the other is sent (R279). `inj` goes with the first copy. -/
def sendUnbooked (s : State) (t : Nat) (m : Msg) (len : Nat) (red : Option Nat) (inj : Option (Nat × Nat × Bool)) : State :=
  let ps := portsOf s t
  let up := ps.filter (portUp s)
  let s := (ps.filter (fun p => !portUp s p)).foldl (fun s p => lateDiscard s p 2 s.nowU 4) s
  (up.zipIdx).foldl (fun s x => enqueue s ⟨x.1, m, len, red, if x.2 = 0 then inj else none⟩) s

/-- A kiss-o'-death or NAK within KOD_MAX of the port in this second, else k = 9 and nothing is sent. Its reference ID is `code`, its
origin timestamp is copied; the transmit timestamp of a frame that no grant times is open (log 4). -/
def kiss (s : State) (p : Nat) (m : NtpIn) (code len : Nat) (x : Txn) : State :=
  let sec := s.nowU / secU
  let (at0, n) := s.cla.kods.get (fun _ => (0, 0)) p
  let n := if at0 = sec then n else 0
  if s.get Reg.CLA_KOD_KOD_MAX ≤ n then violation s p 9
  else
    let s := s.setCla (fun c => { c with kods := c.kods.set (fun _ => (0, 0)) p (sec, n + 1) })
    let (v, s) := s.freeVal
    let out : NtpOut :=
      { env := x.env, leap := 3, vn := m.vn, mode := 4, stratum := 0, poll := m.poll, precision := ntpPrecision, rootDelay := 0, rootDisp := 0,
        refId := code, ref := 0, org := m.xmt, rcv := ntpTime s x.trx, xmt := v % 2 ^ 64, gloss := none, nts := false }
    sendUnbooked s (targetOf s p) (.ntp out) (frameLen s p len) x.red none

/-- Bytes of an entry of a PUNT or INJECT ring, as ESZ says. -/
def entrySize (s : State) (r : Nat) : Nat :=
  let e := s.get (Reg.HR_CFG_ESZ r)
  if e = 0 then 2048 else if e = 1 then 4096 else 16384

/-- Post a frame to the punt ring (R353, R398, R423). -/
def punt (s : State) (p : Nat) (f : FrameIn) (reason flags rule trx : Nat) : State :=
  if !s.bit Reg.CLA_PUNT_EN then s
  else
    let sec := s.nowU / secU
    let n := if s.cla.punts.1 = sec then s.cla.punts.2 else 0
    if s.get Reg.CLA_PUNT_PUNT_MAX ≤ n then (violation s p 14).setFlag Flag.CLA_PUNT_DROP
    else
      let s := s.setCla (fun c => { c with punts := (sec, n + 1) })
      let r := s.get Reg.CLA_PUNT_RING
      let bytes := f.octets.take (maxLen s p)
      if ringState s r != 1 || s.get (Reg.HR_CFG_TYPE r) != 3 || ringSize s r ≤ ringUsed s r || entrySize s r < bytes.length + 32 then
        dropEntry s r
      else
        let head := fineBytes trx ++ leBytes 1 p ++ leBytes 1 reason ++ leBytes 2 flags ++ leBytes 2 bytes.length
          ++ leBytes 2 rule ++ leBytes 4 s.jr.cseq ++ leBytes 8 0
        writeEntry s r (.punt head bytes) false

/-! ### Rate classes and admission (R328, R345) -/

/-- A token of a bucket of `burst` tokens refilled at `rate` per second, whose deficit is `d` (10⁻⁹ tokens) as counted at `t`: the deficit
after, if there is one. -/
def takeToken (rate burst : Nat) (b : Nat × Nat) (now : Nat) : Option (Nat × Nat) :=
  let d := b.1 - rate * (now - b.2)
  if 1000000000 ≤ burst * 1000000000 - d then some (d + 1000000000, now) else none

/-- The frame takes a token of rate class r; false: there is none. -/
def rateOk (s : State) (r : Nat) : State × Bool :=
  let rate := s.get (Reg.RC_RATE_RATE r)
  if rate = 0 then (s, true)
  else match takeToken rate (s.get (Reg.RC_BURST_BURST r)) (s.cla.rates.get (fun _ => (0, 0)) r) s.freeNs with
    | some b => (s.setCla (fun c => { c with rates := c.rates.set (fun _ => (0, 0)) r b }), true)
    | none => (s.bump (Reg.RC_XS_LO_EXCESS r) (Reg.RC_XS_HI_EXCESS r) 1, false)

/-- The global caps of R345 for class c. -/
def capsOk (s : State) (c : Nat) : Option State :=
  match takeToken 100000000 4096 s.cla.caps s.freeNs with
  | none => none
  | some a =>
    if c = 1 || c = 3 then
      match takeToken 64000000 4096 s.cla.capsAuth s.freeNs with
      | none => none
      | some b => some (s.setCla (fun x => { x with caps := a, capsAuth := b }))
    else some (s.setCla (fun x => { x with caps := a }))

/-- A request of class c is refused (k = 10), counted under class counter `k`. -/
def refuseReq (s : State) (p c k : Nat) : State :=
  violation ((s.bump (Reg.CLS_CNT_LO_CNT c k) (Reg.CLS_CNT_HI_CNT c k) 1).perf 0x051 c 1) p 10

/-- Transactions waiting for and in flight on engine e. -/
def engLoad (s : State) (e : Nat) : Nat :=
  (s.cla.queue.filter (fun t => t.engine = e)).length + (s.cla.flight.filter (fun t => t.engine = e)).length

/-- The engines of a role that are not in reset. -/
def enginesOf (s : State) (role : Nat) : List Nat := (List.range 16).filter (fun e => engRole s e = role && !engDown s e)

/-- The engine of a role with the least work, the lowest number of those equal. -/
def pickEngine (s : State) (role : Nat) : Option Nat :=
  (enginesOf s role).foldl (fun best e =>
    match best with
    | none => some e
    | some b => if engLoad s e < engLoad s b then some e else some b) none

/-- Number the transaction and put it into its engine's queue. -/
def queueTxn (s : State) (t : Txn) : State :=
  let id := s.cla.nextId + 1
  showClasses (s.setCla (fun c => { c with nextId := id, queue := c.queue ++ [{ t with id := id }] }))

/-- Admission of a request of class c (R345, R347, R349). -/
def letIn (s : State) (p c : Nat) (t : Txn) : State :=
  let q := qEffAdm s c
  if s.cla.paused.contains c then refuseReq s p c 3
  else if s.mapBit Reg.CLA_STAT_STARVED c then refuseReq s p c 2
  else if q < 1 || q ≤ occOf s c then refuseReq s p c 1
  else match pickEngine s c with
    | none => refuseReq s p c 1
    | some e =>
      match capsOk s c with
      | none => refuseReq s p c 1
      | some s =>
        let s := (s.bump (Reg.CLS_CNT_LO_CNT c 0) (Reg.CLS_CNT_HI_CNT c 0) 1).perf 0x050 c 1
        queueTxn s { t with engine := e }

/-! ### The checks of a SERVE frame (R327, R329, R352) -/

/-- messageTypes of IEEE 1588-2019 that are not reserved. -/
def ptpTypeKnown (t : Nat) : Bool := t ≤ 3 || (8 ≤ t && t ≤ 0xD)

/-- The violation of an NTP or NTS frame under binding b. -/
def ntpViolation (s : State) (b : Nat) (m : NtpIn) : Option Nat :=
  let structureOk : Bool := match m.nts with
    | some n => n.wellFormed && 32 ≤ n.uidLen && n.uidLen ≤ 256 && 16 ≤ n.nonceLen && n.nonceLen ≤ 32 && 16 ≤ n.ctLen && n.ctLen ≤ 272
    | none => true
  if !s.bit (Reg.PB_CFG_EN b) || s.get (Reg.PB_CFG_TYPE b) != 6 || m.len < 48 || (m.vn != 3 && m.vn != 4) || m.mode != 3 ||
      m.malformed || !structureOk then some 5
  else if m.nts.isNone && s.bit (Reg.PB_CFG_SEC b) then some 7
  else none

/-- The violation of a PTP frame under binding b. -/
def ptpViolation (s : State) (b transport : Nat) (m : PtpIn) : Option Nat :=
  if !s.bit (Reg.PB_CFG_EN b) || s.get (Reg.PB_CFG_TYPE b) = 6 || m.malformed || m.version != 2 || !ptpTypeKnown m.type ||
      m.domain != s.get (Reg.PB_CFG_DOMAIN b) || transport != s.get (Reg.PB_CFG_TRANSPORT b) then some 2
  else match m.auth with
    | none => if s.bit (Reg.PB_CFG_SEC b) then some 4 else none
    | some a => if a.disclosed then some 4 else none

/-- Where the reply to a frame goes: back to its sender under its outer tag, or for a multicast request to the group it came to (DEDUCED,
log 86). -/
def replyEnv (s : State) (p : Nat) (f : FrameIn) : Envelope :=
  if isMulticast f.da then ⟨f.da, (vlanTags s p f).head?, 0⟩ else ⟨f.sa, (vlanTags s p f).head?, f.ip⟩

/-- A new transaction for a request received on port p. -/
def newTxn (s : State) (p b c trx : Nat) (job : Job) (f : FrameIn) (cseq : Nat) : Txn :=
  let cs := match redOf s p f with | some (_, r) => if validRed r then r.seq else cseq | none => cseq
  let t := targetOf s p
  { id := 0, cls := c, target := t, bind := b, trx := trx,
    tnom := trx + s.get (Reg.CLS_LB_L_B c (portMode s p)) * 65536, job := job, mac := f.sa, cseq := cs, engine := 0, ctx := 0,
    stage := .grant, msg := none, red := if isGroup t then some (replySeq s f.sa cs c) else none, found := false,
    unicast := !isMulticast f.da, hdrLen := aroundUdp f, env := replyEnv s p f }

/-- A request is served: the rate class, then admission; outside SERVICE it is counted as refused and not answered (R359). -/
def serveRequest (s : State) (p rate : Nat) (kod : Bool) (t : Txn) : State :=
  if s.mode != .service then refuseReq s p t.cls 1
  else
    let (s, ok) := rateOk s rate
    if ok then letIn s p t.cls t
    else
      let s := violation s p 8
      match t.job with
      | .ntp m => if kod && t.cls = 0 then kiss s p m (refChars4 0x52 0x41 0x54 0x45) (t.hdrLen + 48) t else s
      | _ => s
where
  refChars4 (a b c d : Nat) : Nat := ((a * 256 + b) * 256 + c) * 256 + d

/-- A frame whose action is SERVE. -/
def serveFrame (s : State) (p : Nat) (f : FrameIn) (flags rule bind rate trx : Nat) (kod : Bool) : State :=
  let k := kindOf f
  if k = 6 then punt s p f 1 flags rule trx
  else if k = 5 then punt s p f 2 flags rule trx
  else if k = 7 then punt s p f 3 flags rule trx
  else if bitOf flags 8 then violation s p 1
  else if flags % 256 != 0 then violation s p 0
  else match f.pay with
    | .ntp _ m =>
      (match ntpViolation s bind m with
       | some v => violation s p v
       | none => serveRequest s p rate kod (newTxn s p bind k trx (.ntp m) f (m.xmt % 65536)))
    | .ptp t m =>
      (match ptpViolation s bind t m with
       | some v => violation s p v
       | none =>
         if m.type = 1 || m.type = 2 then serveRequest s p rate kod (newTxn s p bind k trx (.ptp m) f m.seqId)
         else if m.type = 0xC || m.type = 0xD then
           if s.get Reg.CLA_CTRL_CTRL_QMAX ≤ s.cla.ctrlq.length then violation s p 15
           else s.setCla (fun c => { c with ctrlq := c.ctrlq ++ [⟨p, bind, rule, flags, trx, f, m⟩] })
         else if (m.type = 0 || m.type = 8 || m.type = 0xB) && !clientRuns s p then violation s p 3
         else s)
    | _ => s

/-- Classification of a delivered frame (R324–R327). -/
def classify (s : State) (p : Nat) (f : FrameIn) (flags trx : Nat) : State :=
  match ruleTaken s p f with
  | some (i, r) =>
    let a := ruleByte r 22
    if a = 1 then violation s p 11
    else if a = 2 then punt s p f 0 flags i trx
    else serveFrame s p f flags i (ruleByte r 23) (ruleByte r 24) trx (bitOf (ruleByte r 25) 2)
  | none =>
    let a := s.get Reg.CLA_CFG_DEF_ACTION
    if a = 1 then violation s p 11
    else if a = 2 then punt s p f 0 flags 0xFFFF trx
    else serveFrame s p f flags 0xFFFF (s.get Reg.CLA_CFG_DEF_PROFILE) (s.get Reg.CLA_CFG_DEF_RATE) trx false

/-- A frame that the MAC stores: room, duplicates, and then the classifier, in the modes that classify and on a port that serves (R269,
R359). -/
def storeFrame (s : State) (p : Nat) (f : FrameIn) : State :=
  if !f.room then (macBump s p 23 1).setFlag (Flag.MAC_BUF_DROP p)
  else
    let flags := rxFlags s p f
    let (s, dup) := dedup s p f
    if dup then s
    else
      let trx := ingressStamp s p f.edge f.ui
      if link s p != 3 || f.pay = .pause || f.pay = .pfc then s
      else if s.mode = .setup || s.mode = .service || s.mode = .recovery then classify (s.perf 0x040 p 1) p f flags trx
      else s

/-- The row FRAME_RX: a frame ends on port p, which is UP or in LOOPBACK. -/
def execFrameRx (p : Fin 8) (f : FrameIn) (s : State) : Out := .next <|
  if link s p != 3 && link s p != 4 then s
  else
    let s := countRx s p f
    if s.mode = .safe || (link s p = 4 && (s.port p).kind = 3) then s
    else if f.len < 64 && s.mode != .service then macBump s p 22 1
    else if !daOk s p f.da then macBump s p 24 1
    else if f.sa = macAddr s p then macBump s p 25 1
    else storeFrame s p f

end Sys2Proof.Machine
end

