-- ==== Sys2Proof/Machine/Messages.lean ====
section
/-!
DEFINITION. What the Clause engines' messages hold (R46, R47, R51–R53, R192, R193, R302, R330, R335–R337): PTP and NTP replies and
the messages the engines originate, completed with T_tx and the Gloss when they are sealed.
-/

namespace Sys2Proof.Machine

/-- Binding b is of a telecom profile (TYPE 2, 3). -/
def telecom (s : State) (b : Nat) : Bool := s.get (Reg.PB_CFG_TYPE b) = 2 || s.get (Reg.PB_CFG_TYPE b) = 3

/-- CLKID of binding b. -/
def clkId (s : State) (b : Nat) : Nat := s.getPair (Reg.PB_CLKID_LO_CLKID b) (Reg.PB_CLKID_HI_CLKID b)

/-- portNumber on target t: p + 1, or the number of PORT_A of a group. -/
def portNumber (s : State) (t : Nat) : Nat := (portsOf s t).headD 0 + 1

/-- The group address of a PTP message over L2 (IEEE 1588-2019): that of the peer delay messages, or that of all others. -/
def groupDst (type : Nat) : Nat := if type = 2 || type = 3 || type = 0xA then 0x0180C200000E else 0x011B19000000

/-- The header fields and quality fields every message of binding b to target t carries (R192, R330). -/
def ptpBase (s : State) (b t type seq : Nat) : PtpOut :=
  { version := 2, minor := 1, env := ⟨groupDst type, none, 0⟩, type := type, bind := b, domain := s.get (Reg.PB_CFG_DOMAIN b), sdo := s.get (Reg.PB_SDO_SDOID b), clkId := clkId s b,
    portNum := portNumber s t, seqId := seq % 65536, reqPort := 0, stamp := 0, corr := 0, twoStep := false, unicast := false,
    logInt := 0x7F, ptpTimescale := true, utc := taiUtc s, utcValid := utcValid s, leap61 := leap61 s, leap59 := leap59 s, ann := none,
    sigs := [], tlvs := [], fuCorr := 0, fuRed := none }

/-- The UTC fields of a message as they hold at its T_tx (R29). -/
def PtpOut.atTx (s : State) (ttx : Nat) (m : PtpOut) : PtpOut :=
  { m with utc := taiUtcAt s ttx, leap61 := leapAt s ttx = some true, leap59 := leapAt s ttx = some false }

/-- A message with an AUTHENTICATION TLV after its other TLVs. -/
def PtpOut.withTlv (m : PtpOut) (a : Option AuthOut) : PtpOut := { m with tlvs := m.tlvs ++ (a.map OutTlv.auth).toList }

/-- The Announce contents of binding b in a message sent at `ttx` (R29, R192, R330). -/
def announceOf (s : State) (b ttx : Nat) : Ann :=
  let tel := telecom s b
  let tr := traceableOf s
  let base := (ptpBase s b 0 0xB 0).atTx s ttx
  { ident := clkId s b, mac := 0, prio1 := s.get (Reg.PB_DS_PRIORITY1 b), cls := clockClassOf s tel, acc := accuracyOf s tel s.glossNow.bound,
    oslv := s.get (Reg.PB_OSLV_OSLV b), prio2 := s.get (Reg.PB_DS_PRIORITY2 b),
    localPrio := if tel then s.get (Reg.PB_DS_LOCAL_PRIO b) else 0, gm := clkId s b, steps := stepsOf s, tsrc := timeSourceOf s,
    timeTrace := tr.1, freqTrace := tr.2, utc := base.utc, utcValid := base.utcValid, leap61 := base.leap61, leap59 := base.leap59 }

/-! ### The Gloss a message carries -/

/-- Egress uncertainty of target t in ps (R300): the largest of its ports. -/
def egressUnc (s : State) (t : Nat) : Nat :=
  ((portsOf s t).map (fun p => s.get (Reg.TSU_UNC_UNC p) + s.get (Reg.TSU_UDLY_U_TXDLY p))).foldl max 0

/-- Ingress uncertainty of target t in ps. -/
def ingressUnc (s : State) (t : Nat) : Nat := ((portsOf s t).map (fun p => s.get (Reg.TSU_UNC_UNC p))).foldl max 0

/-- A core Gloss served with a further contribution (R47). -/
def serve (p : Pub) (extra : Nat) : Nat := servedWord p.word p.bound extra

/-- The Gloss TLV of a served word, in network order (R50). -/
def glossTlv (s : State) (w : Nat) : OutTlv :=
  .gloss (beBytes 2 0x0003 ++ beBytes 2 14 ++ beBytes 3 (s.get Reg.TNS_GLS_ORGID_ORGID) ++ beBytes 3 1 ++ beBytes 8 w)

/-- The Gloss extension field of a served word, in network order (R52). -/
def glossField (s : State) (w : Nat) : List Byte :=
  beBytes 2 (s.get Reg.TNS_GLS_NTPEF_EFTYPE) ++ beBytes 2 16 ++ beBytes 8 w ++ beBytes 4 0

/-- The Gloss TLV is sent (R51): by binding, ORGID and type (Sync, Follow_Up, Delay_Resp, Pdelay_Resp_Follow_Up, Announce). -/
def sendsTlv (s : State) (m : PtpOut) : Bool :=
  s.bit (Reg.PB_CFG_GLOSS_TLV m.bind) && s.get Reg.TNS_GLS_ORGID_ORGID != 0 &&
    ((m.type = 0 && !m.twoStep) || m.type = 8 || m.type = 9 || m.type = 0xA || m.type = 0xB)

/-- The NTP format's contribution to a bound, in ps (R40). -/
def eFmtNtp : Nat := 233

/-- The Gloss of an NTP reply (R53): of T_rx and of T_tx, formed field by field, STATE, SRC and TRACE from the later word. -/
def ntpGloss (s : State) (t trx : Nat) : Nat :=
  mergeGloss (serve s.glossNow (egressUnc s t + eFmtNtp)) (serve (s.glossAt trx) (ingressUnc s t + eFmtNtp))

/-- Root dispersion of a Gloss (R53), in 2⁻¹⁶ s. -/
def rootDispOf (w : Nat) : Nat :=
  match encodedBound w with
  | none => 0xFFFFFFFF
  | some b => min 0xFFFFFFFF (ceilDiv (b * 65536) 1000000000000)

/-- Reference timestamp of a reply (R336). -/
def refTime (s : State) : Nat :=
  let g := s.glossNow
  if glossAge g.word = 0xFFFFFFFF then 0 else ntpTime s (g.stampU - glossAge g.word * (secU / 16))

/-- The Gloss field is sent (R52, R337): never longer than the request in an NTS reply. -/
def sendsGlossField (s : State) (b : Nat) (m : NtpIn) : Bool :=
  let mode := s.get (Reg.PB_CFG_NTP_GLS b)
  let asked : Bool := mode = 2 || (mode = 1 && m.exts.contains (s.get Reg.TNS_GLS_NTPEF_EFTYPE))
  let fits : Bool := match m.nts with | some n => 48 + 4 + n.uidLen + 144 + 16 ≤ m.len | none => true
  s.get Reg.TNS_GLS_NTPEF_EFTYPE != 0 && asked && fits

/-- The NTP reply to a request with T_rx on target t under binding b (R193, R336, R337). -/
def ntpReply (s : State) (b t trx ttx : Nat) (env : Envelope) (m : NtpIn) : NtpOut :=
  let w := ntpGloss s t trx
  { env := env, leap := leapIndAt s ttx, vn := m.vn, mode := 4, stratum := stratumOf s, poll := m.poll, precision := ntpPrecision, rootDelay := 0,
    rootDisp := rootDispOf w,
    refId := refIdOf s, ref := (refTime s), org := m.xmt, rcv := ntpTime s trx, xmt := ntpTime s ttx,
    gloss := if sendsGlossField s b m then some (glossField s w) else none, nts := m.nts.isSome }

/-- The fraction of an instant below 1 ns, as a correction (2⁻¹⁶ ns). -/
def fracOf (u : Nat) : Int := (u % 65536 : Nat)

/-- The PTP reply to a Delay_Req or Pdelay_Req (R302, R335), but for T_tx. -/
def ptpReply (s : State) (x : Txn) (m : PtpIn) : PtpOut :=
  let two := s.bit (Reg.PB_CFG_TWO_STEP x.bind)
  let base := { ptpBase s x.bind x.target 0 m.seqId with env := x.env, domain := m.domain, reqPort := m.sender, unicast := x.unicast }
  if m.type = 1 then
    { base with
      type := 9, stamp := x.trx / 65536, corr := m.corr - fracOf x.trx, logInt := s.getS (Reg.PB_INTV_LOG_DREQ x.bind),
      tlvs := [glossTlv s (serve (s.glossAt x.trx) (ingressUnc s x.target))] }
  else if two then
    { base with type := 3, twoStep := true, stamp := x.trx / 65536, corr := -fracOf x.trx, fuCorr := m.corr, fuRed := x.red }
  else { base with type := 3, corr := m.corr - (x.trx : Int) }

/-- A message completed with T_tx and the Gloss published last (R46, R302): a one-step Sync and its fraction; a two-step one keeps its
correctionField; a Pdelay_Resp's turnaround. -/
def completePtp (s : State) (t ttx : Nat) (m : PtpOut) : PtpOut :=
  let m := if m.type = 0 then
      { m with stamp := ttx / 65536, corr := if m.twoStep then m.corr else m.corr + fracOf ttx }
    else if m.type = 3 && !m.twoStep then { m with corr := m.corr + (ttx : Int) } else m
  let m := if m.type = 0xB then { m with ann := some (announceOf s m.bind ttx) } else m
  let m := m.atTx s ttx
  if !sendsTlv s m then { m with tlvs := [] }
  else if m.type = 9 then m else { m with tlvs := [glossTlv s (serve s.glossNow (egressUnc s t))] }

/-- The message of a transaction granted T_tx. -/
def buildMsg (s : State) (x : Txn) (ttx : Nat) : Msg :=
  match x.job with
  | .ntp m => .ntp (ntpReply s x.bind x.target x.trx ttx x.env m)
  | .ptp m => .ptp (completePtp s x.target ttx (ptpReply s x m))
  | .own m => .ptp (completePtp s x.target ttx m)

/-- What an originated message of binding b does about its AUTHENTICATION TLV (R382): some true — it carries one; some false — it goes
without; none — it is withheld. No message is sealed outside SERVICE (R388). -/
def ownSeal (s : State) (b : Nat) : Option Bool :=
  let v := s.bit (Reg.SAT_CUR_PB_V b)
  let sec := s.bit (Reg.PB_CFG_SEC b)
  if v then (if s.mode = .service then some true else none) else if sec then none else some false

/-- A withheld message sets NO_KEY where no entry is CURRENT. -/
def withheld (s : State) (b : Nat) : State := s.flagIf (!s.bit (Reg.SAT_CUR_PB_V b)) Flag.SAT_NO_KEY

/-- The AUTHENTICATION TLV of a message sealed now in slot `slot` (0–63) under binding b's CURRENT entry (R381). -/
def authOut (s : State) (b slot : Nat) : Option AuthOut :=
  (currentPb s b).map (fun e =>
    ⟨e.keyId, e.spp, if e.type = 4 then
      some ((s.freeNs % 2 ^ 64) * 2 ^ 32 + (s.get Reg.GEN_STRAP_UNIT_ID * 128 + slot) * 2 ^ 24) else none⟩)

end Sys2Proof.Machine
end

