-- ==== Sys2Proof/Machine/Service.lean ====
section
/-!
DEFINITION. The Clause engines (R322, R333–R343, R364–R367, R375–R382): taking up transactions, the operations of their slots, the grant
of T_tx, commits, streams, Follow_Ups, unicast negotiation, the grant table and the port clients' Delay_Req.
-/

namespace Sys2Proof.Machine

/-! ### Transactions in flight -/

/-- The transaction in context `c` of engine `e`. -/
def txnOf (s : State) (e c : Nat) : Option Txn := s.cla.flight.find? (fun t => t.engine = e && t.ctx = c)

/-- Replace a transaction in flight. -/
def putTxn (s : State) (x : Txn) : State :=
  s.setCla (fun c => { c with flight := c.flight.map (fun t => if t.engine = x.engine && t.ctx = x.ctx then x else t) })

/-- Transactions in flight on engine e. -/
def inFlight (s : State) (e : Nat) : List Txn := s.cla.flight.filter (fun t => t.engine = e)

/-- The lowest free context of engine e (R322). -/
def freeCtx (s : State) (e : Nat) : Option Nat := (List.range 4).find? (fun c => (txnOf s e c).isNone)

/-- The bookings of a transaction that its commit still has to fill. -/
def openBooks (s : State) (x : Txn) : List Booking :=
  s.tsu.books.filter (fun b => b.engine = x.engine && b.ctx = x.ctx && !b.inTsu && !b.dead)

/-- The engine abandons a transaction: it is discarded with a cause of R312 on each port it was due on. -/
def abandon (s : State) (x : Txn) (cause : Nat) : State :=
  let bs := openBooks s x
  let s := if bs.isEmpty then
      ((portsOf s x.target).filter (portUp s)).foldl (fun s p => lateDiscard s p cause x.tnom x.cls) s
    else bs.foldl (fun s b => lateDiscard (freeBook s b) b.port cause b.ttx b.cls) s
  showClasses (dropTxn s x.engine x.ctx)

/-- A transaction ends without a reply; its admission is released. -/
def release (s : State) (x : Txn) : State := showClasses (dropTxn s x.engine x.ctx)

/-- Global number of a transaction's slot (R364): its core is slot / 8. -/
def slotOf (x : Txn) : Nat := 4 * x.engine + x.ctx

/-- An operation is submitted to the transaction's slot: it waits for AEAD_COMPLETE, or, while CY does not run, is halted and the
transaction abandoned (R366). -/
def submitOp (s : State) (x : Txn) : State :=
  if cyRuns s then putTxn s x else abandon (satBump s 8 1) x 0

/-- The NTS NAK (k = 6), with the admission released. -/
def ntsNak (s : State) (x : Txn) (m : NtpIn) : State :=
  let p := (portsOf s x.target).headD 0
  let uid := match m.nts with | some n => n.uidLen | none => 0
  kiss (violation (release s x) p 6) p m (refChars 0x4E 0x54 0x53 0x4E) (x.hdrLen + 52 + uid) x

/-- The port a request came in on: the first of its target's. -/
def rxPort (s : State) (x : Txn) : Nat := (portsOf s x.target).headD 0

/-- The verification key of a PTP_AUTH request is found (R369, R380): for PTP_GMAC the RES must hold 12 bytes. -/
def ptpFound (s : State) (b : Nat) (m : PtpIn) : Bool :=
  match m.auth with
  | none => false
  | some a =>
    a.spp = s.get (Reg.PB_SPP_SPP b) &&
      (match ptpVerifier s a.keyId a.spp with | some e => e.type = 3 || a.resLen = 12 | none => false)

/-- A transaction taken up begins (R337, R365, R375, R382). -/
def beginTxn (s : State) (x : Txn) : State :=
  match x.job with
  | .ntp m =>
    (match m.nts with
     | none => putTxn s { x with stage := .grant }
     | some n =>
       if !s.bit Reg.SAT_STAT_DRBG_OK then ntsNak s x m
       else if !s.bit Reg.SAT_CUR_NTS_V then ntsNak (s.setFlag Flag.SAT_NO_KEY) x m
       else submitOp s { x with stage := .op 1, found := ntsMaster s n.keyId })
  | .ptp m =>
    if x.cls = 3 then submitOp s { x with stage := .op 1, found := ptpFound s x.bind m } else putTxn s { x with stage := .grant }
  | .own _ => putTxn s { x with stage := .grant }

/-- The row REQUEST_DISPATCH: engine e takes up the first transaction of its queue, if a context is free and it has finished those of
another class (R349). -/
def execRequestDispatch (e : Fin 16) (s : State) : Out := .next <|
  if engDown s e then s
  else match s.cla.queue.find? (fun t => t.engine = e.val), freeCtx s e with
    | some t, some c =>
      if (inFlight s e).any (fun u => u.cls != t.cls) then s
      else
        let x := { t with ctx := c }
        let s := s.setCla (fun k => { k with queue := k.queue.filter (fun u => u.id != t.id), flight := k.flight ++ [x] })
        beginTxn s x
    | _, _ => s

/-! ### Operations of domain CY (R367, R375, R376, R380, R381) -/

/-- AES blocks of the operation a transaction waits for (R376); with SEAL_CHK a seal repeats its S2V part. The tag of PTP_GMAC takes
one block. -/
def opBlocks (s : State) (x : Txn) : Nat :=
  let again (n : Nat) : Nat := if s.bit Reg.SAT_CFG_SEAL_CHK then n else 0
  match x.job with
  | .ntp m =>
    (match m.nts with
     | none => 0
     | some n =>
       match x.stage with
       | .op 1 => 10
       | .op 2 => 1 + (s2v n.ad + s2v n.nonceLen + s2v (n.ctLen - 16)) + ceilDiv (n.ctLen - 16) 16
       | .op _ => 10 + again 6
       | _ =>
         let gls : Nat := match x.msg with | some (.ntp o) => if o.gloss.isSome then 16 else 0 | _ => 0
         let head := 1 + s2v (48 + 4 + n.uidLen + gls) + 1 + 7
         head + 7 + again head)
  | .ptp m =>
    (match x.stage with
     | .op _ => (match m.auth with | some a => (match satLookup s a.keyId with | some e => if e.type = 4 then 1 else 0 | none => 0) | none => 0)
     | _ => sealBlocks s x.bind + again (sealBlocks s x.bind))
  | .own _ => sealBlocks s x.bind + again (sealBlocks s x.bind)
where
  /-- Blocks of a seal under a binding's CURRENT entry. -/
  sealBlocks (s : State) (b : Nat) : Nat := match currentPb s b with | some e => if e.type = 4 then 1 else 0 | none => 0

/-- Whether the operation is a seal. -/
def isSeal (x : Txn) : Bool := match x.stage with | .op k => k = 3 | .seal => true | _ => false

/-- The seal check fails (R367). -/
def sealCheckFails (s : State) (x : Txn) : State :=
  let s := (satBump s 7 1).setFlag Flag.SAT_CHK_FAIL
  let s := s.journal 2 0x0012 0x1203 (leBytes 1 2 ++ leBytes 1 (x.engine / 2) ++ leBytes 1 (slotOf x % 8))
  abandon s x 0

/-- An NTS operation k has ended, well or not. -/
def ntsOpDone (s : State) (x : Txn) (m : NtpIn) (k : Nat) (good : Bool) : State :=
  if k = 1 then
    if good then submitOp (satBump s 0 1) { x with stage := .op 2, found := true } else ntsNak (satBump s 1 1) x m
  else if k = 2 then
    if !good then ntsNak (satBump s 2 1) x m
    else if !s.bit Reg.SAT_STAT_DRBG_OK then ntsNak s x m
    else submitOp s { x with stage := .op 3, found := s.bit Reg.SAT_CUR_NTS_V }
  else if good then putTxn (satBump s 3 1) { x with stage := .grant }
  else ntsNak (s.setFlag Flag.SAT_NO_KEY) x m

/-- The verification of a PTP_AUTH request has ended: the reply is granted, or withheld while no entry is CURRENT (R382). -/
def ptpVerified (s : State) (x : Txn) (good : Bool) : State :=
  if !good then violation (satBump (release s x) 5 1) (rxPort s x) 4
  else
    let s := satBump s 4 1
    if s.bit (Reg.SAT_CUR_PB_V x.bind) then putTxn s { x with stage := .grant }
    else release (s.setFlag Flag.SAT_NO_KEY) x

/-- A transaction's message is sealed, on each of its bookings. -/
def sealBooks (s : State) (x : Txn) : State :=
  s.setTsu (fun t => { t with books := t.books.map (fun b =>
    if b.engine = x.engine && b.ctx = x.ctx && !b.inTsu then { b with sealed := true } else b) })

/-- The row AEAD_COMPLETE: the operation in the slot of context c of engine e ends. `ok` is what opening or verifying found; `intact` is
what the check of a seal found. -/
def execAeadComplete (e : Fin 16) (c : Fin 4) (ok intact : Bool) (s : State) : Out := .next <|
  match txnOf s e c with
  | none => s
  | some x =>
    let waits : Bool := match x.stage with | .op _ => true | .seal => true | _ => false
    if !waits || !cyRuns s then s
    else
      let n := opBlocks s x
      let s := if n = 0 then s else aesBlocks s (x.engine / 2) n
      let chk : Bool := isSeal x && s.bit Reg.SAT_CFG_SEAL_CHK
      let s := if chk then check s (0x10 + x.engine / 2) (!intact) else s
      if chk && !intact then sealCheckFails s x
      else match x.stage, x.job with
        | .op k, .ntp m => ntsOpDone s x m k (x.found && (ok || k = 3))
        | .op _, _ => ptpVerified s x (x.found && ok)
        | .seal, .ntp _ => putTxn (sealBooks s x) { x with stage := .commit }
        | .seal, _ => putTxn (satBump (sealBooks s x) 6 1) { x with stage := .commit }
        | _, _ => s

/-! ### The grant (R305, R306, R312) -/

/-- The reply or message of a transaction is sealed: NTS and PTP_AUTH always, an originated one as its binding says. -/
def needsSeal (s : State) (x : Txn) : Option Bool :=
  match x.job with
  | .ntp m => some m.nts.isSome
  | .ptp _ => some (decide (x.cls = 3))
  | .own m => ownSeal s m.bind

/-- A message with its AUTHENTICATION TLV. -/
def withAuth (s : State) (x : Txn) : Msg → Msg
  | .ptp m => .ptp (m.withTlv (authOut s x.bind (slotOf x)))
  | m => m

/-- Book a start position on a port for a transaction. -/
def book (s : State) (x : Txn) (p pos len : Nat) (sealed : Bool) : State :=
  let ttx := pos / 128 * 128
  let m := buildMsg s x ttx
  let m := if sealed then withAuth s x m else m
  let id := s.tsu.lastId + 1
  let b : Booking :=
    { id := id, port := p, target := x.target, bind := x.bind, ttx := ttx, start := pos, tnom := x.tnom, len := len, engine := x.engine,
      ctx := x.ctx, cls := x.cls, sealed := !sealed, inTsu := false, armed := false, launched := false, cut := false,
      stepped := false, clen := 0, msg := m, red := x.red, txDly := s.get (Reg.TSU_TXDLY_TX_DLY p), dead := false }
  s.setTsu (fun t => { t with books := t.books ++ [b], lastId := id })

/-- Discard with cause SLOT on each of `ports`: no start position qualified. -/
def slotDiscard (s : State) (x : Txn) (ports : List Nat) : State :=
  let s := ports.foldl (fun s p => lateDiscard (s.setFlag (Flag.TSU_SLOT p)) p 4 x.tnom x.cls) s
  release s x

/-- After its bookings, a transaction is sealed or ready to commit. -/
def afterGrant (s : State) (x : Txn) (sealed : Bool) (ttx : Nat) : State :=
  let x := { x with msg := some (buildMsg s x ttx) }
  if !sealed then putTxn s { x with stage := .commit }
  else if (match x.job with | .ntp _ => !s.bit Reg.SAT_STAT_DRBG_OK | _ => false) then putTxn s { x with stage := .grant }
  else submitOp s { x with stage := .seal, found := true }

/-- The grants of a transaction, by port: one position for all when the group shares its start positions, else one each. -/
def grantsOf (s : State) (x : Txn) (up : List Nat) (len : Nat) (grid gridB : StartGrid) : Option (List (Nat × Nat)) :=
  let one (p : Nat) (g : StartGrid) : Option (Nat × Nat) := (bestStart s [p] x.tnom len p g).map (fun q => (p, q))
  match up with
  | [p] => (one p (if (portsOf s x.target).headD 0 = p then grid else gridB)).map (fun g => [g])
  | [p, q] =>
    if s.bit (Reg.TSU_STAT_GRP p) then (bestStart s [p, q] x.tnom len p grid).map (fun t => [(p, t), (q, t)])
    else match one p grid, one q gridB with
      | some a, some b => some [a, b]
      | _, _ => none
  | _ => none

/-- The row TTX_GRANT: the transaction in context c of engine e asks for T_tx for a frame of `len` octets. `grid` is that of the start
positions predicted on its port or on PORT_A, `gridB` that on PORT_B (R304). A copy due on a port that is not UP counts there with
cause LINK. -/
def execTtxGrant (e : Fin 16) (c : Fin 4) (len : Nat) (grid gridB : StartGrid) (s : State) : Out := .next <|
  match txnOf s e c with
  | none => s
  | some x =>
    if x.stage != .grant || !(openBooks s x).isEmpty then s
    else match needsSeal s x with
      | none => release (withheld s x.bind) x
      | some sealed =>
        let ps := portsOf s x.target
        let up := ps.filter (portUp s)
        let s := (ps.filter (fun p => !portUp s p)).foldl (fun s p => lateDiscard s p 2 x.tnom x.cls) s
        if up.isEmpty then release s x
        else match grantsOf s x up len grid gridB with
          | none => slotDiscard s x up
          | some gs =>
            let s := gs.foldl (fun s g => book s x g.1 g.2 len sealed) s
            afterGrant s x sealed ((gs.map (·.2)).headD 0 / 128 * 128)

/-- The row FRAME_COMMIT: the sealed frame of context c of engine e, of `len` octets, is committed to the TSU; after D it is discarded with
cause DEADLINE, longer than its booking with cause LENGTH (R308, R312). -/
def execFrameCommit (e : Fin 16) (c : Fin 4) (len : Nat) (s : State) : Out := .next <|
  match txnOf s e c with
  | none => s
  | some x =>
    if x.stage != .commit then s
    else
      let s := (openBooks s x).foldl (fun s b =>
        if deadlineAt s b < (s.tbU : Int) then lateDiscard (freeBook s b) b.port 0 b.ttx b.cls
        else if b.len < len then lateDiscard (freeBook s b) b.port 5 b.ttx b.cls else putBook s { b with inTsu := true, clen := len }) s
      release s x

/-! ### Messages the engines originate (R331–R333, R340, R341) -/

/-- A CTRL engine with a free context: the one with the least work, the lowest number of those equal. -/
def ctrlSlot (s : State) : Option (Nat × Nat) :=
  let free := (enginesOf s 4).filter (fun e => (freeCtx s e).isSome && (inFlight s e).all (fun t => t.cls = 4))
  match free.foldl (fun best e =>
      match best with
      | none => some e
      | some b => if engLoad s e < engLoad s b then some e else some b) none with
  | none => none
  | some e => (freeCtx s e).map (fun c => (e, c))

/-- The transaction of an originated message. -/
def ownTxn (m : PtpOut) (target tnom : Nat) (red : Option Nat) : Txn :=
  { id := 0, cls := 4, target := target, bind := m.bind, trx := 0, tnom := tnom, job := .own m, mac := 0, cseq := 0, engine := 0, ctx := 0,
    stage := .grant, msg := none, red := red, found := false, unicast := m.unicast, hdrLen := 0, env := m.env }

/-- A CTRL engine prepares an originated message; none free, it is missed and counted under the flag. -/
def originate (s : State) (x : Txn) (miss : FlagBit) : State :=
  if (ownSeal s x.bind).isNone then withheld s x.bind
  else match ctrlSlot s with
    | none => s.setFlag miss
    | some (e, c) =>
      let id := s.cla.nextId + 1
      s.setCla (fun k => { k with nextId := id, flight := k.flight ++ [{ x with id := id, engine := e, ctx := c }] })

/-- 2^L s in 2⁻¹⁶ ns. -/
def intervalU (l : Int) : Nat := if 0 ≤ l then secU * 2 ^ l.toNat else max 1 (secU / 2 ^ (-l).toNat)

/-- STREAM_LEAD in 2⁻¹⁶ ns. -/
def leadTime (s : State) : Nat := s.get Reg.CLA_CTRL_STREAM_LEAD * 1000 * 65536

/-- Target t exists: a port, or a redundancy group in force. -/
def targetLive (s : State) (t : Nat) : Bool :=
  t < 8 || (16 ≤ t && t < 20 && s.get (Reg.RG_CFG_MODE (t - 16)) != 0 && !s.bit (Reg.RG_STAT_CFGERR (t - 16)))

/-- Binding b originates PTP messages. -/
def ptpBinding (s : State) (b : Nat) : Bool := s.bit (Reg.PB_CFG_EN b) && s.get (Reg.PB_CFG_TYPE b) ≤ 5

/-- What the instant T_n − STREAM_LEAD of message n says now: not yet (0), prepare it (1), too late (2). -/
def prepState (s : State) (tn : Nat) : Nat :=
  let at0 : Int := (tn : Int) - leadTime s
  let now : Int := s.tbU
  if now + cycU ≤ at0 then 0 else if at0 + cycU ≤ now then 2 else 1

/-- Byte k of a stream's image. -/
def strByte (r : List Byte) (k : Nat) : Nat := (r.getD k 0).toNat

/-- LOG_SYNC or LOG_ANN of a stream. -/
def strLog (r : List Byte) (ann : Bool) : Int := signed 8 (strByte r (if ann then 5 else 4))

/-- T_n of a stream. -/
def streamAt (r : List Byte) (ann : Bool) (n : Nat) : Nat := n * intervalU (strLog r ann) + leNat r 8 4 * 65536

/-- The first n of a stream with T_n at or after `t`. -/
def firstN (r : List Byte) (ann : Bool) (t : Nat) : Nat := ceilDiv (t - leNat r 8 4 * 65536) (intervalU (strLog r ann))

/-- The group address of Ethernet that an IP multicast address maps to: that of IPv4 by its low 23 bits, of IPv6 by its low 32. -/
def groupMac (ip : Nat) : Nat := if ip / 2 ^ 32 = 0xFFFF then 0x01005E000000 + ip % 2 ^ 23 else 0x333300000000 + ip % 2 ^ 32

/-- Where a stream's messages go (R331): DMAC over L2, DEST over UDP, under the tag VLAN gives. -/
def streamEnv (r : List Byte) : Envelope :=
  let v := leNat r 6 2
  let ip := beNat r 12 16
  ⟨if ip != 0 then groupMac ip else if bitOf (strByte r 3) 3 then 0x0180C200000E else 0x011B19000000,
   if bitOf v 12 then some (v / 8192 * 8192 + v % 4096) else none, ip⟩

/-- The image of stream i. -/
def State.stream (s : State) (i : Nat) : List Byte := s.cla.streams.get (fun _ => []) i

/-- The row STREAM_PREPARE: STREAM_LEAD before T_n a Sync (or Announce) of stream i is prepared. What a step of the time base passed over
is not sent; what is not prepared in time sets STREAM_MISS. -/
def execStreamPrepare (i : Fin 512) (ann : Bool) (s : State) : Out := .next <|
  let r := s.stream i
  let on : Bool := bitOf (strByte r 3) 0 && bitOf (strByte r 3) (if ann then 2 else 1)
  if s.mode != .service || !on || !s.tbLive then s
  else
    let key := 2 * i.val + b2n ann
    let n := max (s.cla.nextN.get (fun _ => 0) key) (firstN r ann (s.tbU + 1))
    let tn := streamAt r ann n
    let st := prepState s tn
    if st = 0 then s
    else
      let s := s.setCla (fun c => { c with nextN := c.nextN.set (fun _ => 0) key (n + 1) })
      let b := strByte r 2
      let t := strByte r 0
      if st = 2 then s.setFlag Flag.CLA_STREAM_MISS
      else if !targetLive s t || !ptpBinding s b then s
      else
        let red (k : Nat) : Option Nat := if isGroup t then some (streamSeq tn (strByte r 1) k) else none
        let m := { ptpBase s b t (if ann then 0xB else 0) n with
          env := streamEnv r, logInt := strLog r ann, twoStep := !ann && s.bit (Reg.PB_CFG_TWO_STEP b), fuRed := red 1 }
        originate s (ownTxn m t tn (red (if ann then 2 else 0))) Flag.CLA_STREAM_MISS

/-- At entry to SERVICE each stream begins with the first message that can be prepared in time. -/
def streamsStart (s : State) : State :=
  let later := s.tbU + leadTime s
  s.setCla (fun c => { c with nextN := s.cla.streams.foldl (fun m p =>
    [false, true].foldl (fun m a =>
      let key := 2 * p.1 + b2n a
      m.set (fun _ => 0) key (max (m.get (fun _ => 0) key) (firstN p.2 a later))) m) c.nextN })

/-- The row FOLLOW_UP_PREPARE: the Follow_Up of the first two-step event message whose stamp has returned is built and booked with
T_nom = T_tx + FU_DELAY (R302, R333). -/
def execFollowUpPrepare (s : State) : Out := .next <|
  match s.cla.fus with
  | [] => s
  | f :: rest =>
    let s := s.setCla (fun c => { c with fus := rest })
    if s.mode != .service then s
    else
      let m := { f.event with
        type := if f.event.type = 0 then 8 else 0xA, twoStep := false, stamp := f.measured / 65536,
        corr := f.event.fuCorr + fracOf f.measured, tlvs := [], ann := none }
      let tn := f.ttx + s.get Reg.CLA_CTRL_FU_DELAY * 1000 * 65536
      originate s (ownTxn m f.target tn f.event.fuRed) Flag.CLA_STREAM_MISS

/-- MASTER_IP of port p's client. -/
def masterIp (s : State) (p : Nat) : Nat :=
  (List.range 4).foldl (fun n k => n * 2 ^ 32 + s.get (Reg.PCL_MIP_MASTER_IP p k)) 0

/-- T_n of a port client's Delay_Req n. -/
def dreqAt (s : State) (p n : Nat) : Nat := n * intervalU (s.getS (Reg.PCL_CFG_LOG_DREQ p)) + 1000 * p * 65536

/-- The row DELAY_REQ_TX: a Delay_Req of the client of port p is prepared for its instant. A client whose master is not chosen, or of a
profile without the end-to-end mechanism, sends none; under TYPE 3 its Delay_Resp must be granted. -/
def execDelayReqTx (p : Fin 8) (s : State) : Out := .next <|
  let c := s.client p
  let b := s.get (Reg.PCL_CFG_PROFILE p)
  let ty := s.get (Reg.PB_CFG_TYPE b)
  let e2e : Bool := ty = 0 || ty = 2 || (ty = 3 && s.freeNs < c.grants.get (fun _ => 0) 9)
  match c.master with
  | none => s
  | some mst =>
    if !clientRuns s p || !s.bit (Reg.PB_CFG_EN b) || !e2e || !s.tbLive then s
    else
      let iv := intervalU (s.getS (Reg.PCL_CFG_LOG_DREQ p))
      let n := max (c.nreq.getD 0) (ceilDiv (s.tbU + 1 - 1000 * p.val * 65536) iv)
      let tn := dreqAt s p n
      let st := prepState s tn
      if st = 0 then s
      else
        let s := s.setClient p { c with nreq := some (n + 1) }
        if st = 2 then s.setFlag Flag.CLA_STREAM_MISS
        else
          let t := targetOf s p
          let mac := ((c.masters.find? (fun a => a.1.ident = mst)).map (fun a => a.1.mac)).getD 0
          let uni : Bool := ty = 3
          let env : Envelope := if uni then ⟨mac, none, masterIp s p⟩ else ⟨groupDst 1, none, 0⟩
          let m := { ptpBase s b t 1 n with env := env, unicast := uni }
          originate s (ownTxn m t tn (if isGroup t then some (grantSeq s mac 1 n) else none)) Flag.CLA_STREAM_MISS

/-! ### Unicast negotiation and the grant table (R338–R340) -/

/-- Slots of the grant table. -/
def gtSize (s : State) : Nat := 2 ^ s.get Reg.CLA_GT_CFG_LOG2_N

/-- The token in slot i. -/
def State.token (s : State) (i : Nat) : Option Token := s.cla.tokens.get (fun _ => none) i

/-- Write or zero slot i. -/
def putToken (s : State) (i : Nat) (t : Option Token) : State :=
  s.setCla (fun c => { c with tokens := c.tokens.set (fun _ => none) i t })

/-- Count grant events: granted, refused, cancelled, expired. -/
def countGrant (s : State) (g r c e : Nat) : State :=
  s.setCla (fun k => { k with grants := (k.grants.1 + g, k.grants.2.1 + r, k.grants.2.2.1 + c, k.grants.2.2.2 + e) })

/-- The 8 slots probed for a client and type. -/
def probes (s : State) (ip ident type : Nat) : List Nat :=
  let h := hashH s (beBytes 16 ip ++ beBytes 10 ident ++ beBytes 1 type)
  (List.range 8).map (fun k => (h + k) % gtSize s)

/-- The slot that holds the token of a client and type, among those probed. -/
def heldSlot (s : State) (ip ident type : Nat) : Option Nat :=
  (probes s ip ident type).find? (fun i =>
    match s.token i with | some t => t.ip = ip && t.ident = ident && t.type = type | none => false)

/-- One negotiation TLV of a Signaling message: the state after, and the TLV that answers it. -/
def negotiate (s : State) (q : CtrlMsg) (g : SigTlv) : State × Option SigTlv :=
  let ident := q.m.sender
  let refuse : State × Option SigTlv := (countGrant (violation s q.port 12) 0 1 0 0, some ⟨2, g.type, g.logInt, 0⟩)
  if g.op = 0 then
    if g.type = 9 then (countGrant s 1 0 0 0, some ⟨2, 9, g.logInt, g.dur⟩)
    else if g.type != 0 && g.type != 0xB then refuse
    else
      let lim := s.getS (if g.type = 0xB then Reg.CLA_GT_CFG_GT_LOG_ANN else Reg.CLA_GT_CFG_GT_LOG_SYNC)
      let slot := (heldSlot s q.f.ip ident g.type).orElse
        (fun _ => (probes s q.f.ip ident g.type).find? (fun i => (s.token i).isNone))
      match slot with
      | none => refuse
      | some i =>
        if !s.bit Reg.CLA_GT_CFG_EN || !s.bit Reg.SAT_CUR_GRANT_V || g.logInt < lim || s.get Reg.CLA_GT_DUR_GT_DUR < g.dur then refuse
        else
          let t : Token := ⟨q.f.ip, ident, q.port, (vlanTags s q.port q.f).headD 0, q.bind, g.type, g.logInt,
            tbSec s.tbU + g.dur, q.f.sa, 0⟩
          (countGrant (putToken s i (some t)) 1 0 0 0, some ⟨2, g.type, g.logInt, g.dur⟩)
  else if g.op = 1 then
    let s := match heldSlot s q.f.ip ident g.type with | some i => putToken s i none | none => s
    (countGrant s 0 0 1 0, some ⟨3, g.type, g.logInt, 0⟩)
  else (s, none)

/-- A grant from the master at MASTER_IP to the TYPE 3 client of the message's port (R341): held for its duration. -/
def takeGrant (s : State) (q : CtrlMsg) (g : SigTlv) : State :=
  let p := q.port
  let ip := masterIp s p
  if g.op = 2 && clientRuns s p && s.get (Reg.PCL_CFG_PROFILE p) = q.bind && q.f.ip = ip then
    let c := s.client p
    s.setClient p { c with grants := c.grants.set (fun _ => 0) g.type (if g.dur = 0 then 0 else s.freeNs + g.dur * 1000000000) }
  else s

/-- The row SIGNALING_RX: a CTRL engine takes the first message of the CTRL queue. A management message goes to the host (R353); an
authenticated one is verified first, with `ok` what that finds; the negotiation TLVs of a client bound to TYPE 3 are answered in one
unbooked Signaling message of `len` octets. -/
def execSignalingRx (ok : Bool) (len : Nat) (s : State) : Out := .next <|
  match s.cla.ctrlq, (enginesOf s 4).head? with
  | q :: rest, some e =>
    let s := s.setCla (fun c => { c with ctrlq := rest })
    if s.mode != .service then
      (if q.m.type = 0xD then punt s q.port q.f 4 q.flags q.rule q.trx
       else if q.m.auth.isNone && s.get (Reg.PB_CFG_TYPE q.bind) = 3 then q.m.sigs.foldl (fun s g => takeGrant s q g) s else s)
    else
      let good : Bool := match q.m.auth with | none => true | some _ => ptpFound s q.bind q.m && ok && cyRuns s
      let s := match q.m.auth with | none => s | some _ => satBump s (if good then 4 else 5) 1
      if !good then violation s q.port 4
      else if q.m.type = 0xD then punt s q.port q.f 4 q.flags q.rule q.trx
      else if s.get (Reg.PB_CFG_TYPE q.bind) != 3 then s
      else
        let (s, tlvs) := q.m.sigs.foldl (fun (a : State × List SigTlv) g =>
          let (s, r) := negotiate (takeGrant a.1 q g) q g
          (s, a.2 ++ r.toList)) (s, [])
        if tlvs.isEmpty then s
        else match ownSeal s q.bind with
          | none => withheld s q.bind
          | some sealed =>
            let t := targetOf s q.port
            let m := { ptpBase s q.bind t 0xC q.m.seqId with env := replyEnv s q.port q.f, reqPort := q.m.sender, unicast := true,
                                                              sigs := tlvs }
            let m := if sealed then m.withTlv (authOut s q.bind (4 * e)) else m
            let s := if sealed then satBump s 6 1 else s
            sendUnbooked s t (.ptp m) len (if isGroup t then some (replySeq s q.f.sa q.m.seqId (if q.m.auth.isSome then 3 else 2)) else none) none
  | _, _ => s

/-- The offset of slot i's messages (R340), in 2⁻¹⁶ ns. -/
def slotOffset (s : State) (i : Nat) : Nat := i * 7812500 / gtSize s * 65536

/-- One slot of the walk: an expired token is zeroed, one that fails to open is zeroed and counted (k = 13), one not read in time sends
nothing (GT_MISS); else the message whose instant lies in the next interval is prepared. -/
def walkSlot (late bad : List Nat) (s : State) (p : Nat × Option Token) : State :=
  match p.2 with
  | none => s
  | some t =>
    let i := p.1
    if late.contains i then s.setFlag Flag.CLA_GT_MISS
    else if bad.contains i then violation (putToken s i none) t.port 13
    else if t.expiry ≤ tbSec s.tbU then countGrant (putToken s i none) 0 0 0 1
    else
      let iv := intervalU t.logInt
      let n := max t.next (ceilDiv (s.tbU + 2000000 * 65536 - slotOffset s i) iv)
      let tn := n * iv + slotOffset s i
      if s.tbU + (2000000 + 7812500) * 65536 ≤ tn then s
      else
        let s := putToken s i (some { t with next := n + 1 })
        let tgt := targetOf s t.port
        let red (type : Nat) : Option Nat := if isGroup tgt then some (grantSeq s t.mac type n) else none
        let m := { ptpBase s t.bind tgt t.type n with
          env := ⟨t.mac, if t.vlan = 0 then none else some t.vlan, t.ip⟩, logInt := t.logInt, unicast := true, twoStep := t.type = 0 && s.bit (Reg.PB_CFG_TWO_STEP t.bind), fuRed := red 8 }
        if !ptpBinding s t.bind then s
        else if (ownSeal s t.bind).isNone then withheld s t.bind
        else match pickEngine s 4 with
          | none => s.setFlag Flag.CLA_GT_MISS
          | some e => queueTxn s { ownTxn m tgt tn (red t.type) with engine := e, mac := t.mac, cseq := n }

/-- The row GRANT_WALK: every 7,812,500 ns of elapsed time the CTRL engines walk the grant table. `late` are slots not read in time, `bad`
those whose token fails to open. -/
def execGrantWalk (late bad : List Nat) (s : State) : Out := .next <|
  if s.mode != .service || !s.bit Reg.CLA_GT_CFG_EN || !s.tbLive || s.freeNs < s.cla.walkAt + 7812500 then s
  else
    let s := s.setCla (fun c => { c with walkAt := s.freeNs })
    s.cla.tokens.foldl (walkSlot late bad) s

/-! ### Second and millisecond work (R360, R361) -/

/-- The record of violation counter k, when it has changed since its last. -/
def vioRecord (s : State) (k : Nat) : State :=
  let v := s.getPair (Reg.CLA_VIO_LO_VIO k) (Reg.CLA_VIO_HI_VIO k)
  let was := s.cla.vioWas.get (fun _ => 0) k
  if v = was then s
  else
    let s := s.setCla (fun c => { c with vioWas := c.vioWas.set (fun _ => 0) k v })
    s.journal 0 0x0010 0x1003 (leBytes 1 k ++ leBytes 1 (s.cla.vioPort.get (fun _ => 0) k) ++ leBytes 2 0
      ++ leBytes 4 (satU 32 ((v + 2 ^ 48 - was) % 2 ^ 48)))

/-- The row SVC_VIOLATION: at a second boundary a record for each violation counter that changed. -/
def execSvcViolation (s : State) : Out := .next (if s.atSec then (List.range 16).foldl vioRecord s else s)

/-- The row GRANT_SUMMARY: at a second boundary in which a grant event occurred. -/
def execGrantSummary (s : State) : Out := .next <|
  let g := s.cla.grants
  if !s.atSec || g = (0, 0, 0, 0) then s
  else
    let used := (s.cla.tokens.filter (fun p => p.2.isSome)).length
    let s := s.setCla (fun c => { c with grants := (0, 0, 0, 0) })
    s.journal 0 0x0010 0x1004 (leBytes 2 (satU 16 g.1) ++ leBytes 2 (satU 16 g.2.1) ++ leBytes 2 (satU 16 g.2.2.1)
      ++ leBytes 2 (satU 16 g.2.2.2) ++ leBytes 4 used)

/-- A Clause engine is reset (R360, R314): its transactions are dropped, its bookings freed at D without a count; ENGINE_STATE is
journalled. The number dropped. -/
def resetEngine (s : State) (e : Nat) : State × Nat :=
  let mine (t : Txn) : Bool := t.engine = e
  let n := (s.cla.queue.filter mine).length + (s.cla.flight.filter mine).length
  let s := s.setCla (fun c => { c with
    queue := c.queue.filter (fun t => !mine t), flight := c.flight.filter (fun t => !mine t), engAt := c.engAt.set (fun _ => 0) e s.freeNs })
  let s := s.setTsu (fun t => { t with books := t.books.map (fun b => if b.engine = e && !b.inTsu then { b with dead := true } else b) })
  let s := { s with sys := { s.sys with engReset := setBit s.sys.engReset e true } }
  let s := s.journal 1 0x0010 0x1005 (leBytes 1 e ++ leBytes 1 1 ++ leBytes 1 (engRole s e) ++ leBytes 1 0 ++ leBytes 4 n)
  (showClasses s, n)

/-- The row ENGINE_REJOIN: at the first 1 ms boundary after it is ready, engine e rejoins in its role. -/
def execEngineRejoin (e : Fin 16) (s : State) : Out := .next <|
  if !engDown s e || !s.atMs || s.freeNs ≤ s.cla.engAt.get (fun _ => 0) e then s
  else
    let s := windowEvent { s with sys := { s.sys with engReset := setBit s.sys.engReset e false } } 0 e 100000
    showClasses (s.journal 1 0x0010 0x1005 (leBytes 1 e ++ leBytes 1 0 ++ leBytes 1 (engRole s e) ++ leBytes 5 0))

/-- The engines stop on leaving SERVICE: what is not in the TSU is dropped, with the CTRL queue and the Follow_Ups due. -/
def claLeave (s : State) : State :=
  showClasses (s.setCla (fun c => { c with queue := [], flight := [], ctrlq := [], fus := [] }))

/-- Domain CY stops: every operation under way is halted (R366). -/
def haltOps (s : State) : State :=
  (s.cla.flight.filter (fun x => match x.stage with | .op _ => true | .seal => true | _ => false)).foldl
    (fun s x => abandon (satBump s 8 1) x 0) s

/-! ### Injection (R354, R424) -/

/-- An INJECT entry's header. -/
def injBad (s : State) (r : Nat) (h frame : List Byte) : Bool :=
  let t := leNat h 0 1
  let len := leNat h 2 2
  let up := (portsOf s t).filter (portUp s)
  leNat h 1 1 / 2 != 0 || leNat h 8 8 != 0 || !(t < 8 || (16 ≤ t && t < 20)) || !targetLive s t || up.isEmpty || len < 60 ||
    entrySize s r - 16 < len || frame.length != len || up.any (fun p => maxLen s p < len + 4)

/-- Completion ring cq has `n` entries that are neither used nor reserved (R408). -/
def canReserve (s : State) (cq n : Nat) : Bool := ringUsed s cq + s.get (Reg.HR_RSV_RSV cq) + n ≤ ringSize s cq

/-- The row INJECT_ENTRY: the INJECT ring's next entry, of `header` (16 bytes) and `frame`, is read. -/
def execInjectEntry (r : Fin 64) (header frame : List Byte) (s : State) : Out := .next <|
  if !s.bit Reg.CLA_INJ_EN || s.get Reg.CLA_INJ_RING != r.val || ringState s r != 1 || s.get (Reg.HR_CFG_TYPE r) != 4 ||
      ringUsed s r = 0 || !(s.mode = .setup || s.mode = .service || s.mode = .recovery) then s
  else if !cqValid s r then ringError s r 3 (s.get (Reg.HR_CONS_IDX r))
  else if !canReserve s (cqOf s r) 1 then s
  else
    let s := reserve (setCons s r (consPos s r + 1)) (cqOf s r)
    let tag := leNat header 4 4
    let refuse (st : Nat) : State := postCompletion s (cqOf s r) ⟨tag, st, false, r, 0, 0, []⟩ false
    if s.mode = .recovery then refuse St.deniedMode
    else if injBad s r header frame then refuse St.invalid
    else
      let t := leNat header 0 1
      let inj := some (r.val, tag, bitOf (leNat header 1 1) 0)
      if isGroup t then
        let g := t - 16
        let n := s.get (Reg.RG_STAT_SEQ_NEXT g)
        sendUnbooked (s.put (Reg.RG_STAT_SEQ_NEXT g) (n + 1)) t (.injected frame) (frame.length + 10) (some n) inj
      else sendUnbooked s t (.injected frame) (frame.length + 4) none inj

end Sys2Proof.Machine
end

