-- ==== Sys2Proof/Machine/ServiceCmd.lean ====
section
/-!
DEFINITION. The commands of the service engines (R325, R331, R349, R355–R358): classes, bindings, rules, streams, the sequence key, and the
indirect windows of rules and streams.
-/

namespace Sys2Proof.Machine

/-! ### CLA_SET -/

/-- The registers of CLA_SET's TARGET, in mask order; none for a target out of range. -/
def claAddrs (t : Nat) : Option (List Nat) :=
  if t < 4 then some [0x100100 + 0x40 * t]
  else if 16 ≤ t && t < 80 then some [0x100400 + 0x10 * (t - 16), 0x100404 + 0x10 * (t - 16)]
  else if 80 ≤ t && t < 144 then some ((List.range 8).map (fun k => 0x101000 + 0x40 * (t - 80) + 4 * k))
  else if 144 ≤ t && t < 152 then some ((List.range 7).map (fun k => 0x100C00 + 0x40 * (t - 144) + 4 * k))
  else if t = 255 then some [0x100000, 0x100004, 0x100008, 0x10000C, 0x100010, 0x100014, 0x100018, 0x10001C, 0x100028, 0x10002C]
  else none

/-- The values a masked descriptor carries for the registers `l`, in mask order. -/
def maskedWords (d : Desc) (mask : Nat) (l : List Nat) : List (Nat × Nat) :=
  (l.zipIdx).filterMap (fun p => if bitOf mask p.2 then some (p.1, maskedValue d mask p.2) else none)

/-- The registers whose values are inputs of W_cls (R349): CLA_ENG_MAP, CLA_ADM_CFG, CLS_CFG. -/
def isWInput (a : Nat) : Bool := a = 0x100004 || a = 0x100008 || a = 0x10000C || (0x100100 ≤ a && a < 0x100200 && a % 0x40 = 0)

/-- Classes whose W_cls differs between two states. -/
def wChanged (s s' : State) : List Nat := (List.range 4).filter (fun c => wClsOf s c != wClsOf s' c)

/-- Port clients that are enabled and feed a reference named by SRC or FSRC. -/
def feedingClients (s : State) : List Nat :=
  (List.range 8).filter (fun p =>
    s.bit (Reg.ENT_CFG_EN (20 + p)) && s.get (Reg.ENT_NET_NETMODE (20 + p)) != 1 && s.bit (Reg.PCL_CFG_EN p) && isNamed s (20 + p))

/-- The feeding clients that a change from `s` to `s'` of PB_CFG or PCL_CFG alters. -/
def clientsAltered (s s' : State) : List Nat :=
  (feedingClients s).filter (fun p =>
    let b := s.get (Reg.PCL_CFG_PROFILE p)
    s.loadWord (0x100C00 + 0x40 * p) != s'.loadWord (0x100C00 + 0x40 * p) || s.loadWord (0x101000 + 0x40 * b) != s'.loadWord (0x101000 + 0x40 * b))

/-- CLA_SET (R355, R358): a change that alters W_cls pauses its classes, and its values act once they have drained (R349). -/
def claSetOp : OpSpec where
  opcode := 0x0290
  check s d :=
    match claAddrs (d.u8 16) with
    | none => St.invalid
    | some l =>
      if 2 ≤ d.u8 17 || 2 ^ l.length ≤ d.u16 18 || !d.zero 60 63 || d.past = 2 || strayValue d (d.u16 18) l then St.invalid
      else if claCfgErr (storeService s (maskedWords d (d.u16 18) l)) then St.invalid else 0
  due s _ := s.atMs
  apply s w :=
    let words := maskedWords w.d (w.d.u16 18) ((claAddrs (w.d.u8 16)).getD [])
    let s' := storeService s words
    let hit := clientsAltered s s'
    let ch := wChanged s s'
    if claCfgErr s' then refuseDesc s w St.invalid
    else if !ch.isEmpty && !s.cla.paused.isEmpty then refuseDesc s w St.busy
    else if !hit.isEmpty && !bitOf (w.d.u8 17) 0 then refuseDesc s w St.protect
    else
      let s2 := if ch.isEmpty then s' else
          (storeService s (words.filter (fun x => !isWInput x.1))).setCla (fun c =>
            { c with paused := ch, reconf := words.filter (fun x => isWInput x.1) })
      let s2 := { s2 with sel := { s2.sel with dq := s2.sel.dq ++ hit.map (fun p => (20 + p, 9)) } }
      finishDesc s2 w St.ok []
  periodic := false

/-- The row CLA_SET. -/
def execClaSet (d : Desc) (s : State) : Out := .next (submit claSetOp s d)

/-! ### Rules -/

/-- Rule i. -/
def State.rule (s : State) (i : Nat) : List Byte := s.cla.rules.get (fun _ => []) i

/-- An image of zeros is an empty entry. -/
def trimImage (l : List Byte) : List Byte := if l.all (fun b => b.toNat = 0) then [] else l

/-- Install rule i. -/
def putRule (s : State) (i : Nat) (r : List Byte) : State :=
  s.setCla (fun c => { c with rules := c.rules.set (fun _ => []) i (trimImage r) })

/-- A 32-byte image, padded. -/
def padImage (l : List Byte) : List Byte := (l ++ List.replicate 32 0).take 32

/-- The operand checks CLA_RULE and STREAM_SET share. -/
def tableOpBad (d : Desc) (n : Nat) : Bool :=
  n ≤ d.u16 16 || 3 < d.u8 18 || d.u8 19 != 0 || !d.zero 52 63 || (d.u8 18 != 0 && !d.zero 20 51) || d.past = 2

/-- The image of WRITE. -/
def opImage (d : Desc) : List Byte := (d.op.drop 4).take 32

/-- An image with bit 0 of byte k set or cleared. -/
def withBit (r : List Byte) (k : Nat) (b : Bool) : List Byte :=
  let r := padImage r
  r.set k (BitVec.ofNat 8 (setBit (ruleByte r k) 0 b))

/-- CLA_RULE. -/
def claRuleOp : OpSpec where
  opcode := 0x0291
  check _ d := if tableOpBad d 4096 || (d.u8 18 = 0 && !ruleValid (opImage d)) then St.invalid else 0
  due s _ := s.atMs
  apply s w :=
    let i := w.d.u16 16
    let o := w.d.u8 18
    let s := if o = 0 then putRule s i (opImage w.d) else if o = 3 then putRule s i [] else putRule s i (withBit (s.rule i) 25 (o = 1))
    finishDesc s w St.ok []
  periodic := false

/-- The row CLA_RULE. -/
def execClaRule (d : Desc) (s : State) : Out := .next (submit claRuleOp s d)

/-! ### Streams -/

/-- The other enabled streams of a redundancy group. -/
def groupStreams (s : State) (g i : Nat) : List (List Byte) :=
  ((s.cla.streams.filter (fun p => p.1 != i && strByte p.2 0 = g && bitOf (strByte p.2 3) 0))).map (·.2)

/-- The smaller enabled interval of a stream, if one is enabled. -/
def leastInterval (r : List Byte) : Option Nat :=
  let a := if bitOf (strByte r 3) 1 then [intervalU (strLog r false)] else []
  let b := if bitOf (strByte r 3) 2 then [intervalU (strLog r true)] else []
  match a ++ b with
  | [] => none
  | x :: l => some (l.foldl min x)

/-- A valid stream image for entry i (R331). -/
def streamValid (s : State) (i : Nat) (r : List Byte) : Bool :=
  let t := strByte r 0
  let b := strByte r 2
  let others := groupStreams s t i
  (t < 8 || (16 ≤ t && t < 20)) && strByte r 1 ≤ 127 && b ≤ 63 && s.get (Reg.PB_CFG_TYPE b) ≤ 5 && strByte r 3 < 16 &&
    -7 ≤ strLog r false && strLog r false ≤ 4 && -3 ≤ strLog r true && strLog r true ≤ 4 &&
    (match leastInterval r with | some iv => leNat r 8 4 * 65536 < iv | none => true) &&
    (s.get (Reg.PB_CFG_TRANSPORT b) != 0 || ((r.drop 12).take 16).all (fun x => x.toNat = 0)) && leNat r 28 4 = 0 &&
    (!bitOf (strByte r 3) 0 || t < 8 || (others.length < 128 && others.all (fun o => strByte o 1 != strByte r 1)))

/-- Install stream i; its first message lies at least STREAM_LEAD + 1 ms ahead (R356), and on the same grid none already prepared is
prepared again. -/
def putStream (s : State) (i : Nat) (r : List Byte) : State :=
  let old := s.stream i
  let from0 := s.tbU + leadTime s + msU
  let next (m : SMap Nat) (a : Bool) : SMap Nat :=
    let key := 2 * i + b2n a
    let same : Bool := strLog old a = strLog r a && leNat old 8 4 = leNat r 8 4
    m.set (fun _ => 0) key (if r.isEmpty then 0 else max (firstN r a from0) (if same then m.get (fun _ => 0) key else 0))
  showCla (s.setCla (fun c => { c with streams := c.streams.set (fun _ => []) i (trimImage r), nextN := next (next c.nextN false) true }))

/-- The image STREAM_SET leaves in its entry. -/
def streamImage (s : State) (d : Desc) : List Byte :=
  let o := d.u8 18
  if o = 0 then opImage d else if o = 3 then [] else withBit (s.stream (d.u16 16)) 3 (o = 1)

/-- The image is valid and sets no CFGERR. -/
def streamOk (s : State) (d : Desc) : Bool :=
  let r := streamImage s d
  d.u8 18 = 3 || (streamValid s (d.u16 16) r && !(bitOf (strByte r 3) 0 && eCls s 4 = 0))

/-- STREAM_SET. -/
def streamSetOp : OpSpec where
  opcode := 0x0292
  check s d := if tableOpBad d 512 || !streamOk s d then St.invalid else 0
  due s _ := s.atMs
  apply s w :=
    if !streamOk s w.d then refuseDesc s w St.invalid
    else finishDesc (putStream s (w.d.u16 16) (streamImage s w.d)) w St.ok []
  periodic := false

/-- The row STREAM_SET. -/
def execStreamSet (d : Desc) (s : State) : Out := .next (submit streamSetOp s d)

/-! ### The sequence key (R357) -/

/-- A key is installed. -/
def installKey (s : State) (k : Nat) : State :=
  let s := s.setCla (fun c => { c with seqKey := some k })
  (s.putB Reg.CLA_STAT_KEY_V true).publish Reg.CLA_STAT_VALID Reg.CLA_STAT_SEQ

/-! ### Indirect windows -/

/-- Latch a 32-byte image into eight data registers. -/
def latchImage (s : State) (f : Nat → Field) (r : List Byte) : State :=
  (List.range 8).foldl (fun s k => s.put (f k) (leNat r (4 * k) 4)) s

/-- The image in eight data registers. -/
def dataImage (s : State) (f : Nat → Field) : List Byte := (List.range 8).flatMap (fun k => leBytes 4 (s.get (f k)))

/-- The row CLA_STR_READ. -/
def execClaStrRead (i : Fin 512) (s : State) : Out := .next <|
  latchImage ((s.put Reg.CLA_STR_ADDR_INDEX i).putB Reg.CLA_STR_ADDR_ERR false) Reg.CLA_STR_DATA_DATA (s.stream i)

/-- The row CLA_STR_WRITE: in SETUP the image in the data registers is installed, or ERR is set. -/
def execClaStrWrite (i : Fin 512) (s : State) : Out := .next <|
  if s.mode != .setup then s
  else
    let s := s.put Reg.CLA_STR_ADDR_INDEX i
    let r := dataImage s Reg.CLA_STR_DATA_DATA
    if streamValid s i r then putStream (s.putB Reg.CLA_STR_ADDR_ERR false) i r else s.putB Reg.CLA_STR_ADDR_ERR true

/-- The row CLA_RULE_READ. -/
def execClaRuleRead (i : Fin 4096) (s : State) : Out := .next <|
  latchImage ((s.put Reg.CLA_RULE_ADDR_INDEX i).putB Reg.CLA_RULE_ADDR_ERR false) Reg.CLA_RULE_DATA_DATA (s.rule i)

/-- The row CLA_RULE_WRITE: in SETUP the image in the data registers is installed, or ERR is set. -/
def execClaRuleWrite (i : Fin 4096) (s : State) : Out := .next <|
  if s.mode != .setup then s
  else
    let s := s.put Reg.CLA_RULE_ADDR_INDEX i
    let r := dataImage s Reg.CLA_RULE_DATA_DATA
    if ruleValid r then putRule (s.putB Reg.CLA_RULE_ADDR_ERR false) i r else s.putB Reg.CLA_RULE_ADDR_ERR true

end Sys2Proof.Machine
end

