-- ==== Sys2Proof/Machine/PairCore.lean ====
section
/-!
DEFINITION. The core of the pair unit (spec/15_redundant_pair.md): the frames it sends and takes in, presence and pair states, the
decision and the roles, the interlock and the shared drivers.
-/

namespace Sys2Proof.Machine

/-! ### Status (R84) -/

/-- Lane l of the link. -/
def State.cl (s : State) (l : Nat) : LinkLane := s.cnj.lanes.get (fun _ => LinkLane.zero) l

/-- Replace lane l. -/
def State.setCl (s : State) (l : Nat) (x : LinkLane) : State :=
  s.setCnj (fun c => { c with lanes := c.lanes.set (fun _ => LinkLane.zero) l x })

/-- The pair state: 0 OFF, 1 SEARCH, 2 JOIN, 3 PAIRED, 4 DETACHED, 5 MISMATCH. -/
def pstate (s : State) : Nat := s.get Reg.CNJ_STAT_PSTATE

/-- The role: 0 OBJECT, 1 TAKING, 2 SUBJECT, 3 RELEASING. -/
def role (s : State) : Nat := s.get Reg.CNJ_STAT_ROLE

/-- This is unit A (R7). -/
def isUnitA (s : State) : Bool := !s.bit Reg.GEN_STRAP_UNIT_ID

/-- The pair unit runs: a time base and a pair state other than OFF. -/
def pairRuns (s : State) : Bool := s.tbLive && pstate s != 0

/-- The unit is eligible (R507). -/
def eligible (s : State) : Bool := (s.mode = .setup || s.mode = .service) && s.cnj.urgent.isNone

/-- Output n has SHARED = 1 (R214). -/
def isShared (s : State) (n : Nat) : Bool := s.bit (Reg.OUT_CFG_SHARED n)

/-- A SHARED driver is enabled. -/
def sharedDriven (s : State) : Bool := (List.range 12).any (fun n => isShared s n && outDrv s n)

/-- The decision of the arbiter in force: 0 unit A, 1 unit B, 0xFF none (R514). -/
def arbDecision (s : State) : Nat :=
  if s.bit Reg.CNJ_CFG_ARB_SRC then s.cnj.arbSmb
  else match s.cnj.arbPins with | some b => b2n b | none => 0xFF

/-- Show the pair unit's status, with a new SEQ when it changes. -/
def showPair (s : State) : State :=
  let s := if pstate s = 0 then s else (s.putB Reg.CNJ_ARB_VALID (arbDecision s != 0xFF)).put Reg.CNJ_ARB_DECISION (arbDecision s)
  let s' := ((s.putB Reg.CNJ_STAT_ELIGIBLE (eligible s && pstate s != 0)).putB Reg.CNJ_STAT_AGREED (pairAgreed s)).putB
    Reg.CNJ_STAT_DRV (s.bit Reg.GEN_STRAP_PAIR_EN && sharedDriven s)
  if s'.regs = s.regs then s else s'.publish Reg.CNJ_STAT_VALID Reg.CNJ_STAT_SEQ

/-- Change one field of CNJ_STAT. -/
def putStat (s : State) (f : Field) (v : Nat) : State :=
  if s.get f = v then s else (s.put f v).publish Reg.CNJ_STAT_VALID Reg.CNJ_STAT_SEQ

/-! ### Frames (R33, R492–R494) -/

/-- Send a frame on both lanes under one FSEQ. -/
def sendFrame (s : State) (p : LinkPay) : State :=
  let q := (s.cnj.fseq + 1) % 65536
  s.setCnj (fun c => { c with fseq := q, sent := c.sent ++ [⟨0, q, s.jr.cseq, p⟩, ⟨1, q, s.jr.cseq, p⟩] })

/-- Send a STATE frame on lane l, under an FSEQ of its own. -/
def sendOn (s : State) (l : Nat) (p : LinkPay) : State :=
  let q := (s.cnj.fseq + 1) % 65536
  s.setCnj (fun c => { c with fseq := q, sent := c.sent ++ [⟨l, q, s.jr.cseq, p⟩] })

/-- CSEQ value c is later than d (R34). -/
def cseqAfter (c d : Nat) : Bool := decide (0 < signed 32 ((c + 2 ^ 32 - d) % 2 ^ 32))

/-- CSEQ on receipt of a frame: the later of the own and the received value. -/
def takeCseq (s : State) (c : Nat) : State :=
  { s with jr := { s.jr with cseq := if cseqAfter c s.jr.cseq then c else s.jr.cseq } }

/-- FSEQ values remembered. -/
def fseqKept : Nat := 64

/-- The first valid copy of a frame is acted on (R492): whether this one is, and FSEQ noted. -/
def firstCopy (s : State) (q : Nat) : State × Bool :=
  if q ∈ s.cnj.seen then (s, false)
  else (s.setCnj (fun c => { c with seen := (q :: c.seen).take fseqKept }), true)

/-- A frame can be taken in on lane l. -/
def laneTakes (s : State) (l : Nat) : Bool := pairRuns s && s.bit (Reg.CNJ_LSTAT_SYNC l)

/-! ### Lanes (R492, R495, R523) -/

/-- |φ₀ − φ₁| of the latest exchanges in ps. -/
def lanesApart (s : State) : Nat :=
  match (s.cl 0).exch, (s.cl 1).exch with
  | some (_, a), some (_, b) => (roundQ (psOf (a - b))).natAbs
  | _, _ => 0

/-- LINK_LANE is journalled: 0 up, 1 down, 2 restarted, 3 crossed, 4 skew. -/
def journalLane (s : State) (l event : Nat) : State :=
  s.journal 1 0x0015 0x1508
    (leBytes 1 l ++ leBytes 1 event ++ leBytes 2 (s.get (Reg.CNJ_LSTAT_VIO_1S l)) ++ leBytes 4 (satS 32 (lanesApart s)))

/-- Pair operation holds (R499): PAIR_ESC of the collector follows it, and tells a JOIN within it from the first. -/
def pairOperation (s : State) : Bool := pstate s = 3 || pstate s = 4 || (pstate s = 2 && s.bit Reg.FLT_STAT_PAIR_ESC)

/-- The peer's UNIT_ID, 0xFF unknown. -/
def peerUnit (s : State) : Nat := (s.cnj.hb.map (fun h => h.unit)).getD 0xFF

/-- Show whether the escalation rules of R471 apply. -/
def showEsc (s : State) : State :=
  if s.bit Reg.FLT_STAT_PAIR_ESC = pairOperation s then s
  else (s.putB Reg.FLT_STAT_PAIR_ESC (pairOperation s)).publishFlt

/-- Change the pair state (R498): journalled, vector 68. Causes: 0 link, 1 absence, 2 IDENT, 3 reset. -/
def setPstate (s : State) (new cause : Nat) : State :=
  let old := pstate s
  if old = new then s
  else
    let s := showEsc (putStat s Reg.CNJ_STAT_PSTATE new)
    (s.journal (if old = 3 then 1 else 0) 0x0015 0x1501
      (leBytes 1 new ++ leBytes 1 old ++ leBytes 1 (peerUnit s) ++ leBytes 1 cause)).fire 68

/-- Change the peer's presence (R496): journalled, vector 68. -/
def setPresent (s : State) (b : Bool) (lost : Nat) : State :=
  if s.bit Reg.CNJ_STAT_PEER_PRESENT = b then s
  else
    let s := putStat s Reg.CNJ_STAT_PEER_PRESENT (b2n b)
    let s := s.setCnj (fun c => { c with found := c.found || b, goneAt := if b then c.goneAt else s.freeNs })
    let s := s.flagIf (!b) Flag.CNJ_PEER_LOST
    (s.journal (b2n (!b)) 0x0015 0x1503 (leBytes 1 (b2n b) ++ leBytes 1 lost)).fire 68

/-- Enter SEARCH: the peer counts as absent until it is found (R496). -/
def enterSearch (s : State) (cause : Nat) : State :=
  let s := setPresent (setPstate s 1 cause) false (b2n (cause = 0))
  s.setCnj (fun c => { c with found := false, goneAt := s.freeNs, hbInRun := 0 })

/-- Show which lanes are UP and whether the link is; a link lost takes PAIRED to DETACHED while the peer is present. -/
def showLink (s : State) : State :=
  let up : Bool := s.bit (Reg.CNJ_LSTAT_UP 0) || s.bit (Reg.CNJ_LSTAT_UP 1)
  let was := s.bit Reg.CNJ_STAT_LINK_UP
  let s := putStat s Reg.CNJ_STAT_LANES_UP (b2n (s.bit (Reg.CNJ_LSTAT_UP 0)) + 2 * b2n (s.bit (Reg.CNJ_LSTAT_UP 1)))
  let s := putStat s Reg.CNJ_STAT_LINK_UP (b2n up)
  let s := s.flagIf (was && !up) Flag.CNJ_LINK_DOWN
  let s := if was && !up then s.setCnj (fun c => { c with downAt := s.freeNs }) else s
  let s := if up && !was then s.setCnj (fun c => { c with seen := c.seen.take 1 }) else s
  if was && !up && pstate s = 3 && s.bit Reg.CNJ_STAT_PEER_PRESENT then setPstate s 4 0 else s

/-- A HEARTBEAT has come in on lane l within 8 µs. -/
def hbFresh (s : State) (l : Nat) : Bool :=
  match (s.cl l).hbAt with | some t => decide (s.freeNs < t + 8000) | none => false

/-- Lane l is UP while synchronised with a HEARTBEAT in the last 8 µs. -/
def showLane (s : State) (l : Nat) : State :=
  let up : Bool := s.bit (Reg.CNJ_LSTAT_SYNC l) && hbFresh s l
  if s.bit (Reg.CNJ_LSTAT_UP l) = up then s
  else showLink (journalLane (s.putB (Reg.CNJ_LSTAT_UP l) up) l (if up then 0 else 1))

/-! ### The decision (R507) -/

/-- HEARTBEAT frames arrive from the peer; in MISMATCH the role rules go on without them (R499). -/
def hbArrives (s : State) : Bool := s.bit Reg.CNJ_STAT_LINK_UP && pstate s != 5

/-- A flag of the peer's latest HEARTBEAT. -/
def peerFlag (s : State) (k : Nat) : Bool := match s.cnj.hb with | some h => bitOf h.flags k | none => false

/-- The peer's role as its latest HEARTBEAT gives it. -/
def peerRole (s : State) : Nat := (s.cnj.hb.map (fun h => h.role)).getD 0

/-- The own unit is TAKING or SUBJECT and may stay so. -/
def ownHolds (s : State) : Bool := (role s = 1 || role s = 2) && eligible s && s.cnj.yielding.isNone

/-- The peer is TAKING or SUBJECT and may stay so. -/
def peerHolds (s : State) : Bool := (peerRole s = 1 || peerRole s = 2) && peerFlag s 0 && !peerFlag s 1

/-- A valid decision of the arbiter that acts, and names an eligible unit: whether it names this one. A peer that is not heard counts as
eligible (R511). -/
def arbNames (s : State) : Option Bool :=
  if !s.bit Reg.CNJ_CFG_DETECT || arbDecision s = 0xFF then none
  else
    let own : Bool := (arbDecision s = 0) = isUnitA s
    if own then (if eligible s then some true else none)
    else if !hbArrives s || peerFlag s 0 then some false else none

/-- The decision D: whether it names this unit, or none. -/
def decisionD (s : State) : Option Bool :=
  match arbNames s with
  | some b => some b
  | none =>
    let own : Bool := eligible s
    if !hbArrives s then (if own then some true else none)
    else
      let ownY : Bool := s.cnj.yielding.isSome
      let peer := peerFlag s 0
      let peerY := peerFlag s 1
      if ownHolds s && peerHolds s then
        some (if role s = 2 && peerRole s = 1 then true else if role s = 1 && peerRole s = 2 then false else isUnitA s)
      else if ownHolds s then some true
      else if peerHolds s then some false
      else if isUnitA s then (if own && !ownY then some true else if peer then some false else none)
      else if peer && !peerY then some false else if own then some true else none

/-! ### Roles and drivers (R508–R511) -/

/-- Output n is at its inactive level now: not shared, OFF, or a pulse output that is not active. -/
def inactiveNow (s : State) (n : Nat) : Bool :=
  !isShared s n || outState s n = 0 || (outSrc s n = 5 && !genActive s n)

/-- The native interlock lets SHARED drivers be enabled (R509); in Q5800-compatible mode the role alone decides (R513). -/
def interlock (s : State) : Bool :=
  if s.bit Reg.CNJ_CFG_Q58 then role s = 1 || role s = 2
  else
    let g := s.get Reg.CNJ_TIME_T_GUARD
    s.cnj.subjOut && !s.bit Reg.CNJ_STAT_SUBJ_IN && decide (s.cnj.subjAt + g ≤ s.freeNs) && decide (s.cnj.inLow + g ≤ s.freeNs)

/-- Set the enabled drivers and show them. -/
def setDrv (s : State) (m : Nat) : State :=
  if s.cnj.drv = m then s else showPair (showOuts (s.setCnj (fun c => { c with drv := m })))

/-- The outputs whose drivers stay enabled: with `all` none, otherwise those not inactive now. -/
def dropDrivers (s : State) (all : Bool) : State :=
  setDrv s ((List.range 12).foldl (fun m n => if all || inactiveNow s n then setBit m n false else m) s.cnj.drv)

/-- Enable every driver whose output is inactive now, as far as the interlock lets them. -/
def raiseDrivers (s : State) : State :=
  if interlock s then
    setDrv s ((List.range 12).foldl (fun m n => if inactiveNow s n then setBit m n true else m) s.cnj.drv)
  else s

/-- No SHARED driver is enabled. -/
def driversOff (s : State) : Bool := (List.range 12).all (fun n => !(isShared s n && bitOf s.cnj.drv n))

/-- Change the role: ROLE_CHANGE journalled, vector 68, ROLE_CHG; a Subject lost alerts the SMBus master (R426). -/
def setRole (s : State) (new cause undriven : Nat) : State :=
  let old := role s
  if old = new then s
  else
    let s := if (old = 2 || old = 3) && new = 0 then alertOn s 3 else s
    let s := (putStat s Reg.CNJ_STAT_ROLE new).setFlag Flag.CNJ_ROLE_CHG
    (s.journal 0 0x0015 0x1502
      (leBytes 1 new ++ leBytes 1 old ++ leBytes 1 cause ++ leBytes 1 0 ++ leBytes 4 (if new = 2 then satU 32 undriven else 0))).fire 68

/-- Why the role changes: a handover's own cause, the arbiter, absence, or the decision. -/
def roleCause (s : State) : Nat :=
  match s.cnj.yielding, s.cnj.take with
  | some k, _ => k
  | none, some k => k
  | none, none => if (arbNames s).isSome then 3 else if !hbArrives s then 4 else 0

/-- The unit gives the role up: OBJECT, SUBJ_OUT deasserted, a RELEASE in progress has its applied stamp. -/
def becomeObject (s : State) (cause : Nat) : State :=
  let s := setRole s 0 cause 0
  showPair (s.setCnj (fun c => { c with
    subjOut := false, released := s.freeNs, urgent := none,
    hand := c.hand.map (fun h => if h.action = 0 && h.stamp.isNone then { h with stamp := some s.nowShort } else h) }))

/-- SUBJ_IN has been deasserted for t_wait (R508). -/
def waited (s : State) : Bool :=
  if isUnitA s || hbArrives s then true
  else
    let t := max s.cnj.goneAt (max s.cnj.released s.cnj.inLow)
    decide (t + s.get Reg.CNJ_TIME_TAKE_HOLD * 1000 ≤ s.freeNs)

/-- The peer yields, so that in Q5800-compatible mode the taker need not wait for SUBJ_IN (R513). -/
def q58Take (s : State) : Bool := s.bit Reg.CNJ_CFG_Q58 && hbArrives s && peerFlag s 1

/-- One evaluation of the role rules but for urgent releases. In Q5800-compatible mode the taker enables its drivers from TAKING on. -/
def roleEval (s : State) : State :=
  if !pairRuns s || !s.bit Reg.GEN_STRAP_PAIR_EN then s
  else
    let d := decisionD s
    let r := role s
    if r = 0 then
      (if d = some true && ((!s.bit Reg.CNJ_STAT_SUBJ_IN && waited s) || q58Take s) then
         let s := setRole s 1 (roleCause s) 0
         let s := s.setCnj (fun c => { c with subjOut := true, subjAt := s.freeNs, guardFrom := s.freeNs })
         showPair (if s.bit Reg.CNJ_CFG_Q58 then raiseDrivers s else s)
       else s)
    else if r = 1 then
      (if d != some true then
         becomeObject (s.flagIf (!isUnitA s) Flag.CNJ_TAKE_CONTEND) (roleCause s)
       else s)
    else if r = 2 then
      (if d = some false then
         let cause := roleCause s
         let s := (setRole s 3 cause 0).setCnj (fun c => { c with releasing := s.freeNs })
         let s := if s.bit Reg.CNJ_CFG_Q58 then s else dropDrivers s false
         if driversOff s then becomeObject s cause else showPair s
       else s)
    else s

/-- An urgent release is due (R508): not eligible, or unit B with its peer absent and no valid arbiter decision. -/
def urgentDue (s : State) : Bool :=
  (role s = 1 || role s = 2 || role s = 3) &&
    (s.cnj.urgent.isSome || !eligible s || (!isUnitA s && !s.bit Reg.CNJ_STAT_PEER_PRESENT && (arbNames s).isNone))

/-- An urgent release: drivers go off at their inactive instants, and at the latest 1 µs after the cause; SUBJ_OUT is deasserted
then. -/
def urgentRelease (s : State) : State :=
  if !urgentDue s then s
  else
    let start := s.cnj.urgent.getD s.freeNs
    let s := s.setCnj (fun c => { c with urgent := some start })
    let s := dropDrivers s (decide (start + 1000 ≤ s.freeNs))
    if driversOff s then becomeObject s 5 else showPair s

/-- The safe state (R479): drivers off and the role given up at once. -/
def pairSafe (s : State) : State :=
  if pstate s = 0 then s else becomeObject (dropDrivers s true) 6

/-- On entry to a mode that is not eligible, the role is given up by an urgent release (R522). -/
def pairLeave (s : State) : State := if pairRuns s then urgentRelease (showPair s) else s

/-- At entry to SETUP with PAIR_EN = 1, the pair unit starts (R498). -/
def pairStart (s : State) : State :=
  if s.bit Reg.GEN_STRAP_PAIR_EN && pstate s = 0 then showPair (enterSearch s 3) else showPair s

/-! ### Handovers (R517, R520) -/

/-- A handover or a rehearsal runs. -/
def handoverRuns (s : State) : Bool :=
  s.cnj.yielding.isSome || s.cnj.take.isSome || s.cnj.hand.isSome || s.cnj.reh.isSome || role s = 1 || role s = 3 ||
    (hbArrives s && (peerRole s = 1 || peerRole s = 3))

/-- End a CNJ_HANDOVER of an ACTION with a status; OK has its applied stamp. -/
def endHand (s : State) (action status : Nat) (result : List Byte) : State :=
  match s.cnj.hand with
  | none => s
  | some h =>
    if h.action != action then s
    else
      let s := s.setCnj (fun c => { c with hand := none })
      if status = St.ok then
        let t := h.stamp.getD s.nowShort
        completeDesc (descApplied s h.w status t) h.w.d status false t result
      else refuseDesc s h.w status

/-- A rehearsal ends or is skipped: REHEARSAL journalled, CNJ_REH_STAT and CNJ_REH_TAKE shown, its command completed. -/
def endRehearsal (s : State) (outcome cause take1 take2 : Nat) : State :=
  let s := s.setCnj (fun c => { c with reh := none })
  let s := s.flagIf (outcome = 2) Flag.CNJ_REH_FAIL
  let s := if outcome = 2 then s.fire 68 else s
  let s := ((s.put Reg.CNJ_REH_STAT_OUTCOME outcome).putSatU Reg.CNJ_REH_TAKE_TAKE1 take1).putSatU Reg.CNJ_REH_TAKE_TAKE2 take2
  let s := s.publish Reg.CNJ_REH_STAT_VALID Reg.CNJ_REH_STAT_SEQ
  let times := leBytes 4 (satU 32 take1) ++ leBytes 4 (satU 32 take2)
  let s := s.journal (if outcome = 0 then 0 else 1) 0x0015 0x1506 (leBytes 1 outcome ++ leBytes 1 cause ++ leBytes 2 0 ++ times)
  endHand s 2 St.ok times

/-- The unit starts to yield, with ROLE_CHANGE's cause. -/
def startYield (s : State) (cause : Nat) : State := roleEval (s.setCnj (fun c => { c with yielding := some cause }))

/-- The Subject starts a rehearsal, or skips it with a cause (R517). -/
def startRehearsal (s : State) : State :=
  let peerService : Bool := s.get Reg.CNJ_STAT_PEER_MODE = 2 && peerFlag s 0
  if s.mode != .service || !eligible s || !peerService then endRehearsal s 1 1 0 0
  else if pstate s != 3 then endRehearsal s 1 2 0 0
  else if !pairAgreed s then endRehearsal s 1 3 0 0
  else
    let busy := handoverRuns { s with cnj := { s.cnj with hand := none } }
    if busy || role s != 2 then endRehearsal s 1 4 0 0
    else startYield (s.setCnj (fun c => { c with reh := some ⟨0, s.freeNs, 0⟩ })) 2

end Sys2Proof.Machine
end

