-- ==== Sys2Proof/Machine/Pair.lean ====
section
/-!
DEFINITION. The rows of the pair unit (spec/15_redundant_pair.md): frames sent and received, pins, time transfer and comparison,
roles, rehearsals, and its commands; with them CLA_SEQKEY, whose sharing R505 gives.
-/

namespace Sys2Proof.Machine

/-! ### Sending (R494, R500, R505, R518) -/

/-- Elapsed since an instant, or never. -/
def since (s : State) (t : Option Nat) (n : Nat) : Bool := match t with | some t => decide (t + n ≤ s.freeNs) | none => true

/-- The flags of a HEARTBEAT. -/
def hbFlags (s : State) : Nat :=
  let d := arbDecision s
  b2n (eligible s) + 2 * b2n s.cnj.yielding.isSome + 4 * b2n s.cnj.take.isSome + 8 * b2n (d != 0xFF) + 16 * b2n (d = 1)
    + 32 * b2n (s.bit Reg.CNJ_CFG_Q58) + 64 * b2n (pairAgreed s)

/-- The row HEARTBEAT_TX: every 1 µs, on each lane, in every pair state but OFF; HB_OUT toggles. -/
def execHeartbeatTx (s : State) : Out := .next <|
  if !pairRuns s || !since s s.cnj.hbTx 1000 then s
  else
    let h : HbPay := ⟨s.get Reg.GEN_STRAP_UNIT_ID, s.get Reg.GEN_MODE_MODE, role s, pstate s, hbFlags s, tsState s⟩
    let s := sendFrame s (.heartbeat h)
    s.setCnj (fun c => { c with hbTx := some s.freeNs, hbOut := !c.hbOut })

/-- The settings CFG_DIGEST covers (R506): MAC addresses, redundancy groups, bindings, stream and rule tables, KEY_ID and KCV of each
valid entry of the SAT, and the schedule entries of SHARED outputs. -/
def digestItems (s : State) : List Nat :=
  let bytes (l : List Byte) : List Nat := l.map (fun b => b.toNat)
  (List.range 8).map (macAddr s) ++
  (List.range 4).flatMap (fun g => [s.get (Reg.RG_CFG_MODE g), s.get (Reg.RG_CFG_PORT_A g), s.get (Reg.RG_CFG_PORT_B g)]) ++
  (List.range 64).flatMap (fun b => (List.range 8).map (fun k => s.loadWord ((Reg.PB_CFG_EN b).addr + 4 * k))) ++
  s.cla.streams.flatMap (fun p => p.1 :: bytes p.2) ++ s.cla.rules.flatMap (fun p => p.1 :: bytes p.2) ++
  (s.auth.sat.filter (fun p => p.2.valid)).flatMap (fun p => [p.1, p.2.keyId, kcvOf p.2.key]) ++
  (s.pls.entries.filter (fun p => p.2.target < 12 && isShared s p.2.target)).flatMap (fun p => p.1 :: bytes p.2.raw)

/-- CFG_DIGEST, recomputed. -/
def showDigest (s : State) : State := s.put Reg.CNJ_DIGEST_DIGEST (Config.cfgDigest (digestItems s) % 2 ^ 32)

/-- The row IDENT_TX: every 100 ms outside PAIRED and every 1 s in PAIRED. -/
def execIdentTx (s : State) : Out := .next <|
  if !pairRuns s || !since s s.cnj.identTx (if pstate s = 3 then 1000000000 else 100000000) then s
  else
    let s := showDigest s
    let p : IdentPay := ⟨0x9600, 0x20, s.get Reg.GEN_STRAP_UNIT_ID, s.get Reg.BOOT_STAT_RELEASE, s.bit Reg.CNJ_CFG_Q58,
      s.get Reg.CNJ_DIGEST_DIGEST⟩
    (sendFrame s (.ident p)).setCnj (fun c => { c with identTx := some s.freeNs })

/-- Markers and STATE frames are sent: PAIRED, and not in SAFE (R518). -/
def exchanges (s : State) : Bool := pairRuns s && pstate s = 3 && s.mode != .safe

/-- The unit is self-faulty, and has references (R515). -/
def verdictOf (s : State) : Nat :=
  let refs := (List.range 32).filter (fun i => i != 28 && isQual s i && 2 ≤ classOf s i)
  let good := refs.filter (fun i =>
    decide (absQ ((phiOf s i).getD 0) ≤ ((eRef s i + s.get Reg.CNJ_CMP1_CMP_MARG * 1000 : Nat) : Rat)))
  b2n (!refs.isEmpty && 2 * good.length < refs.length) + 2 * b2n (!refs.isEmpty)

/-- What a STATE frame says of this unit (R494, R504). -/
def ownState (s : State) : PeerState :=
  let (tt, ft) := traceableOf s
  ⟨s.coreWord, taiUtc s, b2n (utcValid s) + 2 * b2n (leap61 s) + 4 * b2n (leap59 s), clockClassOf s true,
   clockClassOf s false, timeSourceOf s, b2n tt + 2 * b2n ft, verdictOf s, stepsOf s, refIdOf s⟩

/-- The stamp of a marker at the PCS/PMA boundary, with the significance of port stamps (R24, R261); `ui` in 2⁻¹⁶ ns. -/
def markerStamp (s : State) (x : Edge) (ui : Rat) : Nat :=
  let u := (floorQ (crossing s x ui 0)).toNat
  u - u % 128

/-- A unit interval of CL0 and CL1 as transmitted (R257). -/
def linkUi (s : State) : Rat := txUi s (65536 * 4 / 25)

/-! ### Comparison and time transfer (R501, R502, R515) -/

/-- The larger of two core bounds: whether this unit's lies above the peer's (none: not bounded, the largest). -/
def boundAbove (own peer : Option Nat) : Option Bool :=
  match own, peer with
  | none, none => none
  | none, _ => some true
  | _, none => some false
  | some a, some b => if a = b then none else some (decide (b < a))

/-- The outcome of a disagreement that begins (R515): 0 flag only, 1 this unit reports, 2 the peer reports. -/
def compareOutcome (s : State) : Nat :=
  let own := bitOf (verdictOf s) 0
  let peer := match s.cnj.peer with | some p => bitOf p.verdict 0 | none => false
  if s.bit Reg.CNJ_CFG_DETECT then 0
  else if own && !peer then 1
  else if own && peer then
    (match boundAbove (encodedBound s.coreWord) (s.cnj.peer.bind (fun p => encodedBound p.gloss)) with
     | some b => if b then 1 else 2
     | none => if isUnitA s then 2 else 1)
  else if peer then 2 else 0

/-- PAIR_COMPARE is journalled and vector 68 fires. -/
def journalCompare (s : State) (begins : Bool) (outcome : Nat) : State :=
  let phi := (s.cnj.phi.map (fun p => p.1)).getD 0
  (s.journal (if 0 < outcome then 2 else 1) 0x0015 0x1505
    (leBytes 1 (b2n begins) ++ leBytes 1 (verdictOf s) ++ leBytes 1 ((s.cnj.peer.map (fun p => p.verdict)).getD 0) ++
      leBytes 1 outcome ++ leBytes 4 (satS 32 (roundQ (psOf phi))))).fire 68

/-- A disagreement begins. -/
def beginDisagree (s : State) : State :=
  let o := compareOutcome s
  let s := journalCompare (putStat s Reg.CNJ_STAT_DISAGREE 1) true o
  let s := s.flagIf (o = 0) Flag.CNJ_DISAGREE
  if s.bit Reg.CNJ_CFG_DETECT then s else check s 0x79 (o = 1)

/-- One epoch's comparison of φ_peer. -/
def compareEpoch (s : State) (phi : Int) : State :=
  let n := s.get Reg.CNJ_CMP_CMP_N
  let far : Bool := decide (s.get Reg.CNJ_CMP_CMP_THR * 64000 < absN phi * 125)
  let s := s.setCnj (fun c => { c with beyond := if far then c.beyond + 1 else 0, inside := if far then 0 else c.inside + 1 })
  let on := s.bit Reg.CNJ_STAT_DISAGREE
  if !on && n ≤ s.cnj.beyond then beginDisagree s
  else if on && n ≤ s.cnj.inside then journalCompare (putStat s Reg.CNJ_STAT_DISAGREE 0) false 0
  else s

/-- The shared 1PPS on channel PCH is compared, on the Object, at each of its windows (R515). -/
def comparePch (s : State) (c : Nat) : State :=
  if !s.bit Reg.CNJ_CFG_PCH_EN || s.get Reg.CNJ_CFG_PCH != c || role s != 0 || pstate s != 3 then s
  else
    let far : Bool := s.bit (Reg.RES_STAT_PHV c) && decide (s.get Reg.CNJ_CMP_CMP_THR * 64000 < absN (s.getPairS (Reg.RES_PHL_PH c) (Reg.RES_PHH_PH c)) * 125)
    let s := s.setCnj (fun k => { k with pchOver := if far then k.pchOver + 1 else 0 })
    if s.get Reg.CNJ_CMP_CMP_N ≤ s.cnj.pchOver && !s.bit Reg.CNJ_STAT_DISAGREE then beginDisagree s else s

/-- The row WINDOW_CLOSE, with the comparison of PCH. -/
def execWindowClose (c : Fin 24) (s : State) : Out := .next <|
  let s' := windowClose s c
  if s'.get (Reg.RES_STAT_SEQ c) = s.get (Reg.RES_STAT_SEQ c) then s' else comparePch s' c

/-- θ_l of one exchange, as φ_l = −θ_l in 2⁻⁹ ns (R501); the stamps are in 2⁻¹⁶ ns. -/
def phiLane (s : State) (l t1 t2 t3 t4 : Nat) : Int :=
  let x : Rat := ((((t2 : Int) - t1) - ((t4 : Int) - t3) : Int) : Rat) / 256
  let a : Rat := (s.getS (Reg.CNJ_ASYM_A l) : Rat)
  roundQ (-(x - (if isUnitA s then a else -a)))

/-- The stamp of `l` nearest to `t`. -/
def nearest (l : List Nat) (t : Nat) : Option Nat :=
  l.foldl (fun b x => match b with
    | none => some x
    | some y => if ((x : Int) - t).natAbs < ((y : Int) - t).natAbs then some x else some y) none

/-- Lanes in use for time transfer: UP and not CROSSED. -/
def timeLanes (s : State) : List Nat :=
  (List.range 2).filter (fun l => s.bit (Reg.CNJ_LSTAT_UP l) && !s.bit (Reg.CNJ_LSTAT_CROSSED l))

/-- Lane l's φ_l of an exchange completed at `epoch`. -/
def lanePhi (s : State) (epoch l : Nat) : Option Int :=
  match (s.cl l).exch with | some (e, p) => if e = epoch then some p else none | none => none

/-- φ_l of the lanes that completed an exchange at `epoch` and are not CROSSED (R502). -/
def epochPhis (s : State) (epoch : Nat) : List Int :=
  ((List.range 2).filter (fun l => !s.bit (Reg.CNJ_LSTAT_CROSSED l))).filterMap (lanePhi s epoch)

/-- Form φ_peer of an epoch: published, delivered to selection, compared (R502, R515). -/
def formPeer (s : State) (epoch : Nat) : State :=
  let ps := epochPhis s epoch
  if ps.isEmpty || s.cnj.lastEpoch = some epoch then s
  else
    let phi := roundQ (meanQ (ps.map (fun (p : Int) => (p : Rat))))
    let s := s.setCnj (fun c => { c with lastEpoch := some epoch, phi := some (phi, s.freeNs) })
    let s := s.putPairSat Reg.CNJ_PHL_PH Reg.CNJ_PHH_PH phi
    let s := s.publish Reg.CNJ_STAT_VALID Reg.CNJ_STAT_SEQ
    let s := s.feed 28 ⟨true, s.freeNs, epoch * msU, some phi, 0, 0, true, s.cnj.peer.map (fun p => encodedBound p.gloss), 0⟩
    let s := if ps.length < 2 then s
      else
        let apart : Bool := decide ((s.get Reg.CNJ_LINK_LANE_TOL : Rat) < absQ (psOf (ps.headD 0 - ps.getLastD 0)))
        let s := s.setCnj (fun c => { c with skew := if apart then c.skew + 1 else 0 })
        if s.cnj.skew = 16 then journalLane (s.setFlag Flag.CNJ_LANE_SKEW) 0 4 else s
    showPair (compareEpoch s phi)

/-- The latest epoch of which some lane's exchange is complete and whose mean is not formed yet. -/
def openEpoch (s : State) : Option Nat :=
  ((List.range 2).filterMap (fun l => (s.cl l).exch.map (fun e => e.1))).foldl
    (fun b e => if s.cnj.lastEpoch = some e then b else match b with | some x => some (max x e) | none => some e) none

/-- The row EPOCH_MARKER_TX: at each millisecond epoch, K28.1 on each lane, which leaves at `x0` and `x1`, and a STATE frame. An epoch of
which only one lane's exchange came in is completed now. -/
def execEpochMarkerTx (x0 x1 : Edge) (s : State) : Out := .next <|
  if !exchanges s || !s.atMs then s
  else
    let s := match openEpoch s with | some e => formPeer s e | none => s
    let one (s : State) (l : Nat) (e : Edge) : State :=
      let x := s.cl l
      let t := markerStamp s e (linkUi s)
      let s := s.setCl l { x with sent := (t :: x.sent).take 2 }
      sendOn s l (.state t (x.rcvd.headD 0) (ownState s))
    one (one s 0 x0) 1 x1

/-- The row EPOCH_MARKER_RX: a K28.1 received on lane l is stamped and delivered. -/
def execEpochMarkerRx (l : Fin 2) (x : MarkerIn) (s : State) : Out := .next <|
  if !laneTakes s l then s
  else
    let c := s.cl l
    s.setCl l { c with rcvd := (markerStamp s x.edge ((x.ui : Rat) / 65536) :: c.rcvd).take 2 }

/-- What the peer says of itself is kept, its core Gloss shown (R84, R504). -/
def notePeer (s : State) (p : PeerState) : State :=
  (s.setCnj (fun c => { c with peer := some p })).putPair Reg.CNJ_PGLSL_GLOSS Reg.CNJ_PGLSH_GLOSS (p.gloss % 2 ^ 64)

/-- φ_l of an exchange on lane l at an epoch is noted and shown; with it the epoch's mean is formed when no lane in use is still open. -/
def exchanged (s : State) (l epoch : Nat) (phi : Int) : State :=
  let s := s.setCl l { s.cl l with exch := some (epoch, phi) }
  let s := s.putSat (Reg.CNJ_LPH_PH l) (roundQ (psOf phi))
  if (timeLanes s).all (fun k => (lanePhi s epoch k).isSome) then formPeer s epoch else s

/-- The row STATE_FRAME_RX on lane l: the peer's values, and, where both markers' stamps are known, one exchange. -/
def execStateFrameRx (l : Fin 2) (h : LinkHdr) (t3 t2 : Nat) (p : PeerState) (s : State) : Out := .next <|
  if !laneTakes s l then s
  else
    let s := takeCseq s h.cseq.toNat
    if pstate s != 3 then s
    else
      let s := notePeer s p
      let s := if bitOf p.utc 0 then deliverOffset s 28 p.tai (classOf s 28 = 3) else s
      let s := if bitOf p.utc 1 then sourceLeap s 28 (endOfUtcDay s true) true
        else if bitOf p.utc 2 then sourceLeap s 28 (endOfUtcDay s false) false else s
      let s := settle s
      let x := s.cl l
      match nearest x.sent t2, nearest x.rcvd t3 with
      | some t1, some t4 =>
        let epoch := t3 / msU
        let s := match openEpoch s with | some e => if e < epoch then formPeer s e else s | none => s
        exchanged s l epoch (phiLane s l t1 t2 t3 t4)
      | _, _ => s

/-! ### Link rows -/

/-- What the first copy of a HEARTBEAT does: the peer's values, presence, an end of the yield, its take request. -/
def takeHeartbeat (s : State) (p : HbPay) : State :=
  let s := s.setCnj (fun c => { c with hb := some p })
  let s := putStat (putStat s Reg.CNJ_STAT_PEER_ROLE p.role) Reg.CNJ_STAT_PEER_MODE p.mode
  let s := setPresent s true 0
  let s := if p.role = 2 && s.cnj.yielding.isSome then
      let take := s.freeNs - s.cnj.released
      let s := s.setCnj (fun c => { c with
        yielding := none, reh := c.reh.map (fun r => if r.phase = 0 then ⟨1, s.freeNs, take⟩ else r) })
      endHand s 0 St.ok (leBytes 8 s.nowShort)
    else s
  if bitOf p.flags 2 && role s = 2 && s.cnj.yielding.isNone then s.setCnj (fun c => { c with yielding := some 1 }) else s

/-- The row HEARTBEAT_RX on lane l. -/
def execHeartbeatRx (l : Fin 2) (h : LinkHdr) (p : HbPay) (s : State) : Out := .next <|
  if !laneTakes s l then s
  else
    let s := takeCseq s h.cseq.toNat
    let cross : Bool := decide (h.lane ≠ l)
    let was := s.bit (Reg.CNJ_LSTAT_CROSSED l)
    let s := s.putB (Reg.CNJ_LSTAT_CROSSED l) cross
    let s := if cross && !was then journalLane s l 3 else s
    let s := s.setCl l { s.cl l with hbAt := some s.freeNs }
    let s := showLane s l
    let (s, fresh) := firstCopy s h.fseq.toNat
    showPair (if fresh then takeHeartbeat s p else s)

/-- The row HB_IN_EDGE: an edge keeps the peer present; the 16th in a row spaced 1 µs ± 100 ns restores it (R496). -/
def execHbInEdge (s : State) : Out := .next <|
  if !pairRuns s then s
  else
    let spaced : Bool := match s.cnj.hbIn with | some t => decide (t + 900 ≤ s.freeNs) && decide (s.freeNs ≤ t + 1100) | none => false
    let n := if spaced then s.cnj.hbInRun + 1 else 1
    let s := s.setCnj (fun c => { c with hbIn := some s.freeNs, hbInRun := min n 16 })
    showPair (if 16 ≤ n then setPresent s true 0 else s)

/-- Neither a HEARTBEAT nor an HB_IN edge has come for 8 µs. -/
def peerSilent (s : State) : Bool :=
  !hbFresh s 0 && !hbFresh s 1 && since s s.cnj.hbIn 8000

/-- The row PEER_ABSENCE_TIMEOUT. -/
def execPeerAbsenceTimeout (s : State) : Out := .next <|
  if !pairRuns s || !s.bit Reg.CNJ_STAT_PEER_PRESENT || !peerSilent s then s
  else
    let s := setPresent s false 3
    let s := showLane (showLane s 0) 1
    let p := pstate s
    showPair (if p = 2 || p = 3 || p = 4 then enterSearch s 1 else s)

/-- MISMATCH is left once the link has been down for 8 µs (R498). -/
def leaveMismatch (s : State) : State :=
  if pstate s = 5 && !s.bit Reg.CNJ_STAT_LINK_UP && s.cnj.downAt + 8000 ≤ s.freeNs then enterSearch s 0 else s

/-- The row LINK_HEARTBEAT_TIMEOUT: lane l has received no HEARTBEAT for 8 µs. -/
def execLinkHeartbeatTimeout (l : Fin 2) (s : State) : Out := .next <|
  if !pairRuns s || hbFresh s l then s
  else
    let s := showLane s l
    showPair (leaveMismatch s)

/-- The row LANE_SYNC_CHANGE: lane l gains or loses synchronisation (R260, R492). -/
def execLaneSyncChange (l : Fin 2) (sync : Bool) (s : State) : Out := .next <|
  if !pairRuns s then s else showPair (showLane (s.putB (Reg.CNJ_LSTAT_SYNC l) sync) l)

/-- The violations of lane l in the last second. -/
def recentVio (s : State) (l : Nat) : List Nat := (s.cl l).vio.filter (fun t => s.freeNs < t + 1000000000)

/-- The row LINK_VIOLATION: a frame on lane l is counted and discarded (R495). -/
def execLinkViolation (l : Fin 2) (s : State) : Out := .next <|
  if !laneTakes s l then s
  else
    let v := (s.freeNs :: recentVio s l).take 65535
    (s.setCl l { s.cl l with vio := v }).putSatU (Reg.CNJ_LSTAT_VIO_1S l) v.length

/-- As time passes, VIO_1S counts the violations of the last second (R495), CFG_DIGEST follows the settings it covers (R506), and
MISMATCH ends with the link. -/
def linkTick (s : State) : State :=
  if !pairRuns s then s
  else
    let one (s : State) (l : Nat) : State :=
      if (s.cl l).vio.isEmpty then s else s.putSatU (Reg.CNJ_LSTAT_VIO_1S l) (recentVio s l).length
    leaveMismatch (showDigest (one (one s 0) 1))

/-- The row LANE_RESTART: more than VIO_MAX violations in one second force loss of synchronisation. -/
def execLaneRestart (l : Fin 2) (s : State) : Out := .next <|
  if !laneTakes s l || (recentVio s l).length ≤ s.get Reg.CNJ_LINK_VIO_MAX then s
  else
    let s := journalLane (s.setFlag Flag.CNJ_RESYNC) l 2
    let s := check s 0x78 true
    let s := s.setCl l { s.cl l with vio := [], hbAt := none }
    showPair (showLane (s.putB (Reg.CNJ_LSTAT_SYNC l) false) l)

/-- The first item of R498 in which the peer differs: (item, own, peer's). -/
def identDiffers (s : State) (p : IdentPay) : Option (Nat × Nat × Nat) :=
  let own := s.get Reg.BOOT_STAT_RELEASE
  let q := b2n (s.bit Reg.CNJ_CFG_Q58)
  let u := s.get Reg.GEN_STRAP_UNIT_ID
  if p.part != 0x9600 then some (1, 0x9600, p.part)
  else if p.stepping != 0x20 then some (2, 0x20, p.stepping)
  else if p.release != own then some (3, own, p.release)
  else if b2n p.q58 != q then some (4, q, b2n p.q58)
  else if p.unit = u then some (5, u, p.unit)
  else none

/-- Entry to PAIRED: CSEQ merged (R35), unit A shares its key (R505). -/
def enterPaired (s : State) (cseq : Nat) : State :=
  let old := s.jr.cseq
  let s := { s with jr := { s.jr with cseq := max old cseq } }
  let s := s.journal 0 0x0008 0x0206 (leBytes 4 old ++ leBytes 4 (max old cseq))
  let s := setPstate s 3 2
  let s := s.setCnj (fun c => { c with beyond := 0, inside := 0, pchOver := 0, skew := 0, lastEpoch := none })
  let s := (s.setCl 0 { s.cl 0 with sent := [], rcvd := [], exch := none })
  let s := (s.setCl 1 { s.cl 1 with sent := [], rcvd := [], exch := none })
  if isUnitA s then
    s.setCnj (fun c => { c with keys := c.keys.filter (fun k => k.aseq.isSome) ++ [⟨s.cla.seqKey.getD 0, none, none, none, none⟩] })
  else s

/-- The peer's digest is compared with the own one (R506). -/
def compareDigest (s : State) (d : Nat) : State :=
  let s := (showDigest s).put Reg.CNJ_PDIGEST_DIGEST d
  let own := s.get Reg.CNJ_DIGEST_DIGEST
  let s := s.setCnj (fun c => { c with diff := if own = d then 0 else c.diff + 1 })
  if s.cnj.diff = 3 then
    ((s.setFlag Flag.CNJ_CFG_DIFF).journal 1 0x0015 0x150A (leBytes 4 own ++ leBytes 4 d)).fire 68
  else s

/-- An IDENT pairs the units now: from SEARCH or DETACHED, with the link up. -/
def joinsNow (s : State) : Bool := (pstate s = 1 || pstate s = 4) && s.bit Reg.CNJ_STAT_LINK_UP

/-- JOIN, and its outcome: PAIRED with an equal peer, MISMATCH with one that differs (R498). -/
def joinPeer (s : State) (p : IdentPay) (cseq : Nat) : State :=
  let s := setPstate s 2 2
  match identDiffers s p with
  | none => enterPaired s cseq
  | some (k, a, b) =>
    let s := setPstate (takeCseq s cseq) 5 2
    (s.setFlag Flag.CNJ_MISMATCH).journal 2 0x0015 0x1504 (leBytes 1 k ++ leBytes 1 0 ++ leBytes 2 a ++ leBytes 2 b)

/-- The row IDENT_RX on lane l. -/
def execIdentRx (l : Fin 2) (h : LinkHdr) (p : IdentPay) (s : State) : Out := .next <|
  if !laneTakes s l then s
  else
    let (s, fresh) := firstCopy s h.fseq.toNat
    if !fresh then takeCseq s h.cseq.toNat
    else
      let s := if joinsNow s then joinPeer s p h.cseq.toNat else takeCseq s h.cseq.toNat
      let s := showPair (compareDigest s (p.digest % 2 ^ 32))
      if s.tbLive then settle s else s

/-! ### The shared key (R505) -/

/-- The TB millisecond boundary at or after an instant. -/
def boundaryAt (u : Nat) : Nat := ceilDiv u msU * msU

/-- KEY_SHARED is journalled: 1 sent, 2 adopted. -/
def journalKey (s : State) (k inst : Nat) : State :=
  s.journal 0 0x0015 0x1509 (leBytes 1 k ++ leBytes 3 0 ++ leBytes 8 (shortOf inst))

/-- Replace the first key that satisfies `p`. -/
def mapFirstKey (p : KeySend → Bool) (f : KeySend → KeySend) : List KeySend → List KeySend
  | [] => []
  | k :: l => if p k then f k :: l else k :: mapFirstKey p f l

/-- A key is due to be sent: never sent, or not acknowledged for 1 ms. -/
def keyDue (s : State) (k : KeySend) : Bool := k.ackAt.isNone && since s k.sentAt 1000000

/-- The row KEY_TX: unit A sends its key, and again every 1 ms until it is acknowledged. -/
def execKeyTx (s : State) : Out := .next <|
  if !pairRuns s || pstate s != 3 || !isUnitA s then s
  else match s.cnj.keys.find? (keyDue s) with
    | none => s
    | some k =>
      let inst := k.adopt.getD (boundaryAt (s.tbU + 2 * msU))
      let s' := sendFrame s (.key k.key (shortOf inst))
      s'.setCnj (fun c => { c with
        keys := mapFirstKey (keyDue s) (fun k => { k with adopt := some inst, sentAt := some s.freeNs }) c.keys })

/-- The row KEY_RX on lane l: unit B acknowledges the frame and will adopt the key. -/
def execKeyRx (l : Fin 2) (h : LinkHdr) (k : BitVec 128) (adopt : Word64) (s : State) : Out := .next <|
  if !laneTakes s l then s
  else
    let s := takeCseq s h.cseq.toNat
    let (s, fresh) := firstCopy s h.fseq.toNat
    if !fresh || isUnitA s || pstate s != 3 then s
    else sendFrame (s.setCnj (fun c => { c with adopt := some (k.toNat, s.expand adopt.toNat) })) (.keyAck adopt.toNat)

/-- A key whose adoption instant the acknowledgement names, not acknowledged yet. -/
def awaitsAck (adopt : Word64) (k : KeySend) : Bool :=
  k.ackAt.isNone && (match k.adopt with | some t => shortOf t = adopt.toNat | none => false)

/-- A key acknowledged, not owed to a command, whose boundary has come. -/
def keyDone (s : State) (k : KeySend) : Bool :=
  k.aseq.isNone && k.ackAt.isSome && (match k.adopt with | some t => decide (t ≤ s.tbU) | none => false)

/-- The row KEY_ACK_RX on lane l: unit A's key with that adoption stamp is acknowledged. -/
def execKeyAckRx (l : Fin 2) (h : LinkHdr) (adopt : Word64) (s : State) : Out := .next <|
  if !laneTakes s l then s
  else
    let s := takeCseq s h.cseq.toNat
    let (s, fresh) := firstCopy s h.fseq.toNat
    if !fresh || !isUnitA s then s
    else
      s.setCnj (fun c => { c with keys := mapFirstKey (awaitsAck adopt) (fun k => { k with ackAt := some s.tbU }) c.keys })

/-- The row KEY_ADOPTION: at the boundary agreed, unit B adopts the key, and unit A's sharing is done. -/
def execKeyAdoption (s : State) : Out := .next <|
  if !pairRuns s then s
  else if isUnitA s then
    match s.cnj.keys.find? (keyDone s) with
    | some k => journalKey (s.setCnj (fun c => { c with keys := c.keys.filter (fun x => !keyDone s x) })) 1 (k.adopt.getD 0)
    | none => s
  else match s.cnj.adopt with
    | some (k, t) =>
      if t ≤ s.tbU then journalKey (installKey (s.setCnj (fun c => { c with adopt := none })) k) 2 t else s
    | none => s

/-- The 128-bit key of CLA_SEQKEY. -/
def seqKeyOf (d : Desc) : Nat := leNat d.op 0 16

/-- A shared key's boundary is reached. -/
def sharedDue (s : State) (d : Desc) : Bool :=
  s.cnj.keys.any (fun k => k.aseq.isSome && k.key = seqKeyOf d && (match k.adopt with | some t => decide (t ≤ s.tbU) | none => false))

/-- CLA_SEQKEY (R357, R358, R505). -/
def seqKeyOp : OpSpec where
  opcode := 0x0293
  check s d :=
    if !d.zero 32 63 || d.past = 2 then St.invalid
    else if pairOperation s && !isUnitA s then St.protect else 0
  due s d := s.atMs && (!(pairOperation s && isUnitA s) || sharedDue s d)
  apply s w :=
    let e := s.cnj.keys.find? (fun k => k.aseq = some w.aseq)
    let s' := s.setCnj (fun c => { c with keys := c.keys.filter (fun k => k.aseq != some w.aseq) })
    if pairOperation s && !isUnitA s then refuseDesc s w St.protect
    else if pairOperation s then
      (match e with
       | some k =>
         let t := k.adopt.getD 0
         let acked : Bool := match k.ackAt with | some a => decide (a + msU ≤ t) | none => false
         if acked then finishDesc (journalKey (installKey s' (seqKeyOf w.d)) 1 t) w St.ok [] else refuseDesc s' w St.busy
       | none => refuseDesc s' w St.busy)
    else finishDesc (installKey s' (seqKeyOf w.d)) w St.ok []
  periodic := false

/-- After a CLA_SEQKEY was accepted on unit A of a pair, its key is sent to unit B, to be adopted at the first boundary at or after
the later of EFFECTIVE_TIME and acceptance + 2 ms. -/
def shareKey (s : State) (before : Nat) : State :=
  match s.hif.waiting.getLast? with
  | some w =>
    if w.opcode = 0x0293 && w.aseq != before && pairOperation s && isUnitA s && !s.cnj.keys.any (fun k => k.aseq = some w.aseq) then
      let inst := boundaryAt (max (w.eff.getD 0) (w.accepted + 2 * msU))
      s.setCnj (fun c => { c with keys := c.keys ++ [⟨seqKeyOf w.d, some inst, none, none, some w.aseq⟩] })
    else s
  | none => s

/-- The row CLA_SEQKEY. -/
def execClaSeqkey (d : Desc) (s : State) : Out := .next (shareKey (submit seqKeyOp s d) (s.get Reg.HIF_ASEQ_ASEQ))

/-! ### Notices (R518) -/

/-- The row NOTICE_TX: the oldest notice is sent. -/
def execNoticeTx (s : State) : Out := .next <|
  match s.cnj.notices with
  | [] => s
  | n :: l =>
    if !pairRuns s then s
    else sendFrame (s.setCnj (fun c => { c with notices := l })) (.notice n.src n.cls n.flags n.stamp)

/-- The row NOTICE_RX on lane l: PEER_FAULT is journalled. -/
def execNoticeRx (l : Fin 2) (h : LinkHdr) (src : Byte) (cls : Fin 4) (flags : Byte) (stamp : Nat) (s : State) : Out := .next <|
  if !laneTakes s l then s
  else
    let s := takeCseq s h.cseq.toNat
    let (s, fresh) := firstCopy s h.fseq.toNat
    if !fresh then s
    else s.journal (min 3 (cls.val + 1)) 0x0015 0x1507
      (leBytes 1 src.toNat ++ leBytes 1 cls ++ leBytes 1 flags.toNat ++ leBytes 1 0 ++ leBytes 8 (shortOf stamp))

/-! ### Pins -/

/-- The row SUBJ_IN_CHANGE (R508, R509, R513). -/
def execSubjInChange (level : Bool) (s : State) : Out := .next <|
  if !s.bit Reg.GEN_STRAP_PAIR_EN || s.bit Reg.CNJ_STAT_SUBJ_IN = level then s
  else
    let s := putStat s Reg.CNJ_STAT_SUBJ_IN (b2n level)
    let q := s.bit Reg.CNJ_CFG_Q58
    if level then
      let s := s.setCnj (fun c => { c with inHigh := s.freeNs })
      let give : Bool := role s = 3 || (q && s.cnj.yielding.isSome)
      let s := if !q || give then dropDrivers s true else s
      let s := if q then s else check s 0x7A (!driversOff s)
      if !pairRuns s then s
      else if role s = 3 then becomeObject s (roleCause s)
      else if role s = 1 && !isUnitA s && !q58Take s then becomeObject (s.setFlag Flag.CNJ_TAKE_CONTEND) 7
      else showPair s
    else
      let long : Bool := q && !driversOff s && decide (s.cnj.inHigh + 2000 < s.freeNs)
      let s := if q then check s 0x7A long else s
      let s := s.setCnj (fun c => { c with inLow := s.freeNs, guardFrom := s.freeNs })
      showPair (if role s = 0 then roleEval s else s)

/-- The row ARB_VALID_CHANGE: ARB_VALID has been high for 100 ns and ARB_SEL is sampled, or it is low (R514). -/
def execArbValidChange (sel : Option Bool) (s : State) : Out := .next <|
  if !s.bit Reg.GEN_STRAP_PAIR_EN then s else showPair (s.setCnj (fun c => { c with arbPins := sel }))

/-! ### Roles -/

/-- The row ROLE_DECISION_CHANGE. -/
def execRoleDecisionChange (s : State) : Out := .next (roleEval s)

/-- The row GUARD_EXPIRY: SUBJ_IN stayed deasserted throughout T_GUARD, and the unit becomes SUBJECT; `undriven` is the measured
interval of the line in ns. -/
def execGuardExpiry (undriven : Nat) (s : State) : Out := .next <|
  let clear : Bool := !s.bit Reg.CNJ_STAT_SUBJ_IN && decide (s.cnj.guardFrom + s.get Reg.CNJ_TIME_T_GUARD ≤ s.freeNs)
  if !pairRuns s || role s != 1 || !(clear || q58Take s) || decisionD s != some true then s
  else
    let take := s.freeNs - s.cnj.inLow
    let cause := roleCause s
    let s := setRole s 2 cause undriven
    let s := s.setCnj (fun c => { c with take := none })
    let s := showPair (raiseDrivers s)
    let s := endHand s 1 St.ok []
    match s.cnj.reh with
    | some r => if r.phase = 2 then endRehearsal s 0 0 r.take1 take else s
    | none => s

/-- The row TAKE_HOLD_EXPIRY: unit B may take the role. -/
def execTakeHoldExpiry (s : State) : Out := .next (if role s = 0 && !isUnitA s then roleEval s else s)

/-- The row DRIVER_INACTIVE_INSTANT: output n is at its first inactive instant. -/
def execDriverInactiveInstant (n : Fin 12) (s : State) : Out := .next <|
  if !pairRuns s then s
  else
    let off : Bool := s.cnj.urgent.isSome || (role s = 3 && !s.bit Reg.CNJ_CFG_Q58)
    if off then
      let s := setDrv s (setBit s.cnj.drv n false)
      if driversOff s then becomeObject s (if s.cnj.urgent.isSome then 5 else roleCause s) else s
    else if interlock s && (role s = 2 || (s.bit Reg.CNJ_CFG_Q58 && role s = 1)) then setDrv s (setBit s.cnj.drv n true)
    else s

/-- The row URGENT_RELEASE. -/
def execUrgentRelease (s : State) : Out := .next (if pairRuns s then urgentRelease s else s)

/-- The row RELEASE_DEADLINE: 1 s after entering RELEASING, the drivers still enabled are disabled. -/
def execReleaseDeadline (s : State) : Out := .next <|
  if !pairRuns s || role s != 3 || s.freeNs < s.cnj.releasing + 1000000000 then s
  else becomeObject (dropDrivers s true) (roleCause s)

/-- The instant of a scheduled rehearsal (R517). -/
def rehearsalDue (s : State) : Bool :=
  let p := s.get Reg.CNJ_REH_REH_H * 3600
  s.reached (p * secU) (s.get Reg.CNJ_REH_REH_TOD * secU + s.get Reg.CNJ_REH1_REH_NS * 65536)

/-- The row REHEARSAL_START. -/
def execRehearsalStart (s : State) : Out := .next <|
  if !pairRuns s || !s.bit Reg.CNJ_CFG_REH_EN || s.bit Reg.CNJ_CFG_DETECT || !rehearsalDue s || role s != 2 then s
  else startRehearsal s

/-- The row REH_DWELL_EXPIRY: the handover back starts, by this unit's take request. -/
def execRehDwellExpiry (s : State) : Out := .next <|
  match s.cnj.reh with
  | some r =>
    if pairRuns s && r.phase = 1 && r.since + s.get Reg.CNJ_REH2_REH_DWELL * 1000000000 ≤ s.freeNs then
      s.setCnj (fun c => { c with take := some 2, reh := some { r with phase := 2, since := s.freeNs } })
    else s
  | none => s

/-- The row REH_LIM_EXPIRY: a take has not completed within REH_LIM of the releasing unit's deassertion. -/
def execRehLimExpiry (s : State) : Out := .next <|
  let lim := s.get Reg.CNJ_REH2_REH_LIM * 1000
  let away : Bool := s.cnj.yielding.isSome && role s = 0 && s.cnj.released + lim ≤ s.freeNs
  let back : Bool := s.cnj.take.isSome && role s != 2 && !s.bit Reg.CNJ_STAT_SUBJ_IN &&
    max s.cnj.inLow ((s.cnj.reh.map (fun r => r.since)).getD 0) + lim ≤ s.freeNs
  if !pairRuns s || !(away || back) then s
  else
    let s := s.setCnj (fun c => { c with yielding := if away then none else c.yielding, take := if back then none else c.take })
    let s := endHand s (if away then 0 else 1) St.busy []
    match s.cnj.reh with
    | some r => if (away && r.phase = 0) || (back && r.phase = 2) then endRehearsal s 2 0 r.take1 0 else s
    | none => s

/-! ### Commands (R519–R521) -/

/-- Registers in the order of CNJ_SET's MASK. -/
def cnjAddrs : List Nat := (List.range 10).map (fun k => 0x150000 + 4 * k)

/-- REH_TOD is taken modulo REH_H × 3,600. -/
def normReh (s : State) : State :=
  s.put Reg.CNJ_REH_REH_TOD (s.get Reg.CNJ_REH_REH_TOD % (s.get Reg.CNJ_REH_REH_H * 3600))

/-- CNJ_SET (R519, R521). -/
def cnjSetOp : OpSpec where
  opcode := 0x02D0
  check _ d :=
    if d.u8 16 != 0 || 2 ≤ d.u8 17 || 1024 ≤ d.u16 18 || !d.zero 60 63 || d.past = 2 ||
      strayValue d (d.u16 18) cnjAddrs then St.invalid else 0
  due s _ := s.atMs
  apply s w :=
    let q := s.get Reg.CNJ_CFG_Q58
    let s' := normReh ((storeMasked s w.d (w.d.u16 18) cnjAddrs).put Reg.CNJ_CFG_Q58 q)
    let asym : Bool := (List.range 2).any (fun l => s.get (Reg.CNJ_ASYM_A l) != s'.get (Reg.CNJ_ASYM_A l))
    let force := bitOf (w.d.u8 17) 0
    if s.get Reg.CNJ_CFG_DETECT != s'.get Reg.CNJ_CFG_DETECT && handoverRuns s then refuseDesc s w St.busy
    else if asym && isNamed s 28 && !force then refuseDesc s w St.protect
    else
      let s' := if asym && force then dqRefs s' [28] 9 else s'
      finishDesc (showPair s') w St.ok []
  periodic := false

/-- The row CNJ_SET. -/
def execCnjSet (d : Desc) (s : State) : Out := .next (submit cnjSetOp s d)

/-- CNJ_HANDOVER (R520, R521). -/
def handoverOp : OpSpec where
  opcode := 0x02D1
  check _ d := if 2 < d.u8 16 || !d.zero 17 63 || d.past = 2 then St.invalid else 0
  due s _ := s.atMs
  apply s w :=
    let a := w.d.u8 16
    if (a = 0 && role s != 2) || (a = 1 && role s != 0) then refuseDesc s w St.invalid
    else if s.bit Reg.CNJ_CFG_DETECT || pstate s != 3 || !peerFlag s 0 || handoverRuns s then refuseDesc s w St.busy
    else
      let s := s.setCnj (fun c => { c with hand := some ⟨w, a, none⟩ })
      if a = 0 then startYield s 1
      else if a = 1 then s.setCnj (fun c => { c with take := some 1 })
      else startRehearsal (s.setCnj (fun c => { c with hand := some ⟨w, a, some s.nowShort⟩ }))
  periodic := false

/-- The row CNJ_HANDOVER. -/
def execCnjHandover (d : Desc) (s : State) : Out := .next (submit handoverOp s d)

end Sys2Proof.Machine
end

