-- ==== Sys2Proof/Machine/Clocks.lean ====
section
/-!
DEFINITION. The clocks (R18, R19, R204, R212, R218, R223–R226): OSCIN, the APLLs and their relocks, the stop of the TB clock, and
SYN_SET.
-/

namespace Sys2Proof.Machine

/-! ### APLL1's reference multiplier (R218) -/

/-- The phase-detector frequency of a multiplier stays within 5 to 200 MHz. -/
def mulOk (f c : Nat) : Bool :=
  let m := mulOf c
  5000000 * m.2 ≤ f * m.1 && f * m.1 ≤ 200000000 * m.2

/-- The distance of 10¹⁰ / (f × m) from the nearest integer. -/
def mulDist (f c : Nat) : Rat :=
  let m := mulOf c
  let q : Rat := ((10000000000 * m.2 : Nat) : Rat) / ((f * m.1 : Nat) : Rat)
  absQ (q - (roundQ q : Rat))

/-- The multiplier AUTO selects: the greatest distance, ×1 before ×2 before ÷2 on equal ones. -/
def autoMul (f : Nat) : Nat :=
  let l := [0, 1, 2].filter (mulOk f)
  match l with
  | [] => 0
  | a :: t => t.foldl (fun b c => if mulDist f b < mulDist f c then c else b) a

/-- The multiplier REFMUL puts in use; a setting out of the phase detector's range selects ×1 (log 33). -/
def usedMul (s : State) : Nat :=
  let f := s.get Reg.SYN_OSC_FREQ
  let c := s.get Reg.SYN_APLL1_CFG_REFMUL
  if f = 0 then 0 else if c = 3 then autoMul f else if mulOk f c then c else 0

/-! ### Loss and return of lock (R212) -/

/-- APLL k is locked. -/
def apllLocked (s : State) (k : Nat) : Bool := s.mapBit Reg.SYN_APLL_STAT_LOCK k

/-- Domain CY loses its clock (R366): what runs is halted, and the halt is reported. -/
def cyHalt (s : State) : State :=
  let s := haltOps (satPublish s (s.putB Reg.SAT_STAT_CY_RDY false))
  check ((s.setFlag Flag.SAT_CY_HALT).journal 2 0x0012 0x1203 (leBytes 3 0)) 0x0F true

/-- APLL k starts to relock (R212), for cause 0 loss, 1 OSCIN or 2 REFMUL: the outputs it serves are squelched, APLL1's relock
interrupts the lanes (R267), APLL2's stops domain CY, and DPLL0 follows APLL0. -/
def startRelock (s : State) (k cause : Nat) : State :=
  let was := apllLocked s k
  let s := (s.putMapBit Reg.SYN_APLL_STAT_LOCK k false).putMapBit Reg.SYN_APLL_STAT_RELOCK k true
  let s := { s with syn := { s.syn with relock := s.syn.relock.set (fun _ => 0) k cause } }
  if !was then s
  else
    let s := s.journal 2 0x0009 0x0902 (leBytes 1 k ++ leBytes 1 0 ++ leBytes 1 cause)
    if k = 0 then setDpllState s 0 1 (dpllRef s 0)
    else if k = 1 then portsClock (cutFrames (squelchFor s (fun n => outSrc s n = 4)))
    else cyHalt (squelchFor s (fun n => outSrc s n < 4))

/-- The row TB_CLOCK_STOP: AO finds no TB edge for 1 µs, and the time base stops (R19). -/
def execTbClockStop (s : State) : Out := .next <|
  if s.tbLive then { s with tb := { s.tb with stopped := true } } else s

/-- The row OSCIN_LOSS: the activity monitor finds OSCIN missing or off frequency (R204); no Gloss is bounded until the next device
reset (R19). -/
def execOscinLoss (s : State) : Out := .next <|
  if !s.bit Reg.SYN_OSC_OSCIN_OK then s
  else
    let s := (s.putB Reg.SYN_OSC_OSCIN_OK false).setFlag Flag.SYN_OSCIN_LOSS
    check { s with tb := { s.tb with unbounded := true } } 0x03 true

/-- The row APLL_LOSS_OF_LOCK: APLL k's lock detector finds it out of lock. -/
def execApllLossOfLock (k : Fin 3) (s : State) : Out := .next <|
  if !apllLocked s k then s
  else
    let s := startRelock s k (if s.bit Reg.SYN_OSC_OSCIN_OK then 0 else 1)
    let s := if k.val = 0 then { s with tb := { s.tb with unbounded := true } } else s
    check (s.setFlag Flag.SYN_APLL_LOL) (4 + k) true

/-- The row OSCIN_RETURN: OSCIN is back after a loss, and every APLL relocks on it (R212). -/
def execOscinReturn (s : State) : Out := .next <|
  if s.bit Reg.SYN_OSC_OSCIN_OK || !s.tb.running then s
  else (List.range 3).foldl (fun s k => startRelock s k 1) (s.putB Reg.SYN_OSC_OSCIN_OK true)

/-- The time base starts at APLL0's first lock, counter and offset zero (R18), and its snapshot is valid (R56); SV0 and SV1 leave reset (R556). -/
def startTb (s : State) : State :=
  { s with
    tb := { s.tb with running := true, stopped := false, unbounded := false, cyc := 0, ofs := 0 },
    sys := { s.sys with step := 3, engReset := setBit (setBit s.sys.engReset 18 false) 19 false } }.putB Reg.TNS_TBS_STAT_VALID true

/-- The row APLL_LOCK: APLL k achieves lock. APLL0 is started once SYN_OSC is loaded, APLL1 and APLL2 when APLL0 first locks
(R204). -/
def execApllLock (k : Fin 3) (s : State) : Out := .next <|
  if apllLocked s k || s.sys.step < 2 || (k.val != 0 && !s.tb.running) then s
  else
    let cause := s.syn.relock.get (fun _ => 0) k.val
    let again := s.mapBit Reg.SYN_APLL_STAT_RELOCK k.val
    let s := if k.val = 0 && !s.tb.running then startTb s else s
    let s := (s.putMapBit Reg.SYN_APLL_STAT_LOCK k.val true).putMapBit Reg.SYN_APLL_STAT_RELOCK k.val false
    let s := { s with syn := { s.syn with relock := s.syn.relock.set (fun _ => 0) k.val 0 } }
    let s := s.journal 0 0x0009 0x0902 (leBytes 1 k.val ++ leBytes 1 1 ++ leBytes 1 cause)
    if k.val = 0 then setDpllState s 0 2 (dpllRef s 0)
    else if k.val = 1 then windowEvent (restartFor (s.put Reg.SYN_APLL1_CFG_REFMUL_USED (usedMul s)) 1) 4 0 250000000
    else
      let s := satPublish s (s.putB Reg.SAT_STAT_CY_RDY true)
      let s := if again then s.journal 2 0x0012 0x1203 (leBytes 1 1 ++ leBytes 2 0) else s
      windowEvent (restartFor s 2) 5 0 1000000

/-! ### SYN_SET (R223, R224, R226) -/

/-- DPLL registers in the order of MASK. -/
def dpllAddrs (k : Nat) : List Nat := (List.range 3).map (fun i => 0x090100 + 0x40 * k + 4 * i)

/-- Output registers in the order of MASK. -/
def outAddrs (n : Nat) : List Nat := (List.range 8).map (fun i => 0x091000 + 0x80 * n + 4 * i)

/-- After SYN_APLL1_CFG was stored: a change of the multiplier relocks APLL1. -/
def refmulStored (s : State) (old : Nat) : State :=
  if s.get Reg.SYN_APLL1_CFG_REFMUL = old || !apllLocked s 1 then s else startRelock s 1 2

/-- After DPLL_CFG was stored over registers `s0`: a change of REF enters ACQUIRE, and EN = 0 stops the DPLL and its outputs
(R206). -/
def dpllStored (s0 s : State) (k : Nat) : State :=
  let st := s.get (Reg.DPLL_STAT_STATE k)
  if k = 0 then s
  else if !s.bit (Reg.DPLL_CFG_EN k) then
    if st = 0 then s else disableDpll s k (dpllRef s k)
  else if s.get (Reg.DPLL_CFG_REF k) != s0.get (Reg.DPLL_CFG_REF k) && st != 0 then
    enterAcquire (s.setDpll k { s.dpll k with ref := dpllRef s k }) k (dpllRef s k) true
  else s

/-- The registers of output n with SYN_SET's values stored; EN keeps its value. -/
def outPreview (s : State) (d : Desc) (n : Nat) : State :=
  let s' := storeMasked s d (d.u16 18) (outAddrs n)
  normOut (s'.put (Reg.OUT_CFG_EN n) (s.get (Reg.OUT_CFG_EN n))) n

/-- SYN_SET to an output of OUT_UDIST alone: stored at once, also among values that wait for a falling edge. -/
def synSetUdist (s : State) (w : Waiting) (n : Nat) : State :=
  let s' := storeMasked s w.d (w.d.u16 18) (outAddrs n)
  let a := 0x09101C + 0x80 * n
  let o := s'.out n
  finishDesc (s'.setOut n { o with reload := o.reload.map (fun p => if p.1 = a then (a, s'.loadWord a) else p) }) w St.ok []

/-- SYN_SET to an output: UDIST alone acts at once; anything else stops a running output, and its values are stored at the final
falling edge (R224). -/
def synSetOut (s : State) (w : Waiting) (n : Nat) : State :=
  let d := w.d
  let s' := outPreview ((s.out n).reload.foldl (fun s p => s.storeWord p.1 p.2) s) d n
  if d.u16 18 / 128 * 128 = d.u16 18 then synSetUdist s w n
  else if outCfgErr s' n then refuseDesc s w St.invalid
  else if s'.regs = s.regs then finishDesc s w St.ok []
  else
    let st := outState s n
    if st = 0 || st = 5 then finishDesc (showOut s' n) w St.ok []
    else if st = 1 then
      finishDesc (requestStop (showOut s' n) n 0 d.tag.toNat false true false) w St.ok []
    else
      let l := (outAddrs n).map (fun a => (a, s'.loadWord a))
      let s := s.setOut n { s.out n with reload := l }
      finishDesc (if st = 4 then s else requestStop s n 0 d.tag.toNat false true false) w St.ok []

/-- The registers SYN_SET's MASK selects for a TARGET. -/
def synAddrs (t : Nat) : List Nat := if t < 4 then dpllAddrs t else if t = 255 then [0x090008, 0x09000C, 0x090010] else outAddrs (t - 16)

/-- SYN_SET (R223, R224). A running output that is stopped restarts; one that is stopping keeps its stop. -/
def synSetOp : OpSpec where
  opcode := 0x0250
  check _ d :=
    let t := d.u8 16
    let lim := if t < 4 then 8 else if t = 255 then 8 else 256
    if !(t < 4 || (16 ≤ t && t < 28) || t = 255) || 2 ≤ d.u8 17 || lim ≤ d.u16 18 || !d.zero 52 63 || d.past = 2 then St.invalid
    else if t = 0 && d.u16 18 / 2 * 2 != d.u16 18 then St.invalid
    else if t = 0 && 4 ≤ d.u16 18 then St.invalid
    else if strayValue d (d.u16 18) (synAddrs t) then St.invalid else 0
  due s _ := s.atMs
  apply s w :=
    let d := w.d
    let t := d.u8 16
    let force := bitOf (d.u8 17) 0
    if t < 4 then
      let s' := storeMasked s d (d.u16 18) (dpllAddrs t)
      let guarded : Bool := t = 1 &&
        [Reg.DPLL_CFG_REF 1, Reg.DPLL_CFG_BW 1, Reg.DPLL_CFG_EN 1].any (fun f => s.get f != s'.get f)
      if guarded && !force then refuseDesc s w St.protect
      else finishDesc (dpllStored s s' t) w St.ok []
    else if t = 255 then
      let s' := storeMasked s d (d.u16 18) [0x090008, 0x09000C, 0x090010]
      let old := s.get Reg.SYN_APLL1_CFG_REFMUL
      if s'.get Reg.SYN_APLL1_CFG_REFMUL != old && !force then refuseDesc s w St.protect
      else finishDesc (esmcLevels (refmulStored s' old)) w St.ok []
    else synSetOut s w (t - 16)
  periodic := false

/-- The row SYN_SET. -/
def execSynSet (d : Desc) (s : State) : Out := .next (submit synSetOp s d)

end Sys2Proof.Machine
end

