-- ==== Sys2Proof/Machine/Observe.lean ====
section
/-!
DEFINITION. Observation (spec/16_observation.md): performance counters, freeze and snapshot, port bandwidth, PF1 pages,
sampling, the journal window and export, and the Sceat trace.
-/

namespace Sys2Proof.Machine

/-! ### Performance counters (R525–R528) -/

/-- Offset of a counter from the common count. -/
def pcOff (s : State) (i : Nat) : Nat := s.obs.pcOff.get (fun _ => 0) i

/-- Value of performance counter i (R525). -/
def pcVal (s : State) (i : Nat) : Nat := (s.obs.pcBase + pcOff s i) % 2 ^ 48

/-- Set counter i. -/
def setPc (s : State) (i v : Nat) : State :=
  { s with obs := { s.obs with
      pcOff := s.obs.pcOff.set (fun _ => 0) i ((v + 2 ^ 48 - s.obs.pcBase % 2 ^ 48) % 2 ^ 48) } }

/-- EVENT and INST of the table of R527; others store EVENT 0x000, INST 0. -/
def pcSelValid (e i : Nat) : Bool :=
  if e = 0x000 || e = 0x012 || e = 0x013 || e = 0x070 || e = 0x071 then i = 0
  else if e = 0x001 then i ≤ 4
  else if e = 0x010 then i ≤ 31
  else if e = 0x011 then i ≤ 63
  else if 0x020 ≤ e && e ≤ 0x023 then i ≤ 19
  else if (0x030 ≤ e && e ≤ 0x031) || (0x040 ≤ e && e ≤ 0x044) || (0x060 ≤ e && e ≤ 0x061) then i ≤ 7
  else if 0x050 ≤ e && e ≤ 0x053 then i ≤ 3
  else false

/-- Store rule of PC_SEL (R527). -/
def normPcSel (s : State) (i : Nat) : State :=
  if pcSelValid (s.get (Reg.PC_SEL_EVENT i)) (s.get (Reg.PC_SEL_INST i)) then s
  else (s.put (Reg.PC_SEL_EVENT i) 0).put (Reg.PC_SEL_INST i) 0

/-- The transaction is with domain CY: it waits for an AEAD operation or its seal, in a slot of its engine's core (R364). -/
def onCrypto (t : Txn) : Bool := match t.stage with | .op _ => true | .seal => true | _ => false

/-- The level of a level source now (R527); 0 for an event source. Levels of engine contexts that the model holds nothing of
read 0 (log 20). -/
def pcLevel (s : State) (e i : Nat) : Nat :=
  if e = 0x001 then b2n (s.get Reg.TNS_STAT_STATE = i)
  else if e = 0x010 then
    (if i = 20 then s.hif.iq20.length else if i = 21 then s.get Reg.HIF_PEND_PEND
     else if i < 16 then (s.cla.queue.filter (fun q => q.engine = i)).length
     else if i = 16 then s.cla.ctrlq.length
     else if i = 27 then s.obs.staged.length else if i = 30 then s.cnj.notices.length else 0)
  else if e = 0x011 then ringUsed s i
  else if e = 0x012 then s.fab.landing.length
  else if e = 0x013 then s.get Reg.HIF_PEND_PEND
  else if e = 0x021 then (s.cla.flight.filter (fun t => t.engine = i)).length
  else if e = 0x022 then (s.cla.flight.filter (fun t => t.engine = i && onCrypto t)).length
  else if e = 0x023 then (s.fab.waiting.filter (fun q => q.m = i)).length
  else if e = 0x031 then ((s.fab.waiting.filter (fun q => q.t = i)).map (fun q => q.m)).dedup.length
  else if e = 0x061 then (s.cla.flight.filter (fun t => t.engine / 2 = i && onCrypto t)).length
  else if e = 0x052 then s.get (Reg.CLS_OCC_OCC i)
  else if e = 0x053 then s.get (Reg.CLS_Q_Q_EFF i)
  else 0

/-- Advance of a counter in one TB cycle (R526). -/
def pcAdvance (s : State) (i : Nat) : Nat :=
  let e := s.get (Reg.PC_SEL_EVENT i)
  let inst := s.get (Reg.PC_SEL_INST i)
  let v := if e = 0 then 1 else s.obs.ev.get (fun _ => 0) (e * 256 + inst) + pcLevel s e inst
  let m := s.get (Reg.PC_SEL_MODE i)
  if m = 0 || m = 3 then v else if m = 1 then b2n (1 ≤ v) else b2n (s.get (Reg.PC_THR_THR i) < v)

/-- Whether register key `k` belongs to the counter group, and its counter. -/
def pcOfKey (k : Nat) : Option Nat :=
  let a := k / 32
  if 0x161000 ≤ a && a < 0x161000 + 0x10 * 1024 then some ((a - 0x161000) / 0x10) else none

/-- Counters whose selection or threshold differs from reset: their registers are listed. -/
def pcSelected (s : State) : List Nat := (s.regs.filterMap (fun p => pcOfKey p.1)).dedup

/-- Bit 47 of a counter changed: PC_HALF, and an event of TYPE 0x0160 (R525). -/
def pcHalf (s : State) (i old new : Nat) : State :=
  if old / 2 ^ 47 = new / 2 ^ 47 then s
  else
    let s := s.setFlag Flag.OBS_PC_HALF
    if s.bit Reg.OBS_EVT_CFG_NOTIFY then
      postEvent s (s.get Reg.OBS_EVT_CFG_EVRING) 0x0160 i s.nowU (leBytes 1 (new / 2 ^ 47))
    else s

/-- A change of a counter's selection or threshold clears it (R528). -/
def changePc (s : State) (i : Nat) (store : State → State) : State :=
  pcHalf (setPc (normPcSel (store s) i) i 0) i (pcVal s i) 0

/-- All counters over one TB cycle: those not at their reset selection advance by their own source. -/
def pcTick (s : State) : State :=
  let clear (s : State) : State := { s with obs := { s.obs with ev := [] } }
  if s.bit Reg.OBS_STAT_FROZEN then clear s
  else
    let sel := pcSelected s
    let own := (sel ++ s.obs.pcOff.map (·.1)).dedup
    let old := own.map (fun i => (i, pcVal s i))
    let adv := sel.map (fun i => (i, pcVal s i + pcAdvance s i))
    let base : Nat := s.obs.pcBase
    let s1 : State := { s with obs := { s.obs with pcBase := (base + 1) % 2 ^ 48 } }
    let s1 : State := adv.foldl (fun s p => setPc s p.1 (p.2 % 2 ^ 48)) s1
    let s1 : State := old.foldl (fun s p => pcHalf s p.1 p.2 (pcVal s p.1)) s1
    let turned : Bool := (base / 2 ^ 47 : Nat) != (s1.obs.pcBase / 2 ^ 47 : Nat)
    let s1 : State := if !turned then s1 else
      ((List.range 1024).filter (fun i => !(own.contains i))).foldl (fun s i => pcHalf s i base s1.obs.pcBase) s1
    clear s1

/-! ### Freeze and snapshot (R529, R544) -/

/-- Freeze or unfreeze the counters, in the field and the status (R529). -/
def setFreeze (s : State) (b : Bool) : State :=
  ((s.putB Reg.OBS_PC_CTL_FREEZE b).putB Reg.OBS_STAT_FROZEN b).publish Reg.OBS_STAT_VALID Reg.OBS_STAT_SEQ

/-- A MAC counter as it stood at the start of this TB cycle. -/
def macAtStart (s : State) (p k : Nat) : Nat :=
  (s.getPair (Reg.MAC_CNT_LO_CNT p k) (Reg.MAC_CNT_HI_CNT p k) + 2 ^ 48 - s.lan.fresh.get (fun _ => 0) (p * 64 + k) % 2 ^ 48) % 2 ^ 48

/-- Copy every performance and MAC counter into the bank, as they stood at the start of this cycle (R529, R549). -/
def takeSnapshot (s : State) : State :=
  let mac := (List.range 8).foldl (fun m p => (List.range 44).foldl (fun m k =>
    SMap.set (fun _ => 0) (p * 64 + k) (macAtStart s p k) m) m) ([] : SMap Nat)
  let s := { s with obs := { s.obs with snapBase := s.obs.pcBase, snapOff := s.obs.pcOff, snapMac := mac } }
  let s := ((s.put Reg.OBS_SNAP_NS_NS (tbNs s.nowU)).put Reg.OBS_SNAP_SECL_SEC (tbSec s.nowU)).put Reg.OBS_SNAP_CSEQ_CSEQ s.jr.cseq
  let s := (s.publish Reg.OBS_SNAP_STAT_VALID Reg.OBS_SNAP_STAT_SEQ).setFlag Flag.OBS_SNAP_DONE
  let seq := s.get Reg.OBS_SNAP_STAT_SEQ
  let s := s.journal 0 0x0016 0x1601 (leBytes 1 seq ++ leBytes 1 (b2n (s.bit Reg.OBS_STAT_FROZEN)))
  (s.stage 3 s.nowShort (leBytes 1 seq)).fire 70

/-- The row OBS_PC_SNAP: a SETUP write of SNAP. -/
def execObsPcSnap (s : State) : Out := .next (if s.mode = .setup then takeSnapshot s else s)

/-- The row OBS_PC_FREEZE: a SETUP write of FREEZE. -/
def execObsPcFreeze (b : Bool) (s : State) : Out := .next (if s.mode = .setup then setFreeze s b else s)

/-- OBS_SNAP (R544, R547): applied in the first TB cycle at or after its effective time. -/
def obsSnapOp : OpSpec where
  opcode := 0x02E2
  check _ d := if 2 < d.u8 16 || !d.zero 17 63 || d.past = 2 then St.invalid else 0
  due _ _ := true
  apply s w :=
    if w.d.u8 16 = 0 then
      let s := takeSnapshot s
      finishDesc s w St.ok (leBytes 1 (s.get Reg.OBS_SNAP_STAT_SEQ))
    else finishDesc (setFreeze s (w.d.u8 16 = 1)) w St.ok []
  periodic := false

/-- The row OBS_SNAP. -/
def execObsSnap (d : Desc) (s : State) : Out := .next (submit obsSnapOp s d)

/-! ### Settings (R543) -/

/-- Sampler countdown load: PERIOD, or with RAND a value drawn from PERIOD ± ⌊PERIOD/4⌋; the LFSR is not given, so the draw is
a free value (R533, log 4). -/
def loadCountdown (s : State) (e : Nat) : State :=
  let p := s.get Reg.OBS_SMP_PER_PERIOD
  let (r, s) := if s.bit Reg.OBS_SMP_CFG_RAND then s.freeVal else (p / 4, s)
  let n := p - p / 4 + r % (2 * (p / 4) + 1)
  { s with obs := { s.obs with countdown := s.obs.countdown.set (fun _ => 0) e n } }

/-- Enabling the sampler resets HEAD and loads every countdown (R533, R535). -/
def samplerEdge (s : State) (was : Bool) : State :=
  let on := s.bit Reg.OBS_SMP_CFG_EN
  let s := (s.putB Reg.OBS_STAT_SMP_RUN on).publish Reg.OBS_STAT_VALID Reg.OBS_STAT_SEQ
  if on && !was then (List.range 16).foldl loadCountdown (s.put Reg.OBS_SMP_HEAD_HEAD 0) else s

/-- Global registers OBS_SET selects, in mask order. -/
def obsSetAddrs : List Nat := [0x160040, 0x160044, 0x160080, 0x160084, 0x160100, 0x160104]

/-- OBS_SET (R543, R547). -/
def obsSetOp : OpSpec where
  opcode := 0x02E1
  check _ d :=
    let t := d.u16 16
    if !(t < 1024 || t = 0xFFFF) || (if t = 0xFFFF then 64 else 4) ≤ d.u16 18 || !d.zero 44 63 || d.past = 2 ||
      strayValue d (d.u16 18) (if t = 0xFFFF then obsSetAddrs else [0x161000 + 0x10 * t, 0x161004 + 0x10 * t]) then St.invalid
    else 0
  due s _ := s.atMs
  apply s w :=
    let t := w.d.u16 16
    let m := w.d.u16 18
    let s := if t = 0xFFFF then
        let was := s.bit Reg.OBS_SMP_CFG_EN
        let s := (List.range 6).foldl (fun s k =>
          if bitOf m k then s.storeWord (obsSetAddrs.getD k 0) (maskedValue w.d m k) else s) s
        if bitOf m 4 then samplerEdge s was else s
      else if m = 0 then s
      else changePc s t (fun s =>
        let s := if bitOf m 0 then s.storeWord (0x161000 + 0x10 * t) (w.d.u32 20) else s
        if bitOf m 1 then s.storeWord (0x161004 + 0x10 * t) (maskedValue w.d m 1) else s)
    finishDesc s w St.ok []
  periodic := false

/-- The row OBS_SET. -/
def execObsSet (d : Desc) (s : State) : Out := .next (submit obsSetOp s d)

/-- The grants in force in the TB cycle of a change are those before it. -/
def noteGrants (s : State) : State :=
  if s.obs.grantAt = some s.tb.cyc then s
  else { s with obs := { s.obs with grantAt := some s.tb.cyc, grantWas := (List.range 5).map (fun k => s.get (Reg.OBS_GRANT_GRANT k)) } }

/-- Word k of OBS_GRANT is stored; GRANT_CHANGE is journalled when it changes. -/
def storeGrant (s : State) (k v : Nat) : State :=
  let old := s.get (Reg.OBS_GRANT_GRANT k)
  let s := s.storeWord (0x160060 + 4 * k) v
  let new := s.get (Reg.OBS_GRANT_GRANT k)
  if new = old then s else s.journal 0 0x0016 0x1603 (leBytes 1 k ++ leBytes 3 0 ++ leBytes 4 new ++ leBytes 4 old)

/-- OBS_GRANT (R545): one GRANT_CHANGE record per changed word, in ascending k (R549). -/
def obsGrantOp : OpSpec where
  opcode := 0x02E3
  check _ d := if !d.zero 36 63 || 512 ≤ d.u32 32 || d.past = 2 then St.invalid else 0
  due s _ := s.atMs
  apply s w :=
    let s := (List.range 5).foldl (fun s k => storeGrant s k (w.d.u32 (16 + 4 * k))) (noteGrants s)
    finishDesc s w St.ok []
  periodic := false

/-- The row OBS_GRANT. -/
def execObsGrant (d : Desc) (s : State) : Out := .next (submit obsGrantOp s d)

/-! ### Bandwidth (R530) -/

/-- The row BANDWIDTH_WINDOW for port p: the counts and rates of the window that ends now; SHORT when it was shorter than its
WIN. A change of WIN acts from this end on. -/
def execBandwidthWindow (p : Fin 8) (s : State) : Out := .next <|
  let win := s.obs.bwWin.get (fun _ => 100) p
  if !s.reached (win * msU) 0 then s
  else
    let rx := s.getPair (Reg.MAC_CNT_LO_CNT p 0) (Reg.MAC_CNT_HI_CNT p 0)
    let tx := s.getPair (Reg.MAC_CNT_LO_CNT p 26) (Reg.MAC_CNT_HI_CNT p 26)
    let drx := (rx + 2 ^ 48 - s.obs.bwRx.get (fun _ => 0) p) % 2 ^ 48
    let dtx := (tx + 2 ^ 48 - s.obs.bwTx.get (fun _ => 0) p) % 2 ^ 48
    let short := s.freeNs - s.obs.winStart.get (fun _ => 0) p < win * 1000000
    let s := (s.putPair (Reg.BW_RXO_LO_RX_OCT p) (Reg.BW_RXO_HI_RX_OCT p) drx).putPair (Reg.BW_TXO_LO_TX_OCT p) (Reg.BW_TXO_HI_TX_OCT p) dtx
    let s := (s.put (Reg.BW_RXR_RATE p) (drx * 8 / (win * 1000))).put (Reg.BW_TXR_RATE p) (dtx * 8 / (win * 1000))
    let s := (s.put (Reg.BW_END_NS p) (tbNs s.tbU)).putB (Reg.BW_STAT_SHORT p) short
    let s := s.publish (Reg.BW_STAT_VALID p) (Reg.BW_STAT_SEQ p)
    { s with obs := { s.obs with
        bwRx := s.obs.bwRx.set (fun _ => 0) p rx, bwTx := s.obs.bwTx.set (fun _ => 0) p tx,
        winStart := s.obs.winStart.set (fun _ => 0) p s.freeNs,
        bwWin := s.obs.bwWin.set (fun _ => 100) p (s.get Reg.OBS_BW_CFG_WIN) } }

/-! ### PF1 (R531, R532) -/

/-- A word of an observation page, as R531 lays it out. -/
def pageWord (s : State) (page off : Nat) : Nat :=
  let half (v : Nat) (hi : Bool) : Nat := if hi then v / 2 ^ 32 else v % 2 ^ 32
  if page < 64 then
    (if off < 0x80 then half (pcVal s (16 * page + off / 8)) (off % 8 = 4) else 0)
  else if page < 128 then
    (if off < 0x80 then
        half ((s.obs.snapBase + s.obs.snapOff.get (fun _ => 0) (16 * (page - 64) + off / 8)) % 2 ^ 48) (off % 8 = 4)
     else if off = 0xF00 then s.loadWord 0x160020
     else if off = 0xF04 then s.get Reg.OBS_SNAP_NS_NS
     else if off = 0xF08 then s.get Reg.OBS_SNAP_SECL_SEC
     else if off = 0xF0C then s.get Reg.OBS_SNAP_CSEQ_CSEQ else 0)
  else if page < 136 then
    (let p := page - 128
     if off < 352 then half (s.getPair (Reg.MAC_CNT_LO_CNT p (off / 8)) (Reg.MAC_CNT_HI_CNT p (off / 8))) (off % 8 = 4)
     else if 0x800 ≤ off && off < 0x820 then s.loadWord (0x160400 + 0x20 * p + (off - 0x800)) else 0)
  else if page = 136 then
    (if off ≤ 0x18 then s.loadWord (0x080000 + off) else if off = 0x40 then s.loadWord 0x130040 else 0)
  else 0

/-- Answer a host read. -/
def answerRead (s : State) (v : Nat) : State := { s with hif := { s.hif with response := some (true, v) } }

/-- The row PF1_PAGE_READ: a granted page reads as R531 gives; otherwise all ones, the denial counted (R532). In BOOT every
page is denied (R548). A read in the cycle in which OBS_GRANT is applied is served under the grants before it. -/
def execPf1PageRead (page : Fin 1024) (word : Fin 1024) (s : State) : Out := .next <|
  if s.mode = .test then s
  else if 136 < page.val then answerRead s 0
  else
    let granted := s.mode != .boot &&
      (if s.obs.grantAt = some s.tb.cyc then bitOf (s.obs.grantWas.getD (page / 32) 0) (page % 32)
       else s.mapBit (Reg.OBS_GRANT_GRANT (page / 32)) (page % 32))
    if granted then answerRead s (pageWord s page (4 * word))
    else answerRead ((s.bumpSat Reg.OBS_PF1_DENY_DENY 1).setFlag Flag.OBS_PF1_DENY) 0xFFFFFFFF

/-! ### Sampling (R533–R535) -/

/-- The 32 bytes of a sample record. -/
def Sample.bytes (x : Sample) : List Byte :=
  leBytes 8 x.stamp ++ leBytes 1 x.engine ++ leBytes 1 x.context ++ leBytes 1 x.role ++ leBytes 1 x.wait ++ leBytes 4 x.addr
    ++ leBytes 4 x.insn ++ leBytes 4 x.lat ++ leBytes 1 x.target ++ leBytes 3 0 ++ leBytes 4 x.cseq

/-- A buffer entry not yet written. -/
def Sample.zero : Sample := ⟨0, 0, 0, 0, 0, 0, 0, 0, 0, 0⟩

/-- Enter a sample into the buffer: with POLICY 0 a full buffer stops sampling (R535). -/
def enterSample (s : State) (x : Sample) : State :=
  let head := s.get Reg.OBS_SMP_HEAD_HEAD
  let s := { s with obs := { s.obs with samples := s.obs.samples.set (fun _ => Sample.zero) (head % 4096) x } }
  let s := (s.put Reg.OBS_SMP_HEAD_HEAD (head + 1)).stage 4 x.stamp x.bytes
  if 4096 ≤ head + 1 && !s.bit Reg.OBS_SMP_CFG_POLICY then
    (((s.putB Reg.OBS_SMP_CFG_EN false).putB Reg.OBS_STAT_SMP_RUN false).publish Reg.OBS_STAT_VALID Reg.OBS_STAT_SEQ).setFlag
      Flag.OBS_SMP_FULL
  else s

/-- The row SAMPLE_CAPTURE: Clause engine `e` retires `n` + 1 instructions; when that brings its countdown to 0, the last is
sampled with no skid and the countdown reloads (R533). -/
def execSampleCapture (e : Fin 16) (n : BitVec 24) (ctx : Fin 4) (wait : Fin 5) (addr insn lat : Word) (target : Fin 8)
    (s : State) : Out := .next <|
  let k := n.toNat + 1
  let s := s.perf 0x020 e k
  if !s.bit Reg.OBS_SMP_CFG_EN || !s.mapBit Reg.OBS_SMP_CFG_MASK e || bitOf s.sys.engReset e then s
  else
    let left := s.obs.countdown.get (fun _ => 0) e
    if k < left then
      { s with obs := { s.obs with countdown := s.obs.countdown.set (fun _ => 0) e (left - k) } }
    else
      let role := (s.get (Reg.CLA_ENG_MAP_ROLE (e.val / 8))) / 2 ^ (4 * (e.val % 8)) % 16
      let tgt := if wait.val = 1 || wait.val = 2 then target.val else 0xFF
      let s := enterSample s ⟨s.nowShort, e, ctx, role, wait, addr.toNat, insn.toNat, lat.toNat, tgt, s.jr.cseq⟩
      loadCountdown s.commitMark e

/-- The row OBS_SMP_WADDR: latches sample entry `i` into the window; ERR when it is not yet written. -/
def execObsSmpWaddr (i : BitVec 12) (s : State) : Out := .next <|
  if s.mode = .test then s
  else
    let s := s.put Reg.OBS_SMP_WADDR_INDEX i.toNat
    let ok := i.toNat < s.get Reg.OBS_SMP_HEAD_HEAD
    let bytes := if ok then (s.obs.samples.get (fun _ => Sample.zero) i.toNat).bytes else []
    let s := (s.putB Reg.OBS_SMP_WSTAT_VALID ok).putB Reg.OBS_SMP_WSTAT_ERR (!ok)
    (List.range 8).foldl (fun s k => s.put (Reg.OBS_SMP_WDATA_DATA k) (leNat bytes (4 * k) 4)) s

/-! ### The journal window and export (R538, R546) -/

/-- A JIDX is retained: at or above the tail and below the head (R538). -/
def jrnlRetained (s : State) (j : Nat) : Bool :=
  (j + 2 ^ 32 - s.get Reg.OBS_JRNL_TAIL_JIDX) % 2 ^ 32 <
    (s.get Reg.OBS_JRNL_HEAD_JIDX + 2 ^ 32 - s.get Reg.OBS_JRNL_TAIL_JIDX) % 2 ^ 32

/-- The journal slot of a JIDX. -/
def jrnlSlot (s : State) (j : Nat) : JSlot := s.jr.ring.get (fun _ => JSlot.zero) (j % jrnlSlots)

/-- The row OBS_JRNL_WADDR: latches the record of a JIDX into the window (R538). -/
def execObsJrnlWaddr (j : Word) (s : State) : Out := .next <|
  if s.mode = .test then s
  else
    let s := s.put Reg.OBS_JRNL_WADDR_JIDX j.toNat
    let ok := jrnlRetained s j.toNat
    let bytes := if ok then (jrnlSlot s j.toNat).item.bytes else []
    let s := (s.putB Reg.OBS_JRNL_WSTAT_VALID ok).putB Reg.OBS_JRNL_WSTAT_ERR (!ok)
    (List.range 8).foldl (fun s k => s.put (Reg.OBS_JRNL_WDATA_DATA k) (leNat bytes (4 * k) 4)) s

/-- JOURNAL_EXPORT (R546, R547): a FROM below the tail starts at the tail, and the operation then ends PARTIAL. -/
def journalExportOp : OpSpec where
  opcode := 0x02E0
  check s d :=
    let from_ := d.u32 24
    let head := s.get Reg.OBS_JRNL_HEAD_JIDX
    if d.u64 16 % 32 != 0 || d.u32 28 = 0 || jrnlSlots < d.u32 28 || !d.zero 32 63 || d.past = 2 then St.invalid
    else if signed 32 ((from_ + 2 ^ 32 - head) % 2 ^ 32) ≥ 0 then St.invalid
    else 0
  due _ _ := true
  apply s w :=
    if (longOp s 0x02E0 0).isSome then refuseDesc s w St.busy
    else
      let from_ := w.d.u32 24
      let below := !jrnlRetained s from_
      let e : Export := ⟨if below then s.get Reg.OBS_JRNL_TAIL_JIDX else from_, (from_ + w.d.u32 28) % 2 ^ 32, none, 0,
        w.d.u64 16, below⟩
      startLong { s with obs := { s.obs with exp := some e } } w 0
  periodic := false

/-- The row JOURNAL_EXPORT. -/
def execJournalExport (d : Desc) (s : State) : Out := .next (submit journalExportOp s d)

/-- Copy one record: to the host, marked read; a record no longer retained is skipped. -/
def exportOne (s : State) (e : Export) : State × Export :=
  if !jrnlRetained s e.next then (s, { e with next := s.get Reg.OBS_JRNL_TAIL_JIDX, skipped := true })
  else
    let sl := jrnlSlot s e.next
    let s := { s with
      jr := { s.jr with ring := s.jr.ring.set (fun _ => JSlot.zero) (e.next % jrnlSlots) { sl with read := true } },
      hif := { s.hif with host := s.hif.host.set (fun _ => []) (e.addr + 32 * e.copied) sl.item.bytes } }
    (s, { e with next := (e.next + 1) % 2 ^ 32, first := some (e.first.getD e.next), copied := e.copied + 1 })

/-- The export has reached its last record, or the head. -/
def exportAtEnd (s : State) (e : Export) : Bool :=
  decide (signed 32 ((e.next + 2 ^ 32 - e.stop) % 2 ^ 32) ≥ 0) || e.next = s.get Reg.OBS_JRNL_HEAD_JIDX

/-- Copy up to `n` records. -/
def exportBurst : Nat → State → Export → State × Export
  | 0, s, e => (s, e)
  | n + 1, s, e =>
    if exportAtEnd s e then (s, e)
    else
      let r := exportOne s e
      exportBurst n r.1 r.2

/-- The result bytes of an export. -/
def Export.result (e : Export) : List Byte := leBytes 4 (e.first.getD 0) ++ leBytes 4 e.copied

/-- The row JOURNAL_EXPORT_BURST: a DMA burst of up to `n` + 1 records completes and the export continues or completes; a
suspension or cancellation requested takes effect after it. Nothing is copied while DMA is not permitted. -/
def execJournalExportBurst (n : Fin 16) (s : State) : Out := .next <|
  match longOp s 0x02E0 0, s.obs.exp with
  | some l, some e =>
    if l.suspended || !s.dmaOk then s
    else
      let (s, e) := exportBurst (n + 1) s e
      let s := { s with obs := { s.obs with exp := some e } }
      if exportAtEnd s e then
        let whole := e.copied = l.d.u32 28 && !e.skipped
        endLong { s with obs := { s.obs with exp := none } } l (if whole then St.ok else St.partialDone) e.result
      else (longPoint s l e.result).getD s
  | _, _ => s

/-! ### Trace destinations (R540–R542) -/

/-- Words available in the FIFO window (R541). -/
def winWords (s : State) : Nat :=
  if s.bit Reg.OBS_TRC_CFG_WIN then s.obs.staged.foldl (fun n r => if r.win then n else n + (16 - r.words)) 0 else 0

/-- Free the staged records every enabled destination has taken; once room returns after a loss, a LOST record is staged and
TRC_LOST journalled, at most once per second (R540, R549). -/
def freeStaged (s : State) : State :=
  let taken (r : Staged) : Bool :=
    (r.port || !s.bit Reg.OBS_TRC_CFG_PORT) && (r.ring || !s.bit Reg.OBS_TRC_CFG_RING_EN) && (r.win || !s.bit Reg.OBS_TRC_CFG_WIN)
  let s := { s with obs := { s.obs with staged := s.obs.staged.dropWhile taken } }
  let s :=
    if 0 < s.obs.lostRun && s.obs.staged.length < traceRoom then
      let n := s.obs.lostRun
      let s := s.stage 7 s.nowShort (leBytes 4 (satU 32 n))
      let s := { s with obs := { s.obs with lostRun := 0 } }
      let due : Bool := match s.obs.lostJrnl with | some t => t + 1000000000 ≤ s.freeNs | none => true
      if due then
        let s := s.journal 1 0x0016 0x1602 (leBytes 4 (satU 32 n))
        { s with obs := { s.obs with lostJrnl := some s.freeNs } }
      else s
    else s
  s.put Reg.OBS_TRC_LEVEL_WORDS (winWords s)

/-- As time passes, staged records that no enabled destination awaits leave, and OBS_TRC_LEVEL follows (R540, R541). -/
def traceTick (s : State) : State :=
  if s.obs.staged.isEmpty && s.obs.lostRun = 0 && s.get Reg.OBS_TRC_LEVEL_WORDS = 0 then s else freeStaged s

/-- TRC_CLK runs, and TRC_D carries frames, while PORT is 1; both are held low otherwise (R542, R548). -/
def traceRuns (s : State) : Bool := s.bit Reg.OBS_TRC_CFG_PORT && s.tbLive && s.mode != .boot && s.mode != .test

/-- Mark the first staged record that a destination has not taken. -/
def markFirst (p : Staged → Bool) (f : Staged → Staged) : List Staged → List Staged
  | [] => []
  | r :: rs => if p r then f r :: rs else r :: markFirst p f rs

/-- The 64 bytes of a Sceat record (R539). -/
def TraceRec.bytes (s : State) (r : TraceRec) : List Byte :=
  leBytes 2 r.type ++ leBytes 1 (s.get Reg.GEN_STRAP_UNIT_ID) ++ leBytes 1 (b2n r.lost) ++ leBytes 4 r.cseq
    ++ leBytes 8 r.stamp ++ leBytes 4 0 ++ (r.pay ++ List.replicate 44 0).take 44

/-- One byte of CRC-16/CCITT-FALSE. -/
def crc16Step (crc : Nat) (b : Nat) : Nat :=
  (List.range 8).foldl (fun (c : Nat) i =>
    let top := bitOf c 15 != bitOf b (7 - i)
    let c := c * 2 % 65536
    if top then c ^^^ 0x1021 else c) crc

/-- CRC-16/CCITT-FALSE of a byte list (R542). -/
def crc16 (bs : List Byte) : Nat := bs.foldl (fun c b => crc16Step c b.toNat) 0xFFFF

/-- The row TRACE_FRAME_TX: while PORT is 1 the trace port sends the oldest record it has not taken, or an empty one. -/
def execTraceFrameTx (s : State) : Out := .next <|
  if !s.bit Reg.OBS_TRC_CFG_PORT || s.mode = .boot || s.mode = .test then s
  else
    let body := match s.obs.staged.find? (fun r => !r.port) with
      | some r => r.item.bytes s
      | none => List.replicate 64 0
    let crc := crc16 body
    let frame : List Byte := [0xA5, 0x5A] ++ body ++ leBytes 1 (crc / 256) ++ leBytes 1 (crc % 256)
    freeStaged { s with obs := { s.obs with
      portFrame := frame, staged := markFirst (fun r => !r.port) (fun r => { r with port := true }) s.obs.staged } }

/-- The row TRACE_DMA: trace DMA writes the oldest record the TRACE ring has not taken, when the ring has room. -/
def execTraceDma (s : State) : Out := .next <|
  let r := s.get Reg.OBS_TRC_CFG_RING
  if !s.bit Reg.OBS_TRC_CFG_RING_EN || ringState s r != 1 || s.get (Reg.HR_CFG_TYPE r) != 5 || !s.dmaOk
      || ringSize s r ≤ ringUsed s r then s
  else match s.obs.staged.find? (fun r => !r.ring) with
    | none => s
    | some x =>
      let s := writeEntry s r (.trace x.item) false
      freeStaged { s with obs := { s.obs with
        staged := markFirst (fun r => !r.ring) (fun r => { r with ring := true }) s.obs.staged } }

/-- The row OBS_TRC_FIFO_READ: returns and consumes the next word of the oldest record WIN has not taken (R13, R541). -/
def execObsTrcFifoRead (s : State) : Out := .next <|
  if s.mode = .test then s
  else if !s.bit Reg.OBS_TRC_CFG_WIN then answerRead s 0
  else match s.obs.staged.find? (fun r => !r.win) with
    | none => answerRead s 0
    | some x =>
      let v := leNat (x.item.bytes s) (4 * x.words) 4
      let s := answerRead s v
      freeStaged { s with obs := { s.obs with
        staged := markFirst (fun r => !r.win) (fun r => { r with words := r.words + 1, win := 15 ≤ r.words }) s.obs.staged } }

end Sys2Proof.Machine
end

