-- ==== Sys2Proof/Machine/Fabric.lean ====
section
/-!
DEFINITION. The self-timed fabric, memory protection, the speed index and the margin planner
(spec/13_fabric_margins.md).
-/

namespace Sys2Proof.Machine

/-! ### Address map and access rights (R432, R433, R438) -/

/-- Targets of the crossbar, with T2 split into code and data. -/
inductive Target where
  | t0 | t1 | t2code | t2data | t3 | t4 | t5 | t6 | t7
  deriving DecidableEq, Repr

/-- The target a fabric address decodes to, for a master (R432, R438); none is DECODE. -/
def fabTarget (s : State) (m a : Nat) : Option Target :=
  if 0x8000000000000000 ≤ a then some .t7
  else if 0x20000000 ≤ a && a < 0x21000000 then some .t6
  else if 0x10000000 ≤ a && a < 0x11000000 then some .t0
  else if 0x08000000 ≤ a && a < 0x08080000 then some .t1
  else if 0x06000000 ≤ a && a < 0x06100000 then some .t3
  else if 0x04000000 ≤ a && a < 0x04100000 then some .t2code
  else if 0x04100000 ≤ a && a < 0x04200000 then some .t2data
  else if 0x02000000 ≤ a && a < 0x02040000 then some .t5
  else if 0x01000000 ≤ a && a < 0x01020000 then some .t4
  else if a < 0x00040000 && (m = 18 || m = 19) then
    if s.bit Reg.FAB_CFG_SUP_REMAP then some .t5 else if a < 0x00020000 then some .t4 else none
  else none

/-- The target's number T0–T7. -/
def Target.num : Target → Nat
  | .t0 => 0 | .t1 => 1 | .t2code => 2 | .t2data => 2 | .t3 => 3 | .t4 => 4 | .t5 => 5 | .t6 => 6 | .t7 => 7

/-- Whether master `m` may read the target (R433). -/
def mayRead (m : Nat) (t : Target) : Bool :=
  if m < 16 then t = .t0 || t = .t2code || t = .t2data || t = .t6 || t = .t7
  else if m < 18 then t = .t2code || t = .t2data || t = .t6
  else if m < 20 then t != .t1
  else if m = 20 then t = .t0 || t = .t3 || t = .t7
  else if m = 22 then t = .t3
  else false

/-- Whether master `m` may write the target (R433). -/
def mayWrite (m : Nat) (t : Target) : Bool :=
  if m < 16 then t = .t0 || t = .t2data || t = .t3 || t = .t7
  else if m < 18 then t = .t2data || t = .t3
  else if m < 20 then t != .t4
  else if m = 20 then t = .t0 || t = .t7
  else t = .t7

/-- An access that writes: write, unlock write, DMA write (R472's access types). -/
def isWrite (acc : Nat) : Bool := acc = 2 || acc = 4 || acc = 7

/-- The memory index of FAB_MEM for a target. -/
def memOf : Target → Option Nat
  | .t0 => some 0 | .t1 => some 1 | .t2code => some 2 | .t2data => some 2 | .t3 => some 3 | .t5 => some 4 | _ => none

/-- The word index of a fabric address within the SRAMs: the alias window names T5's words (R438). -/
def wordOf (s : State) (a : Nat) : Nat :=
  (if a < 0x00040000 && s.bit Reg.FAB_CFG_SUP_REMAP then a + 0x02000000 else a) / 32

/-! ### Memory protection (R441–R444) -/

/-- What an uncorrectable word of a unit's table does to its owner: a SAT entry becomes invalid (R371), a schedule entry is
disabled (R252). -/
def ownerFault (s : State) (mem idx : Nat) : State :=
  if mem = 1 then satEntryFault s idx
  else if mem = 5 && idx < 2048 then schedEntryFault s idx else s

/-- The word at `a` of memory `mem` holds a pending injection (R482). -/
def injectedAt (s : State) (mem a : Nat) : Bool :=
  match s.flt.inj with | some j => j.src = 0x21 + mem && j.addr / 32 = a / 32 | none => false

/-- A word of memory `mem` at fabric address `a` is read with `sym` symbols in error: 1–3 are corrected and written back,
more are uncorrectable; counted, journalled as MEM_ERROR, and reported as MEM_UNCORR of the memory with its master. -/
def eccRead (s : State) (mem a sym master acc : Nat) : State :=
  if sym = 0 then s
  else if sym ≤ 3 then
    let s := (s.bump (Reg.FAB_MEM_CORR_LO_CORR mem) (Reg.FAB_MEM_CORR_HI_CORR mem) 1).setFlag Flag.FAB_MEM_CORR
    let s := { s with fab := { s.fab with bad := s.fab.bad.set (fun _ => 0) (a / 32) 0 } }
    let s := s.journal 2 0x0013 0x1307 (leBytes 1 mem ++ leBytes 1 sym ++ leBytes 2 0 ++ leBytes 8 a)
    if injectedAt s mem a then
      closeOpens { s with flt := { s.flt with inj := none } } 0x02C1 (0x21 + mem) St.ok (leBytes 8 s.nowShort)
    else s
  else
    let s := (s.bump (Reg.FAB_MEM_UNC_LO_UNC mem) (Reg.FAB_MEM_UNC_HI_UNC mem) 1).setFlag Flag.FAB_MEM_UNCORR
    let s := s.putPair (Reg.FAB_MEM_ADDR_LO_ADDR mem) (Reg.FAB_MEM_ADDR_HI_ADDR mem) a
    let s := { s with fab := { s.fab with bad := s.fab.bad.set (fun _ => 0) (a / 32) sym } }
    let s := s.journal 2 0x0013 0x1307 (leBytes 1 mem ++ leBytes 1 0xFF ++ leBytes 2 0 ++ leBytes 8 a)
    let s := if injectedAt s mem a then checkAt s (0x21 + mem) true a master acc 0 else s.reportAt (0x21 + mem) a master acc 0
    ownerFault s mem (if mem = 1 then (a - 0x08000000) / 64 else a / 32)

/-! ### The crossbar (R434–R439) -/

/-- The lock on a target: its master, if held. -/
def lockOn (s : State) (t : Nat) : Option Nat :=
  match (s.fab.locks.get (fun _ => (0, 0, 0)) t).1 with | 0 => none | m + 1 => some m

/-- The address of the locked read that took a target's lock. -/
def lockAddr (s : State) (t : Nat) : Nat := (s.fab.locks.get (fun _ => (0, 0, 0)) t).2.2

/-- Release a lock. -/
def unlock (s : State) (t : Nat) : State :=
  { s with fab := { s.fab with locks := s.fab.locks.set (fun _ => (0, 0, 0)) t (0, 0, 0) } }

/-- The locks a master holds. -/
def locksOf (s : State) (m : Nat) : List Nat := [2, 3, 5].filter (fun t => lockOn s t = some m)

/-- Merge written bytes into a 256-bit word under 32 byte enables. -/
def mergeBytes (old new en : Nat) : Nat :=
  (List.range 32).foldl (fun w i =>
    w + (if bitOf en i then new / 256 ^ i % 256 else old / 256 ^ i % 256) * 256 ^ i) 0

/-- Answer a transfer of master `m`: 0 OK, 1 DECODE, 2 PERM, 3 UNCORR, 4 HOST, 5 an unlock of a broken lock. An error response
to a read returns all ones, poisoned. -/
def respond (s : State) (m code : Nat) (data : List Nat) : State :=
  { s with fab := { s.fab with resp := s.fab.resp ++ [(m, code, data)] } }

/-- Answers of earlier transfers have been taken. -/
def clearAnswers (s : State) : State := { s with fab := { s.fab with resp := [] } }

/-- The FAB_PARK code of a target. -/
def parkCode (s : State) (t : Nat) : Nat :=
  s.get (match t with
    | 0 => Reg.FAB_PARK0_T0 | 1 => Reg.FAB_PARK0_T1 | 2 => Reg.FAB_PARK0_T2 | 3 => Reg.FAB_PARK0_T3
    | 4 => Reg.FAB_PARK1_T4 | 5 => Reg.FAB_PARK1_T5 | 6 => Reg.FAB_PARK1_T6 | _ => Reg.FAB_PARK1_T7)

/-- The master last served at a target. -/
def lastServed (s : State) (t : Nat) : Option Nat :=
  match s.fab.served.get (fun _ => 0) t with | 0 => none | m + 1 => some m

/-- The master an idle port parks on (R436); one in reset is parked on again only when it rejoins (R439). -/
def parkedOn (s : State) (t : Nat) : Option Nat :=
  let c := parkCode s t
  let m := if c = 30 then lastServed s t else if c ≤ 22 then some c else none
  m.filter (fun m => !(m < 20 && bitOf s.sys.engReset m))

/-- One beat written at address `a`: SRAM words with their check bits; a write of fewer than 32 bytes to an uncorrectable
word errs and leaves it (R442); T6 words are register writes; T7 leaves for the host. -/
def writeBeat (s : State) (m : Nat) (t : Target) (a data en : Nat) : State × Bool :=
  match t with
  | .t7 =>
    let h := a % 0x8000000000000000
    let old := leNat (s.hif.host.get (fun _ => []) h) 0 32
    ({ s with hif := { s.hif with host := s.hif.host.set (fun _ => []) h (leBytes 32 (mergeBytes old data en)) } }, true)
  | .t6 =>
    ((List.range 8).foldl (fun s i =>
      if en / 2 ^ (4 * i) % 16 = 15 && s.mode = .setup then s.storeWord (a - 0x20000000 + 4 * i) (data / 2 ^ (32 * i) % 2 ^ 32)
      else s) s, true)
  | .t4 => (s, false)
  | _ =>
    let w := wordOf s a
    let full := en = 2 ^ 32 - 1
    let err := if full then 0 else s.fab.bad.get (fun _ => 0) w
    let s := eccRead s ((memOf t).getD 5) (w * 32) err m 2
    if 3 < err then (s, false)
    else
      let old := s.fab.sram.get (fun _ => 0) w
      ({ s with fab := { s.fab with
          sram := s.fab.sram.set (fun _ => 0) w (mergeBytes old data en), bad := s.fab.bad.set (fun _ => 0) w 0 } }, true)

/-- Write the beats of a burst, stopping at the first error response. -/
def writeBeats (s : State) (m : Nat) (t : Target) : Nat → List (Nat × Nat) → State × Bool
  | _, [] => (s, true)
  | a, b :: bs =>
    match writeBeat s m t a b.1 b.2 with
    | (s, true) => writeBeats s m t (a + 32) bs
    | (s, false) => (s, false)

/-- The data of one beat read: an SRAM word, a journal record in the lower part of T3 (R536), or a register word group at T6; T4 and T7 data come from outside the model. -/
def readBeat (s : State) (t : Target) (a ext : Nat) : Nat :=
  match t with
  | .t4 => ext
  | .t7 => ext
  | .t3 =>
    let k := (a - 0x06000000) / 32
    if k < jrnlSlots then leNat (jrnlSlot s k).item.bytes 0 32 else s.fab.sram.get (fun _ => 0) (wordOf s a)
  | .t6 => (List.range 8).foldl (fun w i => w + s.loadWord (a - 0x20000000 + 4 * i) * 2 ^ (32 * i)) 0
  | _ => s.fab.sram.get (fun _ => 0) (wordOf s a)

/-- The words of a read of `n` beats pass the checker, the first with `sym` symbols in error beside what it holds: the state
and whether a word was uncorrectable. -/
def readWords (s : State) (mem a m acc sym : Nat) : Nat → State × Bool
  | 0 => (s, false)
  | n + 1 =>
    let r := readWords s mem a m acc sym n
    let w := wordOf s (a + 32 * n)
    let err := max (if n = 0 then sym else 0) (r.1.fab.bad.get (fun _ => 0) w)
    (eccRead r.1 mem (w * 32) err m acc, r.2 || 3 < err)

/-- The burst `q` is granted at its target: the data of a write, up to the `done` beats already written where its master is in
reset, or the words of a read, which reach no master in reset (R439). A first beat of the parked master skips arbitration. -/
def grantBurst (s : State) (t : Target) (q : FabReq) (done : Nat) : State :=
  let inReset := q.m < 20 && bitOf s.sys.engReset q.m
  let s := (checkAt s 0x1C false q.a q.m q.acc 0).perf 0x030 t.num 1
  let s := { s with fab := { s.fab with
      skipped := parkedOn s t.num = some q.m, served := s.fab.served.set (fun _ => 0) t.num (q.m + 1) } }
  if isWrite q.acc then
    let bs := if inReset then q.beats.take done else q.beats
    let (s, ok) := writeBeats s q.m t q.a (bs.take q.n)
    let s := if inReset && done < q.n then (s.bumpSat Reg.FAB_BURST_ABORT_COUNT 1).setFlag Flag.FAB_BURST_ABORT else s
    let s := if q.acc = 4 && lockOn s t.num = some q.m then unlock s t.num else s
    respond s q.m (if ok then 0 else 3) []
  else
    let s := if q.acc = 3 then
        { s with fab := { s.fab with locks := s.fab.locks.set (fun _ => (0, 0, 0)) t.num (q.m + 1, s.tb.ao, q.a) } } else s
    let (s, bad) := match memOf t with
      | some mem => readWords s mem q.a q.m q.acc q.sym q.n
      | none => (s, false)
    if inReset then s
    else if bad then respond s q.m 3 (List.replicate q.n (2 ^ 256 - 1))
    else respond s q.m 0 ((List.range q.n).map (fun i => readBeat s t (q.a + 32 * i) (q.ext.getD i 0)))

/-- The waiting burst served next at target `t`: round robin of master number, starting after the master last served
(R434). -/
def nextWaiting (s : State) (t : Nat) : Option FabReq :=
  let key (q : FabReq) : Nat := (q.m + 23 - s.fab.served.get (fun _ => 0) t % 23) % 23
  (s.fab.waiting.filter (fun q => q.t = t)).foldl (fun b q => match b with
    | none => some q
    | some p => if key q < key p then some q else some p) none

/-- The bursts waiting at target `t` are served one at a time, until one of them locks it. -/
def serveWaiting (s : State) (t : Nat) : Nat → State
  | 0 => s
  | n + 1 =>
    match nextWaiting s t with
    | none => s
    | some q =>
      if (lockOn s t).isSome then s
      else
        let s := { s with fab := { s.fab with waiting := s.fab.waiting.erase q } }
        serveWaiting (match fabTarget s q.m q.a with | some x => grantBurst s x q q.n | none => s) t n

/-- Target `t` serves whoever waits there. -/
def freeTarget (s : State) (t : Nat) : State := serveWaiting s t s.fab.waiting.length

/-- A burst of `n` beats from master `m` at address `a`, access type `acc` (R472's codes): rights, locks, memory protection
and parking. A locked target serves only the lock's holder, so the burst of another master waits there (R437). `beats` are
(data, byte enables) of a write; `ext` the data of a read of T4 or T7, `sym` the symbols found in error in the first word
read; `done` the beats written before its master was reset. -/
def transfer (s : State) (q : FabReq) (done : Nat) : State :=
  let s := checkAt s 0x1B (fabTarget s q.m q.a).isNone q.a q.m q.acc 0
  match fabTarget s q.m q.a with
  | none => respond (s.setFlag Flag.FAB_ACCESS_ERR) q.m 1 (poison q)
  | some t =>
    let perm (s : State) : State :=
      respond (checkAt (s.setFlag Flag.FAB_ACCESS_ERR) 0x1C true q.a q.m q.acc 0) q.m 2 (poison q)
    if !(if isWrite q.acc then mayWrite q.m t else mayRead q.m t) then perm s
    else if q.acc = 3 && (!(t = .t2code || t = .t2data || t = .t3 || t = .t5) || !(locksOf s q.m).isEmpty) then perm s
    else if t = .t7 && !s.dmaOk then respond (s.bumpSat Reg.FAB_HOST_ERR_COUNT 1) q.m 4 (poison q)
    else if q.acc = 4 && (t.num, q.m) ∈ s.fab.broken then
      respond { s with fab := { s.fab with broken := s.fab.broken.filter (fun x => x != (t.num, q.m)) } } q.m 5 []
    else match lockOn s t.num with
    | some h =>
      if h = q.m then
        let s := grantBurst s t q done
        if (lockOn s t.num).isNone then freeTarget s t.num else s
      else { s with fab := { s.fab with waiting := s.fab.waiting ++ [q] } }
    | none => grantBurst s t q done
where
  /-- What an error response to a read returns. -/
  poison (q : FabReq) : List Nat := if isWrite q.acc then [] else List.replicate q.n (2 ^ 256 - 1)

/-- The row FABRIC_TRANSFER. A burst has 1–16 beats and never crosses a 512-byte boundary (R434). -/
def execFabricTransfer (m : Fin 23) (a : Word64) (acc : Fin 8) (n : Fin 16) (beats : List (BitVec 256 × Word))
    (ext : List (BitVec 256)) (sym : Fin 33) (done : Fin 17) (s : State) : Out := .next <|
  let n' := n.val + 1
  if a.toNat % 512 + 32 * n' ≤ 512 then
    transfer (clearAnswers s)
      ⟨((fabTarget s m a.toNat).map Target.num).getD 8, m, a.toNat, acc, n', beats.map (fun b => (b.1.toNat, b.2.toNat)), ext.map (·.toNat), sym⟩ done
  else s

/-- The row LOCK_TIMEOUT: a lock held beyond LOCK_TMO is broken and FAB_LOCK reported (R437). -/
def execLockTimeout (t : Fin 8) (s : State) : Out := .next <|
  match lockOn s t with
  | none => s
  | some m =>
    let s := clearAnswers s
    if s.tb.ao < (s.fab.locks.get (fun _ => (0, 0, 0)) t).2.1 + s.get Reg.FAB_CFG_LOCK_TMO * 1000 then checkAt s 0x1D false (lockAddr s t) m 3 0
    else
      let a := lockAddr s t
      let s := unlock s t
      let s := { s with fab := { s.fab with broken := (t.val, m) :: s.fab.broken } }
      freeTarget (checkAt (s.setFlag Flag.FAB_LOCK_TMO) 0x1D true a m 3 0) t

/-- A master is reset (R439): what it asked of a locked target is dropped, its locks are released, and a port parked on it
parks on none until it rejoins (`parkedOn`). -/
def masterReset (s : State) (m : Nat) : State :=
  let s := { s with fab := { s.fab with waiting := s.fab.waiting.filter (fun q => q.m != m) } }
  (locksOf s m).foldl (fun s t => freeTarget (unlock s t) t) s

/-- The entry that leaves the landing buffer next: stamp order, ascending master number within one TB cycle (R440). -/
def nextLanded (l : List (Nat × Nat × Nat)) : Option (Nat × Nat × Nat) :=
  l.foldl (fun b x => match b with
    | none => some x
    | some y => if x.1 < y.1 || (x.1 = y.1 && x.2.1 < y.2.1) then some x else some y) none

/-- `n` TB cycles drain the landing buffer, one entry each. -/
def drainLanding : Nat → List (Nat × Nat × Nat) → List (Nat × Nat × Nat)
  | 0, l => l
  | n + 1, l => match nextLanded l with | none => l | some x => drainLanding n (l.erase x)

/-- The landing buffer at the TB cycle in force: every cycle since it was last looked at has drained one entry. -/
def settleLanding (s : State) : State :=
  let n := min (s.tb.cyc - s.fab.landAt) s.fab.landing.length
  { s with fab := { s.fab with landing := drainLanding n s.fab.landing, landAt := s.tb.cyc } }

/-- The row RESULT_LANDING (R440): a result of master `m` lands, stamped with its TB cycle, beside those that have not left
yet; with none to land, the buffer only drains. LAND_MAX records the greatest occupancy. -/
def execResultLanding (land : Option (Fin 20 × Fin 3)) (s : State) : Out := .next <|
  let s := settleLanding s
  match land with
  | some (m, k) =>
    if 20 ≤ s.fab.landing.length then s
    else
      let l := s.fab.landing ++ [(s.tb.cyc, m.val, k.val)]
      let s := { s with fab := { s.fab with landing := l } }
      if s.get Reg.FAB_STAT_LAND_MAX < l.length then
        (s.put Reg.FAB_STAT_LAND_MAX l.length).publish Reg.FAB_STAT_VALID Reg.FAB_STAT_SEQ else s
  | none => s

/-- The row SCRUB_READ: while SCRUB_EN is 1 the scrubber reads a word of memory `mem` and writes back what it corrects
(R443, R444). No master applies. For memory 5, words 0–2,047 are the schedule entries (log 13). -/
def execScrubRead (mem : Fin 6) (a : BitVec 64) (sym : Fin 33) (s : State) : Out := .next <|
  if s.bit Reg.FAB_CFG_SCRUB_EN then
    eccRead s mem a.toNat (max sym (s.fab.bad.get (fun _ => 0) (a.toNat / 32))) 0xFF 1
  else s

/-! ### The speed index (R445–R448) -/

/-- S_need in 2.14: S_floor × (1 + m), rounded up (R448). -/
def sNeed (s : State) : Nat :=
  ceilDiv (s.get Reg.CLA_ADM_CFG_S_FLOOR * (1000 + s.get Reg.CLA_ADM_CFG_MARGIN) * 16384) 100000

/-- S_meas in 2.14. -/
def sMeas (s : State) : Nat := s.get Reg.FAB_SMEAS_S_MEAS

/-- S_k of a monitor as an exact number (R445). -/
def monSpeed (s : State) (k n : Nat) : Rat :=
  (s.get (Reg.MON_K_K k) : Rat) / 32768 * n / Config.nNom k

/-- Mean of the 16 ring oscillators, each normalised to its production count (R447). -/
def ringMean (ro : List Nat) : Rat :=
  ((List.range 16).foldl (fun (a : Rat) j => a + (ro.getD j 0 : Rat) / Config.roNom j) 0) / 16

/-- Whether monitor k met neither exclusion condition in this window: its loop oscillates and S_k lies within 15 % of the
ring mean (R447). -/
def monGood (sk mean : Rat) (n : Nat) : Bool :=
  n != 0 && (if sk ≤ mean then mean - sk else sk - mean) * 100 ≤ 15 * mean

/-- Monitor k is excluded. -/
def monExcl (s : State) (k : Nat) : Bool := s.bit (Reg.MON_S_EXCL k)

/-- Set a monitor's exclusion, in its own register and in FAB_EXCL. -/
def setExcl (s : State) (k : Nat) (b : Bool) : State :=
  let s := s.putB (Reg.MON_S_EXCL k) b
  if k < 32 then s.putMapBit Reg.FAB_EXCL_LO_EXCL k b else s.putMapBit Reg.FAB_EXCL_HI_EXCL (k - 32) b

/-- Exclusion and return of monitor k at the end of a window (R447). -/
def updateExcl (s : State) (k : Nat) (good : Bool) (reason : Nat) : State :=
  if monExcl s k then
    let g := if good then s.fab.goodWin.get (fun _ => 0) k + 1 else 0
    if 1000 ≤ g then
      let s := { s with fab := { s.fab with goodWin := s.fab.goodWin.set (fun _ => 0) k 0 } }
      (setExcl s k false).journal 2 0x0013 0x1305 (leBytes 1 k ++ leBytes 1 0 ++ leBytes 1 (s.fab.exclWhy.get (fun _ => 0) k))
    else { s with fab := { s.fab with goodWin := s.fab.goodWin.set (fun _ => 0) k g } }
  else if good then check s 0x1E false
  else
    let s := (setExcl s k true).setFlag Flag.FAB_MON_EXCL
    let s := { s with fab := { s.fab with exclWhy := s.fab.exclWhy.set (fun _ => 0) k reason } }
    check (s.journal 2 0x0013 0x1305 (leBytes 1 k ++ leBytes 1 1 ++ leBytes 1 reason)) 0x1E true

/-- The S_k used for monitor k: its own, or for an excluded one 0.98 × the lowest of the other monitors of its region, none
when all four are excluded (R447). -/
def usedSpeed (s : State) (sp : List Rat) (k : Nat) : Option Rat :=
  if !monExcl s k then some (sp.getD k 0)
  else
    let others := ((List.range 4).map (fun j => k / 4 * 4 + j)).filter (fun j => j != k && !monExcl s j)
    others.foldl (fun (b : Option Rat) j => match b with
      | none => some (sp.getD j 0 * 98 / 100)
      | some x => if sp.getD j 0 * 98 / 100 < x then some (sp.getD j 0 * 98 / 100) else some x) none

/-- S_meas of a window: the minimum over the monitors, with the monitor that gives it; 0 when a whole region is excluded. -/
def windowSpeed (s : State) (sp : List Rat) : Rat × Nat :=
  let us := (List.range 64).map (fun k => (usedSpeed s sp k, k))
  match us.find? (fun p => p.1.isNone) with
  | some p => (0, p.2)
  | none =>
    (us.foldl (fun (b : Option (Rat × Nat)) p => match p.1, b with
      | some x, none => some (x, p.2)
      | some x, some y => if x < y.1 then some (x, p.2) else some y
      | none, y => y) none).getD (0, 0)

/-- The commanded VDD_FAB in mV. -/
def vCmd (s : State) : Nat := s.get Reg.PWR_AVS_STAT_VFAB_CMD

/-- While the commanded voltage equals VFAB_MAX, AT_VMAX is set (R452). -/
def showVmax (s : State) : State :=
  let atMax := vCmd s = s.get Reg.PWR_VLIM_VFAB_MAX
  if s.bit Reg.FAB_PLAN_STAT_AT_VMAX = atMax then s
  else ((s.flagIf atMax Flag.PWR_AT_VMAX).putB Reg.FAB_PLAN_STAT_AT_VMAX atMax).publish Reg.FAB_PLAN_STAT_VALID
    Reg.FAB_PLAN_STAT_SEQ

/-- Command a voltage step and journal AVS_STEP (R450). -/
def avsStep (s : State) (v : Nat) : State :=
  let old := vCmd s
  let s := (s.put Reg.PWR_AVS_STAT_VFAB_CMD v).publish Reg.PWR_AVS_STAT_VALID Reg.PWR_AVS_STAT_SEQ
  let s := { s with fab := { s.fab with lastStep := some s.freeNs } }
  showVmax (s.journal 0 0x0013 0x1301 (leBytes 2 old ++ leBytes 2 v ++ leBytes 2 (sMeas s)))

/-- The planner runs: SETUP, SERVICE or RECOVERY, and SV1 out of reset (R462). -/
def plannerRuns (s : State) : Bool :=
  (s.mode = .setup || s.mode = .service || s.mode = .recovery) && !bitOf s.sys.engReset 19

/-- The planner steps the voltage: PLAN_EN and TRACK, and no failure has stopped it (R450, R451). -/
def tracks (s : State) : Bool :=
  plannerRuns s && s.bit Reg.FAB_PLAN_CFG_PLAN_EN && s.bit Reg.FAB_PLAN_CFG_TRACK && !s.fab.stepStop

/-- Keep the lowest S_meas seen while AT_VMAX over a sliding window (R453): entries (ns, S) with S rising. -/
def noteVmax (s : State) : State :=
  if !s.bit Reg.FAB_PLAN_STAT_AT_VMAX then s
  else
    let now := s.freeNs
    let keepFrom := now - s.get Reg.FAB_PLAN_CFG_PLAN_H * 3600000000000
    let l := (s.fab.vmaxMin.filter (fun p => keepFrom ≤ p.1 && p.2 < sMeas s)) ++ [(now, sMeas s)]
    { s with fab := { s.fab with vmaxAt := some now, vmaxMin := l } }

/-- The hottest of the junction sensors, signed 1/256 °C. -/
def hottest (tj : List Int) : Int := tj.foldl (fun m x => if m < x then x else m) (tj.headD 0)

/-- The row SPEED_WINDOW: at each millisecond boundary the counts of the 64 monitors and 16 ring oscillators form S_meas;
the sensors and the power estimate are published with them (log 14). A lowering step is sent at this boundary, and its
S_meas is multiplied by 0.98 before rounding (R450). -/
def execSpeedWindow (n : List Word) (ro : List Word) (tj : List (BitVec 16)) (power : BitVec 16) (s : State) : Out := .next <|
  if !s.atMs || s.mode = .test then s
  else
    let ns := (List.range 64).map (fun k => (n.getD k 0).toNat)
    let ros := (List.range 16).map (fun j => (ro.getD j 0).toNat)
    let s := (List.range 16).foldl (fun s j => s.put (Reg.FAB_RO_COUNT j) (ros.getD j 0)) s
    let sp := (List.range 64).map (fun k => monSpeed s k (ns.getD k 0))
    let mean := ringMean ros
    let s := (List.range 64).foldl (fun s k =>
      let nk := ns.getD k 0
      let s := (s.put (Reg.MON_N_N k) nk).putSatU (Reg.MON_S_S k) (floorQ (sp.getD k 0 * 16384)).toNat
      updateExcl s k (monGood (sp.getD k 0) mean nk) (if nk = 0 then 0 else 1)) s
    let s := (List.range 8).foldl (fun s j => s.put (Reg.PWR_TJ_TJ j) (tj.getD j 0).toNat) s
    let s := s.putS Reg.PWR_TJ_MAX_TJ_MAX (hottest ((List.range 8).map (fun j => (tj.getD j 0).toInt)))
    let s := s.put Reg.PWR_POWER_POWER power.toNat
    let slow := windowSpeed s sp
    let lower := s.fab.lowerDue && tracks s
    let sm := floorQ ((if lower then slow.1 * 98 / 100 else slow.1) * 16384)
    let s := (s.putSatU Reg.FAB_SMEAS_S_MEAS sm.toNat).put Reg.FAB_SMEAS_MIN_MON slow.2
    let s := s.publish Reg.FAB_SMEAS_VALID Reg.FAB_SMEAS_SEQ
    let s := s.put Reg.FAB_SNEED_S_NEED (sNeed s)
    let s := { s with fab := { s.fab with lowerDue := false } }
    let s := if lower then
        let v := vCmd s - s.get Reg.PWR_AVS_CFG_STEP
        avsStep s (max (s.get Reg.PWR_VLIM_VFAB_MIN) v) else s
    let high : Bool := (s.get Reg.FAB_PLAN_CFG_S_TGT + s.get Reg.FAB_PLAN_CFG_BAND) * 16384 ≤ sMeas s * 100
    let s := { s with fab := { s.fab with
        highSince := if high then some (s.fab.highSince.getD s.freeNs) else none } }
    noteVmax (showVmax s)

/-! ### The planner (R449–R455) -/

/-- The row PLANNER_EVALUATE, every 100 ms (R450–R452). The commanded voltage lies within VFAB_MIN to VFAB_MAX: limits moved
past it are approached by steps. -/
def execPlannerEvaluate (s : State) : Out := .next <|
  if !plannerRuns s || !s.reached (100 * msU) 0 then s
  else
    let v := vCmd s
    let vmax := s.get Reg.PWR_VLIM_VFAB_MAX
    let vmin := s.get Reg.PWR_VLIM_VFAB_MIN
    let step := s.get Reg.PWR_AVS_CFG_STEP
    let rested := match s.fab.lastStep with
      | none => true
      | some t => t + s.get Reg.PWR_AVS_CFG_STEP_MS * 10000000 ≤ s.freeNs
    let slow := sMeas s * 100 < s.get Reg.FAB_PLAN_CFG_S_TGT * 16384
    let longHigh := match s.fab.highSince with | some t => t + 10000000000 ≤ s.freeNs | none => false
    let s :=
      if !tracks s || !rested then s
      else if vmax < v then { s with fab := { s.fab with lowerDue := true } }
      else if (slow || v < vmin) && v < vmax then avsStep s (min vmax (v + step))
      else if longHigh && vmin < v then { s with fab := { s.fab with lowerDue := true } }
      else s
    let s := showVmax s
    let low := s.bit Reg.FAB_PLAN_STAT_AT_VMAX && sMeas s < sNeed s
    let s := check s 0x20 (low && !s.fab.lowSeen)
    { s with fab := { s.fab with lowSeen := low } }

/-- The row AVS_READBACK (R451): voltage and current read back, the alert of the status read, and whether the regulator
answered. The read-back is held to the command once STEP_MS has passed since the write. -/
def execAvsReadback (vread : BitVec 10) (iread : BitVec 16) (alert answered : Bool) (s : State) : Out := .next <|
  if s.mode = .test || bitOf s.sys.engReset 19 then s
  else
    let s := if answered then
        (s.put Reg.PWR_AVS_RD_VREAD vread.toNat).put Reg.PWR_AVS_RD_IREAD iread.toNat else s
    let v := vCmd s
    let waited := match s.fab.lastStep with
      | none => true
      | some t => t + s.get Reg.PWR_AVS_CFG_STEP_MS * 10000000 ≤ s.freeNs
    let off := waited && (if v ≤ vread.toNat then vread.toNat - v else v - vread.toNat) > 10
    let s := check s 0x1F (!answered || alert || off)
    let s :=
      if !answered || alert || off then
        let s := (s.setFlag Flag.PWR_AVS_FAIL).putB Reg.PWR_AVS_STAT_AVS_OK false
        { s with fab := { s.fab with stepStop := true, rewritten := false } }
      else
        let s := if s.fab.stepStop && s.fab.rewritten then
            { s with fab := { s.fab with stepStop := false, rewritten := false } } else s
        s.putB Reg.PWR_AVS_STAT_AVS_OK (!s.fab.stepStop)
    s.publish Reg.PWR_AVS_STAT_VALID Reg.PWR_AVS_STAT_SEQ

/-- Planned limit of a class (R453). -/
def plannedLimit (s : State) (c : Nat) : Nat × Nat :=
  let qlim := s.get (Reg.CLS_CFG_Q_LIM c)
  let cost : Rat := classCost c
  let within : Bool := match s.fab.vmaxAt with
    | some t => decide (s.freeNs ≤ t + s.get Reg.FAB_PLAN_CFG_PLAN_H * 3600000000000)
    | none => false
  if within then
    let start := s.freeNs - s.get Reg.FAB_PLAN_CFG_PLAN_H * 3600000000000
    let spln := ((s.fab.vmaxMin.find? (fun p => start ≤ p.1)).getD (0, 0)).2
    let m : Rat := (1000 + s.get Reg.CLA_ADM_CFG_MARGIN : Rat) / 1000
    let q := floorQ ((s.get (Reg.CLS_STAT_E_CLS c) : Rat) *
      ((s.get (Reg.CLS_W_W c) : Rat) * ((spln : Rat) / 16384) / m - cost) / cost)
    (min qlim (max 1 q).toNat, spln)
  else (qlim, 0)

/-- Set q_pln of a class: a change is journalled, sets REPLAN and fires vector 69 (R453). -/
def replanClass (s : State) (c : Nat) : State :=
  if s.get (Reg.CLS_STAT_E_CLS c) = 0 then s
  else
    let (q, spln) := plannedLimit s c
    let old := if s.get (Reg.CLS_Q2_Q_PLN c) = 0 then s.get (Reg.CLS_CFG_Q_LIM c) else s.get (Reg.CLS_Q2_Q_PLN c)
    let s := s.putMapBit Reg.FAB_PLAN_STAT_REPLAN_CLS c (q < s.get (Reg.CLS_CFG_Q_LIM c))
    if q = old then s
    else
      let s := (s.put (Reg.CLS_Q2_Q_PLN c) q).setFlag Flag.FAB_REPLAN
      let s := s.journal 1 0x0013 0x1302 (leBytes 1 c ++ leBytes 2 q ++ leBytes 2 old ++ leBytes 2 spln)
      s.fire 69

/-- The row MARGIN_REPLAN: q_pln recomputed for every class, in SERVICE (hourly, or on a change of S_need or W_cls). -/
def execMarginReplan (s : State) : Out := .next <|
  if !plannerRuns s || s.mode = .recovery then s
  else ((List.range 4).foldl replanClass s).publish Reg.FAB_PLAN_STAT_VALID Reg.FAB_PLAN_STAT_SEQ

/-- Least squares of y against x (both exact): intercept and slope; none when x does not vary. -/
def lsFit (pts : List (Rat × Rat)) : Option (Rat × Rat) :=
  let n : Rat := pts.length
  let sx := pts.foldl (fun a p => a + p.1) 0
  let sy := pts.foldl (fun a p => a + p.2) 0
  let sxx := pts.foldl (fun a p => a + p.1 * p.1) 0
  let sxy := pts.foldl (fun a p => a + p.1 * p.2) 0
  let det := n * sxx - sx * sx
  if det = 0 then none else
    let k := (n * sxy - sx * sy) / det
    some ((sy - k * sx) / n, k)

/-- Days from day `t` until the fitted curve a + k·x(t) falls below `lim`; 0xFFFF for none within 65,534 days (R455). -/
def daysUntil (age t : Nat) (f : Option (Rat × Rat)) (lim : Rat) : Nat :=
  match f with
  | none => 0xFFFF
  | some (a, k) =>
    ((List.range 65535).find? (fun d => a + k * Config.agePow age (t + d) < lim)).getD 0xFFFF

/-- Fit of daily values against t^AGE_N, once 30 exist. -/
def dailyFit (age : Nat) (days : List (Nat × Int)) : Option (Rat × Rat) :=
  if days.length < 30 then none else lsFit (days.map (fun p => (Config.agePow age p.1, (p.2 : Rat))))

/-- S_corr in 2.14 (R455): K_V in 1/1,024 per V, K_T in 10⁻⁵ per °C. -/
def sCorr (s : State) : Int :=
  let dv : Rat := ((s.get Reg.PWR_VLIM_VFAB_MAX : Rat) - s.get Reg.PWR_AVS_RD_VREAD) / 1000
  let dt : Rat := (s.get Reg.FAB_PLAN_CFG1_TJ_PLAN : Rat) - (s.getS Reg.PWR_TJ_MAX_TJ_MAX : Rat) / 256
  floorQ ((sMeas s : Rat) + 16384 * ((Config.kV : Rat) / 1024 * dv - (Config.kT : Rat) / 100000 * dt))

/-- The smaller of two day counts. -/
def worstDays (s : State) : Nat := min (s.get Reg.FAB_PLAN_DAYS_DAYS_FAB) (s.get Reg.FAB_PLAN_DAYS_DAYS_EYE)

/-- Lane l's eye opening, once measured, joins the trend of day `day`. -/
def noteEye (day : Nat) (s : State) (l : Nat) : State :=
  if (s.lane l).eyeAt = 0 then s else
  let e := s.fab.eyeDays.get (fun _ => []) l
  let e := e ++ [(day, s.get (Reg.LN_EYE_EYE_H l), s.get (Reg.LN_EYE_EYE_V l))]
  { s with fab := { s.fab with eyeDays := s.fab.eyeDays.set (fun _ => []) l e } }

/-- The row TREND_UPDATE: hourly the corrected speed is formed, at a day's end its mean joins the trend, and the
projections are refitted (R455). Days count from the first entry to SERVICE. -/
def execTrendUpdate (s : State) : Out := .next <|
  match s.fab.firstService with
  | none => s
  | some t0 =>
    if !plannerRuns s || !s.reached (3600 * secU) 0 then s
    else
      let age := s.get Reg.FAB_PLAN_CFG1_AGE_N
      let day := (tbSec s.tbU - t0) / 86400
      let s :=
        if day = s.fab.corrDay || s.fab.corrN = 0 then
          { s with fab := { s.fab with corrDay := day, corrSum := s.fab.corrSum + sCorr s, corrN := s.fab.corrN + 1 } }
        else
          let mean := s.fab.corrSum / (s.fab.corrN : Int)
          let s := s.putSat Reg.FAB_PLAN_SCORR_S_CORR mean
          let s := { s with fab := { s.fab with
              days := s.fab.days ++ [(s.fab.corrDay, mean)], corrDay := day, corrSum := sCorr s, corrN := 1 } }
          (List.range 18).foldl (noteEye day) s
      let f := dailyFit age s.fab.days
      let dFab := daysUntil age day f (sNeed s)
      let dEye := (List.range 18).foldl (fun m l =>
        let e := s.fab.eyeDays.get (fun _ => []) l
        let h := daysUntil age day (dailyFit age (e.map (fun x => (x.1, (x.2.1 : Int))))) (s.get (Reg.LN_EYE_CFG_EYE_MIN_H l))
        let v := daysUntil age day (dailyFit age (e.map (fun x => (x.1, (x.2.2 : Int))))) (s.get (Reg.LN_EYE_CFG_EYE_MIN_V l) * 4)
        min m (min h v)) 0xFFFF
      let s := (s.put Reg.FAB_PLAN_DAYS_DAYS_FAB dFab).put Reg.FAB_PLAN_DAYS_DAYS_EYE dEye
      let s := match f with
        | some (a, k) =>
          (s.putSat Reg.FAB_PLAN_S0_S0 (floorQ (a * 1000000 / 16384))).putSat Reg.FAB_PLAN_B_B (floorQ (-k * 1000000 / 16384))
        | none => s
      let s := s.publish Reg.FAB_PLAN_STAT_VALID Reg.FAB_PLAN_STAT_SEQ
      let low := min dFab dEye < s.get Reg.FAB_PLAN_CFG1_PROJ_WARN
      let s := if low && !s.fab.projSeen then
          (s.journal 1 0x0013 0x1303 (leBytes 2 dFab ++ leBytes 2 dEye)).fire 69 else s
      { s with fab := { s.fab with projSeen := low } }

/-! ### Margin sweep (R456–R458) -/

/-- K_k after a sweep found μ (in 0.1 %): from 1.0 when μ exceeds the last one, otherwise from the K in force; rounded down
to 2⁻¹⁵, never above 1.0 (R458). -/
def sweptK (k prev mu : Nat) : Nat :=
  if prev != 0xFFFF && prev < mu then min 32768 (32768 * (1000 + mu) / 1200)
  else if mu < 200 then k * (1000 + mu) / 1200 else k

/-- Store the result of one monitor. -/
def sweepOne (s : State) (k mu : Nat) : State :=
  let s := (s.put (Reg.MON_K_K k) (sweptK (s.get (Reg.MON_K_K k)) (s.get (Reg.MON_MU_MU k)) mu)).put (Reg.MON_MU_MU k) mu
  let low := match s.fab.sweepLow with | some (m, j) => if mu < m then (mu, k) else (m, j) | none => (mu, k)
  { s with fab := { s.fab with sweepLow := some low, sweepN := s.fab.sweepN + 1 } }

/-- The result bytes of a sweep (R457). -/
def sweepResult (s : State) : List Byte :=
  let (m, k) := s.fab.sweepLow.getD (0xFFFF, 0)
  leBytes 2 m ++ leBytes 1 k ++ leBytes 1 s.fab.sweepN

/-- SWEEP_DONE is journalled at the end of a sweep (R457, R463). -/
def journalSweep (s : State) (status : Nat) : State :=
  let (m, k) := s.fab.sweepLow.getD (0xFFFF, 0)
  s.journal 0 0x0013 0x1304 (leBytes 2 status ++ leBytes 2 m ++ leBytes 1 k ++ leBytes 2 (s.get (Reg.MON_K_K k)))

/-- MARGIN_SWEEP (R457, R461). -/
def marginSweepOp : OpSpec where
  opcode := 0x02B0
  check _ d := if !d.zero 24 63 || d.past = 2 then St.invalid else 0
  due _ _ := true
  apply s w :=
    if (longOp s 0x02B0 0).isSome then refuseDesc s w St.busy
    else
      let m := w.d.u64 16
      let left := (List.range 64).filter (fun k => m = 0 || bitOf m k)
      startLong { s with fab := { s.fab with sweepLeft := left, sweepLow := none, sweepN := 0 } } w 0
  periodic := false

/-- The row MARGIN_SWEEP. -/
def execMarginSweep (d : Desc) (s : State) : Out := .next (submit marginSweepOp s d)

/-- The row SWEEP_DONE: the margins found, in 0.1 %, of the next monitors still to sweep, in ascending order. When all are
swept the operation completes; a suspension or cancellation requested takes effect here (R415, R457). -/
def execSweepDone (mus : List (BitVec 16)) (s : State) : Out := .next <|
  match longOp s 0x02B0 0 with
  | none => s
  | some l =>
    if l.suspended then s
    else
      let now := s.fab.sweepLeft.take mus.length
      let s := (now.zip mus).foldl (fun s p => sweepOne s p.1 p.2.toNat) s
      let s := { s with fab := { s.fab with sweepLeft := s.fab.sweepLeft.drop mus.length } }
      if s.fab.sweepLeft.isEmpty then endLong (journalSweep s St.ok) l St.ok (sweepResult s)
      else if l.cancelReq then endLong (journalSweep s St.cancelled) l St.cancelled (sweepResult s)
      else (longPoint s l []).getD s

/-! ### Commands (R459–R461) -/

/-- Addresses FAB_SET's MASK bits 0–5 select, and the pair of bit 6. -/
def fabSetAddrs : List Nat := [0x130000, 0x130008, 0x13000C, 0x130010, 0x130200, 0x130204, 0x170000, 0x170004]

/-- VFAB_MIN is stored no higher than VFAB_MAX (PWR_VLIM). -/
def normVlim (s : State) : State :=
  if s.get Reg.PWR_VLIM_VFAB_MAX < s.get Reg.PWR_VLIM_VFAB_MIN then
    s.put Reg.PWR_VLIM_VFAB_MIN (s.get Reg.PWR_VLIM_VFAB_MAX) else s

/-- FAB_SET's MASK by register: bit 6 selects two, PWR_AVS_CFG and PWR_VLIM. -/
def fabMask (d : Desc) : Nat := d.u16 18 % 128 + 128 * (d.u16 18 / 64 % 2)

/-- A value of FAB_SET has a reserved bit set. -/
def fabStray (d : Desc) : Bool := strayValue d (fabMask d) fabSetAddrs

/-- FAB_SET: SUP_REMAP and VFAB_BOOT are ignored. -/
def fabSetOp : OpSpec where
  opcode := 0x02B1
  check _ d := if d.u8 16 != 0 || d.u8 17 != 0 || 128 ≤ d.u16 18 || !d.zero 52 63 || d.past = 2 || fabStray d then
    St.invalid else 0
  due s _ := s.atMs
  apply s w :=
    let boot := s.get Reg.PWR_AVS_CFG_VFAB_BOOT
    let s := storeMasked s w.d (fabMask w.d) fabSetAddrs
    let s := showVmax (normVlim (s.put Reg.PWR_AVS_CFG_VFAB_BOOT boot))
    let s := if bitOf (w.d.u16 18) 4 && s.bit Reg.FAB_PLAN_CFG_PLAN_EN then
        { s with fab := { s.fab with rewritten := true } } else s
    finishDesc s w St.ok []
  periodic := false

/-- The row FAB_SET. -/
def execFabSet (d : Desc) (s : State) : Out := .next (submit fabSetOp s d)

/-- The 64-byte margin report (R460). -/
def marginReportBytes (s : State) : List Byte :=
  let (mu, mk) := s.fab.sweepLow.getD (0xFFFF, 0)
  let lowK := (List.range 64).foldl (fun m k => min m (s.get (Reg.MON_K_K k))) 32768
  leBytes 8 s.nowShort ++ leBytes 2 (sMeas s) ++ leBytes 2 (sNeed s) ++ leBytes 2 (s.get Reg.PWR_AVS_RD_VREAD)
    ++ leBytes 2 (s.get Reg.PWR_VLIM_VFAB_MAX) ++ leBytes 2 (s.get Reg.PWR_TJ_MAX_TJ_MAX)
    ++ leBytes 2 (s.get Reg.FAB_PLAN_DAYS_DAYS_FAB) ++ leBytes 2 (s.get Reg.FAB_PLAN_DAYS_DAYS_EYE)
    ++ leBytes 2 (s.get Reg.FAB_PLAN_SCORR_S_CORR) ++ leBytes 4 (s.get Reg.FAB_PLAN_S0_S0) ++ leBytes 4 (s.get Reg.FAB_PLAN_B_B)
    ++ leBytes 8 (s.getPair Reg.FAB_EXCL_LO_EXCL Reg.FAB_EXCL_HI_EXCL) ++ leBytes 2 mu ++ leBytes 1 mk ++ leBytes 1 (satU 8 (lowK / 128))
    ++ ((List.range 4).flatMap (fun c => leBytes 1 (satU 8 (s.get (Reg.CLS_Q2_Q_PLN c)))))
    ++ leBytes 3 (s.get Reg.FAB_TDC_END_END)
    ++ leBytes 1 (s.get Reg.FAB_PLAN_STAT_AT_VMAX + 2 * s.get Reg.PWR_AVS_STAT_AVS_OK
        + 4 * b2n (s.get Reg.FAB_PLAN_STAT_REPLAN_CLS != 0))
    ++ leBytes 12 0

/-- MARGIN_REPORT (R460). -/
def marginReportOp : OpSpec where
  opcode := 0x02B2
  check _ d := if d.u64 16 % 64 != 0 || !d.zero 24 63 || d.past = 2 then St.invalid else 0
  due s _ := s.atMs
  apply s w :=
    let s := if s.dmaOk then
        { s with hif := { s.hif with host := s.hif.host.set (fun _ => []) (w.d.u64 16) (marginReportBytes s) } }
      else s.bumpSat Reg.FAB_HOST_ERR_COUNT 1
    finishDesc s w St.ok []
  periodic := false

/-- The row MARGIN_REPORT. -/
def execMarginReport (d : Desc) (s : State) : Out := .next (submit marginReportOp s d)

end Sys2Proof.Machine
end

