-- ==== Sys2Proof/Machine/Modes.lean ====
section
/-!
DEFINITION. Device modes and engine resets, shared by start-up, the fault collector and the host interface (R9, R10, R360, R406,
R415–R419, R561–R565, R569, R572).
-/

namespace Sys2Proof.Machine

/-! ### Long operations ended from outside (R415, R417, R419) -/

/-- The master that carries a long operation. -/
def carrierOf (op : Nat) : Nat := if op = 0x0244 then 17 else if op = 0x0221 || op = 0x02E0 then 19 else 18

/-- Replace the header's STATE of a slot (0 A, 1 B). -/
def BootHdr.setSlot (h : BootHdr) (k v : Nat) : BootHdr := if k = 0 then { h with stA := v } else { h with stB := v }

/-- The slot a FIRMWARE_STAGE writes is left at STATE 2, and PENDING no longer names it (R570, R571). -/
def spoilSlot (s : State) : State :=
  match s.sys.stageSlot, s.sys.hdr with
  | some k, some h =>
    s.setSys (fun y => { y with hdr := some { h.setSlot k 2 with pending := if h.pending = k then 0xFF else h.pending } })
  | _, _ => s

/-- FIRMWARE_STAGE ends: RELEASE, slot and cause are its result, and FW_STAGED is journalled (R570, R574). -/
def endStage (s : State) (l : LongOp) (status release cause : Nat) : State :=
  let slot := s.sys.stageSlot.getD 0
  let s := s.setSys (fun y => { y with stageSlot := none })
  let s := s.journal (if status = St.ok then 0 else 1) 0x0001 0x0103
    (leBytes 2 status ++ leBytes 1 slot ++ leBytes 2 release ++ leBytes 1 cause)
  endLong s l status (leBytes 2 release ++ leBytes 1 slot ++ leBytes 1 cause)

/-- OPT of FIRMWARE_STAGE asks for verification only. -/
def verifyOnly (d : Desc) : Bool := bitOf (d.u8 28) 1

/-- End a long operation, running or suspended, from outside: cancelled, aborted or ended by a mode. -/
def endOp (s : State) (l : LongOp) (status : Nat) : State :=
  if l.opcode = 0x0221 then
    match s.gns.survey with
    | some v => endSurvey s l v status
    | none => endLong s l status []
  else if l.opcode = 0x0244 then endLong (setLearn s (fun _ => Learn.zero)) l status []
  else if l.opcode = 0x0280 then endCal s l status
  else if l.opcode = 0x02A2 then endRekey s l status
  else if l.opcode = 0x02B0 then endLong (journalSweep s status) l status (sweepResult s)
  else if l.opcode = 0x02E0 then
    let r := match s.obs.exp with | some e => e.result | none => []
    endLong { s with obs := { s.obs with exp := none } } l status r
  else endStage (if verifyOnly l.d then s else spoilSlot s) l status 0 0

/-- End every long operation that satisfies `p`. -/
def endOps (s : State) (p : LongOp → Bool) (status : Nat) : State :=
  (s.hif.longs.filter p).foldl (fun s l => endOp s l status) s

/-! ### Engine resets (R419, R569) -/

/-- Descriptors of the host, which post completions, among the operations a master carries. -/
def carriedBy (s : State) (e : Nat) : List LongOp := s.hif.longs.filter (fun l => carrierOf l.opcode = e)

/-- Master e (0–19) is reset: its locks are released, what it carries ends with ABORTED, and its work is dropped. Answers the
transactions dropped and the descriptors ended. One already in reset is not reset again (R421). -/
def engineReset (s : State) (e : Nat) : State × Nat × Nat :=
  if bitOf s.sys.engReset e then (s, 0, 0)
  else
    let s := masterReset s e
    if e < 16 then
      let r := resetEngine s e
      (if r.1.bit Reg.OBS_SMP_CFG_EN then loadCountdown r.1 e else r.1, r.2, 0)
    else
      let n := (carriedBy s e).filter (fun l => !l.auto)
      let s := endOps s (fun l => carrierOf l.opcode = e) St.aborted
      let s := s.setSys (fun y => { y with engReset := setBit y.engReset e true })
      if e < 18 then
        (showSolo (pauseSel s), 0, n.length)
      else (s.setSys (fun y => { y with svAt := y.svAt.set (fun _ => 0) (e - 18) s.freeNs }), 0, n.length)

/-! ### Changes of mode (R10, R561) -/

/-- Journal MODE_CHANGE. -/
def journalMode (s : State) (new old cause tag stamp : Nat) : State :=
  s.journalAt stamp (if new = 4 then 3 else 0) 0x0000 0x0001
    (leBytes 1 new ++ leBytes 1 old ++ leBytes 1 cause ++ leBytes 1 0 ++ leBytes 4 tag)

/-- The mode becomes `new`, from a mode of R9: flag, MODE_CHANGE stamped `stamp`, vector 65. -/
def putMode (s : State) (new : Mode) (cause tag stamp : Nat) : State :=
  let old := s.mode.code
  let s := ((s.put Reg.GEN_MODE_PREV old).put Reg.GEN_MODE_MODE new.code).publish Reg.GEN_MODE_VALID Reg.GEN_MODE_SEQ
  (journalMode (s.setFlag Flag.GEN_MODE_CHG) new.code old cause tag stamp).fire 65

/-- A key whose CLA_SEQKEY no longer waits is not shared. -/
def dropKeys (s : State) : State :=
  s.setCnj (fun c => { c with keys := c.keys.filter (fun k =>
    match k.aseq with | some a => s.hif.waiting.any (fun w => w.aseq = a) | none => true) })

/-- Descriptors that wait and that the mode in force refuses complete with DENIED_MODE (R406). -/
def denyWaiting (s : State) : State := dropKeys (endWaiting s (fun w => !modeAccepts s.mode w.opcode) St.deniedMode)

/-- Disturbing changes of ports that have not yet acted have no effect outside SERVICE. -/
def dropDisturbs (s : State) : State :=
  (List.range 8).foldl (fun s p =>
    match (s.port p).disturb with
    | some d =>
      match d.w with
      | some w =>
        let s := s.setPort p { s.port p with disturb := none }
        if w.opcode = 0x0280 || disturbPeer s p d then s else refuseDesc s w St.deniedMode
      | none => s
    | none => s) s

/-- SERVICE is left for SETUP or RECOVERY (R565): booked frames are discarded with cause MODE, the engines stop. -/
def leaveService (s : State) : State := dropDisturbs (portsLeave (claLeave (tsuLeave s 6)))

/-! ### Trend storage (R572) -/

/-- The planner's trend as it stands. -/
def trendNow (s : State) : TrendData :=
  ⟨s.fab.corrDay, s.fab.corrSum, s.fab.corrN, s.fab.days, s.fab.eyeDays, s.fab.firstService⟩

/-- The half to write, the one with the lower sequence number or none, and the next number. -/
def trendHalf (s : State) : Nat × Nat :=
  let n (k : Nat) : Nat := match s.sys.trend.get (fun _ => none) k with | some p => p.1 + 1 | none => 0
  (if n 1 < n 0 then 1 else 0, max (n 0) (n 1))

/-- Write the trend into the older half, unless the flash fails; TREND_SAVE is journalled. A failed write leaves that half
invalid. -/
def writeTrend (s : State) (bad : Bool) : State :=
  let h := trendHalf s
  let v : Option (Nat × TrendData) := if bad then none else some (h.2, trendNow s)
  let s := s.setSys (fun y => { y with trend := y.trend.set (fun _ => none) h.1 v, trendDue := false })
  s.journal (b2n bad) 0x0001 0x0104 (leBytes 1 h.1 ++ leBytes 1 (b2n bad))

/-! ### Entry to SERVICE (R562, R564) -/

/-- The conditions of R562 that fail, as GEN_MODE.REFUSE. -/
def refuseBits (s : State) : Nat :=
  b2n (!(s.bit Reg.FAB_SMEAS_VALID && sNeed s ≤ sMeas s)) + 2 * b2n (!s.bit Reg.SAT_STAT_KAT_OK)
    + 4 * b2n (s.bit Reg.CLA_STAT_CFGERR) + 8 * b2n (s.get Reg.SYN_APLL_STAT_LOCK != 7)
    + 16 * b2n (s.sys.engReset % 2 ^ 20 != 0) + 32 * b2n (!s.bit Reg.SAT_STAT_DRBG_OK) + 64 * b2n (s.bit Reg.GEN_MODE_ROM_REC)

/-- A request for a mode is refused: REFUSE, REFUSED, MODE_REFUSED. -/
def refuseMode (s : State) (target bits tag : Nat) : State :=
  let s := (s.put Reg.GEN_MODE_REFUSE bits).publish Reg.GEN_MODE_VALID Reg.GEN_MODE_SEQ
  (s.setFlag Flag.GEN_REFUSED).journal 1 0x0000 0x0002 (leBytes 1 target ++ leBytes 1 0 ++ leBytes 2 bits ++ leBytes 4 tag)

/-- A slot booted as pending becomes ACTIVE with STATE 1 at the first entry to SERVICE (R558, R564). -/
def activateSlot (s : State) : State :=
  match s.sys.bootPend, s.sys.hdr with
  | some k, some h => s.setSys (fun y => { y with bootPend := none, hdr := some { h.setSlot k 1 with active := k } })
  | _, _ => s

/-- At the first entry recorded in the trend area, its date is day 0; it is written there unless a stage holds the flash. -/
def firstEntry (s : State) : State :=
  if s.fab.firstService.isSome then s
  else
    let s := { s with fab := { s.fab with firstService := some (tbSec s.tbU) } }
    if s.get Reg.GEN_STRAP_BOOT_SRC = 1 then s
    else if s.sys.stageSlot.isSome then s.setSys (fun y => { y with trendDue := true }) else writeTrend s false

/-- SERVICE is entered (R564), all in this TB cycle. The DRBG's health tests pass (log 34). -/
def enterService (s : State) (cause tag : Nat) : State :=
  let s := putMode s .service cause tag s.nowShort
  let s := firstEntry (activateSlot (gnssService (reseed s true)))
  denyWaiting (streamsStart s)

/-- SETUP is entered from SERVICE or RECOVERY (R561, R565): every long operation but SAT_REKEY and FIRMWARE_STAGE ends. -/
def enterSetup (s : State) (cause tag : Nat) : State :=
  let s := if s.mode = .service then leaveService s else s
  let s := endOps s (fun l => l.opcode != 0x02A2 && l.opcode != 0x0010) St.cancelled
  denyWaiting (showPair (putMode s .setup cause tag s.nowShort))

/-- RECOVERY is entered from SERVICE (R417, R565): outputs and generators stop, any role is given up. -/
def enterRecovery (s : State) (cause tag : Nat) : State :=
  let s := leaveService s
  let s := endOps s (fun l => l.opcode != 0x0221 && l.opcode != 0x02E0 && l.opcode != 0x0010) St.cancelled
  let s := putMode s .recovery cause tag s.nowShort
  esmcLevels (pairLeave (plsRecovery (outsRecovery (denyWaiting s))))

/-- SETUP is entered from BOOT (R573): ports and the pair unit take their states, the Tense unit and the baseband run. -/
def firstSetup (s : State) : State :=
  let s := putMode s .setup 0 0 s.nowShort
  pairStart (portsSetup (efcInit (gnssStart s)))

end Sys2Proof.Machine
end

