-- ==== Sys2Proof/Machine/Faults.lean ====
section
/-!
DEFINITION. The fault collector (spec/14_faults.md): classification, escalation, the first-fault record, containment, suppression
windows, the safe state, and fault injection.
-/

namespace Sys2Proof.Machine

/-! ### Suppression windows (R476, R477) -/

/-- Every listed source that is not fixed-FATAL. -/
def maskable : List Nat := (List.range 256).filter (fun i => srcValid i = 1 && srcFixed i = 0)

/-- The sources a window lists, with its cause. -/
def winDets (kind inst cause : Nat) : List Nat :=
  cause :: (if kind = 0 then [0x60 + inst, 0x1B, 0x1C, 0x1D, 0x10 + inst / 2, 0x0D]
    else if kind = 1 then [0x70 + inst, 0x1B, 0x1C, 0x1D, 0x07, 0x08, 0x09]
    else if kind = 2 then [0x72 + inst, 0x1B, 0x1C, 0x1D, 0x1A] ++ (if inst = 1 then [0x0A, 0x0B, 0x1F, 0x20] else [])
    else if kind = 3 then [0x10 + inst, 0x0F]
    else if kind = 4 then (List.range 8).map (fun p => 0x40 + p) ++ [0x78]
    else if kind = 5 then 0x0F :: (List.range 8).map (fun k => 0x10 + k) ++ (List.range 20).map (fun k => 0x48 + k)
    else if kind = 6 then (0x28 + inst) :: (if 16 ≤ inst then [0x54 + (inst - 16)] else [])
    else if kind = 7 then [0x0A + inst]
    else if kind = 8 then [0x40 + inst]
    else if kind = 9 then [if inst < 12 then 0x48 + inst else 0x54 + (inst - 16)]
    else maskable)

/-- The window that makes an event consequential (R476). -/
def causeOfEvent (s : State) (e : FltEvent) : Option Win := causeWin s e.src e.master e.ao

/-- Show FLT_SRC_STAT.WIN of the sources `l`. -/
def showWins (s : State) (l : List Nat) : State :=
  l.foldl (fun s i => s.putB (Reg.FLT_SRC_STAT_WIN i) (s.flt.wins.any (fun w => i ∈ w.dets))) s

/-- A reaction opens a window. -/
def openWin (s : State) (kind inst cause : Nat) (life : Option Nat) : State :=
  let d := winDets kind inst cause
  let w : Win := ⟨cause, d, s.tb.ao, kind, inst, 0, life.map (fun t => s.tb.ao + t)⟩
  showWins { s with flt := { s.flt with wins := s.flt.wins ++ [w] } } d

/-- The row SUPPRESSION_WINDOW_CLOSE: windows whose end has come are gone, and their detectors are classified afresh. -/
def execSuppressionWindowClose (s : State) : Out := .next <|
  let ended (w : Win) : Bool := match w.closes with | some t => decide (t ≤ s.tb.ao) | none => false
  let gone := s.flt.wins.filter ended
  let s := { s with flt := { s.flt with wins := s.flt.wins.filter (fun w => !ended w) } }
  gone.foldl (fun s w => showWins s w.dets) s

/-! ### Containment (R465) -/

/-- Reset of a master as a containment, with its window. -/
def containReset (s : State) (m cause : Nat) : State :=
  if 20 ≤ m || bitOf s.sys.engReset m then s
  else
    let s := (engineReset s m).1
    if m < 16 then openWin s 0 m cause none
    else if m < 18 then openWin s 1 (m - 16) cause none else openWin s 2 (m - 18) cause none

/-- Reset of AES core k: the work in its eight slots ends. -/
def coreReset (s : State) (k cause : Nat) : State :=
  let hit := s.cla.flight.filter (fun x => x.engine / 2 = k && (match x.stage with | .op _ => true | .seal => true | _ => false))
  openWin (hit.foldl (fun s x => abandon s x 0) s) 3 k cause (some 10000)

/-- The channels of band b (0 L1, 1 L5) start again from acquisition. -/
def bandRestart (s : State) (b cause : Nat) : State :=
  let s := ((List.range 64).map (fun n => 64 * b + n)).foldl (fun s n =>
    if 2 ≤ s.get (Reg.CHN_STAT_STATE n) then
      ((setChan s n Chan.zero).put (Reg.CHN_STAT_STATE n) 1).putB (Reg.CHN_STAT_USED n) false else s) s
  openWin s 7 b cause (some 2000000000)

/-- Generator n is set to OFF with its pin inactive, until a PLS_SET writes GEN_CFG (log 35). -/
def genStop (s : State) (n cause : Nat) : State :=
  let s := s.put (Reg.GEN_CFG_MODE n) 0
  let s := showGen (s.setGen n { s.gen n with level := false, joined := false, ends := none, frame := none, nextMark := none }) n
  openWin s 9 n cause none

/-- The containment reaction of a source (R465); `master` is the event's. -/
def contain (s : State) (src master : Nat) : State :=
  if src = 0x05 then openWin (startRelock s 1 0) 4 0 src none
  else if src = 0x06 then openWin (startRelock s 2 0) 5 0 src none
  else if src = 0x07 || src = 0x08 || src = 0x09 then containReset s 17 src
  else if src = 0x0A || src = 0x0B then bandRestart s (src - 0x0A) src
  else if src = 0x0E then reseed s true
  else if 0x10 ≤ src && src ≤ 0x17 then coreReset s (src - 0x10) src
  else if (0x1B ≤ src && src ≤ 0x1D) || (0x21 ≤ src && src ≤ 0x26) then containReset s master src
  else if 0x28 ≤ src && src ≤ 0x3F then openWin (resetTrim s (src - 0x28)) 6 (src - 0x28) src none
  else if 0x40 ≤ src && src ≤ 0x47 then
    openWin (disturb s (src - 0x40) ⟨1, [], 0, 7, none⟩) 8 (src - 0x40) src (some 300000000)
  else if 0x48 ≤ src && src ≤ 0x53 then genStop s (src - 0x48) src
  else if 0x54 ≤ src && src ≤ 0x5B then genStop s (src - 0x54 + 16) src
  else if 0x60 ≤ src && src ≤ 0x73 then containReset s (src - 0x60) src
  else s

/-! ### The decision (R468–R473) -/

/-- Order of the classes: CORRECTED, CONTAINED, SEVERE, FATAL (R464). -/
def clsRank (c : Nat) : Nat := if c = 2 then 3 else if c = 3 then 2 else c

/-- When an event arrived, for ordering: its stamp's instant, or its AO cycle before the time base runs (R467). -/
def evKey (e : FltEvent) : Nat := if e.tbLive then e.ao else e.ao / 20 * 20

/-- Events of one source within its window W that count towards escalation, up to AO time `t` (R471). -/
def histWithin (s : State) (src t : Nat) : Nat :=
  ((s.flt.hist.get (fun _ => []) src).filter (fun x => t ≤ x + s.get (Reg.FLT_SRC_CFG_W src) * 100000000)).length

/-- Show FLT_SRC_STAT.HIST of a source. -/
def showHist (s : State) (src : Nat) : State := s.put (Reg.FLT_SRC_STAT_HIST src) (histWithin s src s.tb.ao)

/-- FLT_SRC_STAT.HIST of every source with a history, as time passes. -/
def histTick (s : State) : State :=
  if s.flt.hist.isEmpty then s else s.flt.hist.foldl (fun s p => showHist s p.1) s

/-- An event with its class, escalation and the window that makes it consequential. -/
structure Decided where
  e : FltEvent
  cls : Nat
  esc : Bool
  cause : Option Win

/-- The event takes part in reactions: real, or injected with REACT (R483). -/
def Decided.live (d : Decided) : Bool := !d.e.inj || d.e.react

/-- Classify an event, remembering it in its source's history when it counts (R471, R483). -/
def classEvent (s : State) (e : FltEvent) : State × Decided :=
  let cause := causeOfEvent s e
  let c := actingClass s e.src
  if cause.isSome || (e.inj && !e.react) then (s, ⟨e, c, false, cause⟩)
  else
    let h := (e.ao :: s.flt.hist.get (fun _ => []) e.src).take 8
    let s := { s with flt := { s.flt with hist := s.flt.hist.set (fun _ => []) e.src h } }
    let esc : Bool := s.bit Reg.FLT_STAT_PAIR_ESC && !fixedFatal e.src &&
      decide (s.get (Reg.FLT_SRC_CFG_N e.src) ≤ histWithin s e.src e.ao)
    (showHist s e.src, ⟨e, if esc then 3 else c, esc, cause⟩)

/-- `a` comes before `b`: the earlier stamp, on equal stamps the higher class, then the lower source (R473). -/
def Decided.before (a b : Decided) : Bool :=
  evKey a.e < evKey b.e || (evKey a.e = evKey b.e &&
    (clsRank b.cls < clsRank a.cls || (a.cls = b.cls && a.e.src < b.e.src)))

/-- The first of the events that `p` admits. -/
def firstOf (l : List Decided) (p : Decided → Bool) : Option Decided :=
  (l.filter p).foldl (fun (b : Option Decided) d => match b with
    | none => some d
    | some x => if d.before x then some d else some x) none

/-- An event qualifies for capture (R472). -/
def qualifies (s : State) (d : Decided) : Bool :=
  d.cause.isNone && d.live && clsRank (s.get Reg.FLT_CFG_FF_MIN) ≤ clsRank d.cls

/-- Two events carry equal stamps. -/
def sameStamp (a b : Decided) : Bool := evKey a.e = evKey b.e && a.e.stamp = b.e.stamp

/-- Events that the record counts as co-first with `f`, by source. -/
def coFirst (l : List Decided) (f : Decided) : List Nat :=
  ((l.filter (fun d => d.cause.isNone && sameStamp d f && !(d.e.src = f.e.src && d.e.master = f.e.master))).map (fun d => d.e.src)).eraseDups

/-- ADDR is recorded for FAB_DECODE, FAB_PERM, FAB_LOCK and MEM_UNCORR (R472). -/
def hasAddr (src : Nat) : Bool := (0x1B ≤ src && src ≤ 0x1D) || (0x21 ≤ src && src ≤ 0x26)

/-- INFO is recorded for TDC_CAL, TSU_VERIFY, PLS_EDGE and ENG_WDOG (R472). -/
def hasInfo (src : Nat) : Bool := (0x28 ≤ src && src ≤ 0x5B) || (0x60 ≤ src && src ≤ 0x73)

/-- Capture the first fault with its co-first sources (R472–R474). -/
def capture (s : State) (f : Decided) (co : List Nat) : State :=
  let e := f.e
  let s := (s.putB Reg.FLT_FF_STAT_HELD true).bumpSat Reg.FLT_FF_CNT_HELD_CNT 1
  let s := ((s.putB Reg.FLT_FF_STAT_PRIOR false).putB Reg.FLT_FF_STAT_INJ e.inj).put Reg.FLT_FF_STAT_CLASS f.cls
  let s := (s.put Reg.FLT_FF_STAT_SOURCE e.src).put Reg.FLT_FF_STAT_COFIRST_N co.length
  let s := s.publish Reg.FLT_FF_STAT_VALID Reg.FLT_FF_STAT_SEQ
  let s := ((s.put Reg.FLT_FF_NS_NS (tbNs e.stamp)).put Reg.FLT_FF_SECL_SEC (tbSec e.stamp)).put Reg.FLT_FF_FRAC_FRAC
    (tbFrac e.stamp / 4096)
  let s := (s.put Reg.FLT_FF_CSEQ_CSEQ s.jr.cseq).commitMark
  let a := if hasAddr e.src then e.addr else 0
  let s := (s.put Reg.FLT_FF_ADDRL_ADDR a).put Reg.FLT_FF_ADDRH_ADDR (a / 2 ^ 32)
  let s := (s.put Reg.FLT_FF_ACC_MASTER e.master).put Reg.FLT_FF_ACC_ACCESS e.access
  let s := s.put Reg.FLT_FF_INFO_INFO (if hasInfo e.src then e.info else 0)
  let s := (List.range 8).foldl (fun s k => s.put (Reg.FLT_COFIRST_MASK k)
    ((List.range 32).foldl (fun m j => if 32 * k + j ∈ co then m + 2 ^ j else m) 0)) s
  { s with flt := { s.flt with heldAo := some (s.tb.ao / 20) } }

/-- The FAULT record (R489): CORRECTED ones at most once per source and TB millisecond. -/
def journalFault (s : State) (d : Decided) (first co : Bool) : State :=
  let e := d.e
  let ms := s.nowU / msU + 1
  if d.cls = 0 && s.flt.logged.get (fun _ => 0) e.src = ms then s.setFlag Flag.FLT_LOG_DROP
  else
    let s := if d.cls = 0 then { s with flt := { s.flt with logged := s.flt.logged.set (fun _ => 0) e.src ms } } else s
    let a := if hasAddr e.src then e.addr % 2 ^ 32 else 0
    let w := if a = 0 then (if hasInfo e.src then e.info else 0) else a
    let fl := b2n d.cause.isSome + 2 * b2n e.inj + 4 * b2n first + 8 * b2n co + 16 * b2n d.esc
    s.journalAt (if e.tbLive then shortOf e.stamp else 0) (if d.cls = 0 then 1 else if d.cls = 1 then 2 else 3) 0x0014 0x1401
      (leBytes 1 e.src ++ leBytes 1 d.cls ++ leBytes 1 fl ++ leBytes 1 ((d.cause.map (fun w => w.cause)).getD 0xFF)
        ++ leBytes 1 e.master ++ leBytes 1 e.access ++ leBytes 2 0 ++ leBytes 4 w)

/-- A NOTICE to the peer of a pair (R518). -/
def notice (s : State) (src cls flags stamp : Nat) : State :=
  if pstate s = 0 then s else s.setCnj (fun c => { c with notices := c.notices ++ [⟨src, cls, flags, stamp⟩] })

/-- Assert the safe-state net for an event whose class the collector decides (R479): SEVERE, HOST_SAFE, or a FATAL class that was
not yet in force when the event was delivered. Not in TEST (R488). -/
def assertNet (s : State) (d : Decided) : State :=
  if s.mode = .test || s.flt.net.isSome || s.bit Reg.FLT_STAT_SAFE then s
  else { s with flt := { s.flt with net := some ⟨d.e.src, d.cls, d.e.ao, s.tb.ao, s.nowShort⟩ } }

/-- What an event does once it is classified: counts, flags, journal, vector and reaction (R469, R476, R480, R483). -/
def takeEvent (s : State) (d : Decided) (first co : Bool) : State :=
  let e := d.e
  let s := s.bumpSat (Reg.FLT_SRC_CNT_COUNT e.src) 1
  let s := s.setFlag (if d.cls = 0 then Flag.FLT_CORRECTED else if d.cls = 1 then Flag.FLT_CONTAINED
    else if d.cls = 2 then Flag.FLT_FATAL else Flag.FLT_SEVERE)
  let s := (s.flagIf (e.src = 0) Flag.FLT_VOTE).flagIf e.inj Flag.FLT_INJECTED
  let s := match d.cause with
    | some w => ((s.bumpSat (Reg.FLT_SRC_CONSEQ_CONSEQ e.src) 1).put (Reg.FLT_SRC_STAT_CAUSE e.src) w.cause).setFlag Flag.FLT_CONSEQ
    | none => s
  let s := journalFault s d first co
  if d.cause.isSome || !d.live then s
  else
    let s := if d.cls = 0 then s
      else
        let s := s.fire 66
        let s := if 2 ≤ d.cls then alertOn s 1 else s
        notice s e.src d.cls (2 * b2n e.inj + 4 * b2n first + 8 * b2n co + 16 * b2n d.esc) e.stamp
    if s.bit Reg.FLT_STAT_SAFE then s
    else if d.cls = 1 then contain s e.src e.master
    else if d.cls = 2 || d.cls = 3 then assertNet s d
    else s

/-- The safe state's window, open from the net's assertion until the next device reset (R477). -/
def safeWindow (s : State) : State :=
  match s.flt.net with
  | some n =>
    if s.flt.wins.any (fun w => w.kind = 10) then s
    else
      let d := winDets 10 0 n.src
      showWins { s with flt := { s.flt with wins := s.flt.wins ++ [⟨n.src, d, n.dAo, 10, 0, 0, none⟩] } } d
  | none => s

/-- Classify events one after another, in the order in which they were delivered. -/
def classifyAll (s : State) : List FltEvent → State × List Decided
  | [] => (s, [])
  | e :: t =>
    let r := classEvent s e
    let q := classifyAll r.1 t
    (q.1, r.2 :: q.2)

/-- Decide the events of one stamp, of whose `l` all have settled. -/
def decideGroup (s : State) (es : List FltEvent) : State :=
  let (s, l) := classifyAll (safeWindow s) es
  let f := if s.bit Reg.FLT_FF_STAT_HELD then none else firstOf l (qualifies s)
  let co := match f with | some d => coFirst l d | none => []
  let s := match f with | some d => capture s d co | none => s
  let isFirst (d : Decided) : Bool := match f with | some x => x.e = d.e && x.cls = d.cls | none => false
  let isCo (d : Decided) : Bool := d.cause.isNone && !isFirst d && d.e.src ∈ co && (match f with | some x => sameStamp d x | none => false)
  safeWindow (l.foldl (fun s d => takeEvent s d (isFirst d) (isCo d)) s)

/-- Decide the settled events group by group, in the order of their stamps. -/
def decideAll : Nat → State → List FltEvent → State
  | 0, s, _ => s
  | n + 1, s, l =>
    match l with
    | [] => s
    | e :: t =>
      let k := (e :: t).foldl (fun m x => min m (evKey x)) (evKey e)
      decideAll n (decideGroup s (l.filter (fun x => evKey x = k))) (l.filter (fun x => evKey x != k))

/-- The row FAULT_DECISION: every event whose stamp lies 200 ns back has settled, and the collector decides it. -/
def execFaultDecision (s : State) : Out := .next <|
  let settled (e : FltEvent) : Bool := e.ao + 200 ≤ s.tb.ao
  let due := s.flt.events.filter settled
  if due.isEmpty then s
  else
    let s := { s with flt := { s.flt with events := s.flt.events.filter (fun e => !settled e) } }
    let s := decideAll due.length s due
    (s.putB Reg.FLT_STAT_SETTLING (!s.flt.events.isEmpty)).publishFlt

/-- The row FAULT_EVENT: a checker of a listed source delivers its event, with fabric address, master, access type and INFO. -/
def execFaultEvent (src : Byte) (addr : BitVec 64) (master : Byte) (access : Fin 8) (info : BitVec 32) (s : State) : Out := .next <|
  if srcValid src.toNat = 0 then s else checkAt s src.toNat true addr.toNat master.toNat access.val info.toNat

/-! ### The safe state (R479, R480) -/

/-- The row SAFE_STATE_ASSERT: the net is driven. Outputs, ports and pair pins go safe, and the mode becomes SAFE, stamped D. -/
def execSafeStateAssert (s : State) : Out := .next <|
  match s.flt.net with
  | none => s
  | some n =>
    if s.bit Reg.FLT_STAT_SAFE || s.sys.inReset then s
    else
      let held : Bool := role s = 2 || role s = 3
      let s := (s.putB Reg.FLT_STAT_SAFE true).publishFlt
      let s := pairSafe (plsSafe (outsSafe (safeWindow s)))
      let s := dropDisturbs (claLeave (tsuLeave s 7))
      let s := endOps s (fun l => l.opcode != 0x02E0) St.cancelled
      let s := denyWaiting (putMode s .safe 3 0 n.stamp)
      let s := s.journalAt n.stamp 3 0x0014 0x1402
        (leBytes 1 n.src ++ leBytes 1 n.cls ++ leBytes 1 (b2n held) ++ leBytes 1 0 ++ leBytes 4 (satU 32 (n.dAo - n.detAo)))
      alertOn (notice s n.src n.cls 0 (n.stamp / 2 ^ 32 * secU + n.stamp % 2 ^ 32 * 65536)) 0

/-! ### Monitors -/

/-- The row ENG_WDOG: engine e has made no progress mark for WDOG_US while out of reset; `pc` is its last instruction address. -/
def execEngWdog (e : Fin 20) (pc : BitVec 64) (s : State) : Out := .next <|
  if bitOf s.sys.engReset e then s else checkAt s (0x60 + e) true 0 e 0 (pc.toNat % 2 ^ 32)

/-- The thresholds of a supply monitor in mV (R577): VDD_CORE, VDD_FAB, VDD_SDS, VDD_PLL, VDDIO_18, VDDIO_33. -/
def railLimits (r : Nat) : Nat × Nat :=
  if r = 0 then (700, 800) else if r = 1 then (620, 880) else if r = 2 then (850, 950) else if r = 3 then (1130, 1270)
  else if r = 4 then (1620, 1980) else (2970, 3630)

/-- The row SUPPLY_EXCURSION: a rail has read `mv` mV for 1 µs while RESET_N is high. -/
def execSupplyExcursion (r : Fin 6) (mv : BitVec 16) (s : State) : Out := .next <|
  if mv.toNat < (railLimits r).1 || (railLimits r).2 < mv.toNat then check s 0x81 true else s

/-- The row TJ_CRIT: the hottest junction sensor has read above 115 °C for 10 ms. -/
def execTjCrit (s : State) : Out := .next (check s 0x80 true)

/-- The row XO_SAFE_LOSS: AO finds no XO_SAFE edge for 1 µs and runs from its ring oscillator (R481). -/
def execXoSafeLoss (s : State) : Out := .next <|
  check (s.setSys (fun y => { y with ring := true })) 0x02 true

/-! ### Commands (R484–R487) -/

/-- FLT_SET. -/
def fltSetOp : OpSpec where
  opcode := 0x02C0
  check _ d :=
    let t := d.u16 16
    if !((t < 256 && srcValid t = 1) || t = 0xFFFF) || 2 ≤ d.u16 18 || !d.zero 24 63 || d.past = 2 ||
        strayValue d (d.u16 18) [if t = 0xFFFF then 0x140000 else 0x141000 + 0x10 * t] then St.invalid else 0
  due s _ := s.atMs
  apply s w :=
    let t := w.d.u16 16
    let s := if bitOf (w.d.u16 18) 0 then s.storeWord (if t = 0xFFFF then 0x140000 else 0x141000 + 0x10 * t) (w.d.u32 20) else s
    finishDesc (if t = 0xFFFF then s else showHist s t) w St.ok []
  periodic := false

/-- The row FLT_SET. -/
def execFltSet (d : Desc) (s : State) : Out := .next (submit fltSetOp s d)

/-- The base and size of the memory a MEM_UNCORR source names; the tables of memory 5 have word addresses of their own (log 13). -/
def memSpan (m : Nat) : Nat × Nat :=
  if m = 0 then (0x10000000, 0x01000000) else if m = 1 then (0x08000000, 0x00080000) else if m = 2 then (0x04000000, 0x00200000)
  else if m = 3 then (0x06000000, 0x00100000) else if m = 4 then (0x02000000, 0x00040000) else (0, 2 ^ 63)

/-- The injected event would be FATAL, or SEVERE under R471. Up to three symbols inverted in a memory's word are corrected, and no
source reports (R482). -/
def wouldForce (s : State) (src nsym : Nat) : Bool :=
  !(0x21 ≤ src && src ≤ 0x26 && nsym ≤ 3) && (actingClass s src = 2 ||
    (s.bit Reg.FLT_STAT_PAIR_ESC && !fixedFatal src && decide (s.get (Reg.FLT_SRC_CFG_N src) ≤ histWithin s src s.tb.ao + 1)))

/-- FLT_INJECT (R482, R485). -/
def fltInjectOp : OpSpec where
  opcode := 0x02C1
  check _ d :=
    let src := d.u8 16
    let mem : Bool := 0x21 ≤ src && src ≤ 0x26
    let sp := memSpan (src - 0x21)
    if srcValid src = 0 || 4 ≤ d.u8 17 || d.u8 19 != 0 || !d.zero 28 63 || d.past = 2 then St.invalid
    else if mem && (d.u8 18 = 0 || 6 < d.u8 18 || d.u64 20 % 32 != 0 || d.u64 20 < sp.1 || sp.1 + sp.2 ≤ d.u64 20) then St.invalid
    else if !mem && (d.u8 18 != 0 || d.u64 20 != 0) then St.invalid else 0
  due s _ := s.atMs
  apply s w :=
    let d := w.d
    let src := d.u8 16
    let react := bitOf (d.u8 17) 0
    if s.flt.inj.isSome then refuseDesc s w St.busy
    else if react && !bitOf (d.u8 17) 1 && wouldForce s src (d.u8 18) then refuseDesc s w St.protect
    else
      let s := if 0x21 ≤ src && src ≤ 0x26 then
          { s with fab := { s.fab with bad := s.fab.bad.set (fun _ => 0) (d.u64 20 / 32) (d.u8 18) } } else s
      openDesc { s with flt := { s.flt with inj := some ⟨src, d.u64 20, react, s.freeNs⟩ } } w src
  periodic := false

/-- The row FLT_INJECT. -/
def execFltInject (d : Desc) (s : State) : Out := .next (submit fltInjectOp s d)

/-- The row INJECT_TIMEOUT: the checker has made no comparison within 1 s, and the injection is withdrawn. -/
def execInjectTimeout (s : State) : Out := .next <|
  match s.flt.inj with
  | none => s
  | some j =>
    if s.freeNs < j.since + 1000000000 then s
    else
      let s := if 0x21 ≤ j.src && j.src ≤ 0x26 then
          { s with fab := { s.fab with bad := s.fab.bad.set (fun _ => 0) (j.addr / 32) 0 } } else s
      let mine (o : OpenOp) : Bool := o.opcode = 0x02C1
      let hit := s.hif.opens.filter mine
      let s := { s with flt := { s.flt with inj := none }, hif := { s.hif with opens := s.hif.opens.filter (fun o => !mine o) } }
      hit.foldl (fun s o => completeDesc s o.d St.busy false 0 []) s

/-- FLT_SAFE (R486): HOST_SAFE is reported, and its completion is written first. -/
def fltSafeOp : OpSpec where
  opcode := 0x02C2
  check _ d := if !d.zero 16 63 || d.past = 2 then St.invalid else 0
  due s _ := s.atMs
  apply s w := check (finishDesc s w St.ok []) 0x82 true
  periodic := false

/-- The row FLT_SAFE. -/
def execFltSafe (d : Desc) (s : State) : Out := .next (submit fltSafeOp s d)

end Sys2Proof.Machine
end

