-- ==== Sys2Proof/Machine/Startup.lean ====
section
/-!
DEFINITION. Power-up, resets, boot, entry to SERVICE, firmware staging and trend storage (spec/17_startup.md).
-/

namespace Sys2Proof.Machine

/-! ### Resets (R475, R551, R554, R555) -/

/-- A register that every device reset keeps (R475): the first-fault record, FLT_SRC_CNT and FLT_SRC_CONSEQ. -/
def keptReg (k : Nat) : Bool :=
  let a := k / 32
  (0x140040 ≤ a && a < 0x1400A0) || (0x141000 ≤ a && a < 0x142000 && 8 ≤ a % 16)

/-- The AO power-on reset: everything but what lies in flash, in host memory and in the queue of commands. RESET_N must rise before
anything runs. A firmware slot being written is left at STATE 2 (R570). -/
def powerOn (s : State) : State :=
  let s := match longOp s 0x0010 0 with | some l => if verifyOnly l.d then s else spoilSlot s | none => s
  let r := State.reset
  { r with
    hif := { r.hif with host := s.hif.host },
    sys := { r.sys with trend := s.sys.trend, hdr := s.sys.hdr },
    free := s.free, pending := s.pending }

/-- The device reset: as the AO power-on reset, but for the state R475 keeps and the AO time. PRIOR reads 1 with a record held over. -/
def deviceReset (s : State) : State :=
  let r := powerOn s
  let r := { r with
    regs := s.regs.filter (fun p => keptReg p.1),
    tb := { r.tb with ao := s.tb.ao },
    flt := { r.flt with hist := s.flt.hist },
    sys := { r.sys with aoPor := s.sys.aoPor } }
  if r.bit Reg.FLT_FF_STAT_VALID then r.putB Reg.FLT_FF_STAT_PRIOR true else r

/-- The row AO_POWER_ON: VDD_AO rises through 90 %. -/
def execAoPowerOn (s : State) : Out := .next (powerOn s)

/-- The row VDD_AO_LOW: VDD_AO falls below its threshold, and the device takes the AO power-on reset (R577). -/
def execVddAoLow (s : State) : Out := .next (powerOn s)

/-- The row RESET_ASSERT: RESET_N has been low for 1 µs. The safe-state net asserts, and the core domains are reset (R555). -/
def execResetAssert (s : State) : Out := .next (deviceReset s)

/-! ### Boot (R553, R556, R557, R561, R567) -/

/-- Change BOOT_STAT. -/
def bootStat (s : State) (f : State → State) : State := (f s).putB Reg.BOOT_STAT_VALID true

/-- Boot ends in ROM recovery with a cause (R567): 1 STRAP, 2 HEADER, 3 IMAGE. -/
def romRecovery (s : State) (cause : Nat) : State :=
  let s := bootStat s (fun s => (((s.put Reg.BOOT_STAT_PHASE 4).putB Reg.BOOT_STAT_WAIT_HOST false).putB Reg.BOOT_STAT_ROM_REC true).put
    Reg.BOOT_STAT_CAUSE cause)
  putMode (s.putB Reg.GEN_MODE_ROM_REC true) .recovery 4 0 s.nowShort

/-- The mode entered from reset: old mode 7, stamp 0, no vector. -/
def modeFromReset (s : State) (m : Mode) : State :=
  let s := ((s.put Reg.GEN_MODE_PREV 7).put Reg.GEN_MODE_MODE m.code).publish Reg.GEN_MODE_VALID Reg.GEN_MODE_SEQ
  journalMode s m.code 7 0 0 0

/-- The row RESET_RELEASE: the deglitched rise of RESET_N samples the straps `v`, laid out as GEN_STRAP, and starts BOOT or TEST. -/
def execResetRelease (v : BitVec 7) (s : State) : Out := .next <|
  if !s.sys.inReset then s
  else
    let n := v.toNat
    let s := (((s.put Reg.GEN_STRAP_TEST_MODE (n / 64)).put Reg.GEN_STRAP_ADDR_SEL (n / 16 % 4)).put Reg.GEN_STRAP_BOOT_SRC (n / 4 % 4)).put
      Reg.GEN_STRAP_PAIR_EN (n / 2 % 2)
    let s := s.put Reg.GEN_STRAP_UNIT_ID (n % 2)
    let por := s.sys.aoPor
    let s := (s.putB Reg.BOOT_RSTC_AO_POR por).putB Reg.BOOT_RSTC_PIN (!por)
    let s := s.setSys (fun y => { y with inReset := false, aoPor := false, step := 1 })
    let s := s.journalAt 0 0 0x0001 0x0101 (leBytes 1 (b2n (!por)) ++ leBytes 1 n ++ leBytes 1 (s.get Reg.FLT_FF_STAT_HELD))
    if n / 64 = 1 then zeroise (modeFromReset (histTick s) .test)
    else
      let s := bootStat (modeFromReset (histTick s) .boot) (fun s => s)
      if n / 4 % 4 = 3 then romRecovery s 1
      else if n / 4 % 4 = 1 then bootStat s (fun s => (s.put Reg.BOOT_STAT_PHASE 1).putB Reg.BOOT_STAT_WAIT_HOST true)
      else s

/-- A boot header of 256 bytes is valid (R557). -/
def hdrOk (h : List Byte) : Bool :=
  let u1 (k : Nat) : Nat := leNat h k 1
  h.length = 256 && leNat h 0 4 = 0x31484251 && u1 4 = 1 && leNat h 252 4 = crc32 (h.take 252) && u1 5 < 2 &&
    (u1 6 < 2 || u1 6 = 0xFF) && (u1 7 = 0x6B || u1 7 = 0xEC) && 10000000 ≤ leNat h 8 4 && leNat h 8 4 ≤ 100000000 &&
    650 ≤ leNat h 12 2 && leNat h 12 2 ≤ 850 && 2 ≤ leNat h 14 2 && leNat h 14 2 ≤ 16 &&
    leNat h 16 4 % 65536 = 0 && leNat h 20 4 % 65536 = 0 && u1 28 < 3 && u1 29 < 3

/-- The fields of a valid header. -/
def hdrOf (h : List Byte) : BootHdr := ⟨leNat h 5 1, leNat h 6 1, leNat h 8 4, leNat h 12 2, leNat h 28 1, leNat h 29 1⟩

/-- Load the oscillator frequency, command VFAB_BOOT and start APLL0 (R204, R449, R556 step 3). -/
def loadOsc (s : State) (hz : Nat) : State :=
  let s := ((s.put Reg.SYN_OSC_FREQ hz).putB Reg.SYN_OSC_OSCIN_OK true).put (Reg.DPLL_STAT_STATE 0) 1
  let s := (s.put Reg.PWR_AVS_STAT_VFAB_CMD (s.get Reg.PWR_AVS_CFG_VFAB_BOOT)).publish Reg.PWR_AVS_STAT_VALID Reg.PWR_AVS_STAT_SEQ
  s.setSys (fun y => { y with step := 2 })

/-- The row BOOT_HEADER_READ: the primary header and its copy as read from QSPI, and OSCIN in Hz as measured against XO_SAFE. -/
def execBootHeaderRead (primary copy : List Byte) (osc : BitVec 32) (s : State) : Out := .next <|
  if s.mode != .boot || s.sys.step != 1 || s.get Reg.GEN_STRAP_BOOT_SRC = 1 then s
  else
    let h := if hdrOk primary then some (hdrOf primary) else if hdrOk copy then some (hdrOf copy) else none
    match h with
    | some h =>
      let s := (s.setSys (fun y => { y with hdr := some h })).put Reg.PWR_AVS_CFG_VFAB_BOOT h.vfab
      bootStat (loadOsc s h.osc) (fun s => s.put Reg.BOOT_STAT_PHASE 2)
    | none =>
      let s := s.setSys (fun y => { y with hdr := none })
      romRecovery (loadOsc s ((osc.toNat + 500) / 1000 * 1000)) 2

/-- The row BOOT_PCI_GO: a write of GO while WAIT_HOST is 1 starts PCIe boot (R560); after a fallback the oscillator fields are
ignored. -/
def execBootPciGo (s : State) : Out := .next <|
  if !s.bit Reg.BOOT_STAT_WAIT_HOST then s
  else
    let s := if s.sys.step = 1 then
        loadOsc (s.put Reg.PWR_AVS_CFG_VFAB_BOOT (s.get Reg.BOOT_PCI_VFAB_VFAB)) (s.get Reg.BOOT_PCI_OSC_FREQ) else s
    bootStat s (fun s => ((s.put Reg.BOOT_STAT_PHASE 2).putB Reg.BOOT_STAT_WAIT_HOST false).put Reg.BOOT_STAT_SLOT 2)

/-! ### Images (R388, R558, R559) -/

/-- The causes of a set's three images: their own, or a release mismatch. -/
def setCauses (x : ImageSet) : List (Nat × Nat × Nat) :=
  let same : Bool := x.sup.release = x.tns.release && x.sup.release = x.svc.release
  let c (i : ImageIn) : Nat := if i.cause.val = 0 && !same then 5 else i.cause.val
  [(1, x.sup.release.toNat, c x.sup), (2, x.tns.release.toNat, c x.tns), (3, x.svc.release.toNat, c x.svc)]

/-- A set is verified. -/
def setOk (x : ImageSet) : Bool := (setCauses x).all (fun p => p.2.2 = 0)

/-- Journal BOOT_IMAGE for each image of a slot tried. -/
def journalSet (s : State) (slot : Nat) (x : ImageSet) : State :=
  (setCauses x).foldl (fun s p => s.journal (if p.2.2 = 0 then 0 else 2) 0x0001 0x0102
    (leBytes 1 slot ++ leBytes 1 p.1 ++ leBytes 2 p.2.1 ++ leBytes 1 p.2.2)) s

/-- QSPI slots in the order tried (R558). -/
def slotOrder (h : BootHdr) : List Nat :=
  let other := 1 - h.active
  let st (k : Nat) : Nat := if k = 0 then h.stA else h.stB
  ((if h.pending < 2 then [h.pending] else []) ++ [h.active] ++ (if st other = 1 then [other] else [])).eraseDups

/-- Try slots until one verifies. -/
def trySlots (s : State) (img : Nat → ImageSet) : List Nat → State × Option Nat
  | [] => (s, none)
  | k :: t =>
    let s := journalSet s k (img k)
    if setOk (img k) then (s, some k) else trySlots s img t

/-- The planner's trend is restored from the valid half with the higher sequence number (R572). -/
def restoreTrend (s : State) : State :=
  let h (k : Nat) : Option (Nat × TrendData) := s.sys.trend.get (fun _ => none) k
  let best := match h 0, h 1 with
    | some a, some b => some (if a.1 < b.1 then b.2 else a.2)
    | some a, none => some a.2
    | none, some b => some b.2
    | none, none => none
  match best with
  | some d => { s with fab := { s.fab with
      corrDay := d.corrDay, corrSum := d.corrSum, corrN := d.corrN, days := d.days, eyeDays := d.eyeDays, firstService := d.firstService } }
  | none => s

/-- The known-answer tests (R388). -/
def knownAnswer (s : State) (ok : Bool) : State :=
  let s := check (satPublish s (s.putB Reg.SAT_STAT_KAT_OK ok)) 0x19 (!ok)
  if ok then s else (s.setFlag Flag.SAT_KAT_FAIL).journal 2 0x0012 0x1203 (leBytes 1 4 ++ leBytes 2 0)

/-- The set of slot k runs (R556 steps 6–8): engines leave reset, trends are restored, and the mode becomes SETUP. -/
def runImages (s : State) (k release : Nat) (fallback kat : Bool) : State :=
  let s := knownAnswer (zeroise s) kat
  let s := (s.putB Reg.FAB_CFG_SUP_REMAP true).put Reg.GEN_FW_RELEASE release
  let s := s.setSys (fun y => { y with engReset := y.engReset / 2 ^ 18 * 2 ^ 18 })
  let s := bootStat s (fun s => (((s.put Reg.BOOT_STAT_PHASE 3).put Reg.BOOT_STAT_SLOT k).putB Reg.BOOT_STAT_FALLBACK fallback).put
    Reg.BOOT_STAT_RELEASE release)
  firstSetup (showClasses (if s.get Reg.GEN_STRAP_BOOT_SRC = 1 then s else restoreTrend s))

/-- The row IMAGE_VERIFIED: what verifying the sets of slots A, B and PCIe finds, and whether the known-answer tests pass. -/
def execImageVerified (a b p : ImageSet) (kat : Bool) (s : State) : Out := .next <|
  if s.mode != .boot || s.sys.step != 3 || s.bit Reg.BOOT_STAT_WAIT_HOST then s
  else
    let img (k : Nat) : ImageSet := if k = 0 then a else if k = 1 then b else p
    let rel (k : Nat) : Nat := (img k).sup.release.toNat
    if s.get Reg.BOOT_STAT_SLOT = 2 then
      let s := journalSet s 2 p
      if setOk p then runImages s 2 (rel 2) (s.get Reg.GEN_STRAP_BOOT_SRC = 2) kat else romRecovery s 3
    else
      match s.sys.hdr with
      | none => s
      | some h =>
        let order := slotOrder h
        let s := s.setSys (fun y => { y with hdr := some { h with pending := 0xFF } })
        let (s, r) := trySlots s img order
        match r with
        | some k =>
          let s := s.setSys (fun y => { y with bootPend := if k = h.pending then some k else none })
          runImages s k (rel k) (order.head? != some k) kat
        | none =>
          if s.get Reg.GEN_STRAP_BOOT_SRC = 2 then
            bootStat s (fun s => ((s.put Reg.BOOT_STAT_PHASE 1).putB Reg.BOOT_STAT_WAIT_HOST true).putB Reg.BOOT_STAT_FALLBACK true)
          else romRecovery s 3

/-! ### Entry to SERVICE by register (R561) -/

/-- The row GEN_MODE_REQ_GO: a SETUP write of GO with TARGET. -/
def execGenModeReqGo (target : Fin 8) (s : State) : Out := .next <|
  if s.mode != .setup then s else (s.put Reg.GEN_MODE_REQ_TARGET target).putB Reg.GEN_MODE_REQ_GO true

/-- The row MODE_GO_EVALUATE: at a TB millisecond boundary after the write the request is evaluated. -/
def execModeGoEvaluate (s : State) : Out := .next <|
  if !s.bit Reg.GEN_MODE_REQ_GO || !s.atMs then s
  else
    let s := s.putB Reg.GEN_MODE_REQ_GO false
    let target := s.get Reg.GEN_MODE_REQ_TARGET
    if s.mode != .setup then s
    else if target != 2 then refuseMode s target 0 0
    else if refuseBits s != 0 then refuseMode s target (refuseBits s) 0
    else enterService s 1 0

/-! ### Firmware (R570, R571) -/

/-- The slot that is not ACTIVE. -/
def spareSlot (s : State) : Nat := match s.sys.hdr with | some h => 1 - h.active | none => 1

/-- FIRMWARE_STAGE. -/
def stageOp : OpSpec where
  opcode := 0x0010
  check s d :=
    if 4 ≤ d.u8 28 || !d.zero 29 63 || d.u64 16 % 4096 != 0 || d.u32 24 % 4096 != 0 || d.u32 24 < 4096 || 4194304 < d.u32 24 ||
        s.get Reg.GEN_STRAP_BOOT_SRC = 1 || d.past = 2 then St.invalid else 0
  due _ _ := true
  apply s w :=
    if (longOp s 0x0010 0).isSome then refuseDesc s w St.busy
    else startLong (s.setSys (fun y => { y with stageSlot := some (spareSlot s) })) w 0
  periodic := false

/-- The row FIRMWARE_STAGE. -/
def execFirmwareStage (d : Desc) (s : State) : Out := .next (submit stageOp s d)

/-- The slot staged holds a verified set: STATE 1, and PENDING when asked for (R570). -/
def stagedSlot (s : State) (pend : Bool) : State :=
  match s.sys.stageSlot, s.sys.hdr with
  | some k, some h =>
    let p := if pend then k else if h.pending = k then 0xFF else h.pending
    s.setSys (fun y => { y with hdr := some { h.setSlot k 1 with pending := p } })
  | _, _ => s

/-- The row FIRMWARE_STAGE_DONE: staging ends with a cause and the RELEASE found. -/
def execFirmwareStageDone (cause : Fin 8) (release : BitVec 16) (s : State) : Out := .next <|
  match longOp s 0x0010 0 with
  | none => s
  | some l =>
    let c := cause.val
    let r := release.toNat
    if c = 0 then endStage (if verifyOnly l.d then s else stagedSlot s (bitOf (l.d.u8 28) 0)) l St.ok r 0
    else if c = 1 then s
    else if c ≤ 5 then endStage s l St.invalid r c
    else endStage (if verifyOnly l.d then s else spoilSlot s) l St.partialDone r c

/-! ### Trend storage (R572) -/

/-- The row TREND_SAVE: daily, or at the first second boundary after a stage that held the flash; `bad` is a flash error. -/
def execTrendSave (bad : Bool) (s : State) : Out := .next <|
  let due : Bool := tbSec s.tbU % 86400 = 0 || s.sys.trendDue
  if !s.atSec || !due || s.mode = .boot || s.mode = .test || s.bit Reg.GEN_MODE_ROM_REC || bitOf s.sys.engReset 19 ||
      s.get Reg.GEN_STRAP_BOOT_SRC = 1 then s
  else if s.sys.stageSlot.isSome then s.setSys (fun y => { y with trendDue := true })
  else writeTrend s bad

end Sys2Proof.Machine
end

