-- ==== Sys2Proof/Machine/Smbus.lean ====
section
/-!
DEFINITION. The SMBus health view (R425–R427): the snapshot taken every millisecond of AO, its command codes, ALERT_MASK and the
alert line.
-/

namespace Sys2Proof.Machine

/-- A value of `n` bytes from a core domain, all ones while that domain does not run. -/
def coreBytes (s : State) (l : List Byte) : List Byte := if s.tbLive then l else List.replicate l.length 0xFF

/-- A field of `w` bits from a core domain, all ones while that domain does not run. -/
def coreBits (s : State) (w v : Nat) : Nat := if s.tbLive then v % 2 ^ w else 2 ^ w - 1

/-- The days until projected exhaustion of the margins, the lower of the two projections; 0xFFFF none. -/
def exhaustionDays (s : State) : Nat := min (s.get Reg.FAB_PLAN_DAYS_DAYS_FAB) (s.get Reg.FAB_PLAN_DAYS_DAYS_EYE)

/-- A map of the eight ports that satisfy `p`. -/
def portMap (p : Nat → Bool) : Nat := (List.range 8).foldl (fun a k => a + b2n (p k) * 2 ^ k) 0

/-- The content of command code `c` (R426), for the codes 0x00–0x09. -/
def smbContent (s : State) (c : Nat) : List Byte :=
  if c = 0 then
    leBytes 2 0x9600 ++ leBytes 1 0x20 ++ leBytes 1 (s.get Reg.GEN_STRAP_UNIT_ID) ++ leBytes 1 (s.get Reg.GEN_STRAP_PAIR_EN)
      ++ leBytes 1 (s.get Reg.GEN_STRAP_BOOT_SRC) ++ leBytes 2 (s.get Reg.GEN_FW_RELEASE)
  else if c = 1 then
    leBytes 2 (s.get Reg.GEN_MODE_MODE + 16 * coreBits s 3 (s.get Reg.TNS_STAT_STATE) + 128 * coreBits s 1 (b2n (pairAgreed s))
      + 256 * s.get Reg.HIF_STAT_LINK_UP + 512 * b2n s.tbLive + 1024 * s.get Reg.FLT_FF_STAT_HELD)
  else if c = 2 then coreBytes s (leBytes 8 (s.coreWord))
  else if c = 3 then coreBytes s (leBytes 6 (tbSec s.tbU) ++ leBytes 4 (tbNs s.tbU) ++ leBytes 2 s.jr.cseq)
  else if c = 4 then coreBytes s (leBytes 2 (s.get Reg.PWR_TJ_MAX_TJ_MAX))
  else if c = 5 then coreBytes s (leBytes 2 (s.get Reg.PWR_POWER_POWER))
  else if c = 6 then
    leBytes 2 (s.get Reg.FLT_FF_STAT_SOURCE) ++ leBytes 1 (s.get Reg.FLT_FF_STAT_CLASS) ++ leBytes 1 (s.get Reg.FLT_FF_STAT_COFIRST_N)
      ++ leBytes 4 (s.get Reg.FLT_FF_NS_NS) ++ leBytes 4 (s.get Reg.FLT_FF_SECL_SEC) ++ leBytes 4 (s.get Reg.FLT_FF_CSEQ_CSEQ)
  else if c = 7 then
    coreBytes s (leBytes 2 (s.get Reg.FAB_SMEAS_S_MEAS) ++ leBytes 1 (s.get Reg.CLA_ADM_CFG_S_FLOOR) ++ leBytes 1 0
      ++ leBytes 2 (s.get Reg.PWR_AVS_RD_VREAD) ++ leBytes 2 (exhaustionDays s))
  else if c = 8 then
    coreBytes s (leBytes 1 (portMap (portUp s)) ++ leBytes 1 (portMap (fun p => s.bit (Reg.MAC_MODE_EN p))))
  else leBytes 2 (coreBits s 5 (b2n (role s = 2) + 2 * s.get Reg.CNJ_STAT_PEER_PRESENT + 4 * s.get Reg.CNJ_STAT_LINK_UP
    + 8 * b2n (pairAgreed s) + 16 * s.get Reg.CNJ_CFG_Q58))

/-- The snapshot is refreshed whole, every millisecond of AO. -/
def smbRefresh (s : State) : State :=
  s.setSys (fun y => { y with snap := (List.range 10).foldl (fun m c => m.set (fun _ => []) c (smbContent s c)) [] })

/-- The target's answer to the transaction in progress; none when it does not acknowledge. -/
def smbAnswer (s : State) (l : Option (List Byte)) : State := s.setSys (fun y => { y with smb := l })

/-- A read of code `c` answers from the latest snapshot, or before the first one from what it would hold; in TEST the target does not
answer. -/
def smbRead (s : State) (c : Nat) : State :=
  if s.mode = .test then smbAnswer s none
  else
    let l := s.sys.snap.get (fun _ => []) c
    smbAnswer s (some (if l.isEmpty then smbContent s c else l))

/-- The row SMB_IDENT. -/
def execSmbIdent (s : State) : Out := .next (smbRead s 0)
/-- The row SMB_STATUS. -/
def execSmbStatus (s : State) : Out := .next (smbRead s 1)
/-- The row SMB_GLOSS. -/
def execSmbGloss (s : State) : Out := .next (smbRead s 2)
/-- The row SMB_TIME. -/
def execSmbTime (s : State) : Out := .next (smbRead s 3)
/-- The row SMB_TEMP. -/
def execSmbTemp (s : State) : Out := .next (smbRead s 4)
/-- The row SMB_POWER. -/
def execSmbPower (s : State) : Out := .next (smbRead s 5)
/-- The row SMB_FIRST_FAULT. -/
def execSmbFirstFault (s : State) : Out := .next (smbRead s 6)
/-- The row SMB_MARGIN. -/
def execSmbMargin (s : State) : Out := .next (smbRead s 7)
/-- The row SMB_PORTS. -/
def execSmbPorts (s : State) : Out := .next (smbRead s 8)
/-- The row SMB_PAIR. -/
def execSmbPair (s : State) : Out := .next (smbRead s 9)

/-- The row SMB_ARBITER: a write of the arbiter's decision (R514). -/
def execSmbArbiter (v : Byte) (s : State) : Out := .next <|
  if s.mode = .test then smbAnswer s none
  else
    let d := if v.toNat < 2 then v.toNat else 0xFF
    showPair (smbAnswer (s.setCnj (fun c => { c with arbSmb := d })) (some []))

/-- The row SMB_ALERT_MASK_READ. -/
def execSmbAlertMaskRead (s : State) : Out := .next <|
  smbAnswer s (if s.mode = .test then none else some (leBytes 1 s.sys.alertMask))

/-- The row SMB_ALERT_MASK_WRITE. -/
def execSmbAlertMaskWrite (v : Byte) (s : State) : Out := .next <|
  if s.mode = .test then smbAnswer s none
  else smbAnswer (s.setSys (fun y => { y with alertMask := v.toNat % 16 })) (some [])

/-- SMB_ALERT_N is asserted (low). -/
def alertLine (s : State) : Bool := (s.sys.alert &&& s.sys.alertMask) != 0

/-- The target's 7-bit address. -/
def smbAddress (s : State) : Nat := 0x58 + s.get Reg.GEN_STRAP_ADDR_SEL

/-- The row SMB_ALERT_RESPONSE: while it asserts the line, the target answers with its own address, and the conditions that asserted it
are acknowledged. -/
def execSmbAlertResponse (s : State) : Out := .next <|
  if s.mode = .test || !alertLine s then smbAnswer s none
  else smbAnswer (s.setSys (fun y => { y with alert := y.alert &&& (15 - y.alertMask) })) (some (leBytes 1 (smbAddress s)))

end Sys2Proof.Machine
end

