-- ==== Sys2Proof/Machine/Host.lean ====
section
/-!
DEFINITION. The host interface (spec/12_host_rings.md): ring states, doorbells, the fetch of descriptors, PCIe events, the commands
NOP, MODE_SET, RING_SET, LONG_CTL and ABORT, register aborts, and the application of waiting descriptors.
-/

namespace Sys2Proof.Machine

/-! ### PCIe (R392–R395) -/

/-- Change HIF_STAT. -/
def hifShow (s : State) (f : State → State) : State := (f s).publish Reg.HIF_STAT_VALID Reg.HIF_STAT_SEQ

/-- Journal PCIE_EVENT with the speed and width in force, and fire vector 64. -/
def pcieEvent (s : State) (kind : Nat) : State :=
  (s.journal 1 0x0002 0x02F5 (leBytes 1 kind ++ leBytes 1 (s.get Reg.HIF_STAT_SPEED) ++ leBytes 1 (s.get Reg.HIF_STAT_WIDTH))).fire 64

/-- The host produces ring r: COMMAND or INJECT. -/
def hostProduced (s : State) (r : Nat) : Bool := s.get (Reg.HR_CFG_TYPE r) = 0 || s.get (Reg.HR_CFG_TYPE r) = 4

/-- A ring enters STALLED; the vector of one that the host produces fires. -/
def stallRing (s : State) (r : Nat) : State :=
  let s := setRingState s r 2
  if hostProduced s r then s.fire r else s

/-- DMA is not permitted: every ring that runs enters STALLED (R399). -/
def stallRings (s : State) : State := (List.range 64).foldl (fun s r => if ringState s r = 1 then stallRing s r else s) s

/-- The MSI-X table and PBA take their values after a reset of the function (PCIe base specification): every vector masked, nothing
pending. -/
def msixReset (s : State) : State :=
  let s := (List.range 72).foldl (fun s v =>
    (((s.putB (Reg.MSIX_CTL_MASK v) true).put (Reg.MSIX_ADDR_LO_ADDR v) 0).put (Reg.MSIX_ADDR_HI_ADDR v) 0).put (Reg.MSIX_DATA_DATA v) 0) s
  (List.range 3).foldl (fun s k => s.put (Reg.MSIX_PBA_PENDING k) 0) s

/-- A pending vector that may now be sent is sent (PCIe base specification). -/
def releaseVector (s : State) (v : Nat) : State :=
  if s.mapBit (Reg.MSIX_PBA_PENDING (v / 32)) (v % 32) && !s.bit (Reg.MSIX_CTL_MASK v) && s.dmaOk then
    (s.putMapBit (Reg.MSIX_PBA_PENDING (v / 32)) (v % 32) false).fire v
  else s

/-- PF0's configuration space is reset: bus mastering is disabled, D0. -/
def configReset (s : State) : State :=
  let s := hifShow s (fun s => s.putB Reg.HIF_STAT_BME false)
  { s with hif := { s.hif with d3hot := false } }

/-- The link goes down. -/
def linkDown (s : State) : State :=
  if !s.bit Reg.HIF_STAT_LINK_UP then s
  else
    let s := hifShow s (fun s => ((s.putB Reg.HIF_STAT_LINK_UP false).put Reg.HIF_STAT_SPEED 0).put Reg.HIF_STAT_WIDTH 0)
    pcieEvent (stallRings (s.setFlag Flag.HIF_LINK_DOWN)) 0

/-- PCIe events reach a device out of reset whose PCIe pins are not under boundary scan. -/
def pcieRuns (s : State) : Bool := s.mode != .test && !s.sys.inReset

/-- The row PCIE_FLR: a Function Level Reset of PF0. -/
def execPcieFlr (s : State) : Out := .next <|
  if !pcieRuns s || !s.bit Reg.HIF_STAT_LINK_UP then s
  else msixReset (pcieEvent (stallRings (configReset (s.setFlag Flag.HIF_FLR))) 2)

/-- The row PCIE_BME_CLEAR. -/
def execPcieBmeClear (s : State) : Out := .next <|
  if !pcieRuns s || !s.bit Reg.HIF_STAT_BME then s
  else pcieEvent (stallRings (hifShow s (fun s => s.putB Reg.HIF_STAT_BME false))) 3

/-- The row PCIE_D3HOT. -/
def execPcieD3hot (s : State) : Out := .next <|
  if !pcieRuns s || !s.bit Reg.HIF_STAT_LINK_UP || s.hif.d3hot then s
  else pcieEvent (stallRings { s with hif := { s.hif with d3hot := true } }) 5

/-- The row PCIE_LINK_DOWN: the link goes down, which resets the function. -/
def execPcieLinkDown (s : State) : Out := .next <|
  if !pcieRuns s || !s.bit Reg.HIF_STAT_LINK_UP then s else msixReset (configReset (linkDown s))

/-- The row PCIE_LINK_UP: the link trains to SPEED (1–5) and a WIDTH of lanes. -/
def execPcieLinkUp (speed : Fin 6) (width : Fin 9) (s : State) : Out := .next <|
  if !pcieRuns s || s.bit Reg.HIF_STAT_LINK_UP then s
  else pcieEvent (hifShow s (fun s => ((s.putB Reg.HIF_STAT_LINK_UP true).put Reg.HIF_STAT_SPEED speed).put Reg.HIF_STAT_WIDTH width)) 1

/-- The row PERST: PERST_N resets the PCIe interface and configuration space, and the rest acts as for a link down. -/
def execPerst (s : State) : Out := .next <| if !pcieRuns s then s else msixReset (configReset (linkDown s))

/-- The row PF1_FLR: only PF1's own configuration space is reset, which holds nothing that the device reads. -/
def execPf1Flr (s : State) : Out := .next s

/-- The row DMA_PERMITTED: Bus Master Enable is set and PF0 is in D0; vectors left pending are sent. -/
def execDmaPermitted (s : State) : Out := .next <|
  if !pcieRuns s || !s.bit Reg.HIF_STAT_LINK_UP || s.dmaOk then s
  else
    let s := hifShow s (fun s => s.putB Reg.HIF_STAT_BME true)
    (List.range 72).foldl releaseVector { s with hif := { s.hif with d3hot := false } }

/-- The row DMA_ERROR: a DMA read for ring r completes with an error (R393). -/
def execDmaError (r : Fin 64) (s : State) : Out := .next <|
  if ringState s r != 1 then s
  else
    let s := ringError (s.setFlag Flag.HIF_DMA_ERR) r 2 (s.get (Reg.HR_CONS_IDX r))
    let s := s.journal 1 0x0002 0x02F5 (leBytes 1 4 ++ leBytes 1 (s.get Reg.HIF_STAT_SPEED) ++ leBytes 1 (s.get Reg.HIF_STAT_WIDTH))
    check s 0x1A true

/-- The row UNALIGNED_ACCESS: the access completes as an unsupported request (R15). -/
def execUnalignedAccess (s : State) : Out := .next <|
  if !pcieRuns s then s else { s with hif := { s.hif with response := some (false, 0) } }

/-! ### Rings (R398–R400) -/

/-- A ring leaves DISABLED: positions 0, nothing unnotified (R399). While DMA is not permitted it enters STALLED at once. -/
def enableRing (s : State) (r : Nat) : State :=
  let s := setCons (setProd s r 0) r 0
  let s := { s with hif := { s.hif with
      notif := s.hif.notif.set (fun _ => 0) r 0, retries := s.hif.retries.set (fun _ => 0) r 0, evLost := s.hif.evLost.set (fun _ => 0) r 0 } }
  let s := setRingState s r 1
  if s.dmaOk then s else stallRing s r

/-- After HR_CFG of ring r was stored: EN starts a DISABLED ring, and its clear disables any other. -/
def ringStored (s : State) (r : Nat) : State :=
  if s.bit (Reg.HR_CFG_EN r) then (if ringState s r = 0 then enableRing s r else s)
  else if ringState s r = 0 then s else setRingState s r 0

/-- A doorbell that is not accepted (R400). -/
def doorbellError (s : State) : State := (s.setFlag Flag.HIF_DB_ERR).fire 64

/-- The row DOORBELL: a write of `v` to the doorbell of ring r. -/
def execDoorbell (r : Fin 64) (v : Word) (s : State) : Out := .next <|
  if !pcieRuns s then s
  else
    let n := ringSize s r
    let idx := v.toNat % 65536
    let pos := posOf n (v.toNat / 65536 % 256) idx
    let st := ringState s r
    let p0 := if hostProduced s r then prodPos s r else consPos s r
    let room := if hostProduced s r then n - ringUsed s r else ringUsed s r
    let d := (pos + 256 * n - p0) % (256 * n)
    if st = 0 || st = 3 then doorbellError s
    else if st = 2 && !s.dmaOk then s
    else if n ≤ idx || (if st = 2 then 0 else room) < d then doorbellError s
    else
      let s := if st = 2 then setRingState s r 1 else s
      if hostProduced s r then setProd s r pos
      else postEvLost (drainIq20 (setCons s r pos) r) r

/-- The row COAL_TIMEOUT: the oldest entry of ring r not yet notified has waited COAL_US. -/
def execCoalTimeout (r : Fin 64) (s : State) : Out := .next <|
  let us := s.get (Reg.HR_COAL_US r)
  if s.hif.notif.get (fun _ => 0) r = 0 || us = 0 || ringState s r != 1 || s.tb.ao < s.hif.oldest.get (fun _ => 0) r + us * 1000 then s
  else notifyRing s r

/-! ### NOP, MODE_SET, RING_SET (R412–R414) -/

/-- NOP. -/
def nopOp : OpSpec where
  opcode := 0x0000
  check _ d := if !d.zero 16 63 then St.invalid else 0
  due _ _ := true
  apply s w := finishDesc s w St.ok []
  periodic := false

/-- The row NOP. -/
def execNop (d : Desc) (s : State) : Out := .next (submit nopOp s d)

/-- MODE_SET (R413, R561, R563). -/
def modeSetOp : OpSpec where
  opcode := 0x0001
  check _ d := if !d.zero 17 63 then St.invalid else 0
  due s _ := s.atMs
  apply s w :=
    let t := w.d.u8 16
    let tag := w.d.tag.toNat
    let rec0 : Bool := s.mode = .recovery && !s.bit Reg.GEN_MODE_ROM_REC
    if t = 1 && (s.mode = .service || rec0) then finishDesc (enterSetup s 2 tag) w St.ok []
    else if t = 3 && s.mode = .service then finishDesc (enterRecovery s 2 tag) w St.ok []
    else if t = 2 && rec0 then
      let b := refuseBits s
      if b = 0 then finishDesc (enterService s 2 tag) w St.ok []
      else
        let s := descApplied (refuseMode s 2 b tag) w St.refusedBound (shortOf w.accepted)
        completeDesc s w.d St.refusedBound false 0 (leBytes 2 b)
    else refuseDesc s w St.invalid
  periodic := false

/-- The row MODE_SET. -/
def execModeSet (d : Desc) (s : State) : Out := .next (submit modeSetOp s d)

/-- The registers of RING_SET's MASK. -/
def ringAddrs (r : Nat) : List Nat := (List.range 6).map (fun k => 0x021000 + 0x40 * r + 4 * k)

/-- The values change a register of ring r other than HR_COAL, apart from a clear of EN. -/
def ringMoved (s s' : State) (r : Nat) : Bool :=
  [Reg.HR_BASE_LO_BASE r, Reg.HR_BASE_HI_BASE r, Reg.HR_CFG_TYPE r, Reg.HR_CFG_LOG2_SIZE r, Reg.HR_CFG_ESZ r, Reg.HR_CFG_CQ r,
   Reg.HR_WB_LO_WB r, Reg.HR_WB_HI_WB r].any (fun f => s.get f != s'.get f)

/-- RING_SET. -/
def ringSetOp : OpSpec where
  opcode := 0x0004
  check s d :=
    let r := d.u8 16
    if 63 < r || d.u8 17 != 0 || 64 ≤ d.u16 18 || !d.zero 44 63 || r = d.ring.val || r = cqOf s d.ring ||
      strayValue d (d.u16 18) (ringAddrs r) then St.invalid else 0
  due s _ := s.atMs
  apply s w :=
    let r := w.d.u8 16
    let s' := storeMasked s w.d (w.d.u16 18) (ringAddrs r)
    let off : Bool := ringState s r != 0 && !s'.bit (Reg.HR_CFG_EN r)
    if ringState s r != 0 && ringMoved s s' r then refuseDesc s w St.busy
    else if off && s.get (Reg.HR_CFG_TYPE r) = 1 && s.get (Reg.HR_RSV_RSV r) != 0 then refuseDesc s w St.busy
    else finishDesc (if bitOf (w.d.u16 18) 2 then ringStored s' r else s') w St.ok []
  periodic := false

/-- The row RING_SET. -/
def execRingSet (d : Desc) (s : State) : Out := .next (submit ringSetOp s d)

/-! ### LONG_CTL (R416, R417) -/

/-- The long operation that a LONG_CTL names. -/
def longFor (s : State) (d : Desc) : Option LongOp :=
  s.hif.longs.find? (fun l => l.opcode = d.u16 16 && l.port = d.u8 18 && (if l.auto then d.u32 20 = 0 else l.tag = d.u32 20))

/-- The long operation resumes. -/
def resumeOp (s : State) (l : LongOp) : State :=
  let s := updateLong s { l with suspended := false }
  if l.opcode = 0x0221 then surveyResume s
  else if l.opcode = 0x0280 then calResume s l.port
  else if l.opcode = 0x02A2 then showRekey s
  else s

/-- LONG_CTL. -/
def longCtlOp : OpSpec where
  opcode := 0x0003
  check _ d := if !d.zero 24 63 || 2 < d.u8 19 || (d.u16 16 != 0x0280 && d.u8 18 != 0) then St.invalid else 0
  due s _ := s.atMs
  apply s w :=
    let a := w.d.u8 19
    match longFor s w.d with
    | none => refuseDesc s w St.invalid
    | some l =>
      if a = 0 && (l.suspended || l.opcode = 0x0010) then refuseDesc s w St.invalid
      else if a = 1 && !l.suspended then refuseDesc s w St.invalid
      else if a = 0 then updateLong (finishDesc s w St.ok []) { l with suspReq := true }
      else if a = 1 then
        let s := { s with hif := { s.hif with extra := s.hif.extra.filter (fun p => p.1 != w.aseq) } }
        resumeOp (finishDesc s w St.ok []) l
      else if l.suspended || l.opcode = 0x0010 then endOp (finishDesc s w St.ok []) l St.cancelled
      else updateLong (finishDesc s w St.ok []) { l with cancelReq := true }
  periodic := false

/-- The completion ring in which a RESUME reserves the entry of the operation it names (R408). -/
def resumeRing (s : State) (opcode : Nat) (d : Desc) : Option Nat :=
  if opcode = 0x0003 && d.u8 19 = 1 then
    match longFor s d with
    | some l => if l.auto then none else some (cqOf s l.d.ring)
    | none => none
  else none

/-- Reserve it, for the descriptor accepted next. -/
def reserveResume (s : State) (opcode : Nat) (d : Desc) : State :=
  match resumeRing s opcode d with
  | some q => reserve { s with hif := { s.hif with extra := s.hif.extra ++ [((s.get Reg.HIF_ASEQ_ASEQ + 1) % 2 ^ 32, q)] } } q
  | none => s

/-- The row LONG_CTL. -/
def execLongCtl (d : Desc) (s : State) : Out := .next <|
  if s.mode = .boot || s.mode = .test then s else submit longCtlOp (reserveResume s 0x0003 d) d

/-! ### ABORT (R418–R421) -/

/-- Descriptors accepted and not yet applied that their unit holds: starts and stops of outputs, disturbing changes, a handover that
has not begun. -/
def heldWaiting (s : State) : List Waiting :=
  s.syn.outs.flatMap (fun p => p.2.starts ++ p.2.stops) ++
    (s.lan.ports.filterMap (fun p => match p.2.disturb with
      | some d => (match d.w with | some w => if w.opcode = 0x0280 then none else some w | none => none)
      | none => none)).dedup ++
    (match s.cnj.hand with | some h => if h.stamp.isNone then [h.w] else [] | none => [])

/-- Output n forgets the START and STOP descriptors that satisfy `p`; a start that was only theirs is cancelled. -/
def dropOut (s : State) (p : Waiting → Bool) (n : Nat) : State :=
  let o := s.out n
  let left := o.starts.filter (fun w => !p w)
  let gone : Bool := left.length < o.starts.length && left.isEmpty
  let stops := o.stops.filter (fun w => !p w)
  let s := s.setOut n { o with starts := left, stops := stops, again := o.again && !gone }
  let s := if gone && outState s n = 1 then requestStop s n 0 0 false false false else s
  if stops.isEmpty && !o.stops.isEmpty then undoStop s n else s

/-- The disturbing changes of the descriptors that satisfy `p` are not made. -/
def dropDisturb (s : State) (p : Waiting → Bool) : State :=
  (List.range 8).foldl (fun s k =>
    match (s.port k).disturb with
    | some d =>
      if (match d.w with | some w => p w && w.opcode != 0x0280 | none => false) then s.setPort k { s.port k with disturb := none } else s
    | none => s) s

/-- A handover that has not begun is given up. -/
def dropHand (s : State) (p : Waiting → Bool) : State :=
  match s.cnj.hand with
  | some h =>
    if h.stamp.isNone && p h.w then
      s.setCnj (fun c => { c with hand := none, take := if h.action = 1 then none else c.take })
    else s
  | none => s

/-- An aborted SNAP_EXPORT leaves its slot unlocked and its host buffer partially written (R128): how far is a free value (log 78). -/
def abortExport (s : State) (o : OpenOp) : State :=
  let (n, s) := s.freeVal
  let s := hostWrite s (o.d.u64 24) ((snapImage s o.key).take (n % 1310784))
  completeDesc (s.putB (Reg.SNAP_STAT_LOCK o.key) false) o.d St.aborted false o.applied []

/-- End with ABORTED the descriptors of `p` that were accepted and not yet applied, in order of acceptance, and a SNAP_EXPORT, whose
slot stays frozen. Answers how many. -/
def abortDescs (s : State) (p : Desc → Bool) : State × Nat :=
  let q (w : Waiting) : Bool := p w.d
  let held := (heldWaiting s).filter q
  let n := (s.hif.waiting.filter q).length
  let s := dropKeys (endWaiting s q St.aborted)
  let s := dropHand (dropDisturb ((List.range 12).foldl (fun s n => dropOut s q n) s) q) q
  let s := held.foldl (fun s w => refuseDesc s w St.aborted) s
  let exps := s.hif.opens.filter (fun o => o.opcode = 0x0224 && p o.d)
  let s := { s with hif := { s.hif with opens := s.hif.opens.filter (fun o => !(o.opcode = 0x0224 && p o.d)) } }
  let s := exps.foldl abortExport s
  (s, n + held.length + exps.length)

/-- INJECT entries of ring r that have not left end with ABORTED. -/
def abortInjects (s : State) (r : Nat) : State × Nat :=
  let mine (u : Unbooked) : Option Nat := match u.inj with | some (q, tag, _) => if q = r then some tag else none | none => none
  let tags := s.lan.unb.filterMap mine
  let s := { s with lan := { s.lan with unb := s.lan.unb.filter (fun u => (mine u).isNone) } }
  (tags.foldl (fun s t => postCompletion s (cqOf s r) ⟨t, St.aborted, false, r, 0, 0, []⟩ false) s, tags.length)

/-- The carriers of the long operations of `p`, each once. -/
def carriersOf (s : State) (p : Desc → Bool) : List Nat :=
  ((s.hif.longs.filter (fun l => !l.auto && p l.d)).map (fun l => carrierOf l.opcode)).eraseDups

/-- What an abort did: the state, transactions dropped, descriptors ended, the engine reset or 0xFF. -/
structure AbortDone where
  st : State
  dropped : Nat
  ended : Nat
  engine : Nat
  deriving DecidableEq, Repr

/-- Carry out an abort of KIND 0 ENGINE, 1 DESCRIPTOR or 2 RING; none when KIND 1 finds no descriptor. -/
def runAbort (s : State) (kind engine ring tag : Nat) : Option AbortDone :=
  if kind = 0 then
    let r := engineReset s engine
    some ⟨r.1, r.2.1, r.2.2, engine⟩
  else if kind = 1 then
    let p (d : Desc) : Bool := d.ring.val = ring && d.tag.toNat = tag
    let cs := carriersOf s p
    let (s, n) := abortDescs s p
    let a := cs.foldl (fun (a : AbortDone) e =>
      let r := engineReset a.st e
      ⟨r.1, a.dropped + r.2.1, a.ended + r.2.2, e⟩) ⟨s, 0, n, 0xFF⟩
    if a.ended = 0 && cs.isEmpty then none else some a
  else
    let (s, n) := abortDescs s (fun d => d.ring.val = ring)
    let (s, m) := abortInjects s ring
    some ⟨if ringState s ring = 0 then s else setRingState s ring 0, 0, n + m, 0xFF⟩

/-- ABORT_DONE: flag and record, with the path (0 descriptor, 1 register). -/
def abortDone (a : AbortDone) (kind ring path : Nat) : State :=
  (a.st.setFlag Flag.HIF_ABORT_DONE).journal 1 0x0002 0x02F3
    (leBytes 1 kind ++ leBytes 1 a.engine ++ leBytes 1 ring ++ leBytes 1 path ++ leBytes 4 (satU 32 a.dropped) ++ leBytes 2 (satU 16 a.ended))

/-- An ABORT's operand is malformed, or names a COMPLETION ring (R418, R421). -/
def abortBad (s : State) (d : Desc) : Bool :=
  let k := d.u8 16
  2 < k || d.u8 17 != 0 || d.u8 19 != 0 || !d.zero 21 23 || !d.zero (if k = 1 then 28 else 24) 63 || d.timed ||
    (k = 0 && 19 < d.u8 18) || (k != 0 && 63 < d.u8 20) || (k = 2 && s.get (Reg.HR_CFG_TYPE (d.u8 20)) = 1)

/-- Acceptance of an ABORT, ahead of FENCE, of a full IQ21 and of both supervisors. -/
def acceptAbort (s : State) (d : Desc) : State :=
  let s := s.put Reg.HIF_ASEQ_ASEQ (s.get Reg.HIF_ASEQ_ASEQ + 1)
  let s := reserve s (cqOf s d.ring)
  let w : Waiting := ⟨s.get Reg.HIF_ASEQ_ASEQ, 0x0002, d, s.nowU, none⟩
  if 64 ≤ d.flags.toNat || d.byte3 != 0 then refuseDesc s w St.invalid
  else if !modeAccepts s.mode 0x0002 then refuseDesc s w St.deniedMode
  else if abortBad s d then refuseDesc s w St.invalid
  else
    match runAbort s (d.u8 16) (d.u8 18) (d.u8 20) (d.u32 24) with
    | none => refuseDesc s w St.invalid
    | some a =>
      finishDesc (abortDone a (d.u8 16) (d.u8 20) 0) w St.ok
        (leBytes 4 (satU 32 a.dropped) ++ leBytes 2 (satU 16 a.ended) ++ leBytes 1 a.engine)

/-- The row ABORT. -/
def execAbort (d : Desc) (s : State) : Out := .next <| if s.mode = .boot || s.mode = .test then s else acceptAbort s d

/-- A register abort of KIND 0 or 2 (R420); one that R418 or R421 rejects sets ERR. -/
def regAbort (s : State) (kind engine ring : Nat) : State :=
  if !pcieRuns s then s
  else if (kind = 0 && 19 < engine) || (kind = 2 && s.get (Reg.HR_CFG_TYPE ring) = 1) || !(kind = 0 || kind = 2) then
    s.putB Reg.HIF_ABORT_STAT_ERR true
  else
    match runAbort s kind engine ring 0 with
    | none => s
    | some a =>
      let s := abortDone a kind ring 1
      let s := (s.putSatU Reg.HIF_ABORT_RES_DESCS a.ended).putSatU Reg.HIF_ABORT_RES_DROPPED a.dropped
      ((s.putB Reg.HIF_ABORT_STAT_ERR false).publish Reg.HIF_ABORT_STAT_VALID Reg.HIF_ABORT_STAT_SEQ).fire 64

/-- The row HIF_ABORT_ENGINE. -/
def execHifAbortEngine (e : Fin 32) (s : State) : Out := .next (regAbort s 0 e 0)

/-- The row HIF_ABORT_RING. -/
def execHifAbortRing (r : Fin 64) (s : State) : Out := .next (regAbort s 2 0 r)

/-! ### Fetch, acceptance and application (R402–R408) -/

/-- The opcodes of R411, but ABORT. -/
def opSpecs : List OpSpec :=
  [nopOp, modeSetOp, longCtlOp, ringSetOp, stageOp, refinSetOp, gnssSetOp, surveyInOp, posSetOp, snapshotOp, snapExportOp, snapReleaseOp,
   selSetOp, selForceOp, tnsStepOp, hostTimeOp, tnsUtcOp, tnsSetOp, learnOpSpec, modelLoadOp, synSetOp, outCtlOp, plsSchedOp, plsSetOp,
   plsAlignOp] ++
  [portSetOp, laneSetOp, portLoopbackOp, rgSetOp, portCalibrateOp, tsuSetOp, claSetOp, claRuleOp, streamSetOp, seqKeyOp, satInstallOp,
   satRotateOp, satRekeyOp, marginSweepOp, fabSetOp, marginReportOp, fltSetOp, fltInjectOp, fltSafeOp, cnjSetOp, handoverOp, obsSetOp,
   obsSnapOp, obsGrantOp, journalExportOp]

/-- The spec of an opcode. -/
def specOf (opcode : Nat) : Option OpSpec := opSpecs.find? (fun p => p.opcode = opcode)

/-- An earlier descriptor of ring r has not yet posted its final completion (R404); for a long operation its start is enough. -/
def outstanding (s : State) (r : Nat) : Bool :=
  s.hif.waiting.any (fun w => w.d.ring.val = r) || s.hif.opens.any (fun o => o.d.ring.val = r) ||
    (heldWaiting s).any (fun w => w.d.ring.val = r) || s.hif.iq20.any (fun c => c.2.1.ring = r && !c.2.1.more) ||
    s.pls.jobs.any (fun j => j.w.d.ring.val = r) || (match s.cnj.hand with | some h => h.w.d.ring.val = r | none => false)

/-- The completion ring has room for a descriptor, and for a RESUME's second entry. -/
def roomFor (s : State) (opcode : Nat) (d : Desc) : Bool :=
  let cq := cqOf s d.ring
  match resumeRing s opcode d with
  | some q => if q = cq then canReserve s cq 2 else canReserve s cq 1 && canReserve s q 1
  | none => canReserve s cq 1

/-- A descriptor fetched is accepted. -/
def acceptFetched (s : State) (opcode : Nat) (d : Desc) : State :=
  let s := setCons s d.ring (consPos s d.ring + 1)
  if opcode = 0x0002 then acceptAbort s d
  else
    let s' := acceptDesc (specOf opcode) opcode (reserveResume s opcode d) d
    if opcode = 0x0293 then shareKey s' (s.get Reg.HIF_ASEQ_ASEQ) else s'

/-- A failed fetch of ring r's next descriptor (R402): the ninth puts the ring into ERROR. -/
def phaseFailed (s : State) (r : Nat) : State :=
  let k := s.hif.retries.get (fun _ => 0) r + 1
  let s := { s with hif := { s.hif with retries := s.hif.retries.set (fun _ => 0) r (if k = 9 then 0 else k) } }
  if k = 9 then ringError s r 1 (s.get (Reg.HR_CONS_IDX r)) else s

/-- The fetch unit reads the next entry of a COMMAND ring, which carries `opcode`, PHASE `phase` and the fields `d`; `again` after a
failed PHASE. -/
def fetchDesc (s : State) (opcode : Nat) (phase again : Bool) (d : Desc) : State :=
  let r := d.ring.val
  let retrying : Bool := s.hif.retries.get (fun _ => 0) r != 0
  if s.mode = .boot || s.mode = .test || ringState s r != 1 || s.get (Reg.HR_CFG_TYPE r) != 0 || ringUsed s r = 0 || again != retrying then s
  else if !cqValid s r then ringError s r 3 (s.get (Reg.HR_CONS_IDX r))
  else if !canReserve s (cqOf s r) 1 then s
  else if phase != phaseOf (s.get (Reg.HR_CONS_GEN r)) then phaseFailed s r
  else
    let s := { s with hif := { s.hif with retries := s.hif.retries.set (fun _ => 0) r 0 } }
    if opcode != 0x0002 && ((d.fence && outstanding s r) || (d.timed && 4096 ≤ s.get Reg.HIF_PEND_PEND)) then s
    else if !roomFor s opcode d then s
    else acceptFetched s opcode d

/-- The row DESCRIPTOR_ACCEPT. -/
def execDescriptorAccept (opcode : BitVec 16) (phase : Bool) (d : Desc) (s : State) : Out := .next (fetchDesc s opcode.toNat phase false d)

/-- The row PHASE_RETRY: 1 µs after a failed PHASE the descriptor is fetched again. -/
def execPhaseRetry (opcode : BitVec 16) (phase : Bool) (d : Desc) (s : State) : Out := .next (fetchDesc s opcode.toNat phase true d)

/-- The waiting descriptor accepted first whose instant is reached. -/
def firstDue (s : State) : Option (Waiting × OpSpec) :=
  s.hif.waiting.findSome? (fun w =>
    match specOf w.opcode with
    | some sp => if waitingDue sp s w then some (w, sp) else none
    | none => none)

/-- The row EFFECTIVE_TIME_REACHED: of the descriptors that are due, the one accepted first is applied. -/
def execEffectiveTimeReached (s : State) : Out := .next <|
  match firstDue s with
  | some (w, sp) => sp.apply (removeWaiting s w.aseq) w
  | none => s

/-! ### Supervisors (R419, R569) -/

/-- A descriptor whose effective time passed while both supervisors were in reset, which lasted `ns`, takes its PAST_POLICY at the first
rejoin: LATE or INVALID, or it is applied at the next permitted instant. -/
def pastAtRejoin (s : State) (ns : Nat) (w : Waiting) : Option Nat :=
  match w.eff, specOf w.opcode with
  | some e, some sp =>
    if e < s.nowU && s.nowU ≤ e + ns * 65536 then
      (if w.d.past = 0 then some St.late
       else if w.d.past = 3 || (w.d.past = 2 && !sp.periodic) then some St.invalid else none)
    else none
  | _, _ => none

/-- The row SUPERVISOR_REJOIN: SV0 or SV1 is back. -/
def execSupervisorRejoin (k : Fin 2) (s : State) : Out := .next <|
  if !bitOf s.sys.engReset (18 + k) || !s.tb.running then s
  else
    let both := supervisorsDown s
    let since := max (s.sys.svAt.get (fun _ => 0) 0) (s.sys.svAt.get (fun _ => 0) 1)
    let s := windowEvent (s.setSys (fun y => { y with engReset := setBit y.engReset (18 + k) false })) 2 k 100000
    if !both then s
    else
      let ns := s.freeNs - since
      let hit := s.hif.waiting.filterMap (fun w => match pastAtRejoin s ns w with | some st => some (w, st) | none => none)
      hit.foldl (fun s p => refuseDesc (removeWaiting s p.1.aseq) p.1 p.2) s

/-! ### Causal counter (R32) -/

/-- The row CSEQ_SLOT_END: a 64 ns slot in which a record was committed ends. -/
def execCseqSlotEnd (s : State) : Out := .next <|
  if !s.tbLive || !s.jr.dirty || s.tb.cyc % 64 != 63 then s
  else { s with jr := { s.jr with cseq := (s.jr.cseq + 1) % 2 ^ 32, dirty := false } }

end Sys2Proof.Machine
end

