-- ==== Sys2Proof/Machine/RegWrite.lean ====
section
/-!
DEFINITION. Register writes to BAR0 (R6, R12–R15, R598–R602): flags, the windows and commands that act in every mode, and the
settings that act in SETUP with what their unit does at the write.
-/

namespace Sys2Proof.Machine

/-- The state a meaning answers. -/
def nextOf (s : State) : Out → State
  | .next t => t
  | _ => s

/-! ### Flags (R14, R474) -/

/-- Writes of 1 clear flags, but for those that the hardware set in this TB cycle. HELD has a rule of its own. -/
def clearFlags (s : State) (a v : Nat) : State :=
  (fieldsAt a).foldl (fun s p =>
    let f : Field := ⟨a, p.1.lo, p.1.w⟩
    match p.1.acc with
    | .w1c => if bitOf v p.1.lo && f != Reg.FLT_FF_STAT_HELD && !(s.hot.contains f.key) then s.put f 0 else s
    | _ => s) s

/-- A write of 1 to HELD releases the first-fault record, unless a capture in the same AO cycle wins (R474). -/
def releaseHeld (s : State) : State :=
  if s.flt.heldAo = some (s.tb.ao / 20) then s else s.putB Reg.FLT_FF_STAT_HELD false

/-! ### Settings that act in SETUP -/

/-- The instance of a group at `base`, `stride` apart, that holds address `a`, and its offset there. -/
def instOf (a base stride : Nat) : Nat × Nat := ((a - base) / stride, (a - base) % stride)

/-- After a store to the Tense unit's registers. -/
def tnsStored (s0 s : State) : State :=
  let s := normModel (normHo s)
  if s0.get Reg.TNS_CFG_EFC_MODE = 0 && s.get Reg.TNS_CFG_EFC_MODE != 0 then efcInit s else s

/-- After a store to the synthesis registers at `a`. -/
def synStored (s0 s : State) (a : Nat) : State :=
  if a = 0x090008 then esmcLevels (refmulStored s (s0.get Reg.SYN_APLL1_CFG_REFMUL))
  else if a = 0x090010 then esmcLevels s
  else if 0x090100 ≤ a && a < 0x090200 then
    (let (k, o) := instOf a 0x090100 0x40
     if o = 0 then esmcLevels (dpllStored s0 s k) else s)
  else if 0x091000 ≤ a && a < 0x091600 then
    (let (n, o) := instOf a 0x091000 0x80
     if o = 0 then outWritten s n true else if o < 0x1C then outWritten s n false else if o = 0x1C then showOut s n else s)
  else s

/-- After a store to the pulse unit's registers at `a`. -/
def plsStored (s0 s : State) (a : Nat) : State :=
  if a = 0x0A0000 then holdEdge s0 s
  else if a = 0x0A0004 then (rebaseSlews s0).storeWord a (s.loadWord a)
  else if a = 0x0A0080 then showTod s
  else if 0x0A1000 ≤ a && a < 0x0A1600 then
    (let (n, o) := instOf a 0x0A1000 0x40
     if o < 0x10 then
       (let s := if o = 4 && n < 12 then s.put (Reg.GEN_UDIST_U_DIST n) 0 else s
        let s := showTod (showGen s n)
        if n < 12 then showOut s n else s)
     else s)
  else s

/-- After a store to the lane and port registers at `a`. -/
def portStored (s : State) (a : Nat) : State :=
  if 0x0B1000 ≤ a && a < 0x0B2200 then
    (let (l, o) := instOf a 0x0B1000 0x100
     if o = 0 then
       (let s := laneStored s l
        match if l < 16 then portOfLane s l else none with | some p => settlePort s p 7 | none => s)
     else s)
  else if 0x0C0000 ≤ a && a < 0x0D0000 then
    (let (p, o) := instOf a 0x0C0000 0x2000
     if o = 0 then settlePort s p 7 else s)
  else if 0x0D0000 ≤ a && a < 0x0D0080 then (List.range 8).foldl (fun s p => settlePort s p 7) (showPorts s)
  else s

/-- After a store to the fabric, fault, pair and supply registers at `a`. -/
def sysStored (s : State) (a : Nat) : State :=
  if a = 0x130200 then (if s.bit Reg.FAB_PLAN_CFG_PLAN_EN then { s with fab := { s.fab with rewritten := true } } else s)
  else if 0x141000 ≤ a && a < 0x142000 then (if a % 16 = 0 then showHist s (instOf a 0x141000 0x10).1 else s)
  else if 0x150000 ≤ a && a < 0x150028 then showPair (normReh s)
  else if a = 0x170004 then normVlim s
  else s

/-- A store to the classifier's and engines' registers: a word of the sequence key is installed at once (R357), others act on what is
computed from them. -/
def claStore (s : State) (a v : Nat) : State :=
  if 0x100030 ≤ a && a < 0x100040 then
    let k := (a - 0x100030) / 4
    let key := leBytes 16 (s.cla.seqKey.getD 0)
    installKey s (leNat (key.take (4 * k) ++ leBytes 4 v ++ key.drop (4 * k + 4)) 0 16)
  else if 0x100060 ≤ a && a < 0x1000C0 then s.storeWord a v
  else storeService s [(a, v)]

/-- A store to the authentication unit's registers: data registers of the image are write-only, a CURRENT entry must meet R377. -/
def satStore (s : State) (a v : Nat) : State :=
  if 0x120024 ≤ a && a < 0x120054 then s.put (Reg.SAT_INST_DATA_DATA ((a - 0x120024) / 4)) v else normCur (s.storeWord a v)

/-- A store to the observation registers. -/
def obsStore (s : State) (a v : Nat) : State :=
  if a = 0x160000 then
    let s := if s.bit Reg.OBS_PC_CTL_FREEZE != bitOf v 1 then setFreeze s (bitOf v 1) else s
    if bitOf v 0 then takeSnapshot s else s
  else if 0x160060 ≤ a && a < 0x160074 then storeGrant (noteGrants s) ((a - 0x160060) / 4) v
  else if a = 0x160100 then samplerEdge (s.storeWord a v) (s.bit Reg.OBS_SMP_CFG_EN)
  else if 0x161000 ≤ a && a < 0x165000 then changePc s (instOf a 0x161000 0x10).1 (fun s => s.storeWord a v)
  else s.storeWord a v

/-- TOD_CFG is stored: a channel that becomes the pulse channel, or is it no more, waits to take its settings in (R79, R604); with EN
changed the receiver starts anew. -/
def todStored (s t : State) : State :=
  let t := [s.get Reg.TOD_CFG_PPS_CH, t.get Reg.TOD_CFG_PPS_CH].foldl (fun t c =>
    if isPpsCh s c = isPpsCh t c then t else t.setCh c { t.ch c with changed := true }) t
  if s.bit Reg.TOD_CFG_EN = t.bit Reg.TOD_CFG_EN then t else t.setTod (fun _ => Tod.zero)

/-- A write of a setting in SETUP (R6, R12): the register takes the value by its store rules, and its unit acts on it. -/
def setupStore (s : State) (a v : Nat) : State :=
  let t := s.storeWord a v
  if a = 0x000018 then (if bitOf v 31 then nextOf s (execGenModeReqGo ⟨v % 8, Nat.mod_lt _ (by decide)⟩ s) else t)
  else if 0x021000 ≤ a && a < 0x022000 then
    (let (r, o) := instOf a 0x021000 0x40
     if o = 8 then ringStored t r else t)
  else if 0x041000 ≤ a && a < 0x044000 then
    (let (c, o) := instOf a 0x041000 0x200
     if o < 0x1C then storeChSetting s c (o / 4) v else t)
  else if a = 0x044000 then todStored s t
  else if 0x080000 ≤ a && a < 0x090000 then tnsStored s t
  else if 0x090000 ≤ a && a < 0x0A0000 then synStored s t a
  else if 0x0A0000 ≤ a && a < 0x0B0000 then plsStored s t a
  else if 0x0B0000 ≤ a && a < 0x0E0000 then portStored t a
  else if 0x100000 ≤ a && a < 0x110000 then claStore s a v
  else if 0x120000 ≤ a && a < 0x130000 then satStore s a v
  else if 0x130000 ≤ a && a < 0x160000 || 0x170000 ≤ a then sysStored t a
  else if 0x160000 ≤ a && a < 0x170000 then obsStore s a v
  else t

/-! ### Windows and commands -/

/-- The INDEX field of a window written without a command. -/
def window (s : State) (index : Field) (v cmd : Nat) (read write : State → State) : State :=
  if cmd = 1 then read s
  else if cmd = 2 then (if s.mode = .setup then write s else s)
  else s.put index v

/-- The writes that act outside SETUP too (R6): HIF_ABORT, the MSI-X table, BOOT_PCI, and the command and address fields of the indirect
windows. None for any other address. -/
def commandWrite (s : State) (a v : Nat) : Option State :=
  let idx (n : Nat) : Nat := v % n
  if a = 0x020040 then
    some (if bitOf v 31 then
      (if v / 2 ^ 24 % 4 % 2 = 1 then s.putB Reg.HIF_ABORT_STAT_ERR true
       else regAbort s (v / 2 ^ 24 % 4) (v / 2 ^ 16 % 32) (v % 64)) else s)
  else if 0x028000 ≤ a && a < 0x028480 then some (releaseVector (s.storeWord a v) ((a - 0x028000) / 16))
  else if 0x010010 ≤ a && a < 0x010024 then some (if s.bit Reg.BOOT_STAT_WAIT_HOST then s.storeWord a v else s)
  else if a = 0x010024 then some (if bitOf v 0 then nextOf s (execBootPciGo s) else s)
  else if a = 0x0A0040 then
    some (let i : Fin 2048 := ⟨idx 2048, Nat.mod_lt _ (by decide)⟩
          window s Reg.PLS_SCH_ADDR_INDEX v (v / 65536 % 4) (fun s => nextOf s (execPlsSchRead i s)) (fun s => nextOf s (execPlsSchWrite i s)))
  else if a = 0x100060 then
    some (let i : Fin 512 := ⟨idx 512, Nat.mod_lt _ (by decide)⟩
          window s Reg.CLA_STR_ADDR_INDEX v (v / 65536 % 4) (fun s => nextOf s (execClaStrRead i s)) (fun s => nextOf s (execClaStrWrite i s)))
  else if a = 0x100090 then
    some (let i : Fin 4096 := ⟨idx 4096, Nat.mod_lt _ (by decide)⟩
          window s Reg.CLA_RULE_ADDR_INDEX v (v / 65536 % 4) (fun s => nextOf s (execClaRuleRead i s)) (fun s => nextOf s (execClaRuleWrite i s)))
  else if a = 0x120020 then some (if bitOf v 16 then nextOf s (execSatInstGo s) else s)
  else if a = 0x120060 then
    some (if bitOf v 16 then nextOf s (execSatQryGo ⟨idx 8192, Nat.mod_lt _ (by decide)⟩ s) else s.put Reg.SAT_QRY_ADDR_INDEX v)
  else if a = 0x1600D0 then some (nextOf s (execObsJrnlWaddr (BitVec.ofNat 32 v) s))
  else if a = 0x160110 then some (nextOf s (execObsSmpWaddr (BitVec.ofNat 12 v) s))
  else none

/-- A whole aligned 32-bit write of `v` to BAR0 address `a`. -/
def writeReg (s : State) (a v : Nat) : State :=
  if !pcieRuns s then s
  else
    match commandWrite s a v with
    | some t => t
    | none =>
      let s := clearFlags s a v
      let s := if a = 0x140040 && bitOf v 30 then releaseHeld s else s
      if s.mode = .setup then setupStore s a v else s

/-- The row REGISTER_WRITE: `v` is written to the register numbered `r`, at byte address 4r. -/
def execRegisterWrite (r : BitVec 22) (v : Word) (s : State) : Out := .next (writeReg s (4 * r.toNat) v.toNat)

/-- The row W1C_FLAG_WRITE: `v` is written to the flag register numbered `r`. -/
def execW1cFlagWrite (r : BitVec 22) (v : Word) (s : State) : Out := .next <|
  if pcieRuns s then clearFlags s (4 * r.toNat) v.toNat else s

/-- The row FF_HELD_RELEASE. -/
def execFfHeldRelease (s : State) : Out := .next <| if pcieRuns s then releaseHeld s else s

end Sys2Proof.Machine
end

