-- ==== Sys2Proof/Machine/PortClient.lean ====
section
/-!
DEFINITION. The port PTP clients (R155, R341) and the received SyncE quality levels (R156): the rows PTP_CLIENT_RX,
UNICAST_GRANT_REQUEST and ESMC_PDU_RX.
-/

namespace Sys2Proof.Machine

/-! ### Master choice (R341) -/

/-- A list of numbers comes before another in the order of their first difference. -/
def lexLess : List Nat → List Nat → Bool
  | a :: l, b :: m => a < b || (a = b && lexLess l m)
  | _, _ => false

/-- Announce a describes a better master than b: the data set comparison of IEEE 1588-2019, or under TYPE 2 and 3 the alternate one of
G.8275.1 and G.8275.2. PRESUMED: the keys and their order are the standards' (log 37). -/
def betterMaster (alt : Bool) (a b : Ann) : Bool :=
  let near := lexLess [a.steps, a.ident] [b.steps, b.ident]
  if alt then
    let ka := [a.cls, a.acc, a.oslv, a.prio2, a.localPrio]
    let kb := [b.cls, b.acc, b.oslv, b.prio2, b.localPrio]
    if ka = kb then (if a.cls ≤ 127 || a.gm = b.gm then near else a.gm < b.gm) else lexLess ka kb
  else if a.gm = b.gm then near
  else lexLess [a.prio1, a.cls, a.acc, a.oslv, a.prio2, a.gm] [b.prio1, b.cls, b.acc, b.oslv, b.prio2, b.gm]

/-- The best of a list of masters. -/
def bestMaster (alt : Bool) : List Ann → Option Ann
  | [] => none
  | a :: l => match bestMaster alt l with
    | none => some a
    | some b => if betterMaster alt b a then some b else some a

/-- The binding of port p's client. -/
def clientBinding (s : State) (p : Nat) : Nat := s.get (Reg.PCL_CFG_PROFILE p)

/-- The portIdentity of port p under its client's binding. -/
def ownIdent (s : State) (p : Nat) : Nat := clkId s (clientBinding s p) * 65536 + portNumber s (targetOf s p)

/-- A sender whose messages the client may use: under CHOICE 1 only the clockIdentity MASTER_ID, under TYPE 3 only MASTER_IP. -/
def mayMaster (s : State) (p ip ident : Nat) : Bool :=
  (!s.bit (Reg.PCL_CFG_CHOICE p) || ident / 65536 = s.getPair (Reg.PCL_MID_LO_MASTER_ID p) (Reg.PCL_MID_HI_MASTER_ID p)) &&
    (s.get (Reg.PB_CFG_TYPE (clientBinding s p)) != 3 || ip = masterIp s p)

/-- The client of port p chooses among the masters it holds. A new master begins without a Sync or Delay_Req of the old one. -/
def chooseMaster (s : State) (p : Nat) : State :=
  let c := s.client p
  let ty := s.get (Reg.PB_CFG_TYPE (clientBinding s p))
  let m := (bestMaster (ty = 2 || ty = 3) (c.masters.map (fun a => a.1))).map (fun a => a.ident)
  if c.master = m then s
  else showClient (s.setClient p { c with master := m, await := none, sync := none, dreq := none, exch := [] }) p

/-- An Announce: the sender's data set is held, the master chosen, and what the chosen master announces is taken: clockClass,
clockAccuracy, the TAI offset (R28, R189) and a leap at the end of the current UTC day (R190). -/
def clientAnnounce (s : State) (p : Nat) (ann : Ann) (f : FrameIn) (m : PtpIn) : State :=
  let a := { ann with ident := m.sender, mac := f.sa }
  let c := s.client p
  let s := s.setClient p { c with masters := (a, s.freeNs) :: c.masters.filter (fun x => x.1.ident != m.sender) }
  let s := chooseMaster s p
  if (s.client p).master != some m.sender then s
  else
    let i := 20 + p
    let s := (s.put (Reg.ENT_NETSTAT_CLASS_RX i) a.cls).put (Reg.ENT_NETSTAT_ACC_RX i) a.acc
    let s := if a.utcValid then deliverOffset s i a.utc (classOf s i = 3) else s
    if a.leap61 then sourceLeap s i (endOfUtcDay s true) true
    else if a.leap59 then sourceLeap s i (endOfUtcDay s false) false else s

/-! ### Measurements (R155, R303, R316) -/

/-- A Sync is accepted: the LOS interval of its reference starts anew (R136). -/
def syncTaken (s : State) (p : Nat) : State := s.setRef (20 + p) { s.ref (20 + p) with arrived := some s.freeNs }

/-- The exchange with the smallest d among those given, the latest of several. -/
def leastDelay : List Exch → Option Exch
  | [] => none
  | x :: l => match leastDelay l with
    | none => some x
    | some y => if y.d < x.d then some y else some x

/-- The source bound of an exchange: that of the Gloss used (R48, TRACE 3), or the upper limit of the clockAccuracy (TRACE 4); none
where the Gloss bounds nothing. -/
def exchBound (s : State) (i : Nat) (x : Exch) : Option Nat :=
  match x.gl with
  | some g => encodedBound g
  | none => some (accLimit (s.get (Reg.ENT_NETSTAT_ACC_RX i)))

/-- The mean path delay of an exchange in ps, rounded up (R39). -/
def exchPath (x : Exch) : Nat := ceilNatQ ((x.d : Rat) * 1000 / 131072)

/-- The measurement published after an exchange: that of the smallest d among the last PSEL. -/
def publishExch (s : State) (p : Nat) : State :=
  let i := 20 + p
  match leastDelay ((s.client p).exch.take (s.get (Reg.ENT_NET_PSEL i))) with
  | none => s
  | some x =>
    let s := s.putB (Reg.ENT_NETSTAT_GLS_TLV i) x.gl.isSome
    s.feed i ⟨true, x.freeAt, x.stampU, some x.o, 0, 0, true, some (exchBound s i x), exchPath x⟩

/-- An exchange of t1, t2, t3, t4 in 2⁻¹⁶ ns (R155): held, offered to a calibration of METHOD 2 as o formed with A = 0 (R316), and
published. -/
def takeExchange (s : State) (p : Nat) (t1 t2 t3 t4 : Int) (gl : Option Nat) : State :=
  let c := s.client p
  let o : Rat := (((t2 - t1) - (t4 - t3) : Int) : Rat) / 2
  let x : Exch := ⟨roundQ (o / 128), (t2 - t1) + (t4 - t3), gl, s.freeNs, s.tbU⟩
  let s := s.setClient p { c with exch := (x :: c.exch).take 128, dreq := none }
  let s := if calRuns s p 2 then calSample s p (x.o + s.getS (Reg.TSU_ASYM_A p)) else s
  publishExch s p

/-- The Gloss a message carries: the TLV of organizationId ORGID and subtype 1; any other organization TLV is ignored (R51). -/
def upstreamGloss (s : State) (m : PtpIn) : Option Nat :=
  (m.orgs.find? (fun t => t.orgId = s.get Reg.TNS_GLS_ORGID_ORGID && t.sub = 1)).map (fun t => t.data.toNat)

/-- A Sync, Follow_Up or Delay_Resp of the chosen master; `trx` is the frame's ingress stamp. t2 is corrected by A (R303). -/
def clientTiming (s : State) (p trx : Nat) (m : PtpIn) : State :=
  let c := s.client p
  let at1 (extra : Int) : Int := (m.stamp : Int) * 65536 + m.corr + extra
  let gl := upstreamGloss s m
  if m.type = 0 then
    let t2 : Int := (trx : Int) - s.getS (Reg.TSU_ASYM_A p) * 128
    let s := s.setClient p (if m.twoStep then { c with await := some (m.seqId, t2, m.corr) }
      else { c with await := none, sync := some (at1 0, t2, gl) })
    syncTaken s p
  else if m.type = 8 then
    match c.await with
    | some (q, t2, corr) =>
      if q = m.seqId then s.setClient p { c with await := none, sync := some (at1 corr, t2, gl) } else s
    | none => s
  else if m.type = 9 then
    match c.sync, c.dreq with
    | some (t1, t2, gl), some (q, t3) =>
      if q = m.seqId && m.reqPort = ownIdent s p then takeExchange s p t1 t2 t3 ((m.stamp : Int) * 65536 - m.corr) gl else s
    | _, _ => s
  else s

/-- The message is authentic as its binding asks (R380, R388): without the TLV, or verified, which happens in SERVICE only; `ok` is
what the verification finds. -/
def clientAuth (s : State) (p b : Nat) (m : PtpIn) (ok : Bool) : State × Bool :=
  match m.auth with
  | none => (s, true)
  | some _ =>
    if s.mode != .service then (s, false)
    else
      let good : Bool := ptpFound s b m && ok && cyRuns s
      let s := satBump s (if good then 4 else 5) 1
      (if good then s else violation s p 4, good)

/-- The row PTP_CLIENT_RX: the client of port p takes a Sync, Follow_Up, Delay_Resp or Announce that FRAME_RX has received in frame f.
Messages that violate the binding were counted there and are ignored here. -/
def execPtpClientRx (p : Fin 8) (f : FrameIn) (ok : Bool) (s : State) : Out := .next <|
  let b := clientBinding s p
  match f.pay with
  | .ptp tr m =>
    if !clientRuns s p || link s p != 3 || (ptpViolation s b tr m).isSome || !mayMaster s p f.ip m.sender ||
        !([0, 8, 9, 0xB].contains m.type) then s
    else
      let (s, good) := clientAuth s p b m ok
      if !good then s
      else
        let s := match m.type, m.ann with
          | 0xB, some a => clientAnnounce s p a f m
          | 0xB, none => s
          | _, _ => if (s.client p).master = some m.sender then clientTiming s p (ingressStamp s p f.edge f.ui) m else s
        settle s
  | _ => s

/-! ### Unicast negotiation of a TYPE 3 client (R341) -/

/-- What the client asks for: Sync and Delay_Resp at LOG_DREQ, Announce at LOG_ANNREQ, each for 300 s. -/
def grantAsks (s : State) (p : Nat) : List SigTlv :=
  let l := s.getS (Reg.PCL_CFG_LOG_DREQ p)
  [⟨0, 0, l, 300⟩, ⟨0, 9, l, 300⟩, ⟨0, 0xB, s.getS (Reg.PCL_CFG_LOG_ANNREQ p), 300⟩]

/-- The row UNICAST_GRANT_REQUEST: the TYPE 3 client of port p asks its master for the grants it does not hold, and for those of which
60 s or less remain, in one unbooked Signaling message of `len` octets. -/
def execUnicastGrantRequest (p : Fin 8) (len : Nat) (s : State) : Out := .next <|
  let b := clientBinding s p
  let c := s.client p
  let asks := (grantAsks s p).filter (fun g => c.grants.get (fun _ => 0) g.type ≤ s.freeNs + 60000000000)
  if !clientRuns s p || !s.bit (Reg.PB_CFG_EN b) || s.get (Reg.PB_CFG_TYPE b) != 3 || link s p != 3 || asks.isEmpty then s
  else match ownSeal s b, (enginesOf s 4).head? with
    | none, _ => withheld s b
    | _, none => s
    | some sealed, some e =>
      let t := targetOf s p
      let mac := ((c.masters.find? (fun a => some a.1.ident = c.master)).map (fun a => a.1.mac)).getD 0
      let m := { ptpBase s b t 0xC c.nsig with env := ⟨mac, none, masterIp s p⟩, unicast := true, sigs := asks }
      let m := if sealed then m.withTlv (authOut s b (4 * e)) else m
      let s := if sealed then satBump s 6 1 else s
      let s := s.setClient p { c with nsig := c.nsig + 1 }
      sendUnbooked s t (.ptp m) len (if isGroup t then some (grantSeq s mac 0xC c.nsig) else none) none

/-! ### ESMC (R144, R156, R222) -/

/-- The row ESMC_PDU_RX: a valid ESMC PDU on port p, with its SSM code, its enhanced SSM code when the extended QL TLV is present, and
that TLV's cascaded eEEC and EEC counts. -/
def execEsmcPduRx (p : Fin 8) (ssm : BitVec 4) (essm : Option Byte) (eeec eec : Byte) (s : State) : Out := .next <|
  if !tenseMode s || !readsEsmc s p || link s p != 3 then s
  else
    let s := esmcPdu s p ssm.toNat (essm.map (fun b => b.toNat))
    let s := { s with syn := { s.syn with casc := s.syn.casc.set (fun _ => (0, 0)) p (eeec.toNat, eec.toNat) } }
    settle (esmcLevels s)

end Sys2Proof.Machine
end

