-- ==== Sys2Proof/Machine/Dispatch.lean ====
section
/-!
DEFINITION. The meaning of every command: one arm per constructor of Instr, each one call of its meaning, in the order of
spec/opcode_table.json.
-/

namespace Sys2Proof.Machine

/-- What a command does to everything but the queue. -/
def exec (i : Instr) (s : State) : Host.Outcome State Fault Refusal :=
  match i with
  | .registerWrite r v => Sys2Proof.Machine.execRegisterWrite r v s
  | .unalignedAccess => Sys2Proof.Machine.execUnalignedAccess s
  | .w1cFlagWrite r v => Sys2Proof.Machine.execW1cFlagWrite r v s
  | .ffHeldRelease => Sys2Proof.Machine.execFfHeldRelease s
  | .glossPublication tc1 steer other => Sys2Proof.Machine.execGlossPublication tc1 steer other s
  | .cseqSlotEnd => Sys2Proof.Machine.execCseqSlotEnd s
  | .tbClockStop => Sys2Proof.Machine.execTbClockStop s
  | .oscinLoss => Sys2Proof.Machine.execOscinLoss s
  | .apllLossOfLock k => Sys2Proof.Machine.execApllLossOfLock k s
  | .apllLock k => Sys2Proof.Machine.execApllLock k s
  | .leapApplied => Sys2Proof.Machine.execLeapApplied s
  | .leapArmed => Sys2Proof.Machine.execLeapArmed s
  | .inputEdge c code isGlitch => Sys2Proof.Machine.execInputEdge c code isGlitch s
  | .evtEdge k code glitch => Sys2Proof.Machine.execEvtEdge k code glitch s
  | .tdcCalibration c c1 c2 => Sys2Proof.Machine.execTdcCalibration c c1 c2 s
  | .evtCalibration e c1 c2 => Sys2Proof.Machine.execEvtCalibration e c1 c2 s
  | .windowClose c => Sys2Proof.Machine.execWindowClose c s
  | .todMessage framed good known sec utcOfs l61 l59 utcv qual => Sys2Proof.Machine.execTodMessage framed good known sec utcOfs l61 l59 utcv qual s
  | .todIntervalEnd => Sys2Proof.Machine.execTodIntervalEnd s
  | .refinChWrite c k v => Sys2Proof.Machine.execRefinChWrite c k v s
  | .refinSet d => Sys2Proof.Machine.execRefinSet d s
  | .effectiveTimeReached => Sys2Proof.Machine.execEffectiveTimeReached s
  | .bandStuck b bits => Sys2Proof.Machine.execBandStuck b bits s
  | .stuckClear b => Sys2Proof.Machine.execStuckClear b s
  | .sidePeakSlip n run => Sys2Proof.Machine.execSidePeakSlip n run s
  | .gnssSolution e => Sys2Proof.Machine.execGnssSolution e s
  | .jamTrip b powers => Sys2Proof.Machine.execJamTrip b powers s
  | .gnssCheckClear c => Sys2Proof.Machine.execGnssCheckClear c s
  | .snapCaptured l1 l5 => Sys2Proof.Machine.execSnapCaptured l1 l5 s
  | .surveyIn d => Sys2Proof.Machine.execSurveyIn d s
  | .surveyDone => Sys2Proof.Machine.execSurveyDone s
  | .surveySuspendExpiry => Sys2Proof.Machine.execSurveySuspendExpiry s
  | .gnssPosSet d => Sys2Proof.Machine.execGnssPosSet d s
  | .gnssSnapshot d => Sys2Proof.Machine.execGnssSnapshot d s
  | .snapExport d => Sys2Proof.Machine.execSnapExport d s
  | .snapExportDone k => Sys2Proof.Machine.execSnapExportDone k s
  | .snapRelease d => Sys2Proof.Machine.execSnapRelease d s
  | .gnssSet d => Sys2Proof.Machine.execGnssSet d s
  | .qualHoldoffExpiry k => Sys2Proof.Machine.execQualHoldoffExpiry k s
  | .dqHoldoffExpiry k => Sys2Proof.Machine.execDqHoldoffExpiry k s
  | .refLosTimeout k => Sys2Proof.Machine.execRefLosTimeout k s
  | .driftSample => Sys2Proof.Machine.execDriftSample s
  | .waitToRestore => Sys2Proof.Machine.execWaitToRestore s
  | .esmcPduRx p ssm essm eeec eec => Sys2Proof.Machine.execEsmcPduRx p ssm essm eeec eec s
  | .esmcTimeout p => Sys2Proof.Machine.execEsmcTimeout p s
  | .ptpClientRx p f ok => Sys2Proof.Machine.execPtpClientRx p f ok s
  | .selSet d => Sys2Proof.Machine.execSelSet d s
  | .selForce d => Sys2Proof.Machine.execSelForce d s
  | .learnSample => Sys2Proof.Machine.execLearnSample s
  | .rollingFit => Sys2Proof.Machine.execRollingFit s
  | .efcCentring => Sys2Proof.Machine.execEfcCentring s
  | .efcFrameEnd => Sys2Proof.Machine.execEfcFrameEnd s
  | .tempRead => Sys2Proof.Machine.execTempRead s
  | .tempReadDone raw => Sys2Proof.Machine.execTempReadDone raw s
  | .tnsStep d => Sys2Proof.Machine.execTnsStep d s
  | .tnsHostTime d => Sys2Proof.Machine.execTnsHostTime d s
  | .tnsUtc d => Sys2Proof.Machine.execTnsUtc d s
  | .tnsSet d => Sys2Proof.Machine.execTnsSet d s
  | .holdoverLearn d => Sys2Proof.Machine.execHoldoverLearn d s
  | .holdoverLearnDone => Sys2Proof.Machine.execHoldoverLearnDone s
  | .hoModelLoad d => Sys2Proof.Machine.execHoModelLoad d s
  | .tcRejoin k => Sys2Proof.Machine.execTcRejoin k s
  | .glossStale => Sys2Proof.Machine.execGlossStale s
  | .dpllUpdate k e dem clocks => Sys2Proof.Machine.execDpllUpdate k e dem clocks s
  | .esmcInfoTx p => Sys2Proof.Machine.execEsmcInfoTx p s
  | .outputStart n => Sys2Proof.Machine.execOutputStart n s
  | .outputStop n => Sys2Proof.Machine.execOutputStop n s
  | .outputSlewEnd n => Sys2Proof.Machine.execOutputSlewEnd n s
  | .outEnWrite n v => Sys2Proof.Machine.execOutEnWrite n v s
  | .synSet d => Sys2Proof.Machine.execSynSet d s
  | .outCtl d => Sys2Proof.Machine.execOutCtl d s
  | .schedCommit k => Sys2Proof.Machine.execSchedCommit k s
  | .schedOccurrence k => Sys2Proof.Machine.execSchedOccurrence k s
  | .pulseEnd n => Sys2Proof.Machine.execPulseEnd n s
  | .irigFrame n => Sys2Proof.Machine.execIrigFrame n s
  | .todTxMessage => Sys2Proof.Machine.execTodTxMessage s
  | .plsSched d => Sys2Proof.Machine.execPlsSched d s
  | .plsSet d => Sys2Proof.Machine.execPlsSet d s
  | .plsAlign d => Sys2Proof.Machine.execPlsAlign d s
  | .alignQuietInstant n => Sys2Proof.Machine.execAlignQuietInstant n s
  | .alignSlewEnd n => Sys2Proof.Machine.execAlignSlewEnd n s
  | .alignTimeout n => Sys2Proof.Machine.execAlignTimeout n s
  | .plsSchRead k => Sys2Proof.Machine.execPlsSchRead k s
  | .plsSchWrite k => Sys2Proof.Machine.execPlsSchWrite k s
  | .signalDetect p => Sys2Proof.Machine.execSignalDetect p s
  | .polarityTimeout l => Sys2Proof.Machine.execPolarityTimeout l s
  | .bringupComplete p map skew anDone => Sys2Proof.Machine.execBringupComplete p map skew anDone s
  | .bringupFail p lost => Sys2Proof.Machine.execBringupFail p lost s
  | .bringupRetry p => Sys2Proof.Machine.execBringupRetry p s
  | .linkLoss p cause => Sys2Proof.Machine.execLinkLoss p cause s
  | .linkFaultRx p k => Sys2Proof.Machine.execLinkFaultRx p k s
  | .frameRx p f => Sys2Proof.Machine.execFrameRx p f s
  | .pauseRx p quanta => Sys2Proof.Machine.execPauseRx p quanta s
  | .pauseExpiry p c => Sys2Proof.Machine.execPauseExpiry p c s
  | .pauseWatchdog p c => Sys2Proof.Machine.execPauseWatchdog p c s
  | .pwdHoldExpiry p c => Sys2Proof.Machine.execPwdHoldExpiry p c s
  | .eyeMeasure l h v => Sys2Proof.Machine.execEyeMeasure l h v s
  | .supervisionTx g => Sys2Proof.Machine.execSupervisionTx g s
  | .portDisturb p => Sys2Proof.Machine.execPortDisturb p s
  | .portSet d => Sys2Proof.Machine.execPortSet d s
  | .laneSet d => Sys2Proof.Machine.execLaneSet d s
  | .portLoopback d => Sys2Proof.Machine.execPortLoopback d s
  | .rgSet d => Sys2Proof.Machine.execRgSet d s
  | .tsuPdCalibration p => Sys2Proof.Machine.execTsuPdCalibration p s
  | .ttxGrant e c len grid gridB => Sys2Proof.Machine.execTtxGrant e c len grid gridB s
  | .frameCommit e c len => Sys2Proof.Machine.execFrameCommit e c len s
  | .frameArm p => Sys2Proof.Machine.execFrameArm p s
  | .frameLaunch p => Sys2Proof.Machine.execFrameLaunch p s
  | .egressVerify p edge => Sys2Proof.Machine.execEgressVerify p edge s
  | .unbookedTx p edge => Sys2Proof.Machine.execUnbookedTx p edge s
  | .portCalibrate d => Sys2Proof.Machine.execPortCalibrate d s
  | .calProbe p tx rx => Sys2Proof.Machine.execCalProbe p tx rx s
  | .portCalibrateDone p => Sys2Proof.Machine.execPortCalibrateDone p s
  | .tsuSet d => Sys2Proof.Machine.execTsuSet d s
  | .requestDispatch e => Sys2Proof.Machine.execRequestDispatch e s
  | .aeadComplete e c ok intact => Sys2Proof.Machine.execAeadComplete e c ok intact s
  | .streamPrepare k ann => Sys2Proof.Machine.execStreamPrepare k ann s
  | .followUpPrepare => Sys2Proof.Machine.execFollowUpPrepare s
  | .signalingRx ok len => Sys2Proof.Machine.execSignalingRx ok len s
  | .grantWalk late bad => Sys2Proof.Machine.execGrantWalk late bad s
  | .delayReqTx p => Sys2Proof.Machine.execDelayReqTx p s
  | .admissionRefresh => Sys2Proof.Machine.execAdmissionRefresh s
  | .reconfDrainEnd => Sys2Proof.Machine.execReconfDrainEnd s
  | .svcViolation => Sys2Proof.Machine.execSvcViolation s
  | .grantSummary => Sys2Proof.Machine.execGrantSummary s
  | .injectEntry r header frame => Sys2Proof.Machine.execInjectEntry r header frame s
  | .engineRejoin e => Sys2Proof.Machine.execEngineRejoin e s
  | .claSet d => Sys2Proof.Machine.execClaSet d s
  | .claRule d => Sys2Proof.Machine.execClaRule d s
  | .streamSet d => Sys2Proof.Machine.execStreamSet d s
  | .claSeqkey d => Sys2Proof.Machine.execClaSeqkey d s
  | .claStrRead k => Sys2Proof.Machine.execClaStrRead k s
  | .claStrWrite k => Sys2Proof.Machine.execClaStrWrite k s
  | .claRuleRead k => Sys2Proof.Machine.execClaRuleRead k s
  | .claRuleWrite k => Sys2Proof.Machine.execClaRuleWrite k s
  | .drbgReseed healthy => Sys2Proof.Machine.execDrbgReseed healthy s
  | .satExpiry k => Sys2Proof.Machine.execSatExpiry k s
  | .satInstall d => Sys2Proof.Machine.execSatInstall d s
  | .satRotate d => Sys2Proof.Machine.execSatRotate d s
  | .satRekey d => Sys2Proof.Machine.execSatRekey d s
  | .satRekeyRecord r => Sys2Proof.Machine.execSatRekeyRecord r s
  | .satInstGo => Sys2Proof.Machine.execSatInstGo s
  | .satQryGo k => Sys2Proof.Machine.execSatQryGo k s
  | .doorbell r v => Sys2Proof.Machine.execDoorbell r v s
  | .descriptorAccept opcode phase d => Sys2Proof.Machine.execDescriptorAccept opcode phase d s
  | .phaseRetry opcode phase d => Sys2Proof.Machine.execPhaseRetry opcode phase d s
  | .coalTimeout r => Sys2Proof.Machine.execCoalTimeout r s
  | .dmaError r => Sys2Proof.Machine.execDmaError r s
  | .pcieFlr => Sys2Proof.Machine.execPcieFlr s
  | .pcieBmeClear => Sys2Proof.Machine.execPcieBmeClear s
  | .pcieD3hot => Sys2Proof.Machine.execPcieD3hot s
  | .pcieLinkDown => Sys2Proof.Machine.execPcieLinkDown s
  | .pcieLinkUp speed width => Sys2Proof.Machine.execPcieLinkUp speed width s
  | .perst => Sys2Proof.Machine.execPerst s
  | .pf1Flr => Sys2Proof.Machine.execPf1Flr s
  | .nop d => Sys2Proof.Machine.execNop d s
  | .modeSet d => Sys2Proof.Machine.execModeSet d s
  | .ringSet d => Sys2Proof.Machine.execRingSet d s
  | .longCtl d => Sys2Proof.Machine.execLongCtl d s
  | .abort d => Sys2Proof.Machine.execAbort d s
  | .hifAbortEngine e => Sys2Proof.Machine.execHifAbortEngine e s
  | .hifAbortRing r => Sys2Proof.Machine.execHifAbortRing r s
  | .smbIdent => Sys2Proof.Machine.execSmbIdent s
  | .smbStatus => Sys2Proof.Machine.execSmbStatus s
  | .smbGloss => Sys2Proof.Machine.execSmbGloss s
  | .smbTime => Sys2Proof.Machine.execSmbTime s
  | .smbTemp => Sys2Proof.Machine.execSmbTemp s
  | .smbPower => Sys2Proof.Machine.execSmbPower s
  | .smbFirstFault => Sys2Proof.Machine.execSmbFirstFault s
  | .smbMargin => Sys2Proof.Machine.execSmbMargin s
  | .smbPorts => Sys2Proof.Machine.execSmbPorts s
  | .smbPair => Sys2Proof.Machine.execSmbPair s
  | .smbArbiter v => Sys2Proof.Machine.execSmbArbiter v s
  | .smbAlertMaskRead => Sys2Proof.Machine.execSmbAlertMaskRead s
  | .smbAlertMaskWrite v => Sys2Proof.Machine.execSmbAlertMaskWrite v s
  | .smbAlertResponse => Sys2Proof.Machine.execSmbAlertResponse s
  | .fabricTransfer m a acc n beats ext sym done => Sys2Proof.Machine.execFabricTransfer m a acc n beats ext sym done s
  | .lockTimeout t => Sys2Proof.Machine.execLockTimeout t s
  | .resultLanding land => Sys2Proof.Machine.execResultLanding land s
  | .scrubRead mem a sym => Sys2Proof.Machine.execScrubRead mem a sym s
  | .speedWindow n ro tj power => Sys2Proof.Machine.execSpeedWindow n ro tj power s
  | .plannerEvaluate => Sys2Proof.Machine.execPlannerEvaluate s
  | .avsReadback vread iread alert answered => Sys2Proof.Machine.execAvsReadback vread iread alert answered s
  | .marginReplan => Sys2Proof.Machine.execMarginReplan s
  | .trendUpdate => Sys2Proof.Machine.execTrendUpdate s
  | .marginSweep d => Sys2Proof.Machine.execMarginSweep d s
  | .sweepDone mus => Sys2Proof.Machine.execSweepDone mus s
  | .fabSet d => Sys2Proof.Machine.execFabSet d s
  | .marginReport d => Sys2Proof.Machine.execMarginReport d s
  | .faultEvent src addr master access info => Sys2Proof.Machine.execFaultEvent src addr master access info s
  | .faultDecision => Sys2Proof.Machine.execFaultDecision s
  | .safeStateAssert => Sys2Proof.Machine.execSafeStateAssert s
  | .suppressionWindowClose => Sys2Proof.Machine.execSuppressionWindowClose s
  | .engWdog e pc => Sys2Proof.Machine.execEngWdog e pc s
  | .supplyExcursion r mv => Sys2Proof.Machine.execSupplyExcursion r mv s
  | .tjCrit => Sys2Proof.Machine.execTjCrit s
  | .xoSafeLoss => Sys2Proof.Machine.execXoSafeLoss s
  | .fltSet d => Sys2Proof.Machine.execFltSet d s
  | .fltInject d => Sys2Proof.Machine.execFltInject d s
  | .fltSafe d => Sys2Proof.Machine.execFltSafe d s
  | .heartbeatTx => Sys2Proof.Machine.execHeartbeatTx s
  | .heartbeatRx l h p => Sys2Proof.Machine.execHeartbeatRx l h p s
  | .hbInEdge => Sys2Proof.Machine.execHbInEdge s
  | .peerAbsenceTimeout => Sys2Proof.Machine.execPeerAbsenceTimeout s
  | .identTx => Sys2Proof.Machine.execIdentTx s
  | .identRx l h p => Sys2Proof.Machine.execIdentRx l h p s
  | .epochMarkerTx x0 x1 => Sys2Proof.Machine.execEpochMarkerTx x0 x1 s
  | .epochMarkerRx l x => Sys2Proof.Machine.execEpochMarkerRx l x s
  | .stateFrameRx l h t3 t2 p => Sys2Proof.Machine.execStateFrameRx l h t3 t2 p s
  | .linkViolation l => Sys2Proof.Machine.execLinkViolation l s
  | .laneRestart l => Sys2Proof.Machine.execLaneRestart l s
  | .laneSyncChange l sync => Sys2Proof.Machine.execLaneSyncChange l sync s
  | .keyTx => Sys2Proof.Machine.execKeyTx s
  | .keyRx l h k adopt => Sys2Proof.Machine.execKeyRx l h k adopt s
  | .keyAckRx l h adopt => Sys2Proof.Machine.execKeyAckRx l h adopt s
  | .keyAdoption => Sys2Proof.Machine.execKeyAdoption s
  | .noticeTx => Sys2Proof.Machine.execNoticeTx s
  | .noticeRx l h src cls flags stamp => Sys2Proof.Machine.execNoticeRx l h src cls flags stamp s
  | .subjInChange level => Sys2Proof.Machine.execSubjInChange level s
  | .arbValidChange sel => Sys2Proof.Machine.execArbValidChange sel s
  | .roleDecisionChange => Sys2Proof.Machine.execRoleDecisionChange s
  | .guardExpiry undriven => Sys2Proof.Machine.execGuardExpiry undriven s
  | .takeHoldExpiry => Sys2Proof.Machine.execTakeHoldExpiry s
  | .driverInactiveInstant n => Sys2Proof.Machine.execDriverInactiveInstant n s
  | .urgentRelease => Sys2Proof.Machine.execUrgentRelease s
  | .rehearsalStart => Sys2Proof.Machine.execRehearsalStart s
  | .rehDwellExpiry => Sys2Proof.Machine.execRehDwellExpiry s
  | .rehLimExpiry => Sys2Proof.Machine.execRehLimExpiry s
  | .cnjSet d => Sys2Proof.Machine.execCnjSet d s
  | .cnjHandover d => Sys2Proof.Machine.execCnjHandover d s
  | .sampleCapture e n ctx wait addr insn lat target => Sys2Proof.Machine.execSampleCapture e n ctx wait addr insn lat target s
  | .bandwidthWindow p => Sys2Proof.Machine.execBandwidthWindow p s
  | .traceFrameTx => Sys2Proof.Machine.execTraceFrameTx s
  | .traceDma => Sys2Proof.Machine.execTraceDma s
  | .obsTrcFifoRead => Sys2Proof.Machine.execObsTrcFifoRead s
  | .obsJrnlWaddr j => Sys2Proof.Machine.execObsJrnlWaddr j s
  | .obsSmpWaddr k => Sys2Proof.Machine.execObsSmpWaddr k s
  | .obsPcSnap => Sys2Proof.Machine.execObsPcSnap s
  | .obsPcFreeze b => Sys2Proof.Machine.execObsPcFreeze b s
  | .pf1PageRead page word => Sys2Proof.Machine.execPf1PageRead page word s
  | .obsSet d => Sys2Proof.Machine.execObsSet d s
  | .obsSnap d => Sys2Proof.Machine.execObsSnap d s
  | .obsGrant d => Sys2Proof.Machine.execObsGrant d s
  | .journalExport d => Sys2Proof.Machine.execJournalExport d s
  | .journalExportBurst n => Sys2Proof.Machine.execJournalExportBurst n s
  | .aoPowerOn => Sys2Proof.Machine.execAoPowerOn s
  | .resetAssert => Sys2Proof.Machine.execResetAssert s
  | .resetRelease v => Sys2Proof.Machine.execResetRelease v s
  | .bootHeaderRead primary copy osc => Sys2Proof.Machine.execBootHeaderRead primary copy osc s
  | .imageVerified a b p kat => Sys2Proof.Machine.execImageVerified a b p kat s
  | .bootPciGo => Sys2Proof.Machine.execBootPciGo s
  | .genModeReqGo target => Sys2Proof.Machine.execGenModeReqGo target s
  | .modeGoEvaluate => Sys2Proof.Machine.execModeGoEvaluate s
  | .firmwareStage d => Sys2Proof.Machine.execFirmwareStage d s
  | .firmwareStageDone cause release => Sys2Proof.Machine.execFirmwareStageDone cause release s
  | .trendSave bad => Sys2Proof.Machine.execTrendSave bad s
  | .linkHeartbeatTimeout l => Sys2Proof.Machine.execLinkHeartbeatTimeout l s
  | .channelAcquired sky sick n st cn0 peak => Sys2Proof.Machine.execChannelAcquired sky sick n st cn0 peak s
  | .unicastGrantRequest p len => Sys2Proof.Machine.execUnicastGrantRequest p len s
  | .injectTimeout => Sys2Proof.Machine.execInjectTimeout s
  | .dmaPermitted => Sys2Proof.Machine.execDmaPermitted s
  | .vddAoLow => Sys2Proof.Machine.execVddAoLow s
  | .oscinReturn => Sys2Proof.Machine.execOscinReturn s
  | .supervisorRejoin k => Sys2Proof.Machine.execSupervisorRejoin k s
  | .releaseDeadline => Sys2Proof.Machine.execReleaseDeadline s
  | .prbsLock l errs => Sys2Proof.Machine.execPrbsLock l errs s

end Sys2Proof.Machine
end

