-- ==== Sys2Proof/Machine/Tick.lean ====
section
/-!
DEFINITION. The passing of time: what the block does for one TB cycle, when no command waits.
-/

namespace Sys2Proof.Machine

/-- One TB cycle passes (R16–R18). While the time base runs its counter advances by 1 ns; the AO clock always does. The hardware sets
that win against a write in the same cycle are those of one cycle (R14); the frames and link frames that left in it are gone; the
performance counters (R527) and TX_PAUSED_NS (R286) count it, frames whose wire interval has ended count as sent (R286), the generators'
registers follow their slews and frames, and the pair unit's follow what passes with time. Staged trace records that nothing awaits leave.
At each AO millisecond the SMBus snapshot is taken (R425) and the event histories age (R471). DESIGN CHOICE: log 1. -/
def tick (s : State) : State :=
  let live := s.tbLive
  let s := traceTick <| linkTick (lineTick (if live then pcTick (pauseTick s) else s))
  let s := { s with
    tb := { s.tb with cyc := if live then s.tb.cyc + 1 else s.tb.cyc, ao := s.tb.ao + 1 }, hot := [],
    lan := { s.lan with sent := [], fresh := [] }, cnj := { s.cnj with sent := [] } }
  let s := if live then liveGens s else s
  if s.tb.ao % 1000000 = 0 then smbRefresh (histTick s) else s

end Sys2Proof.Machine
end

