-- ==== Sys2Proof/Machine/Step.lean ====
section
/-!
DEFINITION. The step: the command at the front of the queue takes its effect; with none waiting, one TB cycle passes.
-/

namespace Sys2Proof.Machine

/-- One step. A command's effect is in the TB cycle of the instant it is taken. -/
def step (s : State) : Host.Outcome State Fault Refusal :=
  match s.pending with
  | [] => .next (tick s)
  | c :: q => exec c { s with pending := q }

/-- The state with the command that a word spells at the front of its queue: the table gives no row bits, so no word spells one. -/
def State.withFetchWord (s : State) (nbits w : Nat) : State :=
  match decodeTableWord nbits w with
  | some c => { s with pending := c :: s.pending }
  | none => s

end Sys2Proof.Machine
end

