-- ==== Sys2Proof/Safety.lean ====
section
/-!
DEFINITION. The terms of the claims. What every step keeps: the canonical form of the memories, the waiting queue as commands leave
it, the count of free values, and the parts of the machine a command does not touch. What a command is seen to do: the record it
commits to the journal, and a descriptor accepted and applied at once.
-/

namespace Sys2Proof.Machine

/-- The register file, the ring memory, the host memory written by DMA, the journal ring and the SRAM are in their canonical form: keys
strictly rising, and no entry equal to what an unlisted key reads as. -/
structure State.Canon (s : State) : Prop where
  regs : SMap.wf resetOf s.regs = true
  mem : SMap.wf (fun _ => Entry.empty) s.hif.mem = true
  host : SMap.wf (fun _ => []) s.hif.host = true
  ring : SMap.wf (fun _ => JSlot.zero) s.jr.ring = true
  sram : SMap.wf (fun _ => 0) s.fab.sram = true

/-- The parts of State, each with its bit in a set of parts. -/
inductive Part where
  | regs | tb | jr | hif | fab | obs | refin | utc | gns | sel | tns | syn | pls | lan | tsu | cla | auth | flt | cnj | sys | hot
  deriving DecidableEq, Repr

/-- The bit of a part. -/
def Part.bit : Part → Nat
  | .regs => 0
  | .tb => 1
  | .jr => 2
  | .hif => 3
  | .fab => 4
  | .obs => 5
  | .refin => 6
  | .utc => 7
  | .gns => 8
  | .sel => 9
  | .tns => 10
  | .syn => 11
  | .pls => 12
  | .lan => 13
  | .tsu => 14
  | .cla => 15
  | .auth => 16
  | .flt => 17
  | .cnj => 18
  | .sys => 19
  | .hot => 20

/-- The part is the same in both states. -/
def Part.Same (s t : State) : Part → Prop
  | .regs => t.regs = s.regs
  | .tb => t.tb = s.tb
  | .jr => t.jr = s.jr
  | .hif => t.hif = s.hif
  | .fab => t.fab = s.fab
  | .obs => t.obs = s.obs
  | .refin => t.refin = s.refin
  | .utc => t.utc = s.utc
  | .gns => t.gns = s.gns
  | .sel => t.sel = s.sel
  | .tns => t.tns = s.tns
  | .syn => t.syn = s.syn
  | .pls => t.pls = s.pls
  | .lan => t.lan = s.lan
  | .tsu => t.tsu = s.tsu
  | .cla => t.cla = s.cla
  | .auth => t.auth = s.auth
  | .flt => t.flt = s.flt
  | .cnj => t.cnj = s.cnj
  | .sys => t.sys = s.sys
  | .hot => t.hot = s.hot

/-- The set of parts as a number: the bits of the parts named. -/
def partSet (l : List Part) : Nat := l.foldl (fun n p => n ||| 2 ^ p.bit) 0

/-- From s to t only parts of the set A change, the queue stays, free values are only taken, and the memories stay canonical. -/
structure Kept (A : Nat) (s t : State) : Prop where
  frame : ∀ p : Part, A.testBit p.bit = false → p.Same s t
  queue : t.pending = s.pending
  free : s.free ≤ t.free
  canon : s.Canon → t.Canon

/-! ### What is seen of a command -/

/-- The record that a commit now of a severity, source, code and payload makes (R32, R54). -/
def State.recordOf (s : State) (stamp sev src code : Nat) (pay : List Byte) : JRec :=
  ⟨stamp, s.jr.cseq, s.get Reg.GEN_STRAP_UNIT_ID, sev, src, code, pay⟩

/-- From s to t the journal took the record r at the slot that s's head named (R536). -/
def committed (s t : State) (r : JRec) : Prop :=
  t.jr.ring.get (fun _ => JSlot.zero) (s.get Reg.OBS_JRNL_HEAD_JIDX % jrnlSlots) = ⟨r, false⟩

/-- The state in which the checks of an accepted descriptor are made: the next ASEQ, its completion entry reserved
(R403, R408). -/
def taken (s : State) (d : Desc) : State :=
  let s := s.put Reg.HIF_ASEQ_ASEQ (s.get Reg.HIF_ASEQ_ASEQ + 1)
  reserve s (cqOf s d.ring)

/-- The accepted descriptor, not TIMED. -/
def takenAs (s : State) (d : Desc) (opcode : Nat) : Waiting :=
  ⟨(taken s d).get Reg.HIF_ASEQ_ASEQ, opcode, d, (taken s d).nowU, none⟩

/-- A descriptor, not TIMED, that its mode accepts, whose reserved bits are 0, that passes its opcode's checks, at an instant its
chapter permits, while a supervisor runs: it is applied at once (R405, R406). -/
structure Accepts (sp : OpSpec) (s : State) (d : Desc) : Prop where
  running : s.mode ≠ .boot ∧ s.mode ≠ .test
  flags : d.flags.toNat < 64 ∧ d.byte3 = 0 ∧ d.timed = false
  mode : modeAccepts (taken s d).mode sp.opcode = true
  check : sp.check (taken s d) d = 0
  due : sp.due (taken s d) d = true
  up : supervisorsDown (taken s d) = false

/-- The parts a command may change: those that the rules of its row name, or that what they name reports to (the journal, the vectors,
the fault unit). Every other part of the machine is the same after it. -/
def mayChange : Instr → List Part
  | .registerWrite _ _ => [.regs, .jr, .hif, .fab, .obs, .refin, .gns, .sel, .tns, .syn, .pls, .lan, .tsu, .cla, .auth, .flt, .cnj, .sys, .hot]
  | .unalignedAccess => [.hif]
  | .w1cFlagWrite _ _ => [.regs]
  | .ffHeldRelease => [.regs]
  | .glossPublication _ _ _ => [.regs, .tb, .jr, .hif, .obs, .utc, .sel, .tns, .syn, .pls, .tsu, .cla, .flt, .sys, .hot]
  | .cseqSlotEnd => [.jr]
  | .tbClockStop => [.tb]
  | .oscinLoss => [.regs, .tb, .jr, .hif, .obs, .flt, .hot]
  | .apllLossOfLock _ => [.regs, .tb, .jr, .hif, .obs, .syn, .lan, .tsu, .cla, .flt, .hot]
  | .apllLock _ => [.regs, .tb, .jr, .obs, .syn, .flt, .sys, .hot]
  | .leapApplied => [.regs, .jr, .hif, .obs, .utc, .tns, .flt, .sys, .hot]
  | .leapArmed => [.regs, .jr, .hif, .obs, .utc, .tns, .flt, .sys, .hot]
  | .inputEdge _ _ _ => [.regs, .jr, .hif, .obs, .refin, .utc, .sel, .tns, .flt, .sys, .hot]
  | .evtEdge _ _ _ => [.regs, .jr, .hif, .obs, .refin, .pls, .flt, .hot]
  | .tdcCalibration _ _ _ => [.regs, .jr, .hif, .fab, .obs, .refin, .flt, .hot]
  | .evtCalibration _ _ _ => [.regs, .jr, .hif, .fab, .obs, .refin, .flt, .hot]
  | .windowClose _ => [.regs, .jr, .hif, .obs, .refin, .utc, .sel, .flt, .cnj, .hot]
  | .todMessage _ _ _ _ _ _ _ _ _ => [.regs, .jr, .hif, .obs, .refin, .utc, .sel, .tns, .flt, .sys, .hot]
  | .todIntervalEnd => [.regs, .jr, .obs, .refin, .utc, .sel, .hot]
  | .refinChWrite _ _ _ => [.regs, .refin]
  | .refinSet _ => [.regs, .jr, .hif, .obs, .refin, .utc, .sel, .flt, .hot]
  | .effectiveTimeReached => [.regs, .tb, .jr, .hif, .fab, .obs, .refin, .utc, .gns, .sel, .tns, .syn, .pls, .lan, .tsu, .cla, .auth, .flt, .cnj, .sys, .hot]
  | .bandStuck _ _ => [.regs, .jr, .hif, .obs, .gns, .flt, .hot]
  | .stuckClear _ => [.regs]
  | .sidePeakSlip _ _ => [.gns]
  | .gnssSolution _ => [.regs, .jr, .hif, .obs, .utc, .gns, .sel, .tns, .flt, .sys, .hot]
  | .jamTrip _ _ => [.regs, .jr, .obs, .gns, .hot]
  | .gnssCheckClear _ => [.regs, .jr, .obs, .hot]
  | .snapCaptured _ _ => [.regs, .jr, .obs, .gns, .hot]
  | .surveyIn _ => [.regs, .jr, .hif, .obs, .gns, .hot]
  | .surveyDone => [.regs, .jr, .hif, .obs, .gns, .hot]
  | .surveySuspendExpiry => [.regs, .gns]
  | .gnssPosSet _ => [.regs, .jr, .hif, .obs, .gns, .hot]
  | .gnssSnapshot _ => [.regs, .jr, .hif, .obs, .gns, .hot]
  | .snapExport _ => [.regs, .jr, .hif, .obs, .hot]
  | .snapExportDone _ => [.regs, .jr, .hif, .obs, .gns, .hot]
  | .snapRelease _ => [.regs, .jr, .hif, .obs, .gns, .hot]
  | .gnssSet _ => [.regs, .jr, .hif, .obs, .sel, .hot]
  | .qualHoldoffExpiry _ => [.regs, .tb, .jr, .hif, .obs, .sel, .tns, .syn, .pls, .tsu, .cla, .flt, .sys, .hot]
  | .dqHoldoffExpiry _ => [.regs, .tb, .jr, .hif, .obs, .sel, .tns, .syn, .pls, .tsu, .cla, .flt, .sys, .hot]
  | .refLosTimeout _ => [.regs, .tb, .jr, .hif, .obs, .sel, .tns, .syn, .pls, .tsu, .cla, .flt, .sys, .hot]
  | .driftSample => [.regs, .sel]
  | .waitToRestore => [.regs, .tb, .jr, .hif, .obs, .sel, .tns, .syn, .pls, .tsu, .cla, .flt, .sys, .hot]
  | .esmcPduRx _ _ _ _ _ => [.regs, .jr, .hif, .obs, .sel, .tns, .syn, .lan, .flt, .sys, .hot]
  | .esmcTimeout _ => [.regs, .jr, .obs, .sel, .hot]
  | .ptpClientRx _ _ _ => [.regs, .jr, .hif, .obs, .utc, .sel, .tns, .tsu, .cla, .flt, .sys, .hot]
  | .selSet _ => [.regs, .jr, .hif, .obs, .sel, .hot]
  | .selForce _ => [.regs, .jr, .hif, .obs, .sel, .hot]
  | .learnSample => [.regs, .jr, .hif, .obs, .tns, .hot]
  | .rollingFit => [.regs, .jr, .obs, .tns, .hot]
  | .efcCentring => [.regs, .tns, .hot]
  | .efcFrameEnd => [.tns]
  | .tempRead => [.tns]
  | .tempReadDone _ => [.regs, .jr, .obs, .tns, .hot]
  | .tnsStep _ => [.regs, .tb, .jr, .hif, .obs, .sel, .tns, .syn, .pls, .tsu, .cla, .flt, .sys, .hot]
  | .tnsHostTime _ => [.regs, .jr, .hif, .obs, .tns, .hot]
  | .tnsUtc _ => [.regs, .jr, .hif, .obs, .utc, .tns, .flt, .sys, .hot]
  | .tnsSet _ => [.regs, .jr, .hif, .obs, .tns, .flt, .sys, .hot]
  | .holdoverLearn _ => [.regs, .jr, .hif, .obs, .tns, .hot]
  | .holdoverLearnDone => [.regs, .jr, .hif, .obs, .tns, .hot]
  | .hoModelLoad _ => [.regs, .jr, .hif, .obs, .hot]
  | .tcRejoin _ => [.regs, .sel, .flt, .sys]
  | .glossStale => [.regs, .tns, .hot]
  | .dpllUpdate _ _ _ _ => [.regs, .jr, .hif, .obs, .sel, .syn, .lan, .hot]
  | .esmcInfoTx _ => [.regs, .jr, .obs, .syn, .lan, .hot]
  | .outputStart _ => [.regs, .jr, .hif, .obs, .syn, .hot]
  | .outputStop _ => [.regs, .jr, .hif, .obs, .syn, .hot]
  | .outputSlewEnd _ => [.regs, .jr, .hif, .obs, .syn, .hot]
  | .outEnWrite _ _ => [.regs, .jr, .hif, .obs, .syn, .hot]
  | .synSet _ => [.regs, .jr, .hif, .obs, .syn, .lan, .tsu, .cla, .flt, .hot]
  | .outCtl _ => [.regs, .jr, .hif, .obs, .syn, .pls, .hot]
  | .schedCommit _ => [.regs, .jr, .obs, .pls, .hot]
  | .schedOccurrence _ => [.regs, .jr, .obs, .pls, .hot]
  | .pulseEnd _ => [.regs, .jr, .obs, .pls, .hot]
  | .irigFrame _ => [.regs, .jr, .obs, .pls, .hot]
  | .todTxMessage => [.regs, .pls]
  | .plsSched _ => [.regs, .jr, .hif, .obs, .pls, .hot]
  | .plsSet _ => [.regs, .jr, .hif, .obs, .pls, .flt, .hot]
  | .plsAlign _ => [.regs, .jr, .hif, .obs, .pls, .hot]
  | .alignQuietInstant _ => [.regs, .jr, .hif, .obs, .pls, .hot]
  | .alignSlewEnd _ => [.regs, .jr, .hif, .obs, .pls, .hot]
  | .alignTimeout _ => [.regs, .jr, .hif, .obs, .pls, .hot]
  | .plsSchRead _ => [.regs]
  | .plsSchWrite _ => [.regs, .jr, .obs, .pls, .hot]
  | .signalDetect _ => [.regs, .jr, .hif, .obs, .lan, .flt, .hot]
  | .polarityTimeout _ => [.regs, .lan]
  | .bringupComplete _ _ _ _ => [.regs, .jr, .hif, .obs, .lan, .flt, .hot]
  | .bringupFail _ _ => [.regs, .jr, .hif, .obs, .lan, .flt, .hot]
  | .bringupRetry _ => [.regs, .jr, .hif, .obs, .lan, .flt, .hot]
  | .linkLoss _ _ => [.regs, .jr, .hif, .obs, .lan, .flt, .hot]
  | .linkFaultRx _ _ => [.regs, .jr, .hif, .obs, .lan, .flt, .hot]
  | .frameRx _ _ => [.regs, .jr, .hif, .obs, .lan, .tsu, .cla, .hot]
  | .pauseRx _ _ => [.regs, .lan]
  | .pauseExpiry _ _ => [.regs, .lan]
  | .pauseWatchdog _ _ => [.regs, .jr, .hif, .obs, .lan, .hot]
  | .pwdHoldExpiry _ _ => [.regs]
  | .eyeMeasure _ _ _ => [.regs, .jr, .obs, .lan, .hot]
  | .supervisionTx _ => [.lan]
  | .portDisturb _ => [.regs, .jr, .hif, .obs, .lan, .flt, .hot]
  | .portSet _ => [.regs, .jr, .hif, .obs, .lan, .hot]
  | .laneSet _ => [.regs, .jr, .hif, .obs, .lan, .hot]
  | .portLoopback _ => [.regs, .jr, .hif, .obs, .lan, .hot]
  | .rgSet _ => [.regs, .jr, .hif, .obs, .lan, .hot]
  | .tsuPdCalibration _ => []
  | .ttxGrant _ _ _ _ _ => [.regs, .jr, .obs, .tsu, .cla, .hot]
  | .frameCommit _ _ _ => [.regs, .jr, .obs, .tsu, .cla, .hot]
  | .frameArm _ => [.regs, .jr, .obs, .tsu, .cla, .hot]
  | .frameLaunch _ => [.regs, .jr, .obs, .tsu, .cla, .hot]
  | .egressVerify _ _ => [.regs, .jr, .hif, .obs, .sel, .lan, .tsu, .cla, .flt, .hot]
  | .unbookedTx _ _ => [.regs, .jr, .hif, .obs, .lan, .hot]
  | .portCalibrate _ => [.regs, .jr, .hif, .obs, .lan, .tsu, .hot]
  | .calProbe _ _ _ => [.tsu]
  | .portCalibrateDone _ => [.regs, .jr, .hif, .obs, .lan, .tsu, .hot]
  | .tsuSet _ => [.regs, .jr, .hif, .obs, .sel, .hot]
  | .requestDispatch _ => [.regs, .jr, .obs, .lan, .tsu, .cla, .hot]
  | .aeadComplete _ _ _ _ => [.regs, .jr, .hif, .obs, .lan, .tsu, .cla, .flt, .hot]
  | .streamPrepare _ _ => [.regs, .cla, .hot]
  | .followUpPrepare => [.regs, .cla, .hot]
  | .signalingRx _ _ => [.regs, .jr, .hif, .obs, .sel, .lan, .tsu, .cla, .hot]
  | .grantWalk _ _ => [.regs, .cla, .hot]
  | .delayReqTx _ => [.regs, .sel, .cla, .hot]
  | .admissionRefresh => [.regs, .jr, .hif, .obs, .cla, .flt, .hot]
  | .reconfDrainEnd => [.regs, .cla]
  | .svcViolation => [.regs, .jr, .obs, .cla, .hot]
  | .grantSummary => [.regs, .jr, .obs, .cla, .hot]
  | .injectEntry _ _ _ => [.regs, .jr, .hif, .obs, .lan, .tsu, .cla, .hot]
  | .engineRejoin _ => [.regs, .jr, .obs, .flt, .sys, .hot]
  | .claSet _ => [.regs, .jr, .hif, .obs, .sel, .cla, .hot]
  | .claRule _ => [.regs, .jr, .hif, .obs, .cla, .hot]
  | .streamSet _ => [.regs, .jr, .hif, .obs, .cla, .hot]
  | .claSeqkey _ => [.regs, .jr, .hif, .obs, .cla, .cnj, .hot]
  | .claStrRead _ => [.regs]
  | .claStrWrite _ => [.regs, .cla]
  | .claRuleRead _ => [.regs]
  | .claRuleWrite _ => [.regs, .cla]
  | .drbgReseed _ => [.regs, .jr, .hif, .obs, .auth, .flt, .hot]
  | .satExpiry _ => [.regs, .jr, .obs, .auth, .hot]
  | .satInstall _ => [.regs, .jr, .hif, .obs, .auth, .hot]
  | .satRotate _ => [.regs, .jr, .hif, .obs, .hot]
  | .satRekey _ => [.regs, .jr, .hif, .obs, .auth, .hot]
  | .satRekeyRecord _ => [.regs, .jr, .hif, .obs, .auth, .hot]
  | .satInstGo => [.regs, .jr, .obs, .auth, .hot]
  | .satQryGo _ => [.regs]
  | .doorbell _ _ => [.regs, .jr, .hif, .obs, .hot]
  | .descriptorAccept _ _ _ => [.regs, .tb, .jr, .hif, .fab, .obs, .refin, .utc, .gns, .sel, .tns, .syn, .pls, .lan, .tsu, .cla, .auth, .flt, .cnj, .sys, .hot]
  | .phaseRetry _ _ _ => [.regs, .tb, .jr, .hif, .fab, .obs, .refin, .utc, .gns, .sel, .tns, .syn, .pls, .lan, .tsu, .cla, .auth, .flt, .cnj, .sys, .hot]
  | .coalTimeout _ => [.regs, .hif]
  | .dmaError _ => [.regs, .jr, .hif, .obs, .flt, .hot]
  | .pcieFlr => [.regs, .jr, .hif, .obs, .hot]
  | .pcieBmeClear => [.regs, .jr, .hif, .obs, .hot]
  | .pcieD3hot => [.regs, .jr, .hif, .obs, .hot]
  | .pcieLinkDown => [.regs, .jr, .hif, .obs, .hot]
  | .pcieLinkUp _ _ => [.regs, .jr, .hif, .obs, .hot]
  | .perst => [.regs, .jr, .hif, .obs, .hot]
  | .pf1Flr => []
  | .nop _ => [.regs, .jr, .hif, .obs, .hot]
  | .modeSet _ => [.regs, .jr, .hif, .fab, .obs, .gns, .tns, .syn, .pls, .lan, .tsu, .cla, .auth, .flt, .cnj, .sys, .hot]
  | .ringSet _ => [.regs, .jr, .hif, .obs, .hot]
  | .longCtl _ => [.regs, .jr, .hif, .obs, .gns, .tns, .lan, .tsu, .auth, .sys, .hot]
  | .abort _ => [.regs, .jr, .hif, .fab, .obs, .gns, .sel, .tns, .syn, .pls, .lan, .tsu, .cla, .auth, .flt, .cnj, .sys, .hot]
  | .hifAbortEngine _ => [.regs, .jr, .hif, .fab, .obs, .gns, .sel, .tns, .syn, .pls, .lan, .tsu, .cla, .auth, .flt, .cnj, .sys, .hot]
  | .hifAbortRing _ => [.regs, .jr, .hif, .fab, .obs, .gns, .sel, .tns, .syn, .pls, .lan, .tsu, .cla, .auth, .flt, .cnj, .sys, .hot]
  | .smbIdent => [.sys]
  | .smbStatus => [.sys]
  | .smbGloss => [.sys]
  | .smbTime => [.sys]
  | .smbTemp => [.sys]
  | .smbPower => [.sys]
  | .smbFirstFault => [.sys]
  | .smbMargin => [.sys]
  | .smbPorts => [.sys]
  | .smbPair => [.sys]
  | .smbArbiter _ => [.regs, .cnj, .sys]
  | .smbAlertMaskRead => [.sys]
  | .smbAlertMaskWrite _ => [.sys]
  | .smbAlertResponse => [.sys]
  | .fabricTransfer _ _ _ _ _ _ _ _ => [.regs, .jr, .hif, .fab, .obs, .pls, .auth, .flt, .hot]
  | .lockTimeout _ => [.regs, .jr, .hif, .fab, .obs, .pls, .auth, .flt, .hot]
  | .resultLanding _ => [.regs, .fab]
  | .scrubRead _ _ _ => [.regs, .jr, .hif, .fab, .obs, .pls, .auth, .flt, .hot]
  | .speedWindow _ _ _ _ => [.regs, .jr, .hif, .fab, .obs, .flt, .hot]
  | .plannerEvaluate => [.regs, .jr, .hif, .fab, .obs, .flt, .hot]
  | .avsReadback _ _ _ _ => [.regs, .jr, .hif, .fab, .obs, .flt, .hot]
  | .marginReplan => [.regs, .jr, .hif, .obs, .hot]
  | .trendUpdate => [.regs, .jr, .hif, .fab, .obs, .hot]
  | .marginSweep _ => [.regs, .jr, .hif, .fab, .obs, .hot]
  | .sweepDone _ => [.regs, .jr, .hif, .fab, .obs, .hot]
  | .fabSet _ => [.regs, .jr, .hif, .fab, .obs, .hot]
  | .marginReport _ => [.regs, .jr, .hif, .obs, .hot]
  | .faultEvent _ _ _ _ _ => [.regs, .jr, .hif, .obs, .flt, .hot]
  | .faultDecision => [.regs, .jr, .hif, .fab, .obs, .gns, .sel, .tns, .syn, .pls, .lan, .tsu, .cla, .auth, .flt, .cnj, .sys, .hot]
  | .safeStateAssert => [.regs, .jr, .hif, .obs, .gns, .tns, .syn, .pls, .lan, .tsu, .cla, .auth, .flt, .cnj, .sys, .hot]
  | .suppressionWindowClose => [.regs, .flt]
  | .engWdog _ _ => [.regs, .jr, .hif, .obs, .flt, .hot]
  | .supplyExcursion _ _ => [.regs, .jr, .hif, .obs, .flt, .hot]
  | .tjCrit => [.regs, .jr, .hif, .obs, .flt, .hot]
  | .xoSafeLoss => [.regs, .jr, .hif, .obs, .flt, .sys, .hot]
  | .fltSet _ => [.regs, .jr, .hif, .obs, .hot]
  | .fltInject _ => [.regs, .jr, .hif, .fab, .obs, .flt, .hot]
  | .fltSafe _ => [.regs, .jr, .hif, .obs, .flt, .hot]
  | .heartbeatTx => [.cnj]
  | .heartbeatRx _ _ _ => [.regs, .jr, .hif, .obs, .cnj, .hot]
  | .hbInEdge => [.regs, .jr, .hif, .obs, .cnj, .hot]
  | .peerAbsenceTimeout => [.regs, .jr, .hif, .obs, .cnj, .hot]
  | .identTx => [.regs, .cnj]
  | .identRx _ _ _ => [.regs, .jr, .hif, .obs, .tns, .flt, .cnj, .sys, .hot]
  | .epochMarkerTx _ _ => [.regs, .jr, .hif, .obs, .sel, .flt, .cnj, .hot]
  | .epochMarkerRx _ _ => [.cnj]
  | .stateFrameRx _ _ _ _ _ => [.regs, .jr, .hif, .obs, .utc, .sel, .tns, .flt, .cnj, .sys, .hot]
  | .linkViolation _ => [.regs, .cnj]
  | .laneRestart _ => [.regs, .jr, .hif, .obs, .flt, .cnj, .hot]
  | .laneSyncChange _ _ => [.regs, .jr, .hif, .obs, .cnj, .hot]
  | .keyTx => [.cnj]
  | .keyRx _ _ _ _ => [.jr, .cnj]
  | .keyAckRx _ _ _ => [.jr, .cnj]
  | .keyAdoption => [.regs, .jr, .obs, .cla, .cnj, .hot]
  | .noticeTx => [.cnj]
  | .noticeRx _ _ _ _ _ _ => [.regs, .jr, .obs, .cnj, .hot]
  | .subjInChange _ => [.regs, .jr, .hif, .obs, .flt, .cnj, .sys, .hot]
  | .arbValidChange _ => [.regs, .cnj]
  | .roleDecisionChange => [.regs, .jr, .hif, .obs, .cnj, .sys, .hot]
  | .guardExpiry _ => [.regs, .jr, .hif, .obs, .cnj, .sys, .hot]
  | .takeHoldExpiry => [.regs, .jr, .hif, .obs, .cnj, .sys, .hot]
  | .driverInactiveInstant _ => [.regs, .jr, .hif, .obs, .cnj, .sys, .hot]
  | .urgentRelease => [.regs, .jr, .hif, .obs, .cnj, .sys, .hot]
  | .rehearsalStart => [.regs, .jr, .hif, .obs, .cnj, .sys, .hot]
  | .rehDwellExpiry => [.cnj]
  | .rehLimExpiry => [.regs, .jr, .hif, .obs, .cnj, .hot]
  | .cnjSet _ => [.regs, .jr, .hif, .obs, .sel, .hot]
  | .cnjHandover _ => [.regs, .jr, .hif, .obs, .cnj, .sys, .hot]
  | .sampleCapture _ _ _ _ _ _ _ _ => [.regs, .jr, .obs, .hot]
  | .bandwidthWindow _ => [.regs, .obs]
  | .traceFrameTx => [.regs, .jr, .obs, .hot]
  | .traceDma => [.regs, .jr, .hif, .obs, .hot]
  | .obsTrcFifoRead => [.regs, .jr, .hif, .obs, .hot]
  | .obsJrnlWaddr _ => [.regs]
  | .obsSmpWaddr _ => [.regs]
  | .obsPcSnap => [.regs, .jr, .hif, .obs, .hot]
  | .obsPcFreeze _ => [.regs]
  | .pf1PageRead _ _ => [.regs, .hif, .hot]
  | .obsSet _ => [.regs, .jr, .hif, .obs, .hot]
  | .obsSnap _ => [.regs, .jr, .hif, .obs, .hot]
  | .obsGrant _ => [.regs, .jr, .hif, .obs, .hot]
  | .journalExport _ => [.regs, .jr, .hif, .obs, .hot]
  | .journalExportBurst _ => [.regs, .jr, .hif, .obs, .hot]
  | .aoPowerOn => [.regs, .tb, .jr, .hif, .fab, .obs, .refin, .utc, .gns, .sel, .tns, .syn, .pls, .lan, .tsu, .cla, .auth, .flt, .cnj, .sys, .hot]
  | .resetAssert => [.regs, .tb, .jr, .hif, .fab, .obs, .refin, .utc, .gns, .sel, .tns, .syn, .pls, .lan, .tsu, .cla, .auth, .flt, .cnj, .sys, .hot]
  | .resetRelease _ => [.regs, .jr, .hif, .obs, .cla, .auth, .sys, .hot]
  | .bootHeaderRead _ _ _ => [.regs, .jr, .hif, .obs, .sys, .hot]
  | .imageVerified _ _ _ _ => [.regs, .jr, .hif, .fab, .obs, .gns, .tns, .lan, .cla, .auth, .flt, .cnj, .sys, .hot]
  | .bootPciGo => [.regs, .sys]
  | .genModeReqGo _ => [.regs]
  | .modeGoEvaluate => [.regs, .jr, .hif, .fab, .obs, .gns, .cla, .auth, .flt, .cnj, .sys, .hot]
  | .firmwareStage _ => [.regs, .jr, .hif, .obs, .sys, .hot]
  | .firmwareStageDone _ _ => [.regs, .jr, .hif, .obs, .sys, .hot]
  | .trendSave _ => [.regs, .jr, .obs, .sys, .hot]
  | .linkHeartbeatTimeout _ => [.regs, .jr, .hif, .obs, .cnj, .hot]
  | .channelAcquired _ _ _ _ _ _ => [.regs, .gns]
  | .unicastGrantRequest _ _ => [.regs, .jr, .obs, .sel, .lan, .tsu, .cla, .hot]
  | .injectTimeout => [.regs, .jr, .hif, .fab, .obs, .flt, .hot]
  | .dmaPermitted => [.regs, .hif]
  | .vddAoLow => [.regs, .tb, .jr, .hif, .fab, .obs, .refin, .utc, .gns, .sel, .tns, .syn, .pls, .lan, .tsu, .cla, .auth, .flt, .cnj, .sys, .hot]
  | .oscinReturn => [.regs, .jr, .hif, .obs, .syn, .lan, .tsu, .cla, .flt, .hot]
  | .supervisorRejoin _ => [.regs, .jr, .hif, .obs, .flt, .sys, .hot]
  | .releaseDeadline => [.regs, .jr, .hif, .obs, .cnj, .sys, .hot]
  | .prbsLock _ _ => [.regs]

end Sys2Proof.Machine
end

