-- ==== Sys2Proof/Certificates/Slice0/Obligations.lean ====
section
/-! DEFINITION. The statements for the provers, group by group: what each family of commands does when it acts, and what holds of
every step and of every command. -/

open Sys2Proof Sys2Proof.Machine

/-- The rows of the clocks. TB_CLOCK_STOP stops a time base that runs (R19). OSCIN_LOSS clears OSCIN_OK, sets its flag, ends the bounds and
reports check 0x03. APLL_LOSS_OF_LOCK starts a relock with its cause, sets APLL_LOL and reports check 0x04 + k; of APLL0 it ends the bounds
too. OSCIN_RETURN sets OSCIN_OK and relocks every APLL. APLL_LOCK is shown and journalled: APLL0's first lock starts the time base with
counter and offset 0 (R18), a later lock of APLL0 locks DPLL0, a lock of APLL1 takes its multiplier in force, and one of APLL2 reports
CY_RDY. -/
def Obligations.ClockEventsAct : Prop :=
  (∀ s, s.tbLive = true → exec .tbClockStop s = .next { s with tb := { s.tb with stopped := true } }) ∧
  (∀ s, s.bit Reg.SYN_OSC_OSCIN_OK = true →
    exec .oscinLoss s = .next (check { (s.putB Reg.SYN_OSC_OSCIN_OK false).setFlag Flag.SYN_OSCIN_LOSS with
      tb := { s.tb with unbounded := true } } 0x03 true)) ∧
  (∀ s, apllLocked s 0 = true →
    exec (.apllLossOfLock 0) s = .next (check ({ startRelock s 0 (if s.bit Reg.SYN_OSC_OSCIN_OK then 0 else 1) with
      tb := { (startRelock s 0 (if s.bit Reg.SYN_OSC_OSCIN_OK then 0 else 1)).tb with unbounded := true } }.setFlag Flag.SYN_APLL_LOL)
      4 true)) ∧
  (∀ (k : Fin 3) s, k ≠ 0 → apllLocked s k = true →
    exec (.apllLossOfLock k) s = .next (check ((startRelock s k (if s.bit Reg.SYN_OSC_OSCIN_OK then 0 else 1)).setFlag Flag.SYN_APLL_LOL)
      (4 + k) true)) ∧
  (∀ s, s.bit Reg.SYN_OSC_OSCIN_OK = false → s.tb.running = true →
    exec .oscinReturn s =
      .next (startRelock (startRelock (startRelock (s.putB Reg.SYN_OSC_OSCIN_OK true) 0 1) 1 1) 2 1)) ∧
  (∀ s, apllLocked s 0 = false → 2 ≤ s.sys.step → s.tb.running = false →
    ∃ u, u = ({ ((startTb s).putMapBit Reg.SYN_APLL_STAT_LOCK 0 true).putMapBit Reg.SYN_APLL_STAT_RELOCK 0 false with
        syn := { s.syn with relock := s.syn.relock.set (fun _ => 0) 0 0 } }.journal 0 0x0009 0x0902
          (leBytes 1 0 ++ leBytes 1 1 ++ leBytes 1 (s.syn.relock.get (fun _ => 0) 0))) ∧
      (startTb s).tb = { s.tb with running := true, stopped := false, unbounded := false, cyc := 0, ofs := 0 } ∧
      exec (.apllLock 0) s = .next (setDpllState u 0 2 (dpllRef u 0))) ∧
  (∀ (k : Fin 3) s, apllLocked s k = false → 2 ≤ s.sys.step → s.tb.running = true →
    ∃ u, u = ({ (s.putMapBit Reg.SYN_APLL_STAT_LOCK k true).putMapBit Reg.SYN_APLL_STAT_RELOCK k false with
        syn := { s.syn with relock := s.syn.relock.set (fun _ => 0) k 0 } }.journal 0 0x0009 0x0902
          (leBytes 1 k ++ leBytes 1 1 ++ leBytes 1 (s.syn.relock.get (fun _ => 0) k))) ∧
      (k = 0 → exec (.apllLock k) s = .next (setDpllState u 0 2 (dpllRef u 0))) ∧
      (k = 1 → exec (.apllLock k) s = .next (windowEvent (restartFor (u.put Reg.SYN_APLL1_CFG_REFMUL_USED (usedMul u)) 1) 4 0 250000000)) ∧
      (k = 2 → s.mapBit Reg.SYN_APLL_STAT_RELOCK 2 = false →
        exec (.apllLock k) s = .next (windowEvent (restartFor (satPublish u (u.putB Reg.SAT_STAT_CY_RDY true)) 2) 5 0 1000000)))

/-- CSEQ counts the 64 ns slots of the free-running counter in which a record was committed (R32), and no others. -/
def Obligations.CseqSlotEndCounts : Prop :=
  (∀ s, s.tbLive = true → s.jr.dirty = true → s.tb.cyc % 64 = 63 →
    exec .cseqSlotEnd s = .next { s with jr := { s.jr with cseq := (s.jr.cseq + 1) % 2 ^ 32, dirty := false } }) ∧
  (∀ s, s.jr.dirty = false → exec .cseqSlotEnd s = .next s)

/-- A leap second (R29, R190): an announced one is armed once its T_L is no more than ARM_WIN ahead, with LEAP_ARMED; at T_L TAI_UTC
changes by one, the armed leap is cleared and LEAP_APPLIED carries the stamp T_L; an inserted second lasts until T_L + 1; an armed leap
is removed unapplied while UTC_VALID is 0. What it changes is published as R44 asks (`settle`). -/
def Obligations.LeapSecondActs : Prop :=
  (∀ s tl, s.utc.inLeapEnd = none → s.utc.leap = some (tl, true) → s.atOrPast (tl * secU) = true → utcValid s = true →
    exec .leapApplied s = .next (settle ({ s with utc := { s.utc with
      leap := none, tai := taiUtc s + 1, past := some (tl, taiUtc s), inLeapEnd := some (tl + 1) } }.journalAt (shortOf (tl * secU)) 0
        0x0008 0x0204 (leBytes 2 (unsigned 16 (taiUtc s + 1)) ++ leBytes 1 0x01)))) ∧
  (∀ s tl, s.utc.inLeapEnd = none → s.utc.leap = some (tl, false) → s.atOrPast (tl * secU) = true → utcValid s = true →
    exec .leapApplied s = .next (settle ({ s with utc := { s.utc with
      leap := none, tai := taiUtc s - 1, past := some (tl, taiUtc s) } }.journalAt (shortOf (tl * secU)) 0
        0x0008 0x0204 (leBytes 2 (unsigned 16 (taiUtc s - 1)) ++ leBytes 1 0xFF)))) ∧
  (∀ s tl ins, s.utc.inLeapEnd = none → s.utc.leap = some (tl, ins) → s.atOrPast (tl * secU) = true → utcValid s = false →
    exec .leapApplied s = .next (settle { s with utc := { s.utc with leap := none } })) ∧
  (∀ s tl ins tr, s.utc.announced = some (tl, ins, tr) → s.tbLive = true → s.utc.leap = none →
    tl ≤ tbSec s.tbU + s.get Reg.TNS_LEAP_CFG_ARM_WIN →
    exec .leapArmed s = .next (settle ({ s with utc := { s.utc with leap := some (tl, ins), announced := none } }.journal 0 0x0008 0x020A
      (leBytes 6 tl ++ leBytes 1 (leapDir ins) ++ leBytes 1 tr))))

/-- The rows of the Tense unit. GLOSS_PUBLICATION, at a millisecond of the time base whose publication is still to come: the snapshot
registers show the time base, CSEQ and the word published, with SEQ one higher (R56), and that word heads the publications retained.
WAIT_TO_RESTORE runs selection when a better candidate's wait has run. GLOSS_STALE, with both Tense cores in reset and H_g gone by, sets its
flag and lets the last word go on without a bound (R201). TC_REJOIN takes a Tense core out of reset at a second boundary. LEARN_SAMPLE
takes a second of learning (R173). ROLLING_FIT fits the model and installs it (R175). -/
def Obligations.TensePublishesAndLearns : Prop :=
  (∀ tc1 steer other s, s.atMs = true → tenseMode s = true → bothTcReset s = false → s.tns.doneAt ≠ some s.freeNs →
    exec (.glossPublication tc1 steer other) s = .next (publication (applyTenseDue s) (tc1.map (fun w => w.toNat)) steer other)) ∧
  (∀ tc1 steer other s, ∃ u w, publication s tc1 steer other = snapshotTb u w ∧
      (u.tns.pubs.head?.map (fun p => (p.word, p.stampU, p.freeAt))) = some (w, u.tbU, u.freeNs) ∧
      (snapshotTb u w).bit Reg.TNS_TBS_STAT_VALID = true ∧
      (snapshotTb u w).get Reg.TNS_TBS_NS_NS = tbNs u.tbU % 2 ^ 32 ∧
      (snapshotTb u w).get Reg.TNS_TBS_SECL_SEC = tbSec u.tbU % 2 ^ 32 ∧
      (snapshotTb u w).get Reg.TNS_TBS_CSEQ_CSEQ = u.jr.cseq % 2 ^ 32 ∧
      (snapshotTb u w).get Reg.TNS_TBS_GLSL_GLOSS = w % 2 ^ 32 ∧
      (snapshotTb u w).get Reg.TNS_TBS_STAT_SEQ = (u.get Reg.TNS_TBS_STAT_SEQ + 1) % 256) ∧
  (∀ s c, s.atMs = true → tenseMode s = true → selRuns s = true → tsState s = 2 → current s 0 = some c →
    restored s (cands s 0) c ≠ [] → s.tns.doneAt = some s.freeNs →
    exec .waitToRestore s = .next (publishChange (concludeStep (stepSelecting (slewArrive s) (fun _ => none))))) ∧
  (∀ s p l, s.tns.pubs = p :: l → bothTcReset s = true → p.freeAt + hG ≤ s.freeNs → s.tns.stale = false →
    exec .glossStale s = .next ((s.setFlag Flag.TNS_GLOSS_STALE).setTns (fun n => { n with
      pubs := ({ p.open with freeAt := p.freeAt + hG, stampU := p.stampU + hG * 65536 + 1 } :: n.pubs).take 16, stale := true }))) ∧
  (∀ (k : Fin 2) s, s.atSec = true → bitOf s.sys.engReset (16 + k) = true → (∀ t, s.tns.rejoin = some t → t < s.freeNs) →
    exec (.tcRejoin k) s = .next (resumeSel (showSolo (windowEvent { s with
      sys := { s.sys with engReset := setBit s.sys.engReset (16 + k) false } } 1 k 10000000)))) ∧
  (∀ s, tenseMode s = true → s.atSec = true → bothTcReset s = false → learnRuns (learnPoint s) = true →
    exec .learnSample s = .next (learnSecond ((learnPoint s).putB Reg.TNS_STAT_LEARN_RUN true))) ∧
  (∀ s, learnMode s = true → s.bit Reg.TNS_CFG_AUTO_LEARN = true → learnOp s = none → tsState s = 2 → 3600 ≤ s.tns.learn.sinceFit →
    s.get Reg.TNS_HO_WIN_HO_MIN * 60 ≤ s.tns.learn.means.length →
    exec .rollingFit s = .next (installModel (fitModel (setLearn s (fun l => { l with sinceFit := 0 }))).1 1
      (s.tns.learn.means.length * 60)))

/-- Oscillator control and the temperature sensor (R195, R196). EFC_CENTRING writes a code moved by at most EFC_STEP and held within
MIN–MAX. EFC_FRAME_END leaves GAIN times the change for the next publication to take off y_st. TEMP_READ asks ADDR for POINTER at a second
boundary. TEMP_READ_DONE stores the value read; a failed reading counts, and at the third in a row TEMP_OK falls, with its flag and its
record. -/
def Obligations.EfcAndTemperatureAct : Prop :=
  (∀ s, tenseMode s = true → bothTcReset s = false → s.get Reg.TNS_CFG_EFC_MODE = 1 → tsState s = 2 → s.tns.efcFrame = none →
    s.get Reg.TNS_EFC_CTL_EFC_INT ≠ 0 → s.get Reg.TNS_EFC_CTL_EFC_INT * 1000000000 ≤ s.tns.efcNs → efcGain s ≠ 0 →
    unitF (s.get Reg.TNS_EFC_BAND_EFC_BAND) 15 < absQ (s.tns.efcSum * 1000000 / (s.tns.efcNs : Rat)) →
    ∃ m n new : Int, ∃ u,
      m = roundQ (s.tns.efcSum * 1000000 / (s.tns.efcNs : Rat) / efcGain s) ∧
      n = clampI (-(s.get Reg.TNS_EFC_CTL_EFC_STEP : Int)) (s.get Reg.TNS_EFC_CTL_EFC_STEP) m ∧
      new = clampI (s.get Reg.TNS_EFC_MIN_MIN) (s.get Reg.TNS_EFC_MAX_MAX) ((s.get Reg.TNS_EFC_STAT_CODE : Int) + n) ∧
      u = (s.setTns (fun t => { t with efcNs := 0, efcSum := 0 })).flagIf ((s.get Reg.TNS_EFC_STAT_CODE : Int) + n != new)
        Flag.TNS_EFC_LIMIT ∧
      exec .efcCentring s = .next (if new = (s.get Reg.TNS_EFC_STAT_CODE : Int) then u
        else startEfc u new.toNat (new - (s.get Reg.TNS_EFC_STAT_CODE : Int)))) ∧
  (∀ s (n : Int) e, s.tns.efcFrame = some (n, e) → e ≤ s.freeNs →
    exec .efcFrameEnd s = .next (s.setTns (fun t => { t with efcFrame := none, efcPend := t.efcPend + efcGain s * (n : Rat) }))) ∧
  (∀ s, tenseMode s = true → s.bit Reg.TNS_CFG_TEMP_EN = true → s.atSec = true →
    exec .tempRead s = .next (s.setTns (fun n => { n with
      tempAsk := some (s.get Reg.TNS_TSENS_ADDR, s.get Reg.TNS_TSENS_POINTER) }))) ∧
  (∀ s (r : BitVec 16), s.tns.tempAsk ≠ none →
    ∃ t, exec (.tempReadDone (some r)) s = .next t ∧ t.get Reg.TNS_TEMP_TEMP = satS 16 (tempOf s r.toNat) % 2 ^ 16 ∧
      t.tns.tempAsk = none ∧ t.tns.tempGood = s.tns.tempGood + 1) ∧
  (∀ s, s.tns.tempAsk ≠ none → s.tns.tempBad ≠ 2 →
    exec (.tempReadDone none) s = .next (s.setTns (fun n => { n with tempAsk := none, tempGood := 0, tempBad := n.tempBad + 1 }))) ∧
  (∀ s, s.tns.tempAsk ≠ none → s.tns.tempBad = 2 →
    exec (.tempReadDone none) s = .next (((setLearn ((s.setTns (fun n => { n with tempAsk := none, tempGood := 0, tempBad := n.tempBad + 1 })).putB
      Reg.TNS_STAT_TEMP_OK false) (fun l => { l with skipT := true })).setFlag Flag.TNS_TEMP_FAIL).journal 2 0x0008 0x020D (leBytes 1 1)))

/-- The commands of the Tense unit, accepted and due. TNS_STEP: a host step in FREE_RUN with no jump outstanding, and the three answers to
an outstanding jump (R186). TNS_HOST_TIME hands reference 30 its measurement (R187). TNS_UTC sets TAI_UTC, arms a leap, and removes one
(R188). TNS_SET stores its settings (R197). HOLDOVER_LEARN starts a learning run, and its end installs the model fitted (R176).
HO_MODEL_LOAD stores the model's terms (R198). -/
def Obligations.TenseCommandsAct : Prop :=
  (∀ s d, Accepts tnsStepOp s d → d.u8 16 = 0 → s.tns.dj = none → tsState s = 0 →
    exec (.tnsStep d) s = .next (endStep (stepBase (taken s d) (d.s64 24) d.tag.toNat false) (takenAs s d 0x0240) (d.s64 24))) ∧
  (∀ s d i q, Accepts tnsStepOp s d → d.u8 16 = 1 → s.tns.dj = some (i, q) →
    exec (.tnsStep d) s = .next (endStep (acceptReturn (stepBase (taken s d) (-roundQ (q * 65536 / 1000)) d.tag.toNat false) i 0 0 7 1)
      (takenAs s d 0x0240) (-roundQ (q * 65536 / 1000)))) ∧
  (∀ s d i q, Accepts tnsStepOp s d → d.u8 16 = 2 → s.tns.dj = some (i, q) →
    exec (.tnsStep d) s = .next (endStep (acceptReturn (taken s d) i q 0 7 2) (takenAs s d 0x0240) 0)) ∧
  (∀ s d i q, Accepts tnsStepOp s d → d.u8 16 = 3 → s.tns.dj = some (i, q) →
    exec (.tnsStep d) s = .next (endStep ((clearJump (taken s d) 3).putMapBit Reg.SEL_LOCK_LOCKOUT i true) (takenAs s d 0x0240) 0)) ∧
  (∀ s d, Accepts hostTimeOp s d →
    ∃ m p, m = (taken s d).expand (d.u64 16) ∧ p = roundQ ((d.s64 24 : Rat) / 128) ∧
      exec (.tnsHostTime d) s = .next (finishDesc ((taken s d).setTns (fun n => { n with
        host := some ⟨true, s.freeNs - (s.tbU - m) / 65536, m, some p, 0, 0, true, some (some (satPs (d.u64 32 + 1))), 0⟩ }))
        (takenAs s d 0x0241) St.ok [])) ∧
  (∀ s d, Accepts tnsUtcOp s d → d.u8 16 = 0 →
    exec (.tnsUtc d) s = .next (settle (finishDesc (setTai (taken s d) (signed 16 (d.u16 20))) (takenAs s d 0x0242) St.ok []))) ∧
  (∀ s d tl, Accepts tnsUtcOp s d → d.u8 16 = 1 → tl = d.u32 24 + d.u16 28 * 2 ^ 32 → utcValid s = true → s.utc.leap = none →
    isEndOfDay s tl (d.u8 22 = 0x01) = true → s.tbU + 2 * secU ≤ tl * secU →
    exec (.tnsUtc d) s = .next (settle (finishDesc (announceLeap (taken s d) 31 tl (d.u8 22 = 0x01) 0xFF) (takenAs s d 0x0242) St.ok []))) ∧
  (∀ s d, Accepts tnsUtcOp s d → d.u8 16 = 2 → s.utc.leap ≠ none →
    exec (.tnsUtc d) s = .next (settle (finishDesc (clearLeap (taken s d)) (takenAs s d 0x0242) St.ok []))) ∧
  (∀ s d, Accepts tnsSetOp s d →
    exec (.tnsSet d) s = .next (settle (finishDesc (lostCheck (normHo (storeMasked (taken s d) d (d.u16 16) tnsSetAddrs)))
      (takenAs s d 0x0243) St.ok []))) ∧
  (∀ s d, Accepts learnOpSpec s d → bitOf (d.u8 20) 0 = false →
    exec (.holdoverLearn d) s = .next (startLong (setLearn (taken s d) (fun _ => { Learn.zero with used := some 0 }))
      (takenAs s d 0x0244) 0)) ∧
  (∀ s l u, learnOp s = some l → s.tns.learn.used = some u → l.suspended = false → l.d.u32 16 ≤ u → tsState s = 2 →
    exec .holdoverLearnDone s = .next (endLong (setLearn (installModel (fitModel s).1 1 u) (fun l => { l with used := none, sinceFit := 0 }))
      l St.ok (leBytes 4 u ++ leBytes 4 (satU 32 (fitModel s).2)))) ∧
  (∀ s d, Accepts modelLoadOp s d → tsState s = 0 → learnOp s = none →
    ∃ u, exec (.hoModelLoad d) s = .next (finishDesc (installModel u 2 (d.u32 48)) (takenAs s d 0x0245) St.ok []) ∧
      u.get Reg.TNS_MOD_A_A = d.u32 16 % 2 ^ 32 ∧ u.get Reg.TNS_MOD_K1_K1 = d.u32 20 % 2 ^ 32 ∧
      u.get Reg.TNS_MOD_K2_K2 = d.u32 24 % 2 ^ 32 ∧ u.get Reg.TNS_MOD_T0_T0 = d.u16 28 % 2 ^ 16 ∧
      u.get Reg.TNS_MOD_UM_U_M = d.u32 36 % 2 ^ 32 ∧ u.get Reg.TNS_MOD_UA_U_A = d.u32 40 % 2 ^ 32 ∧
      u.get Reg.TNS_MOD_UT_U_T = d.u32 44 % 2 ^ 32)

/-- The rows of a measurement channel. INPUT_EDGE: an edge in an open, calibrated window, outside the calibration interval, is counted,
numbered and stamped (R67). TDC_CALIBRATION: a valid pair before an epoch is kept for the next window (R69). EVT_CALIBRATION: a valid pair
at C replaces the channel's (R71). WINDOW_CLOSE: at its epoch the window's result is published and the next window opens (R64, R74).
EVT_EDGE: with POST 0 an edge is counted alone; with POST 1 it is counted, stamped and posted (R77). REFIN_CH_WRITE: a setting written in
SETUP is stored, and the channel is marked to take it in (R604). -/
def Obligations.MeasurementChannelsAct : Prop :=
  (∀ (c : Fin 16) (code : BitVec 12) s, measuring s = true → (s.ch c).isOpen = true → inCalInterval s (s.ch c).set = false →
    (s.ch c).calOk = true → (s.ch c).numbered % (s.ch c).set.div = 0 → (s.ch c).numbered / (s.ch c).set.div < 32 →
    (s.ch c).set.hasEpochs = true → atEpoch s (s.ch c).set = false → (s.ch c).lastStop = none → (s.ch c).set.pps = false →
    exec (.inputEdge c code false) s = .next (settle (s.setCh c { s.ch c with
      edges := (s.ch c).edges + 1, numbered := (s.ch c).numbered + 1,
      stops := (s.ch c).stops ++ [(stopStamp s c code.toNat (s.ch c).c1 (s.ch c).c2, (s.ch c).numbered)],
      lastStop := some (freeStop s c code.toNat (s.ch c).c1 (s.ch c).c2) }))) ∧
  (∀ (c : Fin 16) (c1 c2 : BitVec 12) s, measuring s = true → inCalInterval s (s.ch c).set = true →
    calValid c1.toNat c2.toNat = true →
    exec (.tdcCalibration c c1 c2) s = .next (reportCal (noteTrim (s.setCh c { s.ch c with
      next := some (c1.toNat, c2.toNat), badNext := false }) c (c2.toNat - c1.toNat)) c c1.toNat c2.toNat)) ∧
  (∀ (e : Fin 8) (c1 c2 : BitVec 12) s, measuring s = true → onGrid s (16 + e) = true → s.reached msU (500000 * 65536) = true →
    calValid c1.toNat c2.toNat = true →
    exec (.evtCalibration e c1 c2) s = .next (reportCal (noteTrim (countTdcWindows (s.setCh (16 + e) { s.ch (16 + e) with
      c1 := c1.toNat, c2 := c2.toNat, calOk := true }) (16 + e)) (16 + e) (c2.toNat - c1.toNat)) (16 + e) c1.toNat c2.toNat)) ∧
  (∀ (c : Fin 24) s, measuring s = true → atEpoch s (s.ch c).set = true → (s.ch c).isOpen = true → (s.ch c).openAt ≠ s.freeNs →
    (s.ch c).changed = false →
    ∃ u v, u = publishWindow (countTdcWindows s c) c ∧ v = openWindow u c (u.ch c).set ∧
      exec (.windowClose c) s = .next (if v.get (Reg.RES_STAT_SEQ c) = s.get (Reg.RES_STAT_SEQ c) then v else comparePch v c)) ∧
  (∀ (k : Fin 8) code s, measuring s = true → (s.ch (16 + k)).set.dir = false → (s.ch (16 + k)).set.type = 3 →
    (s.ch (16 + k)).set.post = false → inGridInterval s = false →
    exec (.evtEdge k code false) s = .next (s.setCh (16 + k) { s.ch (16 + k) with
      running := ((s.ch (16 + k)).running + 1) % 2 ^ 32 })) ∧
  (∀ (k : Fin 8) code s, measuring s = true → (s.ch (16 + k)).set.dir = false → (s.ch (16 + k)).set.type = 3 →
    (s.ch (16 + k)).set.post = true → inGridInterval s = false → (s.ch (16 + k)).calOk = true → (s.ch (16 + k)).lastStop = none →
    (s.ch (16 + k)).fifo = [] → (s.ch (16 + k)).ovf = false →
    exec (.evtEdge k code false) s = .next (postEvent (s.setCh (16 + k) { s.ch (16 + k) with
        running := ((s.ch (16 + k)).running + 1) % 2 ^ 32, fifo := [s.freeNs + fifoNs],
        lastStop := some (freeStop s (16 + k) code (s.ch (16 + k)).c1 (s.ch (16 + k)).c2) })
      (s.ch (16 + k)).set.evring 0x0001 (16 + k) ((stopStamp s (16 + k) code (s.ch (16 + k)).c1 (s.ch (16 + k)).c2).toNat * 128)
      (leBytes 4 (((s.ch (16 + k)).running + 1) % 2 ^ 32) ++ leBytes 1 0))) ∧
  (∀ (c : Fin 24) (k : Fin 7) (v : Word) s, s.mode = .setup →
    ∃ u, u = normCh (s.storeWord (0x041000 + 0x200 * c + 4 * k) v.toNat) c ∧
      exec (.refinChWrite c k v) s = .next (u.setCh c { u.ch c with changed := true }))

/-- REFIN_SET (R86, R87), accepted and due, on a windowed channel whose reference is not SRC: the open window ends, the selected values are
stored, the channel measures with them from now on, and result byte 24 is the SEQ of its next result. -/
def Obligations.RefinSetApplies : Prop :=
  ∀ s d, Accepts refinSetOp s d → isSrc s (refOfCh s (d.u8 16)) = false → bitOf (d.u8 17) 0 = false → d.u8 16 < 16 →
    ∃ u, u = takeIn (refinStore (endWindow (taken s d) (d.u8 16)) d) (d.u8 16) ∧
      exec (.refinSet d) s = .next (finishDesc u (takenAs s d 0x0210) St.ok (leBytes 1 ((u.get (Reg.RES_STAT_SEQ (d.u8 16)) + 1) % 256)))

/-- The 1PPS+ToD input with LABEL 0. TOD_MESSAGE: a framing or a checksum error only sets its flag (R80); the first message inside the
pulse's interval labels it (R82). TOD_INTERVAL_END: an interval that ends without a message sets NOTOD, and the pulse whose window has
closed gives a result without a label (R81). -/
def Obligations.TodInputActs : Prop :=
  (∀ (sec : BitVec 48) (o : BitVec 16) a b c (q : Byte) k g s, measuring s = true → s.bit Reg.TOD_CFG_EN = true →
    exec (.todMessage false g k sec o a b c q) s = .next (settle (s.setFlag Flag.TOD_FRAMING))) ∧
  (∀ (sec : BitVec 48) (o : BitVec 16) a b c (q : Byte) k s, measuring s = true → s.bit Reg.TOD_CFG_EN = true →
    exec (.todMessage true false k sec o a b c q) s = .next (settle (s.setFlag Flag.TOD_CKSUM))) ∧
  (∀ (sec : BitVec 48) (o : BitVec 16) a b c (q : Byte) s p, measuring s = true → s.bit Reg.TOD_CFG_EN = true →
    s.bit Reg.TOD_CFG_LABEL = false → s.refin.tod.pulse = some p → 1000000 ≤ s.freeNs - p → s.freeNs - p ≤ 990000000 →
    s.refin.tod.paired = none → s.refin.tod.lastSec = none → s.refin.tod.closed = false →
    exec (.todMessage true true true sec o a b c q) s = .next (settle (s.setTod (fun t => { t with
      lastSec := some sec.toNat, run := 1, paired := some ⟨sec.toNat, q.toNat, o.toInt, a, b, c, s.freeNs⟩ })))) ∧
  (∀ s p, measuring s = true → s.bit Reg.TOD_CFG_EN = true → s.bit Reg.TOD_CFG_LABEL = false → s.refin.tod.pulse = some p →
    s.refin.tod.missed = false → p + 990000000 ≤ s.freeNs → s.refin.tod.paired = none → s.refin.tod.closed = true →
    s.refin.tod.ended = false →
    exec .todIntervalEnd s = .next (publishTod ((s.setFlag Flag.TOD_NOTOD).setTod (fun d => { d with missed := true }))
      ((s.setFlag Flag.TOD_NOTOD).get Reg.TOD_CFG_PPS_CH)))

/-- The events of the GNSS baseband. GNSS_SOLUTION: once for each epoch SV1 latches the channels, shows the bands and runs the epoch.
JAM_TRIP: each ms's power of the band is taken, and the check trips when it has exceeded JAM_THR for JAM_HOLD ms (R116). GNSS_CHECK_CLEAR: a
check whose condition has been absent for CLR_HOLD s ends and is journalled. SNAP_CAPTURED: a capture that has run its course freezes its
slot with the samples of the bands that are on, is journalled, and a free slot becomes LIVE. SURVEY_DONE: a survey that has met its minimum
time and its target ends with OK and fixes the mean position; one at its maximum time ends with PARTIAL. SURVEY_SUSPEND_EXPIRY empties the
accumulation of a survey suspended for more than 86,400 s. BAND_STUCK sets STUCK, reports check 0x0A + b and is journalled, once while
it lasts; STUCK_CLEAR clears it 1 s after the condition was last seen. SIDE_PEAK_SLIP: a BOC channel whose VE or VL exceeded P for 20 ms is
moved half a chip towards the larger (R99). CHANNEL_ACQUIRED: the free channels are assigned, and a channel that has a signal shows its
state and C/N0, or goes idle. -/
def Obligations.GnssEventsAct : Prop :=
  (∀ e s, gnssRuns s = true → bitOf s.sys.engReset 19 = false → s.gns.epoch ≠ some (latestEpoch s).2.1 →
    ∃ u, u = e.chans.foldl (latchChan (latestEpoch s).2.1) (s.setGns (fun g => { g with epoch := some (latestEpoch s).2.1 })) ∧
      exec (.gnssSolution e) s = .next (settle (runEpoch (showBand e (showBand e u 0) 1) e (latestEpoch s).1 (latestEpoch s).2.1
        (latestEpoch s).2.2))) ∧
  (∀ e s, s.gns.epoch = some (latestEpoch s).2.1 → exec (.gnssSolution e) s = .next s) ∧
  (∀ (b : Fin 2) powers s, gnssRuns s = true → bandOn s b = true → exec (.jamTrip b powers) s = .next (powers.foldl (powerMs b) s)) ∧
  (∀ (b : Fin 2) (power : Int) s, ((5 * s.get Reg.GNSS_JAM_CFG_JAM_THR : Nat) : Int) < power → gnssRuns s = true → bandOn s b = true →
    s.get Reg.GNSS_JAM_CFG_JAM_HOLD ≤ s.gns.jamRun.get (fun _ => 0) b + 1 →
    ∃ u, u = (s.putSat (Reg.GNSS_BAND_POWER b) power).setGns (fun g => { g with
        jamRun := g.jamRun.set (fun _ => 0) b (s.gns.jamRun.get (fun _ => 0) b + 1) }) ∧
      exec (.jamTrip b [power]) s = .next (tripCheck u b)) ∧
  (∀ (c : Fin 7) s, gnssRuns s = true → chkActive s c = true →
    s.gns.seenAt.get (fun _ => 0) c + s.get Reg.GNSS_CHK_ACT_CLR_HOLD * 1000000000 ≤ s.freeNs →
    exec (.gnssCheckClear c) s = .next (journalCheck (s.putMapBit Reg.GNSS_CHK_ACTIVE_ACTIVE c false) c false)) ∧
  (∀ l1 l5 s k e, s.gns.run = some (k, e) → e ≤ s.freeNs →
    ∃ u v, u = (((setSlot s k { s.slot k with
          bands := b2n (bandOn s 0) + 2 * b2n (bandOn s 1),
          l1 := if bandOn s 0 then (l1.take 655360).map (sampleByte s 0) else [],
          l5 := if bandOn s 1 then (l5.take 655360).map (sampleByte s 1) else [] }).putB (Reg.SNAP_STAT_FULL k) true).putB
            (Reg.SNAP_STAT_LIVE k) false).setGns (fun g => { g with run := none, live := none, frozen := g.frozen ++ [k] }) ∧
      v = pickLive (u.journal 0 0x0005 0x0502 (leBytes 1 k ++ leBytes 1 0 ++ leBytes 2 (u.get (Reg.SNAP_STAT_CAUSE k)) ++
          leBytes 8 (shortOf (s.slot k).first))) ∧
      (v.gns.live.isSome = true ∨ v.bit Reg.GNSS_SNAP_CFG_POLICY = false → exec (.snapCaptured l1 l5) s = .next v) ∧
      (∀ j, v.gns.live = none → v.bit Reg.GNSS_SNAP_CFG_POLICY = true →
        v.gns.frozen.find? (fun j => j != k && !v.bit (Reg.SNAP_STAT_LOCK j)) = some j →
        exec (.snapCaptured l1 l5) s = .next (freeSlot v j))) ∧
  (∀ s l v, surveyOp s = some l → s.gns.survey = some v → l.suspended = false → 0 < v.n → v.minS * 1000000000 ≤ surveyNs s v →
    v.sig ≤ v.target →
    exec .surveyDone s = .next (endSurvey (fixPosition s (roundQ ((v.sx : Rat) / (v.n : Rat))) (roundQ ((v.sy : Rat) / (v.n : Rat)))
      (roundQ ((v.sz : Rat) / (v.n : Rat))) v.sig) l v St.ok)) ∧
  (∀ s l v, surveyOp s = some l → s.gns.survey = some v → l.suspended = false → v.target < v.sig → v.maxS * 1000000000 ≤ surveyNs s v →
    v.adoptPartial = false → exec .surveyDone s = .next (endSurvey s l v St.partialDone)) ∧
  (∀ s v t, s.gns.survey = some v → v.susp = some t → t + 86400 * 1000000000 < s.freeNs →
    exec .surveySuspendExpiry s = .next (setSurvey s (some { v with n := 0, sx := 0, sy := 0, sz := 0, sig := 0, acc := 0 }))) ∧
  (∀ (b : Fin 2) bits s, gnssRuns s = true → bandOn s b = true → bits ≠ 0 → s.bit (Reg.GNSS_BAND_STUCK b) = true →
    exec (.bandStuck b bits) s = .next (s.setGns (fun g => { g with stuckAt := g.stuckAt.set (fun _ => 0) b s.freeNs }))) ∧
  (∀ (b : Fin 2) bits s, gnssRuns s = true → bandOn s b = true → bits ≠ 0 → s.bit (Reg.GNSS_BAND_STUCK b) = false →
    exec (.bandStuck b bits) s = .next ((check ((s.setGns (fun g => { g with
        stuckAt := g.stuckAt.set (fun _ => 0) b s.freeNs })).putB (Reg.GNSS_BAND_STUCK b) true) (0x0A + b) true).journal 2 0x0005 0x0506
      (leBytes 1 (if b.val = 0 then 1 else 5) ++ [bits]))) ∧
  (∀ (b : Fin 2) s, s.bit (Reg.GNSS_BAND_STUCK b) = true → s.gns.stuckAt.get (fun _ => 0) b + 1000000000 ≤ s.freeNs →
    exec (.stuckClear b) s = .next (s.putB (Reg.GNSS_BAND_STUCK b) false)) ∧
  (∀ (n : Fin 128) run c l s, run.reverse = c :: l → 19 ≤ l.length → (c :: l.take 19).all sidePeak = true → gnssRuns s = true →
    isBoc s n = true → tracking s n = true →
    exec (.sidePeakSlip n run) s = .next (setChan s n { s.chan n with
      moved := (s.chan n).moved + if corrPower c.ve < corrPower c.vl then 1 else -1 })) ∧
  (∀ sky sick (n : Fin 128) (st : Fin 5) cn0 s, gnssRuns s = true → (assignChans s sky sick).get (Reg.CHN_STAT_STATE n) ≠ 0 → st ≠ 0 →
    exec (.channelAcquired sky sick n st cn0 false) s =
      .next (((assignChans s sky sick).put (Reg.CHN_STAT_STATE n) st).put (Reg.CHN_STAT_CN0 n) cn0.toNat)) ∧
  (∀ sky sick (n : Fin 128) cn0 s, gnssRuns s = true → (assignChans s sky sick).get (Reg.CHN_STAT_STATE n) ≠ 0 →
    exec (.channelAcquired sky sick n 0 cn0 false) s = .next (idleChan (assignChans s sky sick) n))

/-- The commands of the GNSS baseband, accepted. SURVEY_IN starts a survey (R111). GNSS_POS_SET fixes a position (R114). GNSS_SNAPSHOT
triggers on the LIVE slot and names it (R122). SNAP_EXPORT locks its slot and stays open; SNAP_EXPORT_DONE writes the image at the address
of each export of the slot, unlocks it, and completes them with OK (R123). SNAP_RELEASE frees a slot. GNSS_SET stores the values its mask
selects (R125). -/
def Obligations.GnssCommandsAct : Prop :=
  (∀ s d, Accepts surveyInOp s d →
    exec (.surveyIn d) s = .next (startLong (setSurvey (taken s d) (some (newSurvey (taken s d) (d.u32 16) (d.u32 20) (d.u16 24)
      (bitOf (d.u8 26) 0)))) (takenAs s d 0x0221) 0)) ∧
  (∀ s d, Accepts posSetOp s d →
    exec (.gnssPosSet d) s = .next (finishDesc (fixPosition (taken s d) (d.s32 16) (d.s32 20) (d.s32 24) (d.u16 28))
      (takenAs s d 0x0222) St.ok [])) ∧
  (∀ s d k c, Accepts snapshotOp s d → s.gns.run = none → s.gns.live = some (k, c) →
    exec (.gnssSnapshot d) s = .next (finishDesc (triggerSnap (taken s d) 0x80 (d.u8 16) (some d.tag.toNat)).1 (takenAs s d 0x0223) St.ok
      (leBytes 8 k))) ∧
  (∀ s d, Accepts snapExportOp s d →
    exec (.snapExport d) s = .next (openDesc ((taken s d).putB (Reg.SNAP_STAT_LOCK (d.u8 16)) true) (takenAs s d 0x0224) (d.u8 16))) ∧
  (∀ (k : Fin 3) s o, exportsOf s k = [o] → s.dmaOk = true → bitOf (o.d.u8 17) 0 = false →
    exec (.snapExportDone k) s = .next (closeOpens ((hostWrite s (o.d.u64 24) (snapImage s k)).putB (Reg.SNAP_STAT_LOCK k) false)
      0x0224 k St.ok [])) ∧
  (∀ (k : Fin 3) s, exportsOf s k ≠ [] → s.dmaOk = true → (exportsOf s k).any (fun o => bitOf (o.d.u8 17) 0) = true →
    exec (.snapExportDone k) s = .next (closeOpens (freeSlot (((exportsOf s k).foldl (fun t o =>
      hostWrite t (o.d.u64 24) (snapImage s k)) s).putB (Reg.SNAP_STAT_LOCK k) false) k) 0x0224 k St.ok [])) ∧
  (∀ s d, Accepts snapReleaseOp s d →
    exec (.snapRelease d) s = .next (finishDesc (freeSlot (taken s d) (d.u8 16)) (takenAs s d 0x0225) St.ok [])) ∧
  (∀ s d, Accepts gnssSetOp s d → isSrc s 16 = false → isSrc s 17 = false → isSrc s 18 = false → bitOf (d.u8 16) 0 = false →
    exec (.gnssSet d) s = .next (finishDesc (gnssSetAddrs.zipIdx.foldl (fun s p => if bitOf (d.u16 18) p.2 then
      s.storeWord p.1 (d.u32 (20 + 4 * p.2)) else s) (taken s d)) (takenAs s d 0x0220) St.ok []))

/-- The events of references. QUAL_HOLDOFF_EXPIRY, DQ_HOLDOFF_EXPIRY and REF_LOS_TIMEOUT, at a publication instant, evaluate the state of a
reference whose hold-off has run out, whose monitor has been beyond its limit for DQ_HOLD, or whose measurements have stopped, and selection
with it (R134, R135). DRIFT_SAMPLE, at a second boundary, takes a drift sample of every reference that is not DISABLED (R142). ESMC_PDU_RX
sets the level and the cascade counts that a PDU carries; ESMC_TIMEOUT makes the level 8 after 5 s without one (R156). PTP_CLIENT_RX gives
the chosen master's message to the client, and any eligible master's Announce to the choice of master. UNICAST_GRANT_REQUEST sends the
requests for grants. -/
def Obligations.ReferenceEventsAct : Prop :=
  (∀ (i : Fin 32) s, tenseMode s = true → s.atMs = true → selRuns s = true → refState s i = 2 → holdDue s i = true →
    exec (.qualHoldoffExpiry i) s = .next (reselect (evalState s i))) ∧
  (∀ (i : Fin 32) k s, tenseMode s = true → s.atMs = true → selRuns s = true → isQual s i = true → dqDue s i = some k →
    exec (.dqHoldoffExpiry i) s = .next (reselect (evalState s i))) ∧
  (∀ (i : Fin 32) s, tenseMode s = true → s.atMs = true → selRuns s = true → 16 ≤ i.val ∧ i.val ≤ 18 ∨ i.val = 30 → losDue s i = true →
    exec (.refLosTimeout i) s = .next (reselect (evalState s i))) ∧
  (∀ (i : Fin 32) s, tenseMode s = true → s.atMs = true → selRuns s = true → 20 ≤ i.val ∧ i.val ≤ 27 → losDue s i = true →
    exec (.refLosTimeout i) s = .next (reselect (evalState (netComponents s i) i))) ∧
  (∀ s, tenseMode s = true → s.atSec = true → selRuns s = true →
    exec .driftSample s = .next (((List.range 32).filter (fun i => refState s i != 0)).foldl driftSample s)) ∧
  (∀ (p : Fin 8) ssm essm eeec eec s, tenseMode s = true → readsEsmc s p = true → link s p = 3 →
    exec (.esmcPduRx p ssm essm eeec eec) s = .next (settle (esmcLevels
      { esmcPdu s p ssm.toNat (essm.map (fun b => b.toNat)) with
        syn := { (esmcPdu s p ssm.toNat (essm.map (fun b => b.toNat))).syn with
          casc := (esmcPdu s p ssm.toNat (essm.map (fun b => b.toNat))).syn.casc.set (fun _ => (0, 0)) p (eeec.toNat, eec.toNat) } }))) ∧
  (∀ (p : Fin 8) e s, tenseMode s = true → s.sel.esmc.find? (fun e => e.1 = p.val) = some e → e.2 + 5000000000 ≤ s.freeNs + 1 →
    0 < e.2 →
    exec (.esmcTimeout p) s =
      .next (setQl { s with sel := { s.sel with esmc := s.sel.esmc.set (fun _ => 0) p 0 } } (20 + p) 8)) ∧
  (∀ (p : Fin 8) (f : FrameIn) ok tr m s, f.pay = .ptp tr m → clientRuns s p = true → link s p = 3 →
    ptpViolation s (clientBinding s p) tr m = none → mayMaster s p f.ip m.sender = true → m.type ∈ [0, 8, 9] → m.auth = none →
    (s.client p).master = some m.sender →
    exec (.ptpClientRx p f ok) s = .next (settle (clientTiming s p (ingressStamp s p f.edge f.ui) m))) ∧
  (∀ (p : Fin 8) (f : FrameIn) ok tr m a s, f.pay = .ptp tr m → clientRuns s p = true → link s p = 3 →
    ptpViolation s (clientBinding s p) tr m = none → mayMaster s p f.ip m.sender = true → m.type = 0xB → m.ann = some a → m.auth = none →
    exec (.ptpClientRx p f ok) s = .next (settle (clientAnnounce s p a f m))) ∧
  (∀ (p : Fin 8) len e l a t s, clientRuns s p = true → s.bit (Reg.PB_CFG_EN (clientBinding s p)) = true →
    s.get (Reg.PB_CFG_TYPE (clientBinding s p)) = 3 → link s p = 3 → ownSeal s (clientBinding s p) = some false → enginesOf s 4 = e :: l →
    (s.client p).masters.find? (fun a => some a.1.ident = (s.client p).master) = some (a, t) → isGroup (targetOf s p) = false → (∀ g ∈ grantAsks s p, (s.client p).grants.get (fun _ => 0) g.type ≤ s.freeNs + 60000000000) →
    exec (.unicastGrantRequest p len) s = .next (sendUnbooked (s.setClient p { s.client p with nsig := (s.client p).nsig + 1 })
      (targetOf s p) (.ptp { ptpBase s (clientBinding s p) (targetOf s p) 0xC (s.client p).nsig with
        env := ⟨a.mac, none, masterIp s p⟩, unicast := true, sigs := grantAsks s p }) len none none))

/-- SEL_SET and SEL_FORCE, accepted and due. SEL_SET on a reference that is not named stores the masked values (R157). SEL_FORCE (R159) ends
forcing, forces a candidate, and locks a reference out or lets it in again. -/
def Obligations.SelectionCommandsAct : Prop :=
  (∀ s d, Accepts selSetOp s d → isNamed (taken s d) (d.u8 16) = false →
    exec (.selSet d) s = .next (finishDesc (selStore (taken s d) d) (takenAs s d 0x0230) St.ok [])) ∧
  (∀ s d, Accepts selForceOp s d → d.u8 16 = 0 → d.u8 18 = 0 →
    exec (.selForce d) s = .next (finishDesc (setForced (taken s d) 0 none) (takenAs s d 0x0231) St.ok [])) ∧
  (∀ s d, Accepts selForceOp s d → d.u8 16 = 1 → isCand (taken s d) (d.u8 18) (d.u8 17) = true →
    d.u8 18 = 1 ∨ withinJump (taken s d) (d.u8 17) = true →
    exec (.selForce d) s = .next (finishDesc (setForced (taken s d) (d.u8 18) (some (d.u8 17))) (takenAs s d 0x0231) St.ok [])) ∧
  (∀ s d, Accepts selForceOp s d → d.u8 16 = 2 ∨ d.u8 16 = 3 →
    exec (.selForce d) s = .next (finishDesc ((taken s d).putMapBit Reg.SEL_LOCK_LOCKOUT (d.u8 17) (d.u8 16 = 2))
      (takenAs s d 0x0231) St.ok []))

/-- The rows of the synthesis unit. DPLL_UPDATE runs one update of DPLL k + 1 and shows its frequency and its reference in use, with SEQ one
higher where a register changed (R206); of DPLL1 it takes the recovered clocks first and the transmitted levels last. ESMC_INFO_TX sends a
port's first information PDU (R222). OUTPUT_START: an output in STARTING whose instant has come, on an edge of its grid, runs and completes
what waited for its start (R208). OUTPUT_STOP: a stopping output on a source other than PLS ends, completes its stops, and starts again
where that was asked for (R213). OUTPUT_SLEW_END: a slew that has run its course ends, and what was open completes (R216). OUT_EN_WRITE: a
SETUP write of OUT_CFG is stored and acts. -/
def Obligations.SynthesisActs : Prop :=
  (∀ (k : Fin 3) e dem clocks s, s.mode ≠ .boot → s.mode ≠ .test → s.tbLive = true →
    ∃ i w u v x, i = (if k = 0 then clocks.foldl (fun s c => laneClock s c.1 c.2) s else s) ∧ w = dpllStep i (k + 1) e dem ∧
      u = w.setDpll (k + 1) { w.dpll (k + 1) with updated := w.freeNs } ∧
      v = (u.putSat (Reg.DPLL_FOFS_Y (k + 1)) (yPico (u.dpll (k + 1)).y)).put (Reg.DPLL_STAT_REF_USE (k + 1)) (dpllRef u (k + 1)) ∧
      x = (if v.regs = i.regs then v else v.publish (Reg.DPLL_STAT_VALID (k + 1)) (Reg.DPLL_STAT_SEQ (k + 1))) ∧
      exec (.dpllUpdate k e dem clocks) s = .next (if k = 0 then esmcLevels x else x)) ∧
  (∀ (p : Fin 8) s, s.tbLive = true → esmcOn s p = true → s.syn.esmcAt.get (fun _ => 0) p = 0 →
    ∃ u, u = { s with syn := { s.syn with esmcAt := s.syn.esmcAt.set (fun _ => 0) p (s.freeNs + 1) } } ∧
      exec (.esmcInfoTx p) s = .next (sendEsmc (esmcLevel u p) p false)) ∧
  (∀ (n : Fin 12) t s, (s.out n).startAt = some t → outState s n = 1 → t ≤ s.freeNs → outSrc s n = 5 ∨ outClocked s n = true →
    startEdge s n = true →
    ∃ u v w, u = s.setOut n (started s n) ∧
      v = setOutState (u.putB (Reg.OUT_STAT_ALIGNED n) (srcLocked u n)) n 2 (s.out n).cause (s.out n).tag ∧
      w = (s.out n).starts.foldl (fun s w => finishDesc s w St.ok (nowResult s)) v ∧
      exec (.outputStart n) s = .next (closeOpens w 0x0251 n St.ok (nowResult w))) ∧
  (∀ (n : Fin 12) s, outState s n = 4 → outSrc s n ≠ 5 → (s.out n).reload = [] →
    ∃ v w, v = setOutState ((s.setOut n { s.out n with
          stops := [], reload := [], squelch := false, halted := false, slewTo := none, prev := none, edge0 := none }).putB (Reg.OUT_STAT_ALIGNED n) false) n (if (s.out n).squelch then 5 else 0) (s.out n).cause
          (s.out n).tag ∧
      w = (s.out n).stops.foldl (fun s w => finishDesc s w St.ok (nowResult s)) v ∧
      ((s.out n).again = false → exec (.outputStop n) s = .next (closeOpens (cancelStarts w n) 0x0251 n St.ok (nowResult w))) ∧
      ((s.out n).again = true → outCfgErr w n = false →
        exec (.outputStop n) s = .next (requestStart w n (s.out n).cause (s.out n).tag))) ∧
  (∀ (n : Fin 12) t s, outState s n = 3 → (s.out n).slewTo = some t → t ≤ s.freeNs →
    ∃ v, v = setOutState (slewed s n) n 2 0 (s.out n).tag ∧
      exec (.outputSlewEnd n) s = .next (closeOpens v 0x0251 n St.ok (nowResult v))) ∧
  (∀ (n : Fin 12) v s, s.mode = .setup →
    exec (.outEnWrite n v) s = .next (outWritten (s.storeWord (0x091000 + 0x80 * n) v.toNat) n true))

/-- OUT_CTL, accepted and due (R225): START of a running output and STOP of an idle one complete at once; STOP of a running one waits for its
falling edge; a slewed ALIGN of a running output on SRC TS stays open while the output slews; SET_FREQ of an idle output stores the
frequency. -/
def Obligations.OutCtlActs : Prop :=
  (∀ s d, Accepts outCtlOp s d → d.u8 17 = 0 → outCfgErr (taken s d) (d.u8 16) = false → outState (taken s d) (d.u8 16) = 2 →
    exec (.outCtl d) s = .next (finishDesc (taken s d) (takenAs s d 0x0251) St.ok (nowResult (taken s d)))) ∧
  (∀ s d, Accepts outCtlOp s d → d.u8 17 = 1 → outState (taken s d) (d.u8 16) = 0 →
    exec (.outCtl d) s = .next (finishDesc (taken s d) (takenAs s d 0x0251) St.ok (nowResult (taken s d)))) ∧
  (∀ s d, Accepts outCtlOp s d → d.u8 17 = 1 → outState (taken s d) (d.u8 16) = 2 →
    exec (.outCtl d) s = .next (requestStop ((taken s d).setOut (d.u8 16) { (taken s d).out (d.u8 16) with
      stops := ((taken s d).out (d.u8 16)).stops ++ [takenAs s d 0x0251] }) (d.u8 16) 0 d.tag.toNat false false false)) ∧
  (∀ s d, Accepts outCtlOp s d → d.u8 17 = 2 → d.u8 18 = 1 → outBusy (taken s d) (d.u8 16) = false → outSrc (taken s d) (d.u8 16) ≠ 5 →
    outState (taken s d) (d.u8 16) = 2 →
    ∃ r, r = alignErr (taken s d) (d.u8 16) ∧
      exec (.outCtl d) s = .next (setOutState ((openDesc r.2 (takenAs s d 0x0251) (d.u8 16)).setOut (d.u8 16)
        { (taken s d).out (d.u8 16) with slewTo := some (alignEnd (taken s d) r.1), tag := d.tag.toNat }) (d.u8 16) 3 0 d.tag.toNat)) ∧
  (∀ s d, Accepts outCtlOp s d → d.u8 17 = 3 → outBusy (taken s d) (d.u8 16) = false → outSrc (taken s d) (d.u8 16) ≠ 5 →
    outCfgErr (storeFreq (taken s d) (d.u8 16) (d.u32 20) (d.u16 24)) (d.u8 16) = false → outState (taken s d) (d.u8 16) = 0 →
    ∃ u, u = showOut (storeFreq (taken s d) (d.u8 16) (d.u32 20) (d.u16 24)) (d.u8 16) ∧
      exec (.outCtl d) s = .next (finishDesc u (takenAs s d 0x0251) St.ok (nowResult (taken s d))))

/-- The events of the pulse unit. SCHED_COMMIT commits an entry's next occurrence by its lead, passes it while the schedule is held, and
reports MISSED after the lead where the occurrences exceed the scheduler's capacity (R236). SCHED_OCCURRENCE: a committed occurrence at its
instant, with none before it on its generator, fires (R235), or finds its generator out of mode PULSE. PULSE_END turns the generator to its
inactive level. IRIG_FRAME begins a frame at its mark with the symbols of R240. TOD_TX_MESSAGE sends the pending message TX_OFS after its
pulse. A realignment ends at ALIGN_QUIET_INSTANT for a step, at ALIGN_SLEW_END once H is 0 for a slew, and ALIGN_TIMEOUT gives a step up after
1 s. -/
def Obligations.PulseEventsAct : Prop :=
  (∀ (i : Fin 2048) s, s.tbLive = true → (s.entry i).more = true → (s.entry i).count = 0 → schedHeld s = false →
    ∃ u, u = s.setEntry i { s.entry i with lastIdx := some (s.entry i).nextIdx } ∧
      (clkNow u (s.entry i) + leadU ≤ (s.entry i).occ (s.entry i).nextIdx → exec (.schedCommit i) s =
        .next (addComm u ⟨i, (s.entry i).nextIdx, (s.entry i).occ (s.entry i).nextIdx⟩)) ∧
      ((s.entry i).occ (s.entry i).nextIdx < clkNow u (s.entry i) + leadU →
        overloaded u (toTb u (s.entry i).target (s.entry i).clk ((s.entry i).occ (s.entry i).nextIdx)) = true →
        exec (.schedCommit i) s = .next (((u.setEntry i { u.entry i with enabled := (s.entry i).periodic }).setFlag Flag.PLS_MISSED).journal 1
          0x000A 0x0A01 (leBytes 2 i ++ leBytes 1 (s.entry i).target ++ leBytes 1 0 ++ leBytes 8 (shortOf ((s.entry i).occ
            (s.entry i).nextIdx)))))) ∧
  (∀ (i : Fin 2048) s, s.tbLive = true → (s.entry i).more = true → (s.entry i).count = 0 → schedHeld s = true →
    exec (.schedCommit i) s = .next (passEntry s i)) ∧
  (∀ (i : Fin 2048) c s, s.pls.comms.find? (fun c => c.entry = i.val && commDue s c) = some c →
    s.pls.comms.filter (fun d => (s.entry d.entry).target = (s.entry i).target && commDue s d && keyLt (commKey s d) (commKey s c)) = [] →
    ∃ u, u = s.setPls (fun p => { p with comms := p.comms.filter (fun x => !(x.entry = c.entry && x.idx = c.idx)) }) ∧
      (schedHeld u = false → genMode u (u.entry i).target = 1 → (u.entry i).periodic = true → (u.entry i).count = 0 →
        (u.entry i).firedIdx = none →
        exec (.schedOccurrence i) s = .next (evalPast (act (u.setEntry i { u.entry i with
          fired := (u.entry i).fired + 1, firedIdx := some c.idx }) (u.entry i) c.due) i 0)) ∧
      (schedHeld u = false → genMode u (u.entry i).target ≠ 1 → exec (.schedOccurrence i) s = .next
        ((u.setEntry i { u.entry i with enabled := (u.entry i).enabled && (u.entry i).periodic }).setFlag Flag.PLS_CONFLICT))) ∧
  (∀ (n : Fin 24) c t s, (s.gen n).ends = some (c, t) → t ≤ (if c then s.tbU else ptNow s n) →
    turnsBack s n (toTb s n c t) false = false →
    exec (.pulseEnd n) s = .next (driveEdge (s.setGen n { s.gen n with ends := none }) n false (toTb s n c t) 0 false)) ∧
  (∀ (n : Fin 24) s, plsRuns s = true → isTarget n = true → genMode s n = 2 → ptNow s n % secU < 65536 → (s.gen n).nextMark = none →
    (s.gen n).frame ≠ some (ptNow s n - ptNow s n % secU) → (s.gen n).align = none →
    ∃ m f u, m = ptNow s n - ptNow s n % secU ∧
      f = irigFrame s n (tbSec m) (edgeGloss s n (toTb s n false m) (heldPs s n)) ∧
      u = showGen (lastFrameEdge ((s.setPls (fun p => { p with frames := p.frames.set (fun _ => []) n f })).setGen n
        { s.gen n with frame := some m, nextMark := none }) n) n ∧
      (genDriven u n = false → exec (.irigFrame n) s = .next u)) ∧
  (∀ t m s, s.pls.pulse = some (t, m) → plsRuns s = true → t + s.get Reg.PLS_TOD_CFG_TX_OFS * 1000000 ≤ s.freeNs →
    exec .todTxMessage s = .next (((s.setPls (fun p => { p with pulse := none, sent := some m })).put Reg.PLS_TOD_SECL_SEC m.sec).publish
      Reg.PLS_TOD_STAT_VALID Reg.PLS_TOD_STAT_SEQ)) ∧
  (∀ (n : Fin 24) a s, (s.gen n).align = some a → a.slew = false → isQuiet s n = true → genMode (endAlign s n a (heldNow s n)) n ≠ 2 →
    exec (.alignQuietInstant n) s = .next (endAlign s n a (heldNow s n))) ∧
  (∀ (n : Fin 24) a s, (s.gen n).align = some a → a.slew = true → heldNow s n = 0 →
    exec (.alignSlewEnd n) s = .next (endAlign s n a (a.gone + a.h0))) ∧
  (∀ (n : Fin 24) a s, (s.gen n).align = some a → a.slew = false → a.since + 1000000000 ≤ s.freeNs →
    exec (.alignTimeout n) s = .next (jobEnds (showGen (s.setGen n { s.gen n with align := none }) n) a.job n none))

/-- The commands of the pulse unit, accepted and due. PLS_SCHED writes, disables and clears an entry, with the stamp of its first occurrence
to fire (R247). PLS_SET of a generator stores its settings. PLS_ALIGN of one target begins its realignment. PLS_SCH_READ latches an entry into
the data registers; PLS_SCH_WRITE in SETUP installs the image in them, or sets ERR for one that is not valid. -/
def Obligations.PulseCommandsAct : Prop :=
  (∀ s d, Accepts plsSchedOp s d → d.u8 18 = 0 → lateEntry (taken s d) (entryOf (taken s d) (schedImage d)) = false →
    ∃ u, u = evalPast (replaceEntry (taken s d) (d.u16 16) (entryOf (taken s d) (schedImage d))) (d.u16 16) 0 ∧
      exec (.plsSched d) s = .next (finishDesc u (takenAs s d 0x0260) St.ok (leBytes 8 (firstFire u (d.u16 16))))) ∧
  (∀ s d, Accepts plsSchedOp s d → d.u8 18 = 2 →
    ∃ u, u = replaceEntry (taken s d) (d.u16 16) { ((taken s d).entry (d.u16 16)).reopened with enabled := false } ∧
      exec (.plsSched d) s = .next (finishDesc u (takenAs s d 0x0260) St.ok (leBytes 8 (firstFire u (d.u16 16))))) ∧
  (∀ s d, Accepts plsSchedOp s d → d.u8 18 = 3 →
    ∃ u, u = replaceEntry (taken s d) (d.u16 16) PlsEntry.zero ∧
      exec (.plsSched d) s = .next (finishDesc u (takenAs s d 0x0260) St.ok (leBytes 8 (firstFire u (d.u16 16))))) ∧
  (∀ s d, Accepts plsSetOp s d → d.u8 16 ≠ 255 → bitOf (d.u16 18) 0 = false → genCfgErr (plsStore (rebaseSlews (taken s d)) d) (d.u8 16) = false →
    todCfgErr (plsStore (rebaseSlews (taken s d)) d) = false →
    exec (.plsSet d) s = .next (finishDesc (showTod (showGen (holdEdge (taken s d) (plsStore (rebaseSlews (taken s d)) d)) (d.u8 16)))
      (takenAs s d 0x0261) St.ok [])) ∧
  (∀ s d, Accepts plsAlignOp s d → d.u8 16 ≠ 255 →
    exec (.plsAlign d) s = .next (startAlign (taken s d) (takenAs s d 0x0262) [d.u8 16] (d.u8 17 = 1))) ∧
  (∀ (i : Fin 2048) s, ∃ u, u = (s.put Reg.PLS_SCH_ADDR_INDEX i).putB Reg.PLS_SCH_ADDR_ERR false ∧
    exec (.plsSchRead i) s = .next ((List.range 8).foldl (fun t k => t.put (Reg.PLS_SCH_DATA_DATA k)
      (if k = 2 then setBit (leNat (u.entry i).raw (4 * k) 4) 24 (u.entry i).enabled else leNat (u.entry i).raw (4 * k) 4)) u)) ∧
  (∀ (i : Fin 2048) s, s.mode = .setup → ∃ u, u = s.put Reg.PLS_SCH_ADDR_INDEX i ∧
    (imageValid (entryOf u (schData u)) = true → exec (.plsSchWrite i) s =
      .next (evalPast (replaceEntry (u.putB Reg.PLS_SCH_ADDR_ERR false) i (entryOf u (schData u))) i 0)) ∧
    (imageValid (entryOf u (schData u)) = false → exec (.plsSchWrite i) s = .next (u.putB Reg.PLS_SCH_ADDR_ERR true)))

/-- Events of ports, lanes and groups. SIGNAL_DETECT takes a DOWN port into BRINGUP (R264); POLARITY_TIMEOUT turns the polarity of a lane's
search (R265); BRINGUP_COMPLETE takes the port UP with its lane map, deskew, FEC and auto-negotiation shown (R266); BRINGUP_FAIL takes it
down and BRINGUP_RETRY tries again 1 ms later. LINK_LOSS takes an UP port down with its cause. LINK_FAULT_RX shows local and remote fault,
and local fault takes an UP port down (R263). PAUSE_RX takes a frame's quanta class by class, PAUSE_EXPIRY ends a pause, PAUSE_WATCHDOG cuts
one longer than PWD_LIM and journals it, PWD_HOLD_EXPIRY ends the time in which pauses are ignored (R283, R285). EYE_MEASURE publishes a
result and journals one below the limits or a recovery (R272); PRBS_LOCK counts the pattern's errors (R270). SUPERVISION_TX queues one frame
on each port of the group (R282). PORT_DISTURB lets the values of a disturbing change act on a port with no frame on its line (R291). -/
def Obligations.PortEventsAct : Prop :=
  (∀ (p : Fin 8) s, link s p = 1 → (s.port p).retryAt = none → s.mapBit Reg.SYN_APLL_STAT_LOCK 1 = true →
    exec (.signalDetect p) s =
      .next (setLink ((lanesOf s p).foldl (fun s l => (startLane s l).putB (Reg.LN_STAT_SIG_DET l) true) s) p 2 0)) ∧
  (∀ (l : Fin 16) p s, portOfLane s l = some p → link s p = 2 → s.bit (Reg.LN_CFG_RX_POL_AUTO l) = true → (s.lane l).tried < 2 →
    exec (.polarityTimeout l) s = .next (setLaneState (s.setLane l { s.lane l with
      tried := (s.lane l).tried + 1, inv := !(s.lane l).inv }) l 4)) ∧
  (∀ (p : Fin 8) map (skew : Fin 181) an s, link s p = 2 → s.bit (Reg.MAC_STAT_LF p) = false → s.get (Reg.MAC_MODE_MODE p) = 3 →
    isPermutation map.toNat = true →
    ∃ v u, v = ((lanesOf s p).zipIdx).foldl (fun s q => laneUp s q.1 (map.toNat / 4 ^ q.2 % 4)) s ∧
      u = (v.put (Reg.MAC_STAT_LANE_MAP p) map.toNat).putB (Reg.MAC_STAT_REV p) (map.toNat = 27) ∧
      exec (.bringupComplete p map skew an) s = .next (setLink (((u.put (Reg.MAC_DESKEW_DESKEW p) skew).putB (Reg.MAC_STAT_FEC_LOCK p)
        (u.get (Reg.MAC_MODE_FEC p) != 0)).putB (Reg.MAC_STAT_AN_DONE p) false) p 3 0)) ∧
  (∀ (p : Fin 8) map (skew : Fin 181) an s, link s p = 2 → s.bit (Reg.MAC_STAT_LF p) = false →
    s.get (Reg.MAC_MODE_MODE p) ≠ 3 →
    (s.get (Reg.MAC_MODE_MODE p) = 0 → s.bit (Reg.MAC_MODE_AN_EN p) = true → an = true) →
    ∃ v u, v = ((lanesOf s p).zipIdx).foldl (fun s q => laneUp s q.1 0) s ∧
      u = (v.put (Reg.MAC_STAT_LANE_MAP p) 0).putB (Reg.MAC_STAT_REV p) false ∧
      exec (.bringupComplete p map skew an) s = .next (setLink (((u.put (Reg.MAC_DESKEW_DESKEW p) 0).putB (Reg.MAC_STAT_FEC_LOCK p)
        (u.get (Reg.MAC_MODE_FEC p) != 0)).putB (Reg.MAC_STAT_AN_DONE p) (s.get (Reg.MAC_MODE_MODE p) = 0 && an)) p 3 0)) ∧
  (∀ (p : Fin 8) lost s, link s p = 2 →
    ∃ u, u = portDown s p (if lost then 1 else 3) (!lost) ∧
      exec (.bringupFail p lost) s = .next (u.setPort p { u.port p with retryAt := some (u.freeNs + 1000000) })) ∧
  (∀ (p : Fin 8) t s, (s.port p).retryAt = some t → t ≤ s.freeNs →
    ∃ u, u = s.setPort p { s.port p with retryAt := none } ∧
      (link u p = 1 → (lanesOf u p).all (fun l => u.bit (Reg.LN_STAT_SIG_DET l)) = true →
        exec (.bringupRetry p) s = .next (setLink ((lanesOf u p).foldl startLane u) p 2 0)) ∧
      (link u p ≠ 1 → exec (.bringupRetry p) s = .next u)) ∧
  (∀ (p : Fin 8) (c : Fin 7) s, link s p = 3 → c ≠ 0 → c ≠ 4 → exec (.linkLoss p c) s = .next (portDown s p c (c.val != 1))) ∧
  (∀ (p : Fin 8) s, link s p = 3 → exec (.linkLoss p 4) s = .next (portDown (macBump s p 40 1) p 4 true)) ∧
  (∀ (p : Fin 8) (k : Fin 3) s, ∃ v u w,
      v = (s.flagIf (decide (k.val = 1) && !s.bit (Reg.MAC_STAT_LF p)) (Flag.MAC_LF p)) ∧
      u = v.flagIf (decide (k.val = 2) && !v.bit (Reg.MAC_STAT_RF p)) (Flag.MAC_RF p) ∧
      w = (u.putB (Reg.MAC_STAT_LF p) (k.val = 1)).putB (Reg.MAC_STAT_RF p) (k.val = 2) ∧
      (w.regs ≠ u.regs → k ≠ 1 → exec (.linkFaultRx p k) s = .next (w.publish (Reg.MAC_STAT_VALID p) (Reg.MAC_STAT_SEQ p))) ∧
      (w.regs = u.regs → k ≠ 1 → exec (.linkFaultRx p k) s = .next u) ∧
      (w.regs ≠ u.regs → k = 1 → link (w.publish (Reg.MAC_STAT_VALID p) (Reg.MAC_STAT_SEQ p)) p = 3 → exec (.linkFaultRx p k) s =
        .next (portDown (w.publish (Reg.MAC_STAT_VALID p) (Reg.MAC_STAT_SEQ p)) p 5 true))) ∧
  (∀ (p : Fin 8) q s, portUp s p = true → exec (.pauseRx p q) s = .next (q.foldl (fun s q => receivePause s p q.1 q.2.toNat) s)) ∧
  (∀ (p : Fin 8) (c : Fin 9) t s, (pauseOf s p c).since = some t → (pauseOf s p c).holdTo ≤ s.freeNs →
    exec (.pauseExpiry p c) s =
      .next ((setPause s p c { pauseOf s p c with since := none }).putMapBit (Reg.MAC_PAUSE_STAT_PAUSED p) c false)) ∧
  (∀ (p : Fin 8) (c : Fin 9) t s, (pauseOf s p c).since = some t → t + s.get (Reg.MAC_PWD_PWD_LIM p) * 1000000 < s.freeNs →
    ∃ u v, u = setPause s p c ⟨s.freeNs, none, s.freeNs + s.get (Reg.MAC_PWD_PWD_HOLD p) * 1000000⟩ ∧
      v = macBump (((u.putMapBit (Reg.MAC_PAUSE_STAT_PAUSED p) c false).putMapBit (Reg.MAC_PAUSE_STAT_HOLD p) c true).setFlag
        (Flag.MAC_PWD_TRIP p)) p 43 1 ∧
      exec (.pauseWatchdog p c) s = .next (v.journal 1 0x000B 0x0B02
        (leBytes 1 p ++ leBytes 1 c ++ leBytes 2 0 ++ leBytes 4 ((v.freeNs - t) / 1000)))) ∧
  (∀ (p : Fin 8) (c : Fin 9) s, (pauseOf s p c).ignore ≤ s.freeNs →
    exec (.pwdHoldExpiry p c) s = .next (s.putMapBit (Reg.MAC_PAUSE_STAT_HOLD p) c false)) ∧
  (∀ (l : Fin 18) (h v : BitVec 16) s, s.get (Reg.LN_EYE_CFG_EYE_INT l) ≠ 0 → s.tbLive = true → s.mode ≠ .boot → s.mode ≠ .test →
    (s.lane l).eyeAt = 0 → (l.val < 16 ∨ s.bit Reg.GEN_STRAP_PAIR_EN = true) →
    ∃ u low, u = ((s.put (Reg.LN_EYE_EYE_H l) h.toNat).put (Reg.LN_EYE_EYE_V l) v.toNat).publish
        (Reg.LN_STAT_VALID l) (Reg.LN_STAT_SEQ l) ∧
      low = (decide (h.toNat < u.get (Reg.LN_EYE_CFG_EYE_MIN_H l)) || decide (v.toNat < 4 * u.get (Reg.LN_EYE_CFG_EYE_MIN_V l))) ∧
      ∃ w, w = (u.setLane l { s.lane l with eyeAt := u.freeNs + 1, eyeLow := low }).flagIf low (Flag.LN_EYE_LOW l) ∧
      (low = false → (s.lane l).eyeLow = false → exec (.eyeMeasure l h v) s = .next w) ∧
      (low = true ∨ (s.lane l).eyeLow = true → exec (.eyeMeasure l h v) s =
        .next (w.journal 1 0x000B 0x0B03 (leBytes 1 l ++ leBytes 1 (b2n low) ++ leBytes 2 h.toNat ++ leBytes 2 v.toNat)))) ∧
  (∀ (l : Fin 16) (errs : BitVec 48) s, s.get (Reg.LN_CFG_PRBS l) ≠ 0 → portOfLane s l ≠ none → prbsAllowed s l = true →
    exec (.prbsLock l errs) s = .next (((s.putB (Reg.LN_STAT_PRBS_LOCK l) true).publish (Reg.LN_STAT_VALID l) (Reg.LN_STAT_SEQ l)).bump
      (Reg.LN_PRBS_LO_ERR l) (Reg.LN_PRBS_HI_ERR l) errs.toNat)) ∧
  (∀ (g : Fin 4) s, s.get (Reg.RG_CFG_MODE g) ≠ 0 → groupErr s g = false → s.bit (Reg.RG_CFG_SUP_EN g) = true →
    s.mode ≠ .boot → s.mode ≠ .safe → s.mode ≠ .test →
    s.lan.supAt.get (fun _ => 0) g = 0 →
    ∃ n x y u, n = s.lan.supSeq.get (fun _ => 0) g ∧
      x = s.lan.supAt.set (fun _ => 0) g (s.freeNs + 1) ∧ y = s.lan.supSeq.set (fun _ => 0) g ((n + 1) % 65536) ∧
      u = { s with lan := { s.lan with supAt := x, supSeq := y } } ∧
      exec (.supervisionTx g) s = .next ((portsOf u (16 + g)).foldl (fun t p => enqueue t ⟨p, .supervision n, supLen, none, none⟩) u)) ∧
  (∀ (p : Fin 8) d s, (s.port p).disturb = some d → lineBusy s p = false →
    ∃ u, u = s.setPort p { s.port p with disturb := none } ∧
      (disturbPeer u p d = false → exec (.portDisturb p) s = .next (disturbActs u p d)) ∧
      (disturbPeer u p d = true → link u p ≠ baseLink u p → exec (.portDisturb p) s = .next (portDown u p d.cause true)))

/-- The commands of ports, lanes and groups, accepted and due. PORT_SET stores values that do not disturb the link at once, and begins a
disturbing change with FORCE set (R290). LANE_SET stores values that do not disturb a link and leave the pattern as it is, and begins a
disturbing change of the lane's port with FORCE set (R292). PORT_LOOPBACK of an UP port begins the loopback, and of a port in LOOPBACK ends it
or turns it to another (R293). RG_SET stores settings that move no port (R294). -/
def Obligations.PortCommandsAct : Prop :=
  (∀ s d, Accepts portSetOp s d →
    ∃ regs u, regs = maskedRegs d (d.u16 18) (portAddrs (d.u8 16)) ∧
      u = showPorts (regs.foldl (fun s r => s.storeWord r.1 r.2) (taken s d)) ∧
      ((List.range 8).any (fun q => u.bit (Reg.MAC_STAT_CFGERR q) && !(taken s d).bit (Reg.MAC_STAT_CFGERR q)) = false →
        (disturbs (taken s d) u (d.u8 16) = false →
          exec (.portSet d) s = .next (finishDesc u (takenAs s d 0x0270) St.ok [])) ∧
        (disturbs (taken s d) u (d.u8 16) = true → ((taken s d).port (d.u8 16)).disturb = none → bitOf (d.u8 17) 0 = true →
          exec (.portSet d) s =
            .next (disturb (taken s d) (d.u8 16) ⟨1, regs, 0, 7, some (takenAs s d 0x0270)⟩)))) ∧
  (∀ s d, Accepts laneSetOp s d →
    ∃ r u, r = maskedRegs d (d.u16 18) (laneAddrs (d.u8 16)) ∧ u = r.foldl (fun s r => s.storeWord r.1 r.2) (taken s d) ∧
      (u.get (Reg.LN_CFG_PRBS (d.u8 16)) = (taken s d).get (Reg.LN_CFG_PRBS (d.u8 16)) →
        ((taken s d).loadWord (0x0B1000 + 0x100 * d.u8 16) = u.loadWord (0x0B1000 + 0x100 * d.u8 16) →
          exec (.laneSet d) s = .next (finishDesc (laneStored u (d.u8 16)) (takenAs s d 0x0271) St.ok [])) ∧
        (∀ p, (taken s d).loadWord (0x0B1000 + 0x100 * d.u8 16) ≠ u.loadWord (0x0B1000 + 0x100 * d.u8 16) →
          portOfLane (taken s d) (d.u8 16) = some p → link (taken s d) p = 3 → ((taken s d).port p).disturb = none →
          bitOf (d.u8 17) 0 = true →
          exec (.laneSet d) s =
            .next (disturb (taken s d) p ⟨1, r, ((taken s d).port p).kind, 7, some (takenAs s d 0x0271)⟩)))) ∧
  (∀ s d, Accepts portLoopbackOp s d → link (taken s d) (d.u8 16) = 3 → d.u8 17 ≠ 0 → ((taken s d).port (d.u8 16)).disturb = none →
    bitOf (d.u8 18) 0 = true →
    exec (.portLoopback d) s = .next (disturb (taken s d) (d.u8 16) ⟨4, [], d.u8 17, 9, some (takenAs s d 0x0272)⟩)) ∧
  (∀ s d, Accepts portLoopbackOp s d → link (taken s d) (d.u8 16) = 4 → ((taken s d).port (d.u8 16)).disturb = none →
    bitOf (d.u8 18) 0 = true →
    exec (.portLoopback d) s = .next (disturb (taken s d) (d.u8 16)
      ⟨if d.u8 17 = 0 then 1 else 4, [], d.u8 17, 9, some (takenAs s d 0x0272)⟩)) ∧
  (∀ s d, Accepts rgSetOp s d →
    ∃ u, u = showPorts ((maskedRegs d (d.u16 18) [0x0D0000 + 0x20 * d.u8 16, 0x0D0000 + 0x20 * d.u8 16 + 4]).foldl
        (fun s r => s.storeWord r.1 r.2) (taken s d)) ∧
      (groupErr u (d.u8 16) = false → [Reg.RG_CFG_MODE (d.u8 16), Reg.RG_CFG_PORT_A (d.u8 16), Reg.RG_CFG_PORT_B (d.u8 16)].any
          (fun f => (taken s d).get f != u.get f) = false →
        exec (.rgSet d) s = .next (finishDesc u (takenAs s d 0x0273) St.ok [])))

/-- Scheduled egress and calibration. FRAME_ARM at D arms a booked frame whose data are in the TSU, discards one whose data are not with cause
DEADLINE and frees the booking of one already counted; FRAME_LAUNCH at L launches it or discards it with the cause of R312. EGRESS_VERIFY: the
frame's measured departure within VTOL passes the check of R310, goes onto the line and returns its stamp. UNBOOKED_TX: the first frame that no
pause holds and its mode allows leaves when its interval fits (R309). TSU_PD_CALIBRATION changes nothing the spec shows. CAL_PROBE adds a
sample of the running calibration; PORT_CALIBRATE_DONE ends it OK at N samples and CANCELLED at a cancel (R315, R316). -/
def Obligations.EgressEventsAct : Prop :=
  (∀ (p : Fin 8) b s, (booksOf s p).find? (fun b => !b.armed && deadlineAt s b ≤ (s.tbU : Int)) = some b →
    (b.inTsu = true → exec (.frameArm p) s = .next (putBook s { b with armed := true })) ∧
    (b.inTsu = false → b.dead = false → exec (.frameArm p) s = .next (discard s b 0)) ∧
    (b.inTsu = false → b.dead = true → exec (.frameArm p) s = .next (freeBook s b))) ∧
  (∀ (p : Fin 8) b s, (booksOf s p).find? (fun b => b.armed && !b.launched && launchAt s b ≤ (s.tbU : Int)) = some b →
    (launchCause s b = none → exec (.frameLaunch p) s = .next (putBook s { b with launched := true })) ∧
    (∀ c, launchCause s b = some c → exec (.frameLaunch p) s = .next (discard s b c))) ∧
  (∀ (p : Fin 8) edge b s, (booksOf s p).find? (fun b => b.launched) = some b → b.cut = false →
    ∃ stamp diff, stamp = egressStamp s p edge b.txDly ∧ diff = roundQ ((((stamp : Int) - (b.ttx : Int) : Int) : Rat) * 1000 / 65536) ∧
      (absN diff ≤ s.get Reg.TSU_CFG_VTOL → exec (.egressVerify p edge) s =
        .next (stampReturns (departs (lineTick (checkAt (freeBook s b) (0x40 + p) false 0 0xFF 0 (satS 32 diff)))
          p b.msg b.red b.clen stamp true) b stamp))) ∧
  (∀ (p : Fin 8) edge u s, s.lan.unb.find? (fun u => u.port = p.val && !pauseHolds s u && mayLeave s u) = some u →
    ∃ stamp, stamp = egressStamp s p edge (s.get (Reg.TSU_TXDLY_TX_DLY p)) ∧
      (mayTransmit s p = true → fitsNow s p u.len stamp = true → u.inj = none → exec (.unbookedTx p edge) s = .next (departs (lineTick
        { s with lan := { s.lan with unb := takeFirst (fun u => u.port = p.val && !pauseHolds s u && mayLeave s u) s.lan.unb } })
        p u.msg u.red u.len stamp false))) ∧
  (∀ (p : Fin 8) s, exec (.tsuPdCalibration p) s = .next s) ∧
  (∀ (p : Fin 8) tx rx s, (s.cal p).probeAt + 10000 ≤ s.freeNs → calRuns s p 0 = true →
    exec (.calProbe p tx rx) s = .next (calSample s p (rx - tx - Config.kLoop p - (s.tsu.trims.get (fun _ => 0) p) * 512 / 1000))) ∧
  (∀ (p : Fin 8) tx rx s, (s.cal p).probeAt + 10000 ≤ s.freeNs → calRuns s p 0 = false → calRuns s p 1 = true →
    exec (.calProbe p tx rx) s = .next (calSample s p (rx - tx))) ∧
  (∀ (p : Fin 8) l s, calOp s p = some l → l.cancelReq = false → l.suspended = false → l.d.u32 20 ≤ (s.cal p).n →
    exec (.portCalibrateDone p) s = .next (endCal s l St.ok)) ∧
  (∀ (p : Fin 8) l s, calOp s p = some l → l.cancelReq = true → exec (.portCalibrateDone p) s = .next (endCal s l St.cancelled))

/-- PORT_CALIBRATE accepted starts its calibration on a port not in calibration and not in LOOPBACK, disturbed for METHOD 0 and 1 with FORCE
set, and for METHOD 2 while the Tense unit is LOCKED to another reference (R315). TSU_SET accepted and due stores the VTOL word, or a port's
settings on a port that no reference in use stands on (R319). -/
def Obligations.EgressCommandsAct : Prop :=
  (∀ s d, Accepts portCalibrateOp s d → calOp (taken s d) (d.u8 16) = none → link (taken s d) (d.u8 16) ≠ 4 →
    (calMethod d ≤ 1 ∧ bitOf (d.u8 18) 0 = true) ∨ (calMethod d = 2 ∧ calLocked (taken s d) (d.u8 16) = true) →
    exec (.portCalibrate d) s = .next (showCal (calDisturb (startLong ((taken s d).setCal (d.u8 16)
      { Cal.zero with probeAt := (taken s d).freeNs }) (takenAs s d 0x0280) (d.u8 16)) (d.u8 16) (calMethod d)) (d.u8 16))) ∧
  (∀ s d, Accepts tsuSetOp s d → d.u8 16 = 255 →
    exec (.tsuSet d) s = .next (finishDesc (storeMasked (taken s d) d (d.u16 18) [0x0E0000]) (takenAs s d 0x0281) St.ok [])) ∧
  (∀ s d, Accepts tsuSetOp s d → d.u8 16 ≠ 255 → portProtected (taken s d) (d.u8 16) = false →
    exec (.tsuSet d) s = .next (finishDesc (storeMasked (taken s d) d (d.u16 18) (tsuAddrs (d.u8 16))) (takenAs s d 0x0281) St.ok []))

/-- FRAME_RX on a port that is UP or in LOOPBACK counts the frame whatever becomes of it (R286); in SAFE nothing more follows. On an UP port in
SERVICE a frame for another destination counts in DA_FILT, one that carries the port's own address in its source is dropped and counted, and
any other is stored for the classifier, or counted and flagged when the buffer has no room (R273, R276). -/
def Obligations.FrameReceived : Prop :=
  (∀ (p : Fin 8) (f : FrameIn) s, link s p = 3 ∨ link s p = 4 → s.mode = .safe → exec (.frameRx p f) s = .next (countRx s p f)) ∧
  (∀ (p : Fin 8) (f : FrameIn) s, link s p = 3 → s.mode = .service →
    ∃ u, u = countRx s p f ∧ (u.mode = .service → link u p = 3 →
      (daOk u p f.da = false → exec (.frameRx p f) s = .next (macBump u p 24 1)) ∧
      (daOk u p f.da = true → f.sa = macAddr u p → exec (.frameRx p f) s = .next (macBump u p 25 1)) ∧
      (daOk u p f.da = true → f.sa ≠ macAddr u p → exec (.frameRx p f) s = .next (storeFrame u p f)) ∧
      (daOk u p f.da = true → f.sa ≠ macAddr u p → f.room = false →
        exec (.frameRx p f) s = .next ((macBump u p 23 1).setFlag (Flag.MAC_BUF_DROP p)))))

/-- Events of the engines. REQUEST_DISPATCH gives the first waiting transaction a free context; AEAD_COMPLETE ends the opening of an NTS
cookie, and a seal (R375, R382); TTX_GRANT books the best start position for a message not sealed; FRAME_COMMIT hands each booked frame to
the TSU, or discards one after D or longer than booked. STREAM_PREPARE, FOLLOW_UP_PREPARE and DELAY_REQ_TX originate their message, or count
a miss (R331, R333, R341). SIGNALING_RX punts a management message and answers negotiation TLVs (R338, R353). GRANT_WALK walks the grant
table (R340). ADMISSION_REFRESH refreshes the four classes, RECONF_DRAIN_END stores what waited for its classes to drain (R349),
SVC_VIOLATION and GRANT_SUMMARY write their records of the second (R361). INJECT_ENTRY sends the ring's next frame or refuses it (R354).
ENGINE_REJOIN brings an engine back. -/
def Obligations.ServiceEventsAct : Prop :=
  (∀ (e : Fin 16) t c s, engDown s e = false → s.cla.queue.find? (fun t => t.engine = e.val) = some t → freeCtx s e = some c →
    (inFlight s e).any (fun u => u.cls != t.cls) = false →
    ∃ x, x = { t with ctx := c } ∧ exec (.requestDispatch e) s = .next (beginTxn (s.setCla (fun k => { k with
      queue := k.queue.filter (fun u => u.id != t.id), flight := k.flight ++ [x] })) x)) ∧
  (∀ (e : Fin 16) (c : Fin 4) x m ok intact s, txnOf s e c = some x → x.stage = .op 1 → x.job = .ntp m → cyRuns s = true → opBlocks s x ≠ 0 →
    exec (.aeadComplete e c ok intact) s = .next (ntsOpDone (aesBlocks s (x.engine / 2) (opBlocks s x)) x m 1 (x.found && ok))) ∧
  (∀ (e : Fin 16) (c : Fin 4) x m ok intact s, txnOf s e c = some x → x.stage = .seal → x.job = .ptp m → cyRuns s = true →
    opBlocks s x = 0 → s.bit Reg.SAT_CFG_SEAL_CHK = false →
    exec (.aeadComplete e c ok intact) s = .next (putTxn (satBump (sealBooks s x) 6 1) { x with stage := .commit })) ∧
  (∀ (e : Fin 16) (c : Fin 4) len a b x p q s, txnOf s e c = some x → x.stage = .grant → openBooks s x = [] → needsSeal s x = some false →
    portsOf s x.target = [p] → portUp s p = true → bestStart s [p] x.tnom len p a = some q →
    exec (.ttxGrant e c len a b) s = .next (afterGrant (book s x p q len false) x false (q / 128 * 128))) ∧
  (∀ (e : Fin 16) (c : Fin 4) len x s, txnOf s e c = some x → x.stage = .commit →
    exec (.frameCommit e c len) s = .next (release ((openBooks s x).foldl (fun s b =>
      if deadlineAt s b < (s.tbU : Int) then lateDiscard (freeBook s b) b.port 0 b.ttx b.cls else if b.len < len
      then lateDiscard (freeBook s b) b.port 5 b.ttx b.cls else putBook s { b with inTsu := true, clen := len }) s) x)) ∧
  (∀ (i : Fin 512) ann s, s.mode = .service → bitOf (strByte (s.stream i) 3) 0 = true →
    bitOf (strByte (s.stream i) 3) (if ann then 2 else 1) = true → s.tbLive = true →
    ∃ n u, n = max (s.cla.nextN.get (fun _ => 0) (2 * i + b2n ann)) (firstN (s.stream i) ann (s.tbU + 1)) ∧
      u = s.setCla (fun c => { c with nextN := c.nextN.set (fun _ => 0) (2 * i + b2n ann) (n + 1) }) ∧
      (prepState s (streamAt (s.stream i) ann n) = 2 → exec (.streamPrepare i ann) s = .next (u.setFlag Flag.CLA_STREAM_MISS)) ∧
      ∀ m t, t = strByte (s.stream i) 0 → t < 8 → m = { ptpBase u (strByte (s.stream i) 2) t (if ann then 0xB else 0) n with
          env := streamEnv (s.stream i), logInt := strLog (s.stream i) ann, twoStep := !ann && u.bit (Reg.PB_CFG_TWO_STEP (strByte (s.stream i) 2)), fuRed := none } →
        prepState s (streamAt (s.stream i) ann n) = 1 → ptpBinding u (strByte (s.stream i) 2) = true →
        exec (.streamPrepare i ann) s =
          .next (originate u (ownTxn m t (streamAt (s.stream i) ann n) none) Flag.CLA_STREAM_MISS)) ∧
  (∀ s f l, s.cla.fus = f :: l → s.mode = .service →
    ∃ u m, u = s.setCla (fun c => { c with fus := l }) ∧
      m = { f.event with
        type := if f.event.type = 0 then 8 else 0xA, twoStep := false, stamp := f.measured / 65536,
        corr := f.event.fuCorr + fracOf f.measured, tlvs := [], ann := none } ∧
      exec .followUpPrepare s = .next (originate u (ownTxn m f.target
        (f.ttx + u.get Reg.CLA_CTRL_FU_DELAY * 1000 * 65536) f.event.fuRed) Flag.CLA_STREAM_MISS)) ∧
  (∀ s q l e es ok len, s.cla.ctrlq = q :: l → enginesOf s 4 = e :: es → s.mode = .service → q.m.auth = none →
    ∃ u, u = s.setCla (fun c => { c with ctrlq := l }) ∧
      (q.m.type = 0xD → exec (.signalingRx ok len) s = .next (punt u q.port q.f 4 q.flags q.rule q.trx)) ∧
      (q.m.type ≠ 0xD → u.get (Reg.PB_CFG_TYPE q.bind) ≠ 3 → exec (.signalingRx ok len) s = .next u) ∧
      ∀ r t, r = q.m.sigs.foldl (fun a g => ((negotiate (takeGrant a.1 q g) q g).1, a.2 ++ (negotiate (takeGrant a.1 q g) q g).2.toList)) (u, []) →
        t = targetOf r.1 q.port → q.m.type ≠ 0xD → u.get (Reg.PB_CFG_TYPE q.bind) = 3 → r.2 ≠ [] → ownSeal r.1 q.bind = some false → t < 8 →
        exec (.signalingRx ok len) s = .next (sendUnbooked r.1 t (.ptp { ptpBase r.1 q.bind t 0xC q.m.seqId with
          env := replyEnv r.1 q.port q.f, reqPort := q.m.sender, unicast := true, sigs := r.2 }) len none none)) ∧
  (∀ s late bad, s.mode = .service → s.bit Reg.CLA_GT_CFG_EN = true → s.tbLive = true → s.cla.walkAt + 7812500 ≤ s.freeNs →
    exec (.grantWalk late bad) s =
      .next (s.cla.tokens.foldl (walkSlot late bad) (s.setCla (fun c => { c with walkAt := s.freeNs })))) ∧
  (∀ (p : Fin 8) mst s, (s.client p).master = some mst → clientRuns s p = true → s.bit (Reg.PB_CFG_EN (s.get (Reg.PCL_CFG_PROFILE p))) = true →
    s.get (Reg.PB_CFG_TYPE (s.get (Reg.PCL_CFG_PROFILE p))) = 0 ∨ s.get (Reg.PB_CFG_TYPE (s.get (Reg.PCL_CFG_PROFILE p))) = 2 →
    s.tbLive = true →
    ∃ n u, n = max ((s.client p).nreq.getD 0) (ceilDiv (s.tbU + 1 - 1000 * p * 65536) (intervalU (s.getS (Reg.PCL_CFG_LOG_DREQ p)))) ∧
      u = s.setClient p { s.client p with nreq := some (n + 1) } ∧
      (prepState s (dreqAt s p n) = 2 → exec (.delayReqTx p) s = .next (u.setFlag Flag.CLA_STREAM_MISS)) ∧
      (prepState s (dreqAt s p n) = 1 → isGroup (targetOf u p) = false → exec (.delayReqTx p) s = .next (originate u
        (ownTxn { ptpBase u (s.get (Reg.PCL_CFG_PROFILE p)) (targetOf u p) 1 n with
          env := ⟨groupDst 1, none, 0⟩, unicast := false } (targetOf u p) (dreqAt s p n) none)
          Flag.CLA_STREAM_MISS))) ∧
  (∀ s, s.atMs = true → s.mode ≠ .boot → s.mode ≠ .test → exec .admissionRefresh s =
    .next ((List.range 4).foldl refreshClass (s.put Reg.CLA_SADM_S_ADM (satU 16 (roundQ (sAdm s * 16384)).toNat)))) ∧
  (∀ s, s.cla.paused ≠ [] → (∀ c ∈ s.cla.paused, occOf s c = 0) →
    exec .reconfDrainEnd s = .next (storeService { s with cla := { s.cla with reconf := [], paused := [] } } s.cla.reconf)) ∧
  (∀ s, s.atSec = true → exec .svcViolation s = .next ((List.range 16).foldl vioRecord s)) ∧
  (∀ s, s.atSec = true → s.cla.grants ≠ (0, 0, 0, 0) →
    exec .grantSummary s = .next ((s.setCla (fun c => { c with grants := (0, 0, 0, 0) })).journal 0 0x0010 0x1004
      (leBytes 2 (satU 16 s.cla.grants.1) ++ leBytes 2 (satU 16 s.cla.grants.2.1) ++ leBytes 2 (satU 16 s.cla.grants.2.2.1)
        ++ leBytes 2 (satU 16 s.cla.grants.2.2.2) ++ leBytes 4 (s.cla.tokens.filter (fun p => p.2.isSome)).length))) ∧
  (∀ (r : Fin 64) h f s, s.bit Reg.CLA_INJ_EN = true → s.get Reg.CLA_INJ_RING = r.val → ringState s r = 1 → s.get (Reg.HR_CFG_TYPE r) = 4 →
    ringUsed s r ≠ 0 → s.mode = .service → cqValid s r = true → canReserve s (cqOf s r) 1 = true →
    ∃ u, u = reserve (setCons s r (consPos s r + 1)) (cqOf s r) ∧ (u.mode = .service →
      (injBad u r h f = true → exec (.injectEntry r h f) s =
        .next (postCompletion u (cqOf u r) ⟨leNat h 4 4, St.invalid, false, r, 0, 0, []⟩ false)) ∧
      (injBad u r h f = false → isGroup (leNat h 0 1) = false → exec (.injectEntry r h f) s =
        .next (sendUnbooked u (leNat h 0 1) (.injected f) (f.length + 4) none (some (r, leNat h 4 4, bitOf (leNat h 1 1) 0)))))) ∧
  (∀ (e : Fin 16) s, engDown s e = true → s.atMs = true → s.cla.engAt.get (fun _ => 0) e < s.freeNs →
    ∃ u, u = windowEvent { s with sys := { s.sys with engReset := setBit s.sys.engReset e false } } 0 e 100000 ∧
      exec (.engineRejoin e) s =
        .next (showClasses (u.journal 1 0x0010 0x1005 (leBytes 1 e ++ leBytes 1 0 ++ leBytes 1 (engRole u e) ++ leBytes 5 0))))

/-- The commands of the service, accepted and due. CLA_SET stores its words at once when they alter no client that feeds a reference
in use and no class's W_cls (R355). CLA_RULE and STREAM_SET write, enable and clear their entries (R325, R356). CLA_STR_READ
and CLA_RULE_READ latch an entry into the data registers; CLA_STR_WRITE and CLA_RULE_WRITE in SETUP install a valid image and set ERR for
another (R331). -/
def Obligations.ServiceCommandsAct : Prop :=
  (∀ s d l, Accepts claSetOp s d → claAddrs (d.u8 16) = some l →
    ∃ u, u = storeService (taken s d) (maskedWords d (d.u16 18) l) ∧ (claCfgErr u = false → clientsAltered (taken s d) u = [] →
      (wChanged (taken s d) u = [] → exec (.claSet d) s = .next (finishDesc
        { u with sel := { u.sel with dq := u.sel.dq ++ [] } } (takenAs s d 0x0290) St.ok [])))) ∧
  (∀ s d, Accepts claRuleOp s d → d.u8 18 = 0 →
    exec (.claRule d) s = .next (finishDesc (putRule (taken s d) (d.u16 16) (opImage d)) (takenAs s d 0x0291) St.ok [])) ∧
  (∀ s d, Accepts claRuleOp s d → d.u8 18 = 1 → exec (.claRule d) s =
    .next (finishDesc (putRule (taken s d) (d.u16 16) (withBit ((taken s d).rule (d.u16 16)) 25 true)) (takenAs s d 0x0291) St.ok [])) ∧
  (∀ s d, Accepts claRuleOp s d → d.u8 18 = 3 →
    exec (.claRule d) s = .next (finishDesc (putRule (taken s d) (d.u16 16) []) (takenAs s d 0x0291) St.ok [])) ∧
  (∀ s d, Accepts streamSetOp s d → exec (.streamSet d) s =
    .next (finishDesc (putStream (taken s d) (d.u16 16) (streamImage (taken s d) d)) (takenAs s d 0x0292) St.ok [])) ∧
  (∀ (i : Fin 512) s, exec (.claStrRead i) s = .next (latchImage ((s.put Reg.CLA_STR_ADDR_INDEX i).putB Reg.CLA_STR_ADDR_ERR false)
    Reg.CLA_STR_DATA_DATA (s.stream i))) ∧
  (∀ (i : Fin 4096) s, exec (.claRuleRead i) s = .next (latchImage ((s.put Reg.CLA_RULE_ADDR_INDEX i).putB Reg.CLA_RULE_ADDR_ERR false)
    Reg.CLA_RULE_DATA_DATA (s.rule i))) ∧
  (∀ (i : Fin 512) s, s.mode = .setup → ∃ u r, u = s.put Reg.CLA_STR_ADDR_INDEX i ∧ r = dataImage u Reg.CLA_STR_DATA_DATA ∧
    (streamValid u i r = true → exec (.claStrWrite i) s = .next (putStream (u.putB Reg.CLA_STR_ADDR_ERR false) i r)) ∧
    (streamValid u i r = false → exec (.claStrWrite i) s = .next (u.putB Reg.CLA_STR_ADDR_ERR true))) ∧
  (∀ (i : Fin 4096) s, s.mode = .setup → ∃ u r, u = s.put Reg.CLA_RULE_ADDR_INDEX i ∧ r = dataImage u Reg.CLA_RULE_DATA_DATA ∧
    (ruleValid r = true → exec (.claRuleWrite i) s = .next (putRule (u.putB Reg.CLA_RULE_ADDR_ERR false) i r)) ∧
    (ruleValid r = false → exec (.claRuleWrite i) s = .next (u.putB Reg.CLA_RULE_ADDR_ERR true)))

/-- The authentication unit. DRBG_RESEED reseeds each second with what its health tests find (R365). SAT_EXPIRY makes an entry past its
NOT_AFTER invalid, or marks it held while it is CURRENT (R370). SAT_INSTALL and SAT_INST_GO install a valid image of an entry that is not
CURRENT, and SAT_INST_GO sets ERR for an image that is not valid (R383). SAT_ROTATE makes an entry that meets R377 CURRENT, or none, and
journals it (R384). SAT_REKEY starts a rekey, and SAT_REKEY_RECORD applies one record of it and ends it at its last (R385). SAT_QRY_GO shows an
entry's attributes and its KCV (R372). -/
def Obligations.AuthenticationActs : Prop :=
  (∀ s healthy, s.atSec = true → cyRuns s = true → s.mode ≠ .boot → s.mode ≠ .test →
    exec (.drbgReseed healthy) s = .next (reseed s healthy)) ∧
  (∀ (i : Fin 8192) s, s.atSec = true → (s.sat i).valid = true → (s.sat i).notAfter ≠ 0 →
    s.expand ((s.sat i).notAfter * 2 ^ 32) ≤ s.tbU →
    (isCurrent s i = false → exec (.satExpiry i) s = .next (satChange ((s.setSat i { s.sat i with valid := false, held := false }).setFlag
      Flag.SAT_EXPIRED) i 2 (s.sat i))) ∧
    (isCurrent s i = true → (s.sat i).held = false → exec (.satExpiry i) s =
      .next ((s.setSat i { s.sat i with held := true }).setFlag Flag.SAT_EXP_HELD))) ∧
  (∀ s d, Accepts satInstallOp s d → isCurrent (taken s d) (leNat d.op 0 2) = false → exec (.satInstall d) s =
    .next (finishDesc (installImage (taken s d) d.op) (takenAs s d 0x02A0) St.ok (leBytes 3 (imageKcv d.op)))) ∧
  (∀ s d, Accepts satRotateOp s d → d.u16 18 = 0xFFFF →
    ∃ old, old = (if (taken s d).bit (curFields (d.u8 16)).1 then (taken s d).get (curFields (d.u8 16)).2 else 0xFFFF) ∧
      exec (.satRotate d) s = .next (finishDesc (((taken s d).putB (curFields (d.u8 16)).1 false).journal 0 0x0012 0x1202
        (leBytes 1 (d.u8 16) ++ leBytes 1 0 ++ leBytes 2 0xFFFF ++ leBytes 2 old)) (takenAs s d 0x02A1) St.ok (leBytes 2 old))) ∧
  (∀ s d, Accepts satRotateOp s d → d.u16 18 ≠ 0xFFFF → meetsTarget (taken s d) (d.u8 16) (d.u16 18) = true →
    ∃ old, old = (if (taken s d).bit (curFields (d.u8 16)).1 then (taken s d).get (curFields (d.u8 16)).2 else 0xFFFF) ∧
      exec (.satRotate d) s = .next (finishDesc ((((taken s d).putB (curFields (d.u8 16)).1 true).put (curFields (d.u8 16)).2
        (d.u16 18)).journal 0 0x0012 0x1202 (leBytes 1 (d.u8 16) ++ leBytes 1 0 ++ leBytes 2 (d.u16 18) ++ leBytes 2 old))
          (takenAs s d 0x02A1) St.ok (leBytes 2 old))) ∧
  (∀ s d, Accepts satRekeyOp s d → longOp (taken s d) 0x02A2 0 = none →
    ∃ u, u = startLong (taken s d) (takenAs s d 0x02A2) 0 ∧
      exec (.satRekey d) s = .next (showRekey { u with auth := { (taken s d).auth with rekey := some ⟨0, 0, 0⟩ } })) ∧
  (∀ s r l k, longOp s 0x02A2 0 = some l → s.auth.rekey = some k → l.suspended = false → s.dmaOk = true → l.cancelReq = false →
    l.suspReq = false →
    ∃ u, u = rekeyRecord s k r ∧ (∀ j, u.auth.rekey = some j →
      (j.next < l.d.u32 24 → exec (.satRekeyRecord r) s = .next u) ∧
      (l.d.u32 24 ≤ j.next → exec (.satRekeyRecord r) s = .next (endRekey u l (if j.skipped = 0 then St.ok else St.partialDone))))) ∧
  (∀ s, s.mode = .setup →
    ∃ im u, im = (List.range 12).flatMap (fun k => leBytes 4 (s.get (Reg.SAT_INST_DATA_DATA k))) ∧
      u = (List.range 12).foldl (fun s k => s.put (Reg.SAT_INST_DATA_DATA k) 0) s ∧
      (satImageOk im = false → exec .satInstGo s = .next (u.putB Reg.SAT_INST_CTL_ERR true)) ∧
      (satImageOk im = true → isCurrent u (leNat im 0 2) = false →
        exec .satInstGo s = .next (installImage (u.putB Reg.SAT_INST_CTL_ERR false) im))) ∧
  (∀ (i : Fin 8192) s, ∃ u v, u = (s.put Reg.SAT_QRY_ADDR_INDEX i).putB Reg.SAT_QRY_ADDR_ERR false ∧
    v = (u.putB Reg.SAT_QRY_DATA0_VALID (s.sat i).valid) ∧
    exec (.satQryGo i) s = .next (((((((v.putB Reg.SAT_QRY_DATA0_CURRENT (isCurrent u i)).put Reg.SAT_QRY_DATA0_SPP (s.sat i).spp).put
      Reg.SAT_QRY_DATA0_FLAGS (s.sat i).flags).put Reg.SAT_QRY_DATA0_TYPE (s.sat i).type).put Reg.SAT_QRY_DATA1_KEY_ID
        (s.sat i).keyId).put Reg.SAT_QRY_DATA2_NOT_AFTER (s.sat i).notAfter).put Reg.SAT_QRY_DATA3_KCV
          (if (s.sat i).key = [] then 0 else kcvOf (s.sat i).key)))

/-- Accesses from the host. REGISTER_WRITE of a command register carries out its command; any other word clears its W1C flags, and in SETUP its
settings are stored (R6, R12). W1C_FLAG_WRITE clears flags (R14); FF_HELD_RELEASE clears HELD unless a capture took it in this AO cycle (R474).
UNALIGNED_ACCESS is completed as unsupported (R15). DOORBELL moves the position of a running ring within its room and is DB_ERR otherwise
(R400). DESCRIPTOR_ACCEPT and PHASE_RETRY count a wrong PHASE, and accept an unfenced, untimed descriptor for which there is room (R402, R403).
EFFECTIVE_TIME_REACHED applies the waiting descriptor due first (R405). COAL_TIMEOUT notifies a ring (R395). -/
def Obligations.HostAccessActs : Prop :=
  (∀ r v s, pcieRuns s = true → commandWrite s (4 * r.toNat) v.toNat = none → 4 * r.toNat ≠ 0x140040 →
    (s.mode ≠ .setup → (clearFlags s (4 * r.toNat) v.toNat).mode = s.mode →
      exec (.registerWrite r v) s = .next (clearFlags s (4 * r.toNat) v.toNat)) ∧
    ((clearFlags s (4 * r.toNat) v.toNat).mode = .setup →
      exec (.registerWrite r v) s = .next (setupStore (clearFlags s (4 * r.toNat) v.toNat) (4 * r.toNat) v.toNat))) ∧
  (∀ r v t s, pcieRuns s = true → commandWrite s (4 * r.toNat) v.toNat = some t → exec (.registerWrite r v) s = .next t) ∧
  (∀ r v s, pcieRuns s = true → exec (.w1cFlagWrite r v) s = .next (clearFlags s (4 * r.toNat) v.toNat)) ∧
  (∀ s, pcieRuns s = true → s.flt.heldAo ≠ some (s.tb.ao / 20) →
    exec .ffHeldRelease s = .next (s.putB Reg.FLT_FF_STAT_HELD false)) ∧
  (∀ s, pcieRuns s = true →
    exec .unalignedAccess s = .next { s with hif := { s.hif with response := some (false, 0) } }) ∧
  (∀ (r : Fin 64) v s, pcieRuns s = true → ringState s r = 0 ∨ ringState s r = 3 →
    exec (.doorbell r v) s = .next ((s.setFlag Flag.HIF_DB_ERR).fire 64)) ∧
  (∀ (r : Fin 64) v s, pcieRuns s = true → ringState s r = 1 → hostProduced s r = true → v.toNat % 65536 < ringSize s r →
    ∃ n pos, n = ringSize s r ∧ pos = v.toNat / 65536 % 256 * n + v.toNat % 65536 ∧
      ((pos + 256 * n - prodPos s r) % (256 * n) ≤ n - ringUsed s r → exec (.doorbell r v) s = .next (setProd s r pos)) ∧
      (n - ringUsed s r < (pos + 256 * n - prodPos s r) % (256 * n) →
        exec (.doorbell r v) s = .next ((s.setFlag Flag.HIF_DB_ERR).fire 64))) ∧
  (∀ (op : BitVec 16) ph (d : Desc) s, s.mode ≠ .boot → s.mode ≠ .test → ringState s d.ring = 1 → s.get (Reg.HR_CFG_TYPE d.ring) = 0 →
    ringUsed s d.ring ≠ 0 → s.hif.retries.get (fun _ => 0) d.ring = 0 → cqValid s d.ring = true →
    canReserve s (cqOf s d.ring) 1 = true →
    (ph ≠ phaseOf (s.get (Reg.HR_CONS_GEN d.ring)) → exec (.descriptorAccept op ph d) s = .next (phaseFailed s d.ring)) ∧
    (ph = phaseOf (s.get (Reg.HR_CONS_GEN d.ring)) → d.fence = false → d.timed = false →
      ∃ u, u = { s with hif := { s.hif with retries := s.hif.retries.set (fun _ => 0) d.ring 0 } } ∧
        (roomFor u op.toNat d = true → exec (.descriptorAccept op ph d) s = .next (acceptFetched u op.toNat d)))) ∧
  (∀ (op : BitVec 16) ph (d : Desc) s, s.mode ≠ .boot → s.mode ≠ .test → ringState s d.ring = 1 → s.get (Reg.HR_CFG_TYPE d.ring) = 0 →
    ringUsed s d.ring ≠ 0 → s.hif.retries.get (fun _ => 0) d.ring ≠ 0 → cqValid s d.ring = true →
    canReserve s (cqOf s d.ring) 1 = true →
    (ph ≠ phaseOf (s.get (Reg.HR_CONS_GEN d.ring)) → exec (.phaseRetry op ph d) s = .next (phaseFailed s d.ring)) ∧
    (ph = phaseOf (s.get (Reg.HR_CONS_GEN d.ring)) → d.fence = false → d.timed = false →
      ∃ u, u = { s with hif := { s.hif with retries := s.hif.retries.set (fun _ => 0) d.ring 0 } } ∧
        (roomFor u op.toNat d = true → exec (.phaseRetry op ph d) s = .next (acceptFetched u op.toNat d)))) ∧
  (∀ w sp s, firstDue s = some (w, sp) → exec .effectiveTimeReached s = .next (sp.apply (removeWaiting s w.aseq) w)) ∧
  (∀ (r : Fin 64) s, s.hif.notif.get (fun _ => 0) r ≠ 0 → s.get (Reg.HR_COAL_US r) ≠ 0 → ringState s r = 1 →
    s.hif.oldest.get (fun _ => 0) r + s.get (Reg.HR_COAL_US r) * 1000 ≤ s.tb.ao → exec (.coalTimeout r) s = .next (notifyRing s r))

/-- PCIe events, aborts by register and the supervisors. DMA_ERROR puts a running ring into ERROR and is journalled. PCIE_FLR, PCIE_BME_CLEAR,
PCIE_D3HOT, PCIE_LINK_DOWN and PERST stall the rings and PCIE_LINK_UP shows the link (R392); DMA_PERMITTED sends the pending vectors (R394);
PF1_FLR changes nothing. HIF_ABORT_ENGINE and HIF_ABORT_RING carry out the abort and publish its counts (R420). SUPERVISOR_REJOIN brings a
supervisor back (R569). -/
def Obligations.PcieEventsAct : Prop :=
  (∀ (r : Fin 64) s, ringState s r = 1 →
    ∃ u, u = ringError (s.setFlag Flag.HIF_DMA_ERR) r 2 (s.get (Reg.HR_CONS_IDX r)) ∧
      exec (.dmaError r) s = .next (check (u.journal 1 0x0002 0x02F5 (leBytes 1 4 ++ leBytes 1 (u.get Reg.HIF_STAT_SPEED) ++
        leBytes 1 (u.get Reg.HIF_STAT_WIDTH))) 0x1A true)) ∧
  (∀ s, pcieRuns s = true → s.bit Reg.HIF_STAT_LINK_UP = true →
    exec .pcieFlr s = .next (msixReset (pcieEvent (stallRings (configReset (s.setFlag Flag.HIF_FLR))) 2))) ∧
  (∀ s, pcieRuns s = true → s.bit Reg.HIF_STAT_BME = true →
    exec .pcieBmeClear s = .next (pcieEvent (stallRings (hifShow s (fun s => s.putB Reg.HIF_STAT_BME false))) 3)) ∧
  (∀ s, pcieRuns s = true → s.bit Reg.HIF_STAT_LINK_UP = true → s.hif.d3hot = false →
    exec .pcieD3hot s = .next (pcieEvent (stallRings { s with hif := { s.hif with d3hot := true } }) 5)) ∧
  (∀ s, pcieRuns s = true → s.bit Reg.HIF_STAT_LINK_UP = true →
    exec .pcieLinkDown s = .next (msixReset (configReset (linkDown s)))) ∧
  (∀ (speed : Fin 6) (width : Fin 9) s, pcieRuns s = true → s.bit Reg.HIF_STAT_LINK_UP = false →
    exec (.pcieLinkUp speed width) s = .next (pcieEvent (hifShow s (fun s =>
      ((s.putB Reg.HIF_STAT_LINK_UP true).put Reg.HIF_STAT_SPEED speed).put Reg.HIF_STAT_WIDTH width)) 1)) ∧
  (∀ s, pcieRuns s = true → exec .perst s = .next (msixReset (configReset (linkDown s)))) ∧
  (∀ s, exec .pf1Flr s = .next s) ∧
  (∀ s, pcieRuns s = true → s.bit Reg.HIF_STAT_LINK_UP = true → s.dmaOk = false →
    ∃ u, u = hifShow s (fun s => s.putB Reg.HIF_STAT_BME true) ∧
      exec .dmaPermitted s = .next ((List.range 72).foldl releaseVector { u with hif := { u.hif with d3hot := false } })) ∧
  (∀ (e : Fin 32) a s, pcieRuns s = true → e.val ≤ 19 → runAbort s 0 e 0 0 = some a →
    ∃ u, u = abortDone a 0 0 1 ∧ exec (.hifAbortEngine e) s = .next (((((u.putSatU Reg.HIF_ABORT_RES_DESCS a.ended).putSatU
      Reg.HIF_ABORT_RES_DROPPED a.dropped).putB Reg.HIF_ABORT_STAT_ERR false).publish Reg.HIF_ABORT_STAT_VALID
        Reg.HIF_ABORT_STAT_SEQ).fire 64)) ∧
  (∀ (r : Fin 64) a s, pcieRuns s = true → s.get (Reg.HR_CFG_TYPE r) ≠ 1 → runAbort s 2 0 r 0 = some a →
    ∃ u, u = abortDone a 2 r 1 ∧ exec (.hifAbortRing r) s = .next (((((u.putSatU Reg.HIF_ABORT_RES_DESCS a.ended).putSatU
      Reg.HIF_ABORT_RES_DROPPED a.dropped).putB Reg.HIF_ABORT_STAT_ERR false).publish Reg.HIF_ABORT_STAT_VALID
        Reg.HIF_ABORT_STAT_SEQ).fire 64)) ∧
  (∀ (k : Fin 2) s, bitOf s.sys.engReset (18 + k) = true → s.tb.running = true → supervisorsDown s = false →
    exec (.supervisorRejoin k) s =
      .next (windowEvent (s.setSys (fun y => { y with engReset := setBit y.engReset (18 + k) false })) 2 k 100000))

/-- The commands of the host interface, accepted and due. NOP changes nothing (R412). MODE_SET enters SETUP and RECOVERY from SERVICE, and
SERVICE from RECOVERY when nothing refuses it (R413). RING_SET stores the settings of a DISABLED ring (R414). LONG_CTL asks a running long
operation to suspend (R416). ABORT carries out its abort and returns the counts (R419). -/
def Obligations.HostCommandsAct : Prop :=
  (∀ s d, Accepts nopOp s d → exec (.nop d) s = .next (finishDesc (taken s d) (takenAs s d 0) St.ok [])) ∧
  (∀ s d, Accepts modeSetOp s d → d.u8 16 = 1 → (taken s d).mode = .service →
    exec (.modeSet d) s = .next (finishDesc (enterSetup (taken s d) 2 d.tag.toNat) (takenAs s d 1) St.ok [])) ∧
  (∀ s d, Accepts modeSetOp s d → d.u8 16 = 3 → (taken s d).mode = .service →
    exec (.modeSet d) s = .next (finishDesc (enterRecovery (taken s d) 2 d.tag.toNat) (takenAs s d 1) St.ok [])) ∧
  (∀ s d, Accepts modeSetOp s d → d.u8 16 = 2 → (taken s d).mode = .recovery → (taken s d).bit Reg.GEN_MODE_ROM_REC = false →
    refuseBits (taken s d) = 0 →
    exec (.modeSet d) s = .next (finishDesc (enterService (taken s d) 2 d.tag.toNat) (takenAs s d 1) St.ok [])) ∧
  (∀ s d, Accepts ringSetOp s d → ringState (taken s d) (d.u8 16) = 0 →
    ∃ u, u = storeMasked (taken s d) d (d.u16 18) (ringAddrs (d.u8 16)) ∧
      exec (.ringSet d) s = .next (finishDesc (if bitOf (d.u16 18) 2 then ringStored u (d.u8 16) else u) (takenAs s d 4) St.ok [])) ∧
  (∀ s d l, Accepts longCtlOp s d → d.u8 19 = 0 → longFor (taken s d) d = some l → l.suspended = false → l.opcode ≠ 0x0010 →
    exec (.longCtl d) s = .next (updateLong (finishDesc (taken s d) (takenAs s d 3) St.ok []) { l with suspReq := true })) ∧
  (∀ s d a, s.mode ≠ .boot → s.mode ≠ .test → d.flags.toNat < 64 → d.byte3 = 0 → modeAccepts (taken s d).mode 2 = true →
    abortBad (taken s d) d = false → runAbort (taken s d) (d.u8 16) (d.u8 18) (d.u8 20) (d.u32 24) = some a →
    exec (.abort d) s = .next (finishDesc (abortDone a (d.u8 16) (d.u8 20) 0) (takenAs s d 2) St.ok
      (leBytes 4 (satU 32 a.dropped) ++ leBytes 2 (satU 16 a.ended) ++ leBytes 1 a.engine)))

/-- The SMBus health view. A read of command code 0 to 9 is answered from the snapshot of that code, and not at all in TEST (R426). SMB_ARBITER
takes the arbiter's decision, 0xFF for a code above 1 (R514). SMB_ALERT_MASK_READ and SMB_ALERT_MASK_WRITE read and write ALERT_MASK;
SMB_ALERT_RESPONSE gives the target's address while an unmasked condition holds, and acknowledges it (R427). -/
def Obligations.SmbusActs : Prop :=
  (∀ s, exec .smbIdent s = .next (smbRead s 0) ∧ exec .smbStatus s = .next (smbRead s 1) ∧ exec .smbGloss s = .next (smbRead s 2) ∧
    exec .smbTime s = .next (smbRead s 3) ∧ exec .smbTemp s = .next (smbRead s 4) ∧ exec .smbPower s = .next (smbRead s 5) ∧
    exec .smbFirstFault s = .next (smbRead s 6) ∧ exec .smbMargin s = .next (smbRead s 7) ∧ exec .smbPorts s = .next (smbRead s 8) ∧
    exec .smbPair s = .next (smbRead s 9)) ∧
  (∀ s c, s.mode = .test → smbRead s c = smbAnswer s none) ∧
  (∀ s c, s.mode ≠ .test → s.sys.snap.get (fun _ => []) c ≠ [] → smbRead s c = smbAnswer s (some (s.sys.snap.get (fun _ => []) c))) ∧
  (∀ s (v : Byte), s.mode ≠ .test → exec (.smbArbiter v) s = .next (showPair (smbAnswer (s.setCnj (fun c => { c with
    arbSmb := if v.toNat < 2 then v.toNat else 0xFF })) (some [])))) ∧
  (∀ s, s.mode ≠ .test → exec .smbAlertMaskRead s = .next (smbAnswer s (some (leBytes 1 s.sys.alertMask)))) ∧
  (∀ s (v : Byte), s.mode ≠ .test → exec (.smbAlertMaskWrite v) s =
    .next (smbAnswer (s.setSys (fun y => { y with alertMask := v.toNat % 16 })) (some []))) ∧
  (∀ s, s.mode ≠ .test → s.sys.alert &&& s.sys.alertMask ≠ 0 → exec .smbAlertResponse s = .next (smbAnswer (s.setSys (fun y => { y with
    alert := y.alert &&& (15 - y.alertMask) })) (some (leBytes 1 (0x58 + s.get Reg.GEN_STRAP_ADDR_SEL)))))

/-- Events of the fabric and the planner. FABRIC_TRANSFER inside a 512-byte block errs DECODE with no target, PERM without the right, HOST
without DMA, waits at a target locked by another master, and is granted otherwise (R434, R437). LOCK_TIMEOUT breaks a lock after LOCK_TMO
(R437). RESULT_LANDING adds a result and its LAND_MAX, or drains the buffer (R440). SCRUB_READ checks a word (R443). SPEED_WINDOW closes the
window at a millisecond (R445). PLANNER_EVALUATE raises the voltage by a step when S_meas is below S_TGT, and checks S_need at VFAB_MAX (R450,
R452); AVS_READBACK publishes a good reading (R451); MARGIN_REPLAN recomputes the four classes (R453); TREND_UPDATE takes the hour's S_corr (R455);
SWEEP_DONE stores the margins found and ends the sweep with its last monitor (R457). -/
def Obligations.FabricEventsAct : Prop :=
  (∀ (m : Fin 23) (a : Word64) (acc : Fin 8) (n : Fin 16) b x (sym : Fin 33) done s, a.toNat % 512 + 32 * (n + 1) ≤ 512 →
    ∃ q u, q = (⟨((fabTarget s m a.toNat).map Target.num).getD 8, m, a.toNat, acc, n + 1,
        b.map (fun b => (b.1.toNat, b.2.toNat)), x.map (fun w => w.toNat), sym⟩ : FabReq) ∧
      u = checkAt (clearAnswers s) 0x1B (fabTarget (clearAnswers s) m a.toNat).isNone a.toNat m acc 0 ∧
      (fabTarget u m a.toNat = none →
        exec (.fabricTransfer m a acc n b x sym done) s = .next (respond (u.setFlag Flag.FAB_ACCESS_ERR) m 1 (transfer.poison q))) ∧
      ∀ t, fabTarget u m a.toNat = some t →
        ((if isWrite acc then mayWrite m t else mayRead m t) = false → exec (.fabricTransfer m a acc n b x sym done) s =
          .next (respond (checkAt (u.setFlag Flag.FAB_ACCESS_ERR) 0x1C true a.toNat m acc 0) m 2 (transfer.poison q))) ∧
        ((if isWrite acc then mayWrite m t else mayRead m t) = true →
          (t = .t7 → acc ≠ 3 → u.dmaOk = false → exec (.fabricTransfer m a acc n b x sym done) s =
            .next (respond (u.bumpSat Reg.FAB_HOST_ERR_COUNT 1) m 4 (transfer.poison q))) ∧
          (t ≠ .t7 → acc ≠ 3 → acc ≠ 4 → lockOn u t.num = none →
            exec (.fabricTransfer m a acc n b x sym done) s = .next (grantBurst u t q done)) ∧
          (∀ h, t ≠ .t7 → acc ≠ 3 → acc ≠ 4 → lockOn u t.num = some h → h ≠ m → exec (.fabricTransfer m a acc n b x sym done) s =
            .next { u with fab := { u.fab with waiting := u.fab.waiting ++ [q] } }))) ∧
  (∀ (t : Fin 8) m s, lockOn s t = some m → (s.fab.locks.get (fun _ => (0, 0, 0)) t).2.1 + s.get Reg.FAB_CFG_LOCK_TMO * 1000 ≤ s.tb.ao →
    ∃ v u, v = unlock (clearAnswers s) t ∧ u = { v with fab := { v.fab with broken := (t.val, m) :: v.fab.broken } } ∧
      exec (.lockTimeout t) s = .next (freeTarget (checkAt (u.setFlag Flag.FAB_LOCK_TMO) 0x1D true (lockAddr s t) m 3 0) t)) ∧
  (∀ (m : Fin 20) (k : Fin 3) s, (settleLanding s).fab.landing.length < 20 →
    ∃ v l u, v = settleLanding s ∧ l = v.fab.landing ++ [(s.tb.cyc, m.val, k.val)] ∧ u = { v with fab := { v.fab with landing := l } } ∧
      (u.get Reg.FAB_STAT_LAND_MAX < l.length → exec (.resultLanding (some (m, k))) s =
        .next ((u.put Reg.FAB_STAT_LAND_MAX l.length).publish Reg.FAB_STAT_VALID Reg.FAB_STAT_SEQ)) ∧
      (l.length ≤ u.get Reg.FAB_STAT_LAND_MAX → exec (.resultLanding (some (m, k))) s = .next u)) ∧
  (∀ s, exec (.resultLanding none) s = .next (settleLanding s)) ∧
  (∀ (mem : Fin 6) (a : BitVec 64) (sym : Fin 33) s, s.bit Reg.FAB_CFG_SCRUB_EN = true → exec (.scrubRead mem a sym) s =
    .next (eccRead s mem a.toNat (max sym (s.fab.bad.get (fun _ => 0) (a.toNat / 32))) 0xFF 1)) ∧
  (∀ n ro tj power s, s.atMs = true → s.mode ≠ .test →
    ∃ t, exec (.speedWindow n ro tj power) s = .next t ∧ t.fab.lowerDue = false ∧ t.tb = s.tb) ∧
  (∀ s, plannerRuns s = true → s.reached (100 * msU) 0 = true →
    ∃ top, top = s.get Reg.PWR_VLIM_VFAB_MAX ∧ ∀ r u v low, u = showVmax r →
      low = (u.bit Reg.FAB_PLAN_STAT_AT_VMAX && decide (sMeas u < sNeed u)) → v = check u 0x20 (low && !u.fab.lowSeen) →
      (tracks s = false → r = s → exec .plannerEvaluate s = .next { v with fab := { v.fab with lowSeen := low } }) ∧
      (tracks s = true → s.fab.lastStep = none → vCmd s < top → sMeas s * 100 < s.get Reg.FAB_PLAN_CFG_S_TGT * 16384 →
        r = avsStep s (min top (vCmd s + s.get Reg.PWR_AVS_CFG_STEP)) →
        exec .plannerEvaluate s = .next { v with fab := { v.fab with lowSeen := low } })) ∧
  (∀ (v : BitVec 10) (i : BitVec 16) s, s.mode ≠ .test → bitOf s.sys.engReset 19 = false → s.fab.stepStop = false →
    vCmd s ≤ v.toNat + 10 → v.toNat ≤ vCmd s + 10 →
    ∃ u, u = (s.put Reg.PWR_AVS_RD_VREAD v.toNat).put Reg.PWR_AVS_RD_IREAD i.toNat ∧ (vCmd u = vCmd s → u.flt.inj = none →
      exec (.avsReadback v i false true) s =
        .next ((u.putB Reg.PWR_AVS_STAT_AVS_OK true).publish Reg.PWR_AVS_STAT_VALID Reg.PWR_AVS_STAT_SEQ))) ∧
  (∀ s, plannerRuns s = true → s.mode ≠ .recovery → exec .marginReplan s =
    .next (((List.range 4).foldl replanClass s).publish Reg.FAB_PLAN_STAT_VALID Reg.FAB_PLAN_STAT_SEQ)) ∧
  (∀ t0 s, s.fab.firstService = some t0 → plannerRuns s = true → s.reached (3600 * secU) 0 = true → s.fab.corrN = 0 →
    ∃ t, exec .trendUpdate s = .next t ∧ t.fab.corrN = 1 ∧ t.fab.corrSum = s.fab.corrSum + sCorr s ∧ t.fab.corrDay = (tbSec s.tbU - t0) / 86400) ∧
  (∀ mus l s, longOp s 0x02B0 0 = some l → l.suspended = false →
    ∃ u v, u = ((s.fab.sweepLeft.take mus.length).zip mus).foldl (fun s p => sweepOne s p.1 p.2.toNat) s ∧
      v = { u with fab := { u.fab with sweepLeft := u.fab.sweepLeft.drop mus.length } } ∧
      (v.fab.sweepLeft = [] → exec (.sweepDone mus) s = .next (endLong (journalSweep v St.ok) l St.ok (sweepResult v))) ∧
      (v.fab.sweepLeft ≠ [] → l.cancelReq = false → l.suspReq = false → exec (.sweepDone mus) s = .next v))

/-- The commands of the margin unit and SYN_SET, accepted and due. MARGIN_SWEEP starts a sweep of the monitors it names, all for 0 (R457).
FAB_SET stores its words, but VFAB_BOOT, with VFAB_MIN no higher than VFAB_MAX (R459). MARGIN_REPORT writes its report to the host, or counts a
host error while DMA is not permitted (R460). SYN_SET of DPLL2 and DPLL3 and of an output stores its settings (R223). -/
def Obligations.MarginCommandsAct : Prop :=
  (∀ s d, Accepts marginSweepOp s d → longOp (taken s d) 0x02B0 0 = none →
    ∃ l, l = (List.range 64).filter (fun k => d.u64 16 = 0 || bitOf (d.u64 16) k) ∧
      exec (.marginSweep d) s = .next (startLong { taken s d with fab := { (taken s d).fab with
        sweepLeft := l, sweepLow := none, sweepN := 0 } } (takenAs s d 0x02B0) 0)) ∧
  (∀ s d, Accepts fabSetOp s d → bitOf (d.u16 18) 4 = false → exec (.fabSet d) s = .next (finishDesc (showVmax (normVlim
    ((storeMasked (taken s d) d (fabMask d) fabSetAddrs).put Reg.PWR_AVS_CFG_VFAB_BOOT ((taken s d).get Reg.PWR_AVS_CFG_VFAB_BOOT))))
      (takenAs s d 0x02B1) St.ok [])) ∧
  (∀ s d, Accepts marginReportOp s d →
    ∃ h, h = (taken s d).hif.host.set (fun _ => []) (d.u64 16) (marginReportBytes (taken s d)) ∧
      ((taken s d).dmaOk = true → exec (.marginReport d) s =
        .next (finishDesc { taken s d with hif := { (taken s d).hif with host := h } } (takenAs s d 0x02B2) St.ok [])) ∧
      ((taken s d).dmaOk = false → exec (.marginReport d) s =
        .next (finishDesc ((taken s d).bumpSat Reg.FAB_HOST_ERR_COUNT 1) (takenAs s d 0x02B2) St.ok []))) ∧
  (∀ s d, Accepts synSetOp s d → d.u8 16 = 2 ∨ d.u8 16 = 3 → exec (.synSet d) s = .next (finishDesc
    (dpllStored (taken s d) (storeMasked (taken s d) d (d.u16 18) (dpllAddrs (d.u8 16))) (d.u8 16)) (takenAs s d 0x0250) St.ok [])) ∧
  (∀ s d, Accepts synSetOp s d → 16 ≤ d.u8 16 → d.u8 16 < 28 → exec (.synSet d) s =
    .next (synSetOut (taken s d) (takenAs s d 0x0250) (d.u8 16 - 16)))

/-- Events and windows of observation. SAMPLE_CAPTURE counts instructions down, and captures a computing engine at zero (R533).
BANDWIDTH_WINDOW shows the octets and the rates of the window it closes (R530). TRACE_FRAME_TX, TRACE_DMA and OBS_TRC_FIFO_READ give the oldest
record to the port, to its ring and to the FIFO window (R541, R542). OBS_JRNL_WADDR and OBS_SMP_WADDR latch a record and a sample into their
windows, or set ERR (R538). OBS_PC_SNAP and OBS_PC_FREEZE act in SETUP (R528). PF1_PAGE_READ answers a page granted, and all ones with the denial
counted for another (R532). JOURNAL_EXPORT_BURST copies records and ends the export at its end (R546). -/
def Obligations.ObservationActs : Prop :=
  (∀ (e : Fin 16) (n : BitVec 24) c w a i l t s, ∃ u, u = s.perf 0x020 e (n.toNat + 1) ∧
    (u.bit Reg.OBS_SMP_CFG_EN = false → exec (.sampleCapture e n c w a i l t) s = .next u)) ∧
  (∀ (e : Fin 16) (n : BitVec 24) c (w : Fin 5) a i l t s, w = 0 →
    ∃ u, u = s.perf 0x020 e (n.toNat + 1) ∧ (u.bit Reg.OBS_SMP_CFG_EN = true → u.mapBit Reg.OBS_SMP_CFG_MASK e = true →
      bitOf u.sys.engReset e = false →
      (n.toNat + 1 < u.obs.countdown.get (fun _ => 0) e → ∃ m, m = u.obs.countdown.set (fun _ => 0) e
          (u.obs.countdown.get (fun _ => 0) e - (n.toNat + 1)) ∧
        exec (.sampleCapture e n c w a i l t) s = .next { u with obs := { u.obs with countdown := m } }) ∧
      (u.obs.countdown.get (fun _ => 0) e ≤ n.toNat + 1 → exec (.sampleCapture e n c w a i l t) s = .next (loadCountdown
        (enterSample u ⟨u.nowShort, e, c, u.get (Reg.CLA_ENG_MAP_ROLE (e.val / 8)) / 2 ^ (4 * (e.val % 8)) % 16, w, a.toNat, i.toNat,
          l.toNat, 0xFF, u.jr.cseq⟩).commitMark e)))) ∧
  (∀ (p : Fin 8) s, s.reached (s.obs.bwWin.get (fun _ => 100) p * msU) 0 = true →
    ∀ win rx tx drx dtx u v, win = s.obs.bwWin.get (fun _ => 100) p → rx = s.getPair (Reg.MAC_CNT_LO_CNT p 0) (Reg.MAC_CNT_HI_CNT p 0) →
      tx = s.getPair (Reg.MAC_CNT_LO_CNT p 26) (Reg.MAC_CNT_HI_CNT p 26) → drx = (rx + 2 ^ 48 - s.obs.bwRx.get (fun _ => 0) p) % 2 ^ 48 →
      dtx = (tx + 2 ^ 48 - s.obs.bwTx.get (fun _ => 0) p) % 2 ^ 48 →
      u = (((s.putPair (Reg.BW_RXO_LO_RX_OCT p) (Reg.BW_RXO_HI_RX_OCT p) drx).putPair (Reg.BW_TXO_LO_TX_OCT p) (Reg.BW_TXO_HI_TX_OCT p) dtx).put
        (Reg.BW_RXR_RATE p) (drx * 8 / (win * 1000))).put (Reg.BW_TXR_RATE p) (dtx * 8 / (win * 1000)) →
      v = ((u.put (Reg.BW_END_NS p) (tbNs u.tbU)).putB (Reg.BW_STAT_SHORT p)
        (decide (s.freeNs - s.obs.winStart.get (fun _ => 0) p < win * 1000000))).publish (Reg.BW_STAT_VALID p) (Reg.BW_STAT_SEQ p) →
      exec (.bandwidthWindow p) s = .next { v with obs := { v.obs with
        bwRx := v.obs.bwRx.set (fun _ => 0) p rx, bwTx := v.obs.bwTx.set (fun _ => 0) p tx,
        winStart := v.obs.winStart.set (fun _ => 0) p v.freeNs, bwWin := v.obs.bwWin.set (fun _ => 100) p (v.get Reg.OBS_BW_CFG_WIN) } }) ∧
  (∀ r s, s.bit Reg.OBS_TRC_CFG_PORT = true → s.mode ≠ .boot → s.mode ≠ .test → s.obs.staged.find? (fun r => !r.port) = some r →
    ∃ b f, b = r.item.bytes s ∧ f = [0xA5, 0x5A] ++ b ++ leBytes 1 (crc16 b / 256) ++ leBytes 1 (crc16 b % 256) ∧
      exec .traceFrameTx s = .next (freeStaged { s with obs := { s.obs with
        portFrame := f, staged := markFirst (fun r => !r.port) (fun r => { r with port := true }) s.obs.staged } })) ∧
  (∀ x r s, r = s.get Reg.OBS_TRC_CFG_RING → s.bit Reg.OBS_TRC_CFG_RING_EN = true → ringState s r = 1 → s.get (Reg.HR_CFG_TYPE r) = 5 →
    s.dmaOk = true → ringUsed s r < ringSize s r → s.obs.staged.find? (fun r => !r.ring) = some x →
    ∃ u, u = writeEntry s r (.trace x.item) false ∧ exec .traceDma s = .next (freeStaged { u with obs := { u.obs with
      staged := markFirst (fun r => !r.ring) (fun r => { r with ring := true }) u.obs.staged } })) ∧
  (∀ x s, s.mode ≠ .test → s.bit Reg.OBS_TRC_CFG_WIN = true → s.obs.staged.find? (fun r => !r.win) = some x →
    ∃ u, u = answerRead s (leNat (x.item.bytes s) (4 * x.words) 4) ∧ exec .obsTrcFifoRead s = .next (freeStaged { u with obs := { u.obs with
      staged := markFirst (fun r => !r.win) (fun r => { r with words := r.words + 1, win := 15 ≤ r.words }) u.obs.staged } })) ∧
  (∀ s, s.mode ≠ .test → s.bit Reg.OBS_TRC_CFG_WIN = false → exec .obsTrcFifoRead s = .next (answerRead s 0)) ∧
  (∀ (j : Word) s, s.mode ≠ .test →
    ∃ u ok b, u = s.put Reg.OBS_JRNL_WADDR_JIDX j.toNat ∧ ok = jrnlRetained u j.toNat ∧ b = (if ok then (jrnlSlot u j.toNat).item.bytes else []) ∧
      exec (.obsJrnlWaddr j) s = .next ((List.range 8).foldl (fun s k => s.put (Reg.OBS_JRNL_WDATA_DATA k) (leNat b (4 * k) 4))
        ((u.putB Reg.OBS_JRNL_WSTAT_VALID ok).putB Reg.OBS_JRNL_WSTAT_ERR (!ok)))) ∧
  (∀ (i : BitVec 12) s, s.mode ≠ .test →
    ∃ u ok b, u = s.put Reg.OBS_SMP_WADDR_INDEX i.toNat ∧ ok = decide (i.toNat < u.get Reg.OBS_SMP_HEAD_HEAD) ∧
      b = (if ok then (u.obs.samples.get (fun _ => Sample.zero) i.toNat).bytes else []) ∧
      exec (.obsSmpWaddr i) s = .next ((List.range 8).foldl (fun s k => s.put (Reg.OBS_SMP_WDATA_DATA k) (leNat b (4 * k) 4))
        ((u.putB Reg.OBS_SMP_WSTAT_VALID ok).putB Reg.OBS_SMP_WSTAT_ERR (!ok)))) ∧
  (∀ s, s.mode = .setup → exec .obsPcSnap s = .next (takeSnapshot s)) ∧
  (∀ s b, s.mode = .setup → exec (.obsPcFreeze b) s = .next (setFreeze s b)) ∧
  (∀ (p w : Fin 1024) s, s.mode ≠ .test → p.val ≤ 136 →
    (s.mode = .boot → exec (.pf1PageRead p w) s =
      .next (answerRead ((s.bumpSat Reg.OBS_PF1_DENY_DENY 1).setFlag Flag.OBS_PF1_DENY) 0xFFFFFFFF)) ∧
    (s.mode ≠ .boot → s.obs.grantAt ≠ some s.tb.cyc →
      (s.mapBit (Reg.OBS_GRANT_GRANT (p.val / 32)) (p.val % 32) = true →
        exec (.pf1PageRead p w) s = .next (answerRead s (pageWord s p (4 * w)))) ∧
      (s.mapBit (Reg.OBS_GRANT_GRANT (p.val / 32)) (p.val % 32) = false → exec (.pf1PageRead p w) s =
        .next (answerRead ((s.bumpSat Reg.OBS_PF1_DENY_DENY 1).setFlag Flag.OBS_PF1_DENY) 0xFFFFFFFF)))) ∧
  (∀ (n : Fin 16) l e s, longOp s 0x02E0 0 = some l → s.obs.exp = some e → l.suspended = false → s.dmaOk = true →
    ∀ u x v, exportBurst (n + 1) s e = (u, x) → v = { u with obs := { u.obs with exp := some x } } →
      (exportAtEnd v x = true → exec (.journalExportBurst n) s = .next (endLong { v with obs := { v.obs with exp := none } } l
        (if x.copied = l.d.u32 28 && !x.skipped then St.ok else St.partialDone) x.result)) ∧
      (exportAtEnd v x = false → l.cancelReq = false → l.suspReq = false → exec (.journalExportBurst n) s = .next v))

/-- The commands of observation, accepted and due. OBS_SET of a counter's event stores it, and OBS_SET of 0xFFFF the settings its mask selects
(R543). OBS_SNAP takes a snapshot with KIND 0, freezes with 1 and lets go with another (R544). OBS_GRANT stores the five words of grants (R545).
JOURNAL_EXPORT from a retained record starts the export (R546). -/
def Obligations.ObservationCommandsAct : Prop :=
  (∀ s d, Accepts obsSetOp s d → d.u16 16 < 1024 → d.u16 18 = 1 → exec (.obsSet d) s = .next (finishDesc
    (changePc (taken s d) (d.u16 16) (fun s => s.storeWord (0x161000 + 0x10 * d.u16 16) (d.u32 20))) (takenAs s d 0x02E1) St.ok [])) ∧
  (∀ s d, Accepts obsSetOp s d → d.u16 16 = 0xFFFF → bitOf (d.u16 18) 4 = false → exec (.obsSet d) s = .next (finishDesc
    ((List.range 6).foldl (fun s k => if bitOf (d.u16 18) k then s.storeWord (obsSetAddrs.getD k 0) (maskedValue d (d.u16 18) k) else s)
      (taken s d)) (takenAs s d 0x02E1) St.ok [])) ∧
  (∀ s d, Accepts obsSnapOp s d → d.u8 16 = 0 → ∃ u, u = takeSnapshot (taken s d) ∧
    exec (.obsSnap d) s = .next (finishDesc u (takenAs s d 0x02E2) St.ok (leBytes 1 (u.get Reg.OBS_SNAP_STAT_SEQ)))) ∧
  (∀ s d, Accepts obsSnapOp s d → d.u8 16 ≠ 0 →
    exec (.obsSnap d) s = .next (finishDesc (setFreeze (taken s d) (d.u8 16 = 1)) (takenAs s d 0x02E2) St.ok [])) ∧
  (∀ s d, Accepts obsGrantOp s d → exec (.obsGrant d) s = .next (finishDesc ((List.range 5).foldl (fun s k =>
    storeGrant s k (d.u32 (16 + 4 * k))) (noteGrants (taken s d))) (takenAs s d 0x02E3) St.ok [])) ∧
  (∀ s d, Accepts journalExportOp s d → longOp (taken s d) 0x02E0 0 = none → jrnlRetained (taken s d) (d.u32 24) = true →
    ∃ e, e = Export.mk (d.u32 24) ((d.u32 24 + d.u32 28) % 2 ^ 32) none 0 (d.u64 16) false ∧
      exec (.journalExport d) s = .next (startLong { taken s d with obs := { (taken s d).obs with exp := some e } } (takenAs s d 0x02E0) 0))

/-- Faults. FAULT_EVENT delivers a checker's failed comparison (R467); FAULT_DECISION decides the events that have settled, stamp by stamp (R468).
SAFE_STATE_ASSERT takes every unit down, enters SAFE and journals it at D (R479). SUPPRESSION_WINDOW_CLOSE drops the window that ends and keeps
another (R476). ENG_WDOG, SUPPLY_EXCURSION, TJ_CRIT and XO_SAFE_LOSS report their source. INJECT_TIMEOUT withdraws an injection that met no
comparison within 1 s (R482). -/
def Obligations.FaultEventsAct : Prop :=
  (∀ (src : Byte) (a : BitVec 64) (m : Byte) (acc : Fin 8) (i : BitVec 32) s, srcValid src.toNat ≠ 0 →
    exec (.faultEvent src a m acc i) s = .next (checkAt s src.toNat true a.toNat m.toNat acc i.toNat)) ∧
  (∀ e l s, s.flt.events.filter (fun e => e.ao + 200 ≤ s.tb.ao) = e :: l →
    ∃ u, u = decideAll (l.length + 1) { s with flt := { s.flt with events := s.flt.events.filter (fun e => !(e.ao + 200 ≤ s.tb.ao)) } } (e :: l) ∧
      exec .faultDecision s = .next ((u.putB Reg.FLT_STAT_SETTLING (u.flt.events != [])).publish Reg.FLT_STAT_VALID Reg.FLT_STAT_SEQ)) ∧
  (∀ n s, s.flt.net = some n → s.bit Reg.FLT_STAT_SAFE = false → s.sys.inReset = false →
    ∃ u v, u = claLeave (tsuLeave (pairSafe (plsSafe (outsSafe (safeWindow ((s.putB Reg.FLT_STAT_SAFE true).publish
        Reg.FLT_STAT_VALID Reg.FLT_STAT_SEQ))))) 7) ∧
      v = denyWaiting (putMode (endOps (dropDisturbs u) (fun l => l.opcode != 0x02E0) St.cancelled) .safe 3 0 n.stamp) ∧
      exec .safeStateAssert s = .next (alertOn (notice (v.journalAt n.stamp 3 0x0014 0x1402 (leBytes 1 n.src ++ leBytes 1 n.cls ++
        leBytes 1 (b2n (decide (role s = 2) || decide (role s = 3))) ++ leBytes 1 0 ++ leBytes 4 (satU 32 (n.dAo - n.detAo))))
          n.src n.cls 0 (n.stamp / 2 ^ 32 * secU + n.stamp % 2 ^ 32 * 65536)) 0)) ∧
  (∀ w s, s.flt.wins = [w] → (∀ t, w.closes = some t → s.tb.ao < t) → exec .suppressionWindowClose s = .next s) ∧
  (∀ w t s, s.flt.wins = [w] → w.closes = some t → t ≤ s.tb.ao →
    exec .suppressionWindowClose s = .next (showWins { s with flt := { s.flt with wins := [] } } w.dets)) ∧
  (∀ (e : Fin 20) (pc : BitVec 64) s, bitOf s.sys.engReset e = false →
    exec (.engWdog e pc) s = .next (checkAt s (0x60 + e) true 0 e 0 (pc.toNat % 2 ^ 32))) ∧
  (∀ (r : Fin 6) (mv : BitVec 16) s, mv.toNat < (railLimits r).1 ∨ (railLimits r).2 < mv.toNat →
    exec (.supplyExcursion r mv) s = .next (check s 0x81 true)) ∧
  (∀ s, exec .tjCrit s = .next (check s 0x80 true)) ∧
  (∀ s, exec .xoSafeLoss s = .next (check (s.setSys (fun y => { y with ring := true })) 0x02 true)) ∧
  (∀ j s, s.flt.inj = some j → j.since + 1000000000 ≤ s.freeNs → ¬(0x21 ≤ j.src ∧ j.src ≤ 0x26) →
    ∃ l, l = s.hif.opens.filter (fun o => o.opcode != 0x02C1) ∧ exec .injectTimeout s = .next
      ((s.hif.opens.filter (fun o => o.opcode = 0x02C1)).foldl (fun s o => completeDesc s o.d St.busy false 0 [])
        { s with flt := { s.flt with inj := none }, hif := { s.hif with opens := l } }))

/-- The commands of the fault collector, accepted and due. FLT_SET stores the global word or a source's (R484). FLT_INJECT of a source other than
the memories' arms its injection (R485). FLT_SAFE reports HOST_SAFE after its own completion (R486). -/
def Obligations.FaultCommandsAct : Prop :=
  (∀ s d, Accepts fltSetOp s d → d.u16 16 = 0xFFFF → bitOf (d.u16 18) 0 = true →
    exec (.fltSet d) s = .next (finishDesc ((taken s d).storeWord 0x140000 (d.u32 20)) (takenAs s d 0x02C0) St.ok [])) ∧
  (∀ s d, Accepts fltSetOp s d → d.u16 16 ≠ 0xFFFF → bitOf (d.u16 18) 0 = true → exec (.fltSet d) s =
    .next (finishDesc (showHist ((taken s d).storeWord (0x141000 + 0x10 * d.u16 16) (d.u32 20)) (d.u16 16)) (takenAs s d 0x02C0) St.ok [])) ∧
  (∀ s d, Accepts fltInjectOp s d → (taken s d).flt.inj = none → bitOf (d.u8 17) 0 = false → ¬(0x21 ≤ d.u8 16 ∧ d.u8 16 ≤ 0x26) →
    ∃ j, j = Inj.mk (d.u8 16) (d.u64 20) false (taken s d).freeNs ∧ exec (.fltInject d) s =
      .next (openDesc { taken s d with flt := { (taken s d).flt with inj := some j } } (takenAs s d 0x02C1) (d.u8 16))) ∧
  (∀ s d, Accepts fltSafeOp s d →
    exec (.fltSafe d) s = .next (check (finishDesc (taken s d) (takenAs s d 0x02C2) St.ok []) 0x82 true))

/-- Link frames and presence. HEARTBEAT_TX and IDENT_TX send their frames at their intervals (R494). HEARTBEAT_RX and IDENT_RX act on the
first copy of a frame and take only CSEQ and the lane's liveness from a further one (R492); IDENT_RX compares the peer's digest (R506). An IDENT
that differs ends the joining in MISMATCH and journals it, an equal one in PAIRED (R498). HB_IN_EDGE makes the peer present at the 16th edge in
spacing, and PEER_ABSENCE_TIMEOUT makes it absent after silence (R496). LINK_VIOLATION counts, LANE_RESTART takes the synchronisation of a lane
with too many (R495). LANE_SYNC_CHANGE and LINK_HEARTBEAT_TIMEOUT show the lane. -/
def Obligations.PairLinkActs : Prop :=
  (∀ s, pairRuns s = true → since s s.cnj.hbTx 1000 = true →
    ∃ h, h = HbPay.mk (s.get Reg.GEN_STRAP_UNIT_ID) (s.get Reg.GEN_MODE_MODE) (role s) (pstate s) (hbFlags s) (tsState s) ∧
      exec .heartbeatTx s = .next ((sendFrame s (.heartbeat h)).setCnj (fun c => { c with hbTx := some s.freeNs, hbOut := !c.hbOut }))) ∧
  (∀ (l : Fin 2) (h : LinkHdr) p s, laneTakes s l = true → h.lane = l → s.bit (Reg.CNJ_LSTAT_CROSSED l) = false →
    ∃ a b, a = (takeCseq s h.cseq.toNat).putB (Reg.CNJ_LSTAT_CROSSED l) false ∧
      b = showLane (a.setCl l { a.cl l with hbAt := some a.freeNs }) l ∧
      (h.fseq.toNat ∈ b.cnj.seen → exec (.heartbeatRx l h p) s = .next (showPair b)) ∧
      (h.fseq.toNat ∉ b.cnj.seen → exec (.heartbeatRx l h p) s = .next (showPair (takeHeartbeat
        (b.setCnj (fun c => { c with seen := (h.fseq.toNat :: c.seen).take fseqKept })) p)))) ∧
  (∀ s, pairRuns s = true → s.cnj.hbIn = none → exec .hbInEdge s =
    .next (showPair (s.setCnj (fun c => { c with hbIn := some s.freeNs, hbInRun := 1 })))) ∧
  (∀ t s, pairRuns s = true → s.cnj.hbIn = some t → t + 900 ≤ s.freeNs → s.freeNs ≤ t + 1100 → 15 ≤ s.cnj.hbInRun →
    exec .hbInEdge s = .next (showPair (setPresent (s.setCnj (fun c => { c with hbIn := some s.freeNs, hbInRun := 16 })) true 0))) ∧
  (∀ s, pairRuns s = true → s.bit Reg.CNJ_STAT_PEER_PRESENT = true → peerSilent s = true →
    ∃ u, u = showLane (showLane (setPresent s false 3) 0) 1 ∧
      (2 ≤ pstate u → pstate u ≤ 4 → exec .peerAbsenceTimeout s = .next (showPair (enterSearch u 1))) ∧
      (pstate u < 2 ∨ 4 < pstate u → exec .peerAbsenceTimeout s = .next (showPair u))) ∧
  (∀ s, pairRuns s = true → since s s.cnj.identTx (if pstate s = 3 then 1000000000 else 100000000) = true →
    ∃ u p, u = showDigest s ∧
      p = IdentPay.mk 0x9600 0x20 (u.get Reg.GEN_STRAP_UNIT_ID) (u.get Reg.BOOT_STAT_RELEASE) (u.bit Reg.CNJ_CFG_Q58)
        (u.get Reg.CNJ_DIGEST_DIGEST) ∧
      exec .identTx s = .next ((sendFrame u (.ident p)).setCnj (fun c => { c with identTx := some u.freeNs }))) ∧
  (∀ (l : Fin 2) (h : LinkHdr) p s, laneTakes s l = true →
    (h.fseq.toNat ∈ s.cnj.seen → exec (.identRx l h p) s = .next (takeCseq s h.cseq.toNat)) ∧
    (h.fseq.toNat ∉ s.cnj.seen → ∃ u v w, u = s.setCnj (fun c => { c with seen := (h.fseq.toNat :: c.seen).take fseqKept }) ∧
      v = (if joinsNow u then joinPeer u p h.cseq.toNat else takeCseq u h.cseq.toNat) ∧
      w = showPair (compareDigest v (p.digest % 2 ^ 32)) ∧
      exec (.identRx l h p) s = .next (if w.tbLive then settle w else w))) ∧
  (∀ s p c, ∃ u, u = setPstate s 2 2 ∧ (identDiffers u p = none → joinPeer s p c = enterPaired u c) ∧
    (∀ k a b, identDiffers u p = some (k, a, b) → joinPeer s p c = ((setPstate (takeCseq u c) 5 2).setFlag Flag.CNJ_MISMATCH).journal
      2 0x0015 0x1504 (leBytes 1 k ++ leBytes 1 0 ++ leBytes 2 a ++ leBytes 2 b))) ∧
  (∀ (l : Fin 2) s, laneTakes s l = true →
    ∃ v, v = (s.freeNs :: recentVio s l).take 65535 ∧
      exec (.linkViolation l) s = .next ((s.setCl l { s.cl l with vio := v }).putSatU (Reg.CNJ_LSTAT_VIO_1S l) v.length)) ∧
  (∀ (l : Fin 2) s, laneTakes s l = true → s.get Reg.CNJ_LINK_VIO_MAX < (recentVio s l).length →
    ∃ u, u = check (journalLane (s.setFlag Flag.CNJ_RESYNC) l 2) 0x78 true ∧ exec (.laneRestart l) s =
      .next (showPair (showLane ((u.setCl l { u.cl l with vio := [], hbAt := none }).putB (Reg.CNJ_LSTAT_SYNC l) false) l))) ∧
  (∀ (l : Fin 2) sync s, pairRuns s = true →
    exec (.laneSyncChange l sync) s = .next (showPair (showLane (s.putB (Reg.CNJ_LSTAT_SYNC l) sync) l))) ∧
  (∀ (l : Fin 2) s, pairRuns s = true → hbFresh s l = false →
    ∃ u, u = showLane s l ∧ (pstate u ≠ 5 → exec (.linkHeartbeatTimeout l) s = .next (showPair u)) ∧
      (pstate u = 5 → u.bit Reg.CNJ_STAT_LINK_UP = false → u.cnj.downAt + 8000 ≤ u.freeNs →
        exec (.linkHeartbeatTimeout l) s = .next (showPair (enterSearch u 0))))

/-- Time transfer, keys and notices. EPOCH_MARKER_TX sends and stamps both lanes' markers with their STATE frames, EPOCH_MARKER_RX stamps the
peer's (R500). STATE_FRAME_RX outside PAIRED does nothing; in PAIRED it keeps the peer's values (R504), and the stamps of one epoch give the
lane's phase (R501). KEY_TX, KEY_RX, KEY_ACK_RX and KEY_ADOPTION carry the shared key to its boundary (R505). NOTICE_TX sends a notice, NOTICE_RX
journals its first copy as PEER_FAULT (R518). CLA_SEQKEY outside pair operation installs its key at once. -/
def Obligations.PairTransferActs : Prop :=
  (∀ t0 t1 s, exchanges s = true → s.atMs = true →
    ∃ z a b c d, z = (match openEpoch s with | some e => formPeer s e | none => s) ∧
      a = z.setCl 0 { z.cl 0 with sent := (markerStamp z t0 (linkUi z) :: (z.cl 0).sent).take 2 } ∧
      b = sendOn a 0 (.state (markerStamp z t0 (linkUi z)) ((z.cl 0).rcvd.headD 0) (ownState a)) ∧
      c = b.setCl 1 { b.cl 1 with sent := (markerStamp b t1 (linkUi b) :: (b.cl 1).sent).take 2 } ∧
      d = sendOn c 1 (.state (markerStamp b t1 (linkUi b)) ((b.cl 1).rcvd.headD 0) (ownState c)) ∧ exec (.epochMarkerTx t0 t1) s = .next d) ∧
  (∀ (l : Fin 2) (x : MarkerIn) s, laneTakes s l = true → exec (.epochMarkerRx l x) s =
    .next (s.setCl l { s.cl l with rcvd := (markerStamp s x.edge ((x.ui : Rat) / 65536) :: (s.cl l).rcvd).take 2 })) ∧
  (∀ (l : Fin 2) (h : LinkHdr) t3 t2 p s, laneTakes s l = true →
    (pstate (takeCseq s h.cseq.toNat) ≠ 3 → exec (.stateFrameRx l h t3 t2 p) s = .next (takeCseq s h.cseq.toNat)) ∧
    (pstate (takeCseq s h.cseq.toNat) = 3 → bitOf p.utc 0 = false → bitOf p.utc 1 = false → bitOf p.utc 2 = false →
      ∃ u, u = settle (notePeer (takeCseq s h.cseq.toNat) p) ∧
        (nearest (u.cl l).sent t2 = none → exec (.stateFrameRx l h t3 t2 p) s = .next u) ∧
        (∀ t1 t4, nearest (u.cl l).sent t2 = some t1 → nearest (u.cl l).rcvd t3 = some t4 → openEpoch u = none →
          exec (.stateFrameRx l h t3 t2 p) s = .next (exchanged u l (t3 / msU) (phiLane u l t1 t2 t3 t4))))) ∧
  (∀ k s, pairRuns s = true → pstate s = 3 → isUnitA s = true → s.cnj.keys.find? (keyDue s) = some k →
    ∃ i u, i = k.adopt.getD (boundaryAt (s.tbU + 2 * msU)) ∧ u = sendFrame s (.key k.key (shortOf i)) ∧
      exec .keyTx s = .next (u.setCnj (fun c =>
        { c with keys := mapFirstKey (keyDue s) (fun k => { k with adopt := some i, sentAt := some s.freeNs }) c.keys }))) ∧
  (∀ (l : Fin 2) (h : LinkHdr) (k : BitVec 128) (t : Word64) s, laneTakes s l = true →
    ∃ u v, u = takeCseq s h.cseq.toNat ∧ v = u.setCnj (fun c => { c with seen := (h.fseq.toNat :: c.seen).take fseqKept }) ∧
      (h.fseq.toNat ∉ u.cnj.seen → isUnitA v = false → pstate v = 3 → exec (.keyRx l h k t) s =
        .next (sendFrame (v.setCnj (fun c => { c with adopt := some (k.toNat, v.expand t.toNat) })) (.keyAck t.toNat))) ∧
      (h.fseq.toNat ∉ u.cnj.seen → isUnitA v = true → exec (.keyAckRx l h t) s = .next (v.setCnj (fun c =>
        { c with keys := mapFirstKey (awaitsAck t) (fun k => { k with ackAt := some v.tbU }) c.keys })))) ∧
  (∀ k t s, pairRuns s = true → isUnitA s = false → s.cnj.adopt = some (k, t) → t ≤ s.tbU →
    exec .keyAdoption s = .next (journalKey (installKey (s.setCnj (fun c => { c with adopt := none })) k) 2 t)) ∧
  (∀ k s, pairRuns s = true → isUnitA s = true → s.cnj.keys.find? (keyDone s) = some k → exec .keyAdoption s =
    .next (journalKey (s.setCnj (fun c => { c with keys := c.keys.filter (fun x => !keyDone s x) })) 1 (k.adopt.getD 0))) ∧
  (∀ n r s, pairRuns s = true → s.cnj.notices = n :: r →
    exec .noticeTx s = .next (sendFrame (s.setCnj (fun c => { c with notices := r })) (.notice n.src n.cls n.flags n.stamp))) ∧
  (∀ (l : Fin 2) (h : LinkHdr) (src : Byte) (cls : Fin 4) (flags : Byte) t s, laneTakes s l = true →
    ∃ u, u = takeCseq s h.cseq.toNat ∧ (h.fseq.toNat ∉ u.cnj.seen → exec (.noticeRx l h src cls flags t) s =
      .next ((u.setCnj (fun c => { c with seen := (h.fseq.toNat :: c.seen).take fseqKept })).journal (min 3 (cls.val + 1)) 0x0015 0x1507
        (leBytes 1 src.toNat ++ leBytes 1 cls ++ leBytes 1 flags.toNat ++ leBytes 1 0 ++ leBytes 8 (shortOf t))))) ∧
  (∀ s d, Accepts seqKeyOp s d → pairOperation (taken s d) = false → ∃ u, u = installKey (taken s d) (seqKeyOf d) ∧
    exec (.claSeqkey d) s = .next (shareKey (finishDesc (u.setCnj (fun c => { c with keys := u.cnj.keys.filter (fun k =>
      k.aseq != some ((taken s d).get Reg.HIF_ASEQ_ASEQ)) })) (takenAs s d 0x0293) St.ok []) (s.get Reg.HIF_ASEQ_ASEQ)))

/-- Roles, drivers, rehearsals and the pair's commands. SUBJ_IN_CHANGE restarts the guard when it falls, and disables the SHARED drivers when
it rises (R509). ROLE_DECISION_CHANGE and TAKE_HOLD_EXPIRY follow the decision, GUARD_EXPIRY makes the taker SUBJECT, DRIVER_INACTIVE_INSTANT
switches one driver, URGENT_RELEASE and RELEASE_DEADLINE end a role at the latest instants (R508). ARB_VALID_CHANGE keeps the pins.
REHEARSAL_START, REH_DWELL_EXPIRY and REH_LIM_EXPIRY start a rehearsal, turn it back and fail it (R517). CNJ_SET stores its settings (R519);
CNJ_HANDOVER starts a release or a take (R520). -/
def Obligations.PairRoleActs : Prop :=
  (∀ s, s.bit Reg.GEN_STRAP_PAIR_EN = true → s.bit Reg.CNJ_STAT_SUBJ_IN = true →
    ∃ u v, u = putStat s Reg.CNJ_STAT_SUBJ_IN 0 ∧ v = u.setCnj (fun c => { c with inLow := u.freeNs, guardFrom := u.freeNs }) ∧
      (u.bit Reg.CNJ_CFG_Q58 = false → role v ≠ 0 → exec (.subjInChange false) s = .next (showPair v)) ∧
      (u.bit Reg.CNJ_CFG_Q58 = false → role v = 0 → exec (.subjInChange false) s = .next (showPair (roleEval v)))) ∧
  (∀ s, s.bit Reg.GEN_STRAP_PAIR_EN = true → s.bit Reg.CNJ_STAT_SUBJ_IN = false →
    ∃ u v, u = putStat s Reg.CNJ_STAT_SUBJ_IN 1 ∧ v = dropDrivers (u.setCnj (fun c => { c with inHigh := u.freeNs })) true ∧
      (u.bit Reg.CNJ_CFG_Q58 = false → pairRuns (check v 0x7A (!driversOff v)) = false →
        exec (.subjInChange true) s = .next (check v 0x7A (!driversOff v))) ∧
      (u.bit Reg.CNJ_CFG_Q58 = false → pairRuns (check v 0x7A (!driversOff v)) = true → role (check v 0x7A (!driversOff v)) = 3 →
        exec (.subjInChange true) s = .next (becomeObject (check v 0x7A (!driversOff v)) (roleCause (check v 0x7A (!driversOff v)))))) ∧
  (∀ sel s, s.bit Reg.GEN_STRAP_PAIR_EN = true →
    exec (.arbValidChange sel) s = .next (showPair (s.setCnj (fun c => { c with arbPins := sel })))) ∧
  (∀ s, pairRuns s = true → s.bit Reg.GEN_STRAP_PAIR_EN = true →
    (role s = 0 → decisionD s = some true → s.bit Reg.CNJ_STAT_SUBJ_IN = false → waited s = true →
      ∃ u v, u = setRole s 1 (roleCause s) 0 ∧
        v = u.setCnj (fun c => { c with subjOut := true, subjAt := u.freeNs, guardFrom := u.freeNs }) ∧
        (v.bit Reg.CNJ_CFG_Q58 = false → exec .roleDecisionChange s = .next (showPair v)) ∧
        (v.bit Reg.CNJ_CFG_Q58 = true → exec .roleDecisionChange s = .next (showPair (raiseDrivers v)))) ∧
    (role s = 1 → decisionD s ≠ some true → isUnitA s = true → exec .roleDecisionChange s = .next (becomeObject s (roleCause s))) ∧
    (role s = 1 → decisionD s = some true → exec .roleDecisionChange s = .next s) ∧
    (role s = 0 → isUnitA s = false → exec .takeHoldExpiry s = exec .roleDecisionChange s)) ∧
  (∀ s, role s = 0 → isUnitA s = false → exec .takeHoldExpiry s = .next (roleEval s)) ∧
  (∀ n s, pairRuns s = true → role s = 1 → s.bit Reg.CNJ_STAT_SUBJ_IN = false → s.cnj.guardFrom + s.get Reg.CNJ_TIME_T_GUARD ≤ s.freeNs →
    decisionD s = some true →
    ∃ u v, u = setRole s 2 (roleCause s) n ∧ v = endHand (showPair (raiseDrivers (u.setCnj (fun c => { c with take := none })))) 1 St.ok [] ∧
      (v.cnj.reh = none → exec (.guardExpiry n) s = .next v)) ∧
  (∀ (n : Fin 12) s, pairRuns s = true → s.cnj.urgent.isSome = true →
    ∃ u, u = setDrv s (setBit s.cnj.drv n false) ∧ (driversOff u = false → exec (.driverInactiveInstant n) s = .next u) ∧
      (driversOff u = true → exec (.driverInactiveInstant n) s =
        .next (becomeObject u (if u.cnj.urgent.isSome then 5 else roleCause u)))) ∧
  (∀ (n : Fin 12) s, pairRuns s = true → s.cnj.urgent = none → role s = 2 → interlock s = true →
    exec (.driverInactiveInstant n) s = .next (setDrv s (setBit s.cnj.drv n true))) ∧
  (∀ s, pairRuns s = true → urgentDue s = true →
    ∃ b u v, b = s.cnj.urgent.getD s.freeNs ∧ u = s.setCnj (fun c => { c with urgent := some b }) ∧
      v = dropDrivers u (decide (b + 1000 ≤ u.freeNs)) ∧
      exec .urgentRelease s = .next (if driversOff v then becomeObject v 5 else showPair v)) ∧
  (∀ s, pairRuns s = true → role s = 3 → s.cnj.releasing + 1000000000 ≤ s.freeNs →
    exec .releaseDeadline s = .next (becomeObject (dropDrivers s true) (roleCause s))) ∧
  (∀ s, pairRuns s = true → s.bit Reg.CNJ_CFG_REH_EN = true → s.bit Reg.CNJ_CFG_DETECT = false → rehearsalDue s = true → role s = 2 →
    exec .rehearsalStart s = .next (startRehearsal s)) ∧
  (∀ r s, pairRuns s = true → s.cnj.reh = some r → r.phase = 1 → r.since + s.get Reg.CNJ_REH2_REH_DWELL * 1000000000 ≤ s.freeNs →
    exec .rehDwellExpiry s = .next (s.setCnj (fun c => { c with take := some 2, reh := some { r with phase := 2, since := s.freeNs } }))) ∧
  (∀ s, pairRuns s = true → s.cnj.yielding.isSome = true → s.cnj.take = none → role s = 0 →
    s.cnj.released + s.get Reg.CNJ_REH2_REH_LIM * 1000 ≤ s.freeNs →
    ∃ u, u = endHand (s.setCnj (fun c => { c with yielding := none })) 0 St.busy [] ∧
      (u.cnj.reh = none → exec .rehLimExpiry s = .next u) ∧
      (∀ r, u.cnj.reh = some r → r.phase = 0 → exec .rehLimExpiry s = .next (endRehearsal u 2 0 r.take1 0))) ∧
  (∀ s d, Accepts cnjSetOp s d → ∃ u q, q = (taken s d).get Reg.CNJ_CFG_Q58 ∧
    u = normReh ((storeMasked (taken s d) d (d.u16 18) cnjAddrs).put Reg.CNJ_CFG_Q58 q) ∧
    (u.get Reg.CNJ_CFG_DETECT = (taken s d).get Reg.CNJ_CFG_DETECT →
      (∀ l < 2, u.get (Reg.CNJ_ASYM_A l) = (taken s d).get (Reg.CNJ_ASYM_A l)) →
      exec (.cnjSet d) s = .next (finishDesc (showPair u) (takenAs s d 0x02D0) St.ok []))) ∧
  (∀ s d, Accepts handoverOp s d → (taken s d).bit Reg.CNJ_CFG_DETECT = false → pstate (taken s d) = 3 →
    peerFlag (taken s d) 0 = true → handoverRuns (taken s d) = false →
    ∃ u, u = (taken s d).setCnj (fun c => { c with hand := some ⟨takenAs s d 0x02D1, d.u8 16, none⟩ }) ∧
      (d.u8 16 = 0 → role (taken s d) = 2 → exec (.cnjHandover d) s = .next (startYield u 1)) ∧
      (d.u8 16 = 1 → role (taken s d) = 0 → exec (.cnjHandover d) s = .next (u.setCnj (fun c => { c with take := some 1 }))))

/-- Power, reset, boot and entry to SERVICE. AO_POWER_ON and VDD_AO_LOW leave the reset state, but for the host's memory, the free values and
the flash (whose spare slot a stage in progress leaves spoilt); RESET_ASSERT takes the device reset. RESET_RELEASE samples the straps (R553) and
enters TEST, ROM recovery for the reserved strap, or BOOT. BOOT_HEADER_READ takes the primary header or its copy, and without either goes to ROM
recovery. BOOT_PCI_GO starts the read of the host's set (R560). IMAGE_VERIFIED runs the first set that verifies and otherwise waits for the host
or goes to ROM recovery. GEN_MODE_REQ_GO holds the request; MODE_GO_EVALUATE enters SERVICE where no condition refuses it (R562). TREND_SAVE
writes the trend, and waits while a stage runs (R572). -/
def Obligations.StartupEventsAct : Prop :=
  (∀ s, exec .aoPowerOn s = .next (powerOn s) ∧ exec .vddAoLow s = .next (powerOn s) ∧ exec .resetAssert s = .next (deviceReset s)) ∧
  (∀ s, ∃ r x, r = State.reset ∧ ((∃ l, longOp s 0x0010 0 = some l ∧ verifyOnly l.d = false ∧ x = spoilSlot s) ∨
      (∀ l, longOp s 0x0010 0 = some l → verifyOnly l.d = true) ∧ x = s) ∧
    powerOn s = { r with
      hif := { r.hif with host := x.hif.host },
      sys := { r.sys with trend := x.sys.trend, hdr := x.sys.hdr },
      free := x.free, pending := x.pending }) ∧
  (∀ (v : BitVec 7) s, s.sys.inReset = true →
    ∃ n a b c d, n = v.toNat ∧ a = (((s.put Reg.GEN_STRAP_TEST_MODE (n / 64)).put Reg.GEN_STRAP_ADDR_SEL (n / 16 % 4)).put
        Reg.GEN_STRAP_BOOT_SRC (n / 4 % 4)).put Reg.GEN_STRAP_PAIR_EN (n / 2 % 2) ∧
      b = ((a.put Reg.GEN_STRAP_UNIT_ID (n % 2)).putB Reg.BOOT_RSTC_AO_POR s.sys.aoPor).putB Reg.BOOT_RSTC_PIN (!s.sys.aoPor) ∧
      c = b.setSys (fun y => { y with inReset := false, aoPor := false, step := 1 }) ∧
      d = c.journalAt 0 0 0x0001 0x0101 (leBytes 1 (b2n (!s.sys.aoPor)) ++ leBytes 1 n ++ leBytes 1 (c.get Reg.FLT_FF_STAT_HELD)) ∧
      (n / 64 = 1 → exec (.resetRelease v) s = .next (zeroise (modeFromReset (histTick d) .test))) ∧
      (n / 64 = 0 → n / 4 % 4 = 3 →
        exec (.resetRelease v) s = .next (romRecovery (bootStat (modeFromReset (histTick d) .boot) (fun s => s)) 1)) ∧
      (n / 64 = 0 → n / 4 % 4 = 0 ∨ n / 4 % 4 = 2 →
        exec (.resetRelease v) s = .next (bootStat (modeFromReset (histTick d) .boot) (fun s => s))) ∧
      (n / 64 = 0 → n / 4 % 4 = 1 →
        exec (.resetRelease v) s = .next (bootStat (bootStat (modeFromReset (histTick d) .boot) (fun s => s))
          (fun s => (s.put Reg.BOOT_STAT_PHASE 1).putB Reg.BOOT_STAT_WAIT_HOST true)))) ∧
  (∀ pri cpy (osc : BitVec 32) s, s.mode = .boot → s.sys.step = 1 → s.get Reg.GEN_STRAP_BOOT_SRC ≠ 1 →
    (∀ h, hdrOk pri = true ∧ h = hdrOf pri ∨ hdrOk pri = false ∧ hdrOk cpy = true ∧ h = hdrOf cpy →
      exec (.bootHeaderRead pri cpy osc) s = .next (bootStat (loadOsc ((s.setSys (fun y => { y with hdr := some h })).put
        Reg.PWR_AVS_CFG_VFAB_BOOT h.vfab) h.osc) (fun s => s.put Reg.BOOT_STAT_PHASE 2))) ∧
    (hdrOk pri = false → hdrOk cpy = false → exec (.bootHeaderRead pri cpy osc) s =
      .next (romRecovery (loadOsc (s.setSys (fun y => { y with hdr := none })) ((osc.toNat + 500) / 1000 * 1000)) 2))) ∧
  (∀ s, s.bit Reg.BOOT_STAT_WAIT_HOST = true →
    ∃ u, (s.sys.step ≠ 1 ∧ u = s ∨ s.sys.step = 1 ∧ ∃ v, v = s.put Reg.PWR_AVS_CFG_VFAB_BOOT (s.get Reg.BOOT_PCI_VFAB_VFAB) ∧
        u = loadOsc v (s.get Reg.BOOT_PCI_OSC_FREQ)) ∧
      exec .bootPciGo s = .next (bootStat u (fun s =>
        ((s.put Reg.BOOT_STAT_PHASE 2).putB Reg.BOOT_STAT_WAIT_HOST false).put Reg.BOOT_STAT_SLOT 2))) ∧
  (∀ a b p kat s, s.mode = .boot → s.sys.step = 3 → s.bit Reg.BOOT_STAT_WAIT_HOST = false →
    (s.get Reg.BOOT_STAT_SLOT = 2 → setOk p = true → exec (.imageVerified a b p kat) s =
      .next (runImages (journalSet s 2 p) 2 p.sup.release.toNat ((journalSet s 2 p).get Reg.GEN_STRAP_BOOT_SRC = 2) kat)) ∧
    (s.get Reg.BOOT_STAT_SLOT = 2 → setOk p = false →
      exec (.imageVerified a b p kat) s = .next (romRecovery (journalSet s 2 p) 3)) ∧
    (∀ h, s.get Reg.BOOT_STAT_SLOT ≠ 2 → s.sys.hdr = some h → ∃ u x, u = s.setSys (fun y => { y with hdr := some { h with pending := 0xFF } }) ∧
      x = trySlots u (fun k => if k = 0 then a else if k = 1 then b else p) (slotOrder h) ∧
      (∀ k, x.2 = some k → exec (.imageVerified a b p kat) s =
        .next (runImages (x.1.setSys (fun y => { y with bootPend := if k = h.pending then some k else none })) k
          (if k = 0 then a else if k = 1 then b else p).sup.release.toNat ((slotOrder h).head? != some k) kat)) ∧
      (x.2 = none → x.1.get Reg.GEN_STRAP_BOOT_SRC ≠ 2 → exec (.imageVerified a b p kat) s = .next (romRecovery x.1 3)) ∧
      (x.2 = none → x.1.get Reg.GEN_STRAP_BOOT_SRC = 2 → exec (.imageVerified a b p kat) s = .next (bootStat x.1 (fun s =>
        ((s.put Reg.BOOT_STAT_PHASE 1).putB Reg.BOOT_STAT_WAIT_HOST true).putB Reg.BOOT_STAT_FALLBACK true))))) ∧
  (∀ (t : Fin 8) s, s.mode = .setup →
    exec (.genModeReqGo t) s = .next ((s.put Reg.GEN_MODE_REQ_TARGET t).putB Reg.GEN_MODE_REQ_GO true)) ∧
  (∀ s, s.bit Reg.GEN_MODE_REQ_GO = true → s.atMs = true →
    ∃ u, u = s.putB Reg.GEN_MODE_REQ_GO false ∧ (u.mode = .setup →
      (u.get Reg.GEN_MODE_REQ_TARGET = 2 → refuseBits u = 0 → exec .modeGoEvaluate s = .next (enterService u 1 0)) ∧
      (u.get Reg.GEN_MODE_REQ_TARGET = 2 → refuseBits u ≠ 0 → exec .modeGoEvaluate s = .next (refuseMode u 2 (refuseBits u) 0)) ∧
      (∀ n, u.get Reg.GEN_MODE_REQ_TARGET = n → n ≠ 2 → exec .modeGoEvaluate s = .next (refuseMode u n 0 0)))) ∧
  (∀ bad s, s.atSec = true → s.sys.trendDue = true → s.mode = .service → s.bit Reg.GEN_MODE_ROM_REC = false →
    bitOf s.sys.engReset 19 = false → s.get Reg.GEN_STRAP_BOOT_SRC ≠ 1 →
    (s.sys.stageSlot = none → exec (.trendSave bad) s = .next (writeTrend s bad)) ∧
    (∀ k, s.sys.stageSlot = some k → exec (.trendSave bad) s = .next (s.setSys (fun y => { y with trendDue := true }))))

/-- Firmware. FIRMWARE_STAGE, accepted with no stage running, starts one on the slot that is not ACTIVE. FIRMWARE_STAGE_DONE ends it: OK with
its slot marked, INVALID for a failed verification, PARTIAL with the slot spoilt for a failure of the DMA or the flash (R571). -/
def Obligations.FirmwareActs : Prop :=
  (∀ s d, Accepts stageOp s d → longOp (taken s d) 0x0010 0 = none → exec (.firmwareStage d) s =
    .next (startLong ((taken s d).setSys (fun y => { y with stageSlot := some (spareSlot (taken s d)) })) (takenAs s d 0x0010) 0)) ∧
  (∀ (c : Fin 8) (r : BitVec 16) l s, longOp s 0x0010 0 = some l →
    (c = 0 → verifyOnly l.d = true → exec (.firmwareStageDone c r) s = .next (endStage s l St.ok r.toNat 0)) ∧
    (c = 0 → verifyOnly l.d = false →
      exec (.firmwareStageDone c r) s = .next (endStage (stagedSlot s (bitOf (l.d.u8 28) 0)) l St.ok r.toNat 0)) ∧
    (2 ≤ c.val → c.val ≤ 5 → exec (.firmwareStageDone c r) s = .next (endStage s l St.invalid r.toNat c)) ∧
    (6 ≤ c.val → verifyOnly l.d = false → exec (.firmwareStageDone c r) s = .next (endStage (spoilSlot s) l St.partialDone r.toNat c)))

/-- The step (R12, R405; the queue is the host's form): with a command at the front, a step is that command's effect on the state with the
queue's rest. -/
def Obligations.StepRunsFrontCommand : Prop :=
  ∀ c q s, s.pending = c :: q → step s = exec c { s with pending := q }

/-- MODEL'S CHOICE (log 1): on an empty queue one TB cycle passes. The free-running counter advances by 1 ns exactly while the time base
runs, the AO time always, the offset never; the hardware sets of the cycle that ended and the frames that left in it are forgotten.
With no pair unit at work and no trace record waiting, CSEQ stays. -/
def Obligations.EmptyQueuePassesOneCycle : Prop :=
  ∀ s, s.pending = [] → ∃ t, step s = .next t ∧ t.tb.ao = s.tb.ao + 1 ∧
    t.tb.cyc = (if s.tbLive then s.tb.cyc + 1 else s.tb.cyc) ∧ t.tb.ofs = s.tb.ofs ∧ t.tb.running = s.tb.running ∧
    t.tb.stopped = s.tb.stopped ∧ t.hot = [] ∧ t.lan.sent = [] ∧ t.cnj.sent = [] ∧ t.pending = [] ∧
    (pairRuns s = false → s.obs.staged = [] → s.obs.lostRun = 0 → s.get Reg.OBS_TRC_LEVEL_WORDS = 0 → t.jr.cseq = s.jr.cseq)

/-- Every command completes: whatever the state and the operands, its meaning answers a next state. No command of the table faults or is
refused (INVENTORY.md, Faults). -/
def Obligations.EveryCommandCompletes : Prop := ∀ c s, ∃ t, exec c s = .next t

/-- Right after the AO power-on reset (R18, R32, R36, R532, R550, R560, R597): the time base does not run and its counter and offset are 0,
CSEQ is 0, RESET_N is taken low, every engine is in reset, mode BOOT with no mode entered, no grant to PF1, every REFIN channel LOS, the
identity registers at their values, and nothing waits. -/
def Obligations.ResetLeavesSpecValues : Prop :=
  ∃ r, r = State.reset ∧ r.tb.running = false ∧ r.tb.cyc = 0 ∧ r.tb.ofs = 0 ∧ r.jr.cseq = 0 ∧ r.sys.inReset = true ∧
    r.sys.engReset = 0xFFFFF ∧ r.get Reg.GEN_ID_PART = 0x9600 ∧ r.get Reg.GEN_ID_STEPPING = 0x20 ∧ r.get Reg.GEN_MODE_MODE = 0 ∧
    (∀ k < 5, r.get (Reg.OBS_GRANT_GRANT k) = 0) ∧ r.get Reg.REFIN_LOS_LOS = 0xFFFFFF ∧ r.get Reg.TNS_STAT_STATE = 0 ∧
    r.get Reg.CNJ_STAT_PSTATE = 0 ∧ r.get Reg.CNJ_STAT_ROLE = 0 ∧ (∀ i < 8192, (r.sat i).valid = false) ∧ r.hif.waiting = [] ∧
    r.pending = []

/-- Reset satisfies the invariant that every step keeps: its memories are in their canonical form. -/
def Obligations.ResetIsCanonical : Prop := State.reset.Canon

/-- Every step, of a command or of an empty queue, keeps the five memories (registers, ring memory, host memory, journal ring, SRAM) in
their canonical form: keys strictly rising, no entry equal to what an unlisted key reads as. -/
def Obligations.EveryStepKeepsCanonicalForm : Prop := ∀ s t, s.Canon → step s = .next t → t.Canon

/-- Frames of all commands: each changes only the parts of the machine that its row's rules name (`mayChange`, Sys2Proof/Safety.lean). -/
def Obligations.EveryCommandKeepsItsFrame : Prop :=
  ∀ c s t, exec c s = .next t → ∀ p : Machine.Part, p ∉ mayChange c → p.Same s t

/-- No command reads, adds to or drops from the queue of commands. -/
def Obligations.CommandsLeaveTheQueue : Prop := ∀ c s t, exec c s = .next t → t.pending = s.pending

/-- A free value once taken is never taken again: the count of free values taken never falls, over any step. -/
def Obligations.FreeValuesAreNeverReused : Prop := ∀ s t, step s = .next t → s.free ≤ t.free

/-- Once it runs, the time base runs until a device reset or an AO power-on, and no other command moves its counter (R18): what stops
its clock (R19) leaves it started. -/
def Obligations.OnlyResetsStopTheTimeBase : Prop :=
  (∀ c s t, c ≠ .aoPowerOn → c ≠ .vddAoLow → c ≠ .resetAssert → exec c s = .next t → s.tb.running = true →
    t.tb.running = true ∧ t.tb.cyc = s.tb.cyc ∧ t.tb.ao = s.tb.ao) ∧
  (∀ s t, s.pending = [] → step s = .next t → s.tb.running = true → t.tb.running = true)

/-- R15: a register access that is not a whole aligned word is completed as an unsupported request, and nothing else changes. -/
def Obligations.UnalignedAccessIsUnsupported : Prop :=
  ∀ s, pcieRuns s = true → ∃ t, exec .unalignedAccess s = .next t ∧ t.hif.response = some (false, 0) ∧
    t = { s with hif := { s.hif with response := some (false, 0) } }

/-- R21 and R23: the short stamp is TB[79:16], stored little-endian with NS in its low word; the fine stamp's 12 bytes are the short stamp,
FRAC and two zero bytes. TB is SEC, NS and FRAC side by side (R16). -/
def Obligations.StampsAreLaidOutAsGiven : Prop :=
  ∀ u, tbNs u < 1000000000 ∧ tbFrac u < 65536 ∧
    shortOf u = (tbSec u * 2 ^ 48 + tbNs u * 2 ^ 16 + tbFrac u) / 2 ^ 16 % 2 ^ 64 ∧
    (leBytes 8 (shortOf u)).take 4 = leBytes 4 (tbNs u) ∧ (leBytes 8 (shortOf u)).drop 4 = leBytes 4 (tbSec u % 2 ^ 32) ∧
    (fineBytes u).take 8 = leBytes 8 (shortOf u) ∧ ((fineBytes u).drop 8).take 2 = leBytes 2 (tbFrac u) ∧
    (fineBytes u).drop 10 = [0, 0] ∧ (fineBytes u).length = 12

/-- R14: a set and a W1C write of the same flag in one TB cycle leave the flag at 1; with no set in the cycle the write of 1 clears it; each
set counts in the companion 16-bit count, which saturates; a cycle's sets are forgotten when the TB cycle passes. The flags are those of
the map: one bit, with its count in another register. -/
def Obligations.SetWinsOverWrite : Prop :=
  (∀ (f : FlagBit) (s : State), f.bit.w = 1 → f.cnt.w = 16 → f.bit.key ≠ f.cnt.key → (s.setFlag f).get f.bit = 1 ∧
    (s.setFlag f).get f.cnt = min 65535 (s.get f.cnt + 1) ∧ f.bit.key ∈ (s.setFlag f).hot) ∧
  (∀ (f : FlagBit) r v (s t : State), f.bit.addr = 4 * BitVec.toNat r → f.cnt.addr ≠ f.bit.addr → f.cnt.lo < 32 →
    f.bit.key ∈ s.hot → exec (.w1cFlagWrite r v) s = .next t →
    t.get f.bit = s.get f.bit ∧ t.get f.cnt = s.get f.cnt) ∧
  (∀ s, pcieRuns s = true → Flag.GEN_MODE_CHG.bit.key ∉ s.hot → ∃ t, exec (.w1cFlagWrite 8 1) s = .next t ∧
    t.get Flag.GEN_MODE_CHG.bit = 0 ∧ t.get Flag.GEN_MODE_CHG.cnt = s.get Flag.GEN_MODE_CHG.cnt) ∧
  (∀ s t, s.pending = [] → step s = .next t → t.hot = [])

/-- R475: the first-fault record, FLT_SRC_CNT, FLT_SRC_CONSEQ and the escalation histories survive a device reset, PRIOR reads 1 when a
record is held over, FLT_CFG and FLT_SRC_CFG return to their reset values; a power-on of VDD_AO clears them all. -/
def Obligations.FaultRecordsSurviveDeviceReset : Prop :=
  (∀ s t, exec .resetAssert s = .next t → t.flt.hist = s.flt.hist ∧
    (∀ g : Field, g.lo < 32 → 0x140044 ≤ g.addr → g.addr < 0x1400A0 → t.get g = s.get g) ∧
    (∀ g : Field, g.lo < 32 → g.addr = 0x140040 → g ≠ Reg.FLT_FF_STAT_PRIOR → g.lo ≠ 29 → t.get g = s.get g) ∧
    (∀ i, i < 256 → t.get (Reg.FLT_SRC_CNT_COUNT i) = s.get (Reg.FLT_SRC_CNT_COUNT i) ∧
      t.get (Reg.FLT_SRC_CONSEQ_CONSEQ i) = s.get (Reg.FLT_SRC_CONSEQ_CONSEQ i) ∧
      t.get (Reg.FLT_SRC_CFG_CLASS i) = State.reset.get (Reg.FLT_SRC_CFG_CLASS i) ∧
      t.get (Reg.FLT_SRC_CFG_N i) = State.reset.get (Reg.FLT_SRC_CFG_N i) ∧
      t.get (Reg.FLT_SRC_CFG_W i) = State.reset.get (Reg.FLT_SRC_CFG_W i)) ∧
    (s.bit Reg.FLT_FF_STAT_VALID = true → t.bit Reg.FLT_FF_STAT_PRIOR = true) ∧
    t.get Reg.FLT_CFG_FF_MIN = State.reset.get Reg.FLT_CFG_FF_MIN ∧ t.get Reg.FLT_CFG_WDOG_US = State.reset.get Reg.FLT_CFG_WDOG_US) ∧
  (∀ s t, exec .aoPowerOn s = .next t → t.flt.hist = [] ∧ ∀ g : Field, t.get g = State.reset.get g)

/-- R478: events of FLT_VOTE (source 0x00), of FLT_SELF (0x01) and of the other fixed-FATAL sources are never consequential. -/
def Obligations.FixedFatalEventsAreNeverConsequential : Prop :=
  fixedFatal 0x01 = true ∧ (∀ s e, e.src = 0x00 ∨ fixedFatal e.src = true → (classEvent s e).2.cause = none) ∧
    (∀ s src m t, src = 0x00 ∨ fixedFatal src = true → causeWin s src m t = none)

/-- R538: a write of OBS_JRNL_WADDR latches a copy of the record with that JIDX, when it is retained, with VALID set; when its JIDX is below
the tail or at or above the head (compared modulo 2³² from the tail), ERR is set, VALID cleared and the data are 0. -/
def Obligations.JournalWindowLatchesRecord : Prop :=
  ∀ (j : Word) s, s.mode ≠ .test → ∃ t, exec (.obsJrnlWaddr j) s = .next t ∧
    ((j.toNat + 2 ^ 32 - s.get Reg.OBS_JRNL_TAIL_JIDX) % 2 ^ 32 <
        (s.get Reg.OBS_JRNL_HEAD_JIDX + 2 ^ 32 - s.get Reg.OBS_JRNL_TAIL_JIDX) % 2 ^ 32 →
      t.bit Reg.OBS_JRNL_WSTAT_VALID = true ∧ t.bit Reg.OBS_JRNL_WSTAT_ERR = false ∧
      ∀ k < 8, t.get (Reg.OBS_JRNL_WDATA_DATA k) = leNat (jrnlSlot s j.toNat).item.bytes (4 * k) 4 % 2 ^ 32) ∧
    ((s.get Reg.OBS_JRNL_HEAD_JIDX + 2 ^ 32 - s.get Reg.OBS_JRNL_TAIL_JIDX) % 2 ^ 32 ≤
        (j.toNat + 2 ^ 32 - s.get Reg.OBS_JRNL_TAIL_JIDX) % 2 ^ 32 →
      t.bit Reg.OBS_JRNL_WSTAT_VALID = false ∧ t.bit Reg.OBS_JRNL_WSTAT_ERR = true ∧
      ∀ k < 8, t.get (Reg.OBS_JRNL_WDATA_DATA k) = 0) ∧
    t.jr = s.jr ∧ t.hif = s.hif ∧ t.obs = s.obs

/-- R34 (and R33): two CSEQ values are compared by their difference modulo 2³² read as signed; on a frame received, CSEQ becomes the later of
the own value and the frame's, and nothing else changes. -/
def Obligations.CseqIsComparedSigned : Prop :=
  (∀ c d : Word, cseqAfter c.toNat d.toNat = decide (0 < (c - d).toInt)) ∧
  (∀ s c, takeCseq s c = { s with jr := { s.jr with cseq := if cseqAfter c s.jr.cseq then c else s.jr.cseq } })

/-- R272: a result below a limit sets EYE_LOW and journals LANE_EYE, the first one at or above both journals the recovery, and no result
changes a port's link state. -/
def Obligations.EyeResultsAreJournalled : Prop :=
  ∀ (l : Fin 18) (h v : BitVec 16) s, s.get (Reg.LN_EYE_CFG_EYE_INT l) ≠ 0 → s.tbLive = true → s.mode ≠ .boot → s.mode ≠ .test →
    (s.lane l).eyeAt = 0 → (l.val < 16 ∨ s.bit Reg.GEN_STRAP_PAIR_EN = true) → ∃ t, exec (.eyeMeasure l h v) s = .next t ∧
    (∀ p : Fin 8, t.get (Reg.MAC_STAT_LINK p) = s.get (Reg.MAC_STAT_LINK p)) ∧
    (h.toNat < s.get (Reg.LN_EYE_CFG_EYE_MIN_H l) ∨ v.toNat < 4 * s.get (Reg.LN_EYE_CFG_EYE_MIN_V l) →
      t.bit (Flag.LN_EYE_LOW l).bit = true ∧ committed s t (s.recordOf s.nowShort 1 0x000B 0x0B03
        (leBytes 1 l ++ leBytes 1 1 ++ leBytes 2 h.toNat ++ leBytes 2 v.toNat))) ∧
    (s.get (Reg.LN_EYE_CFG_EYE_MIN_H l) ≤ h.toNat → 4 * s.get (Reg.LN_EYE_CFG_EYE_MIN_V l) ≤ v.toNat → (s.lane l).eyeLow = true →
      committed s t (s.recordOf s.nowShort 1 0x000B 0x0B03
        (leBytes 1 l ++ leBytes 1 0 ++ leBytes 2 h.toNat ++ leBytes 2 v.toNat)))
end

