-- ==== Sys2Proof/Laws/SMap.lean ====
section
/-!
SUPPORT. Canonical maps: a write keeps the canonical form, a read after a write gives what was written, and other keys stay.
-/

namespace Sys2Proof.Machine

theorem sortedAbove_mono {α : Type} {b c : Nat} (h : b ≤ c) : ∀ {m : SMap α}, SMap.sortedAbove c m = true → SMap.sortedAbove b m = true
  | [], _ => rfl
  | p :: m, hm => by
    simp only [SMap.sortedAbove, Bool.and_eq_true, decide_eq_true_eq] at hm ⊢
    exact ⟨Nat.lt_of_le_of_lt h hm.1, hm.2⟩

/-- wf as: sorted (from the first key) and no entry at its default. -/
theorem wf_iff {α : Type} [DecidableEq α] {d : Nat → α} {m : SMap α} :
    SMap.wf d m = true ↔ (match m with | [] => True | p :: r => SMap.sortedAbove p.1 r = true) ∧ ∀ p ∈ m, p.2 ≠ d p.1 := by
  unfold SMap.wf
  cases m <;> simp

theorem sortedAbove_erase {α : Type} (k : Nat) : ∀ {b : Nat} {m : SMap α}, SMap.sortedAbove b m = true →
    SMap.sortedAbove b (SMap.erase k m) = true
  | _, [], _ => rfl
  | b, p :: m, h => by
    simp only [SMap.sortedAbove, Bool.and_eq_true, decide_eq_true_eq] at h
    unfold SMap.erase
    split
    · exact sortedAbove_mono (Nat.le_of_lt h.1) (sortedAbove_erase k h.2)
    · simp only [SMap.sortedAbove, Bool.and_eq_true, decide_eq_true_eq]
      exact ⟨h.1, sortedAbove_erase k h.2⟩

theorem sortedAbove_insert {α : Type} (k : Nat) (v : α) : ∀ {b : Nat} {m : SMap α}, b < k → (∀ p ∈ m, p.1 ≠ k) →
    SMap.sortedAbove b m = true → SMap.sortedAbove b (SMap.insert k v m) = true
  | b, [], hk, _, _ => by simp [SMap.insert, SMap.sortedAbove, hk]
  | b, p :: m, hk, hn, h => by
    simp only [SMap.sortedAbove, Bool.and_eq_true, decide_eq_true_eq] at h
    unfold SMap.insert
    split
    · rename_i hlt
      simp only [SMap.sortedAbove, Bool.and_eq_true, decide_eq_true_eq]
      exact ⟨hk, hlt, h.2⟩
    · rename_i hlt
      have hne : p.1 ≠ k := hn p (List.mem_cons_self ..)
      simp only [SMap.sortedAbove, Bool.and_eq_true, decide_eq_true_eq]
      exact ⟨h.1, sortedAbove_insert k v (by omega) (fun q hq => hn q (List.mem_cons_of_mem _ hq)) h.2⟩

theorem mem_erase {α : Type} {k : Nat} {q : Nat × α} : ∀ {m : SMap α}, q ∈ SMap.erase k m → q ∈ m ∧ q.1 ≠ k
  | [], h => by simp [SMap.erase] at h
  | p :: m, h => by
    unfold SMap.erase at h
    split at h
    · exact ⟨List.mem_cons_of_mem _ (mem_erase h).1, (mem_erase h).2⟩
    · rename_i hne
      rcases List.mem_cons.mp h with rfl | h'
      · exact ⟨List.mem_cons_self .., hne⟩
      · exact ⟨List.mem_cons_of_mem _ (mem_erase h').1, (mem_erase h').2⟩

theorem mem_insert {α : Type} {k : Nat} {v : α} {q : Nat × α} : ∀ {m : SMap α}, q ∈ SMap.insert k v m → q = (k, v) ∨ q ∈ m
  | [], h => by simp [SMap.insert] at h; exact .inl h
  | p :: m, h => by
    unfold SMap.insert at h
    split at h
    · rcases List.mem_cons.mp h with rfl | h'
      · exact .inl rfl
      · exact .inr h'
    · rcases List.mem_cons.mp h with rfl | h'
      · exact .inr (List.mem_cons_self ..)
      · rcases mem_insert h' with h'' | h''
        · exact .inl h''
        · exact .inr (List.mem_cons_of_mem _ h'')

/-- Strictly rising keys, as a property of lists that does not name a first key. -/
def SMap.Rising {α : Type} : SMap α → Prop
  | [] => True
  | p :: m => SMap.sortedAbove p.1 m = true

theorem rising_of_sortedAbove {α : Type} {b : Nat} : ∀ {m : SMap α}, SMap.sortedAbove b m = true → SMap.Rising m
  | [], _ => trivial
  | p :: m, h => by
    simp only [SMap.sortedAbove, Bool.and_eq_true] at h
    exact h.2

theorem rising_erase {α : Type} (k : Nat) {m : SMap α} (h : SMap.Rising m) : SMap.Rising (SMap.erase k m) := by
  cases m with
  | nil => exact trivial
  | cons p m =>
    have h' : SMap.sortedAbove p.1 m = true := h
    unfold SMap.erase
    split
    · exact rising_of_sortedAbove (sortedAbove_erase k h')
    · exact sortedAbove_erase k h'

theorem rising_insert {α : Type} (k : Nat) (v : α) {m : SMap α} (hn : ∀ p ∈ m, p.1 ≠ k) (h : SMap.Rising m) :
    SMap.Rising (SMap.insert k v m) := by
  cases m with
  | nil => exact rfl
  | cons p m =>
    have h' : SMap.sortedAbove p.1 m = true := h
    unfold SMap.insert
    split
    · rename_i hlt
      show SMap.sortedAbove k (p :: m) = true
      simp only [SMap.sortedAbove, Bool.and_eq_true, decide_eq_true_eq]
      exact ⟨hlt, h'⟩
    · rename_i hlt
      have hne : p.1 ≠ k := hn p (List.mem_cons_self ..)
      exact sortedAbove_insert k v (by omega) (fun q hq => hn q (List.mem_cons_of_mem _ hq)) h'

theorem wf_split {α : Type} [DecidableEq α] {d : Nat → α} {m : SMap α} :
    SMap.wf d m = true ↔ SMap.Rising m ∧ ∀ p ∈ m, p.2 ≠ d p.1 := by
  rw [wf_iff]
  cases m <;> exact Iff.rfl

/-- A write keeps the canonical form. -/
theorem wf_set {α : Type} [DecidableEq α] {d : Nat → α} {m : SMap α} (k : Nat) (v : α) (h : SMap.wf d m = true) :
    SMap.wf d (SMap.set d k v m) = true := by
  rw [wf_split] at h ⊢
  unfold SMap.set
  split
  · exact ⟨rising_erase k h.1, fun p hp => h.2 p (mem_erase hp).1⟩
  · rename_i hv
    refine ⟨rising_insert k v (fun p hp => (mem_erase hp).2) (rising_erase k h.1), fun p hp => ?_⟩
    rcases mem_insert hp with rfl | hp
    · exact hv
    · exact h.2 p (mem_erase hp).1

/-- Dropping entries keeps the canonical form. -/
theorem wf_filter {α : Type} [DecidableEq α] {d : Nat → α} {m : SMap α} (f : Nat × α → Bool) (h : SMap.wf d m = true) :
    SMap.wf d (m.filter f) = true := by
  rw [wf_split] at h ⊢
  refine ⟨?_, fun p hp => h.2 p (List.mem_of_mem_filter hp)⟩
  have key : ∀ (b : Nat) (l : SMap α), SMap.sortedAbove b l = true → SMap.sortedAbove b (l.filter f) = true := by
    intro b l
    induction l generalizing b with
    | nil => intro _; rfl
    | cons q l ih =>
      intro hl
      simp only [SMap.sortedAbove, Bool.and_eq_true, decide_eq_true_eq] at hl
      rw [List.filter_cons]
      split
      · simp only [SMap.sortedAbove, Bool.and_eq_true, decide_eq_true_eq]
        exact ⟨hl.1, ih _ hl.2⟩
      · exact sortedAbove_mono (Nat.le_of_lt hl.1) (ih _ hl.2)
  cases m with
  | nil => exact trivial
  | cons q l =>
    have hl : SMap.sortedAbove q.1 l = true := h.1
    rw [List.filter_cons]
    split
    · exact key _ _ hl
    · exact rising_of_sortedAbove (key _ _ hl)

/-- What a write leaves at other keys, and what it puts at its own. -/
theorem get_erase {α : Type} (d : Nat → α) (k j : Nat) : ∀ m : SMap α,
    SMap.get d (SMap.erase k m) j = if j = k then d j else SMap.get d m j
  | [] => by simp [SMap.erase, SMap.get]
  | p :: m => by
    have ih := get_erase d k j m
    unfold SMap.erase
    by_cases hp : p.1 = k
    · rw [if_pos hp, ih]
      by_cases hj : j = k
      · simp [hj]
      · have : ¬ p.1 = j := fun h => hj (h ▸ hp)
        simp [hj, SMap.get, this]
    · rw [if_neg hp]
      by_cases hj : p.1 = j
      · have : ¬ j = k := fun h => hp (hj.trans h)
        simp [SMap.get, hj, this]
      · simp only [SMap.get, if_neg hj, ih]

theorem get_insert {α : Type} (d : Nat → α) (k : Nat) (v : α) (j : Nat) : ∀ m : SMap α, (∀ p ∈ m, p.1 ≠ k) →
    SMap.get d (SMap.insert k v m) j = if j = k then v else SMap.get d m j
  | [], _ => by
    by_cases h : j = k
    · simp [SMap.insert, SMap.get, h]
    · have : ¬ k = j := fun e => h e.symm
      simp [SMap.insert, SMap.get, h, this]
  | p :: m, hn => by
    have ih := get_insert d k v j m (fun q hq => hn q (List.mem_cons_of_mem _ hq))
    have hp : p.1 ≠ k := hn p (List.mem_cons_self ..)
    unfold SMap.insert
    split
    · by_cases h : j = k
      · simp [SMap.get, h]
      · have : ¬ k = j := fun e => h e.symm
        simp [SMap.get, h, this]
    · by_cases hj : p.1 = j
      · have : ¬ j = k := fun h => hp (hj.trans h)
        simp [SMap.get, hj, this]
      · simp only [SMap.get, if_neg hj, ih]

/-- Reading after a write. -/
@[simp] theorem get_set {α : Type} [DecidableEq α] (d : Nat → α) (k : Nat) (v : α) (m : SMap α) (j : Nat) :
    SMap.get d (SMap.set d k v m) j = if j = k then v else SMap.get d m j := by
  unfold SMap.set
  split
  · rename_i h
    rw [get_erase]
    by_cases hj : j = k
    · simp [hj, h]
    · simp [hj]
  · rw [get_insert _ _ _ _ _ (fun p hp => (mem_erase hp).2), get_erase]
    by_cases hj : j = k <;> simp [hj]

end Sys2Proof.Machine
end

