-- ==== Sys2Proof/Laws/State.lean ====
section
/-!
SUPPORT. The parts of State under each shared update: what an operation does not name stays. One lemma per part and operation, so that
no proof unfolds a record update.
-/

namespace Sys2Proof.Machine

/-! ### State.put -/

@[simp] theorem State.put_tb (s : State) (f : Field) (v : Nat) : (s.put f v).tb = s.tb := rfl
@[simp] theorem State.put_jr (s : State) (f : Field) (v : Nat) : (s.put f v).jr = s.jr := rfl
@[simp] theorem State.put_hif (s : State) (f : Field) (v : Nat) : (s.put f v).hif = s.hif := rfl
@[simp] theorem State.put_fab (s : State) (f : Field) (v : Nat) : (s.put f v).fab = s.fab := rfl
@[simp] theorem State.put_obs (s : State) (f : Field) (v : Nat) : (s.put f v).obs = s.obs := rfl
@[simp] theorem State.put_refin (s : State) (f : Field) (v : Nat) : (s.put f v).refin = s.refin := rfl
@[simp] theorem State.put_utc (s : State) (f : Field) (v : Nat) : (s.put f v).utc = s.utc := rfl
@[simp] theorem State.put_gns (s : State) (f : Field) (v : Nat) : (s.put f v).gns = s.gns := rfl
@[simp] theorem State.put_sel (s : State) (f : Field) (v : Nat) : (s.put f v).sel = s.sel := rfl
@[simp] theorem State.put_tns (s : State) (f : Field) (v : Nat) : (s.put f v).tns = s.tns := rfl
@[simp] theorem State.put_syn (s : State) (f : Field) (v : Nat) : (s.put f v).syn = s.syn := rfl
@[simp] theorem State.put_pls (s : State) (f : Field) (v : Nat) : (s.put f v).pls = s.pls := rfl
@[simp] theorem State.put_lan (s : State) (f : Field) (v : Nat) : (s.put f v).lan = s.lan := rfl
@[simp] theorem State.put_tsu (s : State) (f : Field) (v : Nat) : (s.put f v).tsu = s.tsu := rfl
@[simp] theorem State.put_cla (s : State) (f : Field) (v : Nat) : (s.put f v).cla = s.cla := rfl
@[simp] theorem State.put_auth (s : State) (f : Field) (v : Nat) : (s.put f v).auth = s.auth := rfl
@[simp] theorem State.put_flt (s : State) (f : Field) (v : Nat) : (s.put f v).flt = s.flt := rfl
@[simp] theorem State.put_cnj (s : State) (f : Field) (v : Nat) : (s.put f v).cnj = s.cnj := rfl
@[simp] theorem State.put_sys (s : State) (f : Field) (v : Nat) : (s.put f v).sys = s.sys := rfl
@[simp] theorem State.put_free (s : State) (f : Field) (v : Nat) : (s.put f v).free = s.free := rfl
@[simp] theorem State.put_hot (s : State) (f : Field) (v : Nat) : (s.put f v).hot = s.hot := rfl
@[simp] theorem State.put_pending (s : State) (f : Field) (v : Nat) : (s.put f v).pending = s.pending := rfl

/-! ### State.putB -/

@[simp] theorem State.putB_tb (s : State) (f : Field) (b : Bool) : (s.putB f b).tb = s.tb := rfl
@[simp] theorem State.putB_jr (s : State) (f : Field) (b : Bool) : (s.putB f b).jr = s.jr := rfl
@[simp] theorem State.putB_hif (s : State) (f : Field) (b : Bool) : (s.putB f b).hif = s.hif := rfl
@[simp] theorem State.putB_fab (s : State) (f : Field) (b : Bool) : (s.putB f b).fab = s.fab := rfl
@[simp] theorem State.putB_obs (s : State) (f : Field) (b : Bool) : (s.putB f b).obs = s.obs := rfl
@[simp] theorem State.putB_refin (s : State) (f : Field) (b : Bool) : (s.putB f b).refin = s.refin := rfl
@[simp] theorem State.putB_utc (s : State) (f : Field) (b : Bool) : (s.putB f b).utc = s.utc := rfl
@[simp] theorem State.putB_gns (s : State) (f : Field) (b : Bool) : (s.putB f b).gns = s.gns := rfl
@[simp] theorem State.putB_sel (s : State) (f : Field) (b : Bool) : (s.putB f b).sel = s.sel := rfl
@[simp] theorem State.putB_tns (s : State) (f : Field) (b : Bool) : (s.putB f b).tns = s.tns := rfl
@[simp] theorem State.putB_syn (s : State) (f : Field) (b : Bool) : (s.putB f b).syn = s.syn := rfl
@[simp] theorem State.putB_pls (s : State) (f : Field) (b : Bool) : (s.putB f b).pls = s.pls := rfl
@[simp] theorem State.putB_lan (s : State) (f : Field) (b : Bool) : (s.putB f b).lan = s.lan := rfl
@[simp] theorem State.putB_tsu (s : State) (f : Field) (b : Bool) : (s.putB f b).tsu = s.tsu := rfl
@[simp] theorem State.putB_cla (s : State) (f : Field) (b : Bool) : (s.putB f b).cla = s.cla := rfl
@[simp] theorem State.putB_auth (s : State) (f : Field) (b : Bool) : (s.putB f b).auth = s.auth := rfl
@[simp] theorem State.putB_flt (s : State) (f : Field) (b : Bool) : (s.putB f b).flt = s.flt := rfl
@[simp] theorem State.putB_cnj (s : State) (f : Field) (b : Bool) : (s.putB f b).cnj = s.cnj := rfl
@[simp] theorem State.putB_sys (s : State) (f : Field) (b : Bool) : (s.putB f b).sys = s.sys := rfl
@[simp] theorem State.putB_free (s : State) (f : Field) (b : Bool) : (s.putB f b).free = s.free := rfl
@[simp] theorem State.putB_hot (s : State) (f : Field) (b : Bool) : (s.putB f b).hot = s.hot := rfl
@[simp] theorem State.putB_pending (s : State) (f : Field) (b : Bool) : (s.putB f b).pending = s.pending := rfl

/-! ### State.putS -/

@[simp] theorem State.putS_tb (s : State) (f : Field) (x : Int) : (s.putS f x).tb = s.tb := rfl
@[simp] theorem State.putS_jr (s : State) (f : Field) (x : Int) : (s.putS f x).jr = s.jr := rfl
@[simp] theorem State.putS_hif (s : State) (f : Field) (x : Int) : (s.putS f x).hif = s.hif := rfl
@[simp] theorem State.putS_fab (s : State) (f : Field) (x : Int) : (s.putS f x).fab = s.fab := rfl
@[simp] theorem State.putS_obs (s : State) (f : Field) (x : Int) : (s.putS f x).obs = s.obs := rfl
@[simp] theorem State.putS_refin (s : State) (f : Field) (x : Int) : (s.putS f x).refin = s.refin := rfl
@[simp] theorem State.putS_utc (s : State) (f : Field) (x : Int) : (s.putS f x).utc = s.utc := rfl
@[simp] theorem State.putS_gns (s : State) (f : Field) (x : Int) : (s.putS f x).gns = s.gns := rfl
@[simp] theorem State.putS_sel (s : State) (f : Field) (x : Int) : (s.putS f x).sel = s.sel := rfl
@[simp] theorem State.putS_tns (s : State) (f : Field) (x : Int) : (s.putS f x).tns = s.tns := rfl
@[simp] theorem State.putS_syn (s : State) (f : Field) (x : Int) : (s.putS f x).syn = s.syn := rfl
@[simp] theorem State.putS_pls (s : State) (f : Field) (x : Int) : (s.putS f x).pls = s.pls := rfl
@[simp] theorem State.putS_lan (s : State) (f : Field) (x : Int) : (s.putS f x).lan = s.lan := rfl
@[simp] theorem State.putS_tsu (s : State) (f : Field) (x : Int) : (s.putS f x).tsu = s.tsu := rfl
@[simp] theorem State.putS_cla (s : State) (f : Field) (x : Int) : (s.putS f x).cla = s.cla := rfl
@[simp] theorem State.putS_auth (s : State) (f : Field) (x : Int) : (s.putS f x).auth = s.auth := rfl
@[simp] theorem State.putS_flt (s : State) (f : Field) (x : Int) : (s.putS f x).flt = s.flt := rfl
@[simp] theorem State.putS_cnj (s : State) (f : Field) (x : Int) : (s.putS f x).cnj = s.cnj := rfl
@[simp] theorem State.putS_sys (s : State) (f : Field) (x : Int) : (s.putS f x).sys = s.sys := rfl
@[simp] theorem State.putS_free (s : State) (f : Field) (x : Int) : (s.putS f x).free = s.free := rfl
@[simp] theorem State.putS_hot (s : State) (f : Field) (x : Int) : (s.putS f x).hot = s.hot := rfl
@[simp] theorem State.putS_pending (s : State) (f : Field) (x : Int) : (s.putS f x).pending = s.pending := rfl

/-! ### State.putSat -/

@[simp] theorem State.putSat_tb (s : State) (f : Field) (x : Int) : (s.putSat f x).tb = s.tb := rfl
@[simp] theorem State.putSat_jr (s : State) (f : Field) (x : Int) : (s.putSat f x).jr = s.jr := rfl
@[simp] theorem State.putSat_hif (s : State) (f : Field) (x : Int) : (s.putSat f x).hif = s.hif := rfl
@[simp] theorem State.putSat_fab (s : State) (f : Field) (x : Int) : (s.putSat f x).fab = s.fab := rfl
@[simp] theorem State.putSat_obs (s : State) (f : Field) (x : Int) : (s.putSat f x).obs = s.obs := rfl
@[simp] theorem State.putSat_refin (s : State) (f : Field) (x : Int) : (s.putSat f x).refin = s.refin := rfl
@[simp] theorem State.putSat_utc (s : State) (f : Field) (x : Int) : (s.putSat f x).utc = s.utc := rfl
@[simp] theorem State.putSat_gns (s : State) (f : Field) (x : Int) : (s.putSat f x).gns = s.gns := rfl
@[simp] theorem State.putSat_sel (s : State) (f : Field) (x : Int) : (s.putSat f x).sel = s.sel := rfl
@[simp] theorem State.putSat_tns (s : State) (f : Field) (x : Int) : (s.putSat f x).tns = s.tns := rfl
@[simp] theorem State.putSat_syn (s : State) (f : Field) (x : Int) : (s.putSat f x).syn = s.syn := rfl
@[simp] theorem State.putSat_pls (s : State) (f : Field) (x : Int) : (s.putSat f x).pls = s.pls := rfl
@[simp] theorem State.putSat_lan (s : State) (f : Field) (x : Int) : (s.putSat f x).lan = s.lan := rfl
@[simp] theorem State.putSat_tsu (s : State) (f : Field) (x : Int) : (s.putSat f x).tsu = s.tsu := rfl
@[simp] theorem State.putSat_cla (s : State) (f : Field) (x : Int) : (s.putSat f x).cla = s.cla := rfl
@[simp] theorem State.putSat_auth (s : State) (f : Field) (x : Int) : (s.putSat f x).auth = s.auth := rfl
@[simp] theorem State.putSat_flt (s : State) (f : Field) (x : Int) : (s.putSat f x).flt = s.flt := rfl
@[simp] theorem State.putSat_cnj (s : State) (f : Field) (x : Int) : (s.putSat f x).cnj = s.cnj := rfl
@[simp] theorem State.putSat_sys (s : State) (f : Field) (x : Int) : (s.putSat f x).sys = s.sys := rfl
@[simp] theorem State.putSat_free (s : State) (f : Field) (x : Int) : (s.putSat f x).free = s.free := rfl
@[simp] theorem State.putSat_hot (s : State) (f : Field) (x : Int) : (s.putSat f x).hot = s.hot := rfl
@[simp] theorem State.putSat_pending (s : State) (f : Field) (x : Int) : (s.putSat f x).pending = s.pending := rfl

/-! ### State.putSatU -/

@[simp] theorem State.putSatU_tb (s : State) (f : Field) (v : Nat) : (s.putSatU f v).tb = s.tb := rfl
@[simp] theorem State.putSatU_jr (s : State) (f : Field) (v : Nat) : (s.putSatU f v).jr = s.jr := rfl
@[simp] theorem State.putSatU_hif (s : State) (f : Field) (v : Nat) : (s.putSatU f v).hif = s.hif := rfl
@[simp] theorem State.putSatU_fab (s : State) (f : Field) (v : Nat) : (s.putSatU f v).fab = s.fab := rfl
@[simp] theorem State.putSatU_obs (s : State) (f : Field) (v : Nat) : (s.putSatU f v).obs = s.obs := rfl
@[simp] theorem State.putSatU_refin (s : State) (f : Field) (v : Nat) : (s.putSatU f v).refin = s.refin := rfl
@[simp] theorem State.putSatU_utc (s : State) (f : Field) (v : Nat) : (s.putSatU f v).utc = s.utc := rfl
@[simp] theorem State.putSatU_gns (s : State) (f : Field) (v : Nat) : (s.putSatU f v).gns = s.gns := rfl
@[simp] theorem State.putSatU_sel (s : State) (f : Field) (v : Nat) : (s.putSatU f v).sel = s.sel := rfl
@[simp] theorem State.putSatU_tns (s : State) (f : Field) (v : Nat) : (s.putSatU f v).tns = s.tns := rfl
@[simp] theorem State.putSatU_syn (s : State) (f : Field) (v : Nat) : (s.putSatU f v).syn = s.syn := rfl
@[simp] theorem State.putSatU_pls (s : State) (f : Field) (v : Nat) : (s.putSatU f v).pls = s.pls := rfl
@[simp] theorem State.putSatU_lan (s : State) (f : Field) (v : Nat) : (s.putSatU f v).lan = s.lan := rfl
@[simp] theorem State.putSatU_tsu (s : State) (f : Field) (v : Nat) : (s.putSatU f v).tsu = s.tsu := rfl
@[simp] theorem State.putSatU_cla (s : State) (f : Field) (v : Nat) : (s.putSatU f v).cla = s.cla := rfl
@[simp] theorem State.putSatU_auth (s : State) (f : Field) (v : Nat) : (s.putSatU f v).auth = s.auth := rfl
@[simp] theorem State.putSatU_flt (s : State) (f : Field) (v : Nat) : (s.putSatU f v).flt = s.flt := rfl
@[simp] theorem State.putSatU_cnj (s : State) (f : Field) (v : Nat) : (s.putSatU f v).cnj = s.cnj := rfl
@[simp] theorem State.putSatU_sys (s : State) (f : Field) (v : Nat) : (s.putSatU f v).sys = s.sys := rfl
@[simp] theorem State.putSatU_free (s : State) (f : Field) (v : Nat) : (s.putSatU f v).free = s.free := rfl
@[simp] theorem State.putSatU_hot (s : State) (f : Field) (v : Nat) : (s.putSatU f v).hot = s.hot := rfl
@[simp] theorem State.putSatU_pending (s : State) (f : Field) (v : Nat) : (s.putSatU f v).pending = s.pending := rfl

/-! ### State.putPair -/

@[simp] theorem State.putPair_tb (s : State) (lo hi : Field) (v : Nat) : (s.putPair lo hi v).tb = s.tb := rfl
@[simp] theorem State.putPair_jr (s : State) (lo hi : Field) (v : Nat) : (s.putPair lo hi v).jr = s.jr := rfl
@[simp] theorem State.putPair_hif (s : State) (lo hi : Field) (v : Nat) : (s.putPair lo hi v).hif = s.hif := rfl
@[simp] theorem State.putPair_fab (s : State) (lo hi : Field) (v : Nat) : (s.putPair lo hi v).fab = s.fab := rfl
@[simp] theorem State.putPair_obs (s : State) (lo hi : Field) (v : Nat) : (s.putPair lo hi v).obs = s.obs := rfl
@[simp] theorem State.putPair_refin (s : State) (lo hi : Field) (v : Nat) : (s.putPair lo hi v).refin = s.refin := rfl
@[simp] theorem State.putPair_utc (s : State) (lo hi : Field) (v : Nat) : (s.putPair lo hi v).utc = s.utc := rfl
@[simp] theorem State.putPair_gns (s : State) (lo hi : Field) (v : Nat) : (s.putPair lo hi v).gns = s.gns := rfl
@[simp] theorem State.putPair_sel (s : State) (lo hi : Field) (v : Nat) : (s.putPair lo hi v).sel = s.sel := rfl
@[simp] theorem State.putPair_tns (s : State) (lo hi : Field) (v : Nat) : (s.putPair lo hi v).tns = s.tns := rfl
@[simp] theorem State.putPair_syn (s : State) (lo hi : Field) (v : Nat) : (s.putPair lo hi v).syn = s.syn := rfl
@[simp] theorem State.putPair_pls (s : State) (lo hi : Field) (v : Nat) : (s.putPair lo hi v).pls = s.pls := rfl
@[simp] theorem State.putPair_lan (s : State) (lo hi : Field) (v : Nat) : (s.putPair lo hi v).lan = s.lan := rfl
@[simp] theorem State.putPair_tsu (s : State) (lo hi : Field) (v : Nat) : (s.putPair lo hi v).tsu = s.tsu := rfl
@[simp] theorem State.putPair_cla (s : State) (lo hi : Field) (v : Nat) : (s.putPair lo hi v).cla = s.cla := rfl
@[simp] theorem State.putPair_auth (s : State) (lo hi : Field) (v : Nat) : (s.putPair lo hi v).auth = s.auth := rfl
@[simp] theorem State.putPair_flt (s : State) (lo hi : Field) (v : Nat) : (s.putPair lo hi v).flt = s.flt := rfl
@[simp] theorem State.putPair_cnj (s : State) (lo hi : Field) (v : Nat) : (s.putPair lo hi v).cnj = s.cnj := rfl
@[simp] theorem State.putPair_sys (s : State) (lo hi : Field) (v : Nat) : (s.putPair lo hi v).sys = s.sys := rfl
@[simp] theorem State.putPair_free (s : State) (lo hi : Field) (v : Nat) : (s.putPair lo hi v).free = s.free := rfl
@[simp] theorem State.putPair_hot (s : State) (lo hi : Field) (v : Nat) : (s.putPair lo hi v).hot = s.hot := rfl
@[simp] theorem State.putPair_pending (s : State) (lo hi : Field) (v : Nat) : (s.putPair lo hi v).pending = s.pending := rfl

/-! ### State.putPairSat -/

@[simp] theorem State.putPairSat_tb (s : State) (lo hi : Field) (x : Int) : (s.putPairSat lo hi x).tb = s.tb := rfl
@[simp] theorem State.putPairSat_jr (s : State) (lo hi : Field) (x : Int) : (s.putPairSat lo hi x).jr = s.jr := rfl
@[simp] theorem State.putPairSat_hif (s : State) (lo hi : Field) (x : Int) : (s.putPairSat lo hi x).hif = s.hif := rfl
@[simp] theorem State.putPairSat_fab (s : State) (lo hi : Field) (x : Int) : (s.putPairSat lo hi x).fab = s.fab := rfl
@[simp] theorem State.putPairSat_obs (s : State) (lo hi : Field) (x : Int) : (s.putPairSat lo hi x).obs = s.obs := rfl
@[simp] theorem State.putPairSat_refin (s : State) (lo hi : Field) (x : Int) : (s.putPairSat lo hi x).refin = s.refin := rfl
@[simp] theorem State.putPairSat_utc (s : State) (lo hi : Field) (x : Int) : (s.putPairSat lo hi x).utc = s.utc := rfl
@[simp] theorem State.putPairSat_gns (s : State) (lo hi : Field) (x : Int) : (s.putPairSat lo hi x).gns = s.gns := rfl
@[simp] theorem State.putPairSat_sel (s : State) (lo hi : Field) (x : Int) : (s.putPairSat lo hi x).sel = s.sel := rfl
@[simp] theorem State.putPairSat_tns (s : State) (lo hi : Field) (x : Int) : (s.putPairSat lo hi x).tns = s.tns := rfl
@[simp] theorem State.putPairSat_syn (s : State) (lo hi : Field) (x : Int) : (s.putPairSat lo hi x).syn = s.syn := rfl
@[simp] theorem State.putPairSat_pls (s : State) (lo hi : Field) (x : Int) : (s.putPairSat lo hi x).pls = s.pls := rfl
@[simp] theorem State.putPairSat_lan (s : State) (lo hi : Field) (x : Int) : (s.putPairSat lo hi x).lan = s.lan := rfl
@[simp] theorem State.putPairSat_tsu (s : State) (lo hi : Field) (x : Int) : (s.putPairSat lo hi x).tsu = s.tsu := rfl
@[simp] theorem State.putPairSat_cla (s : State) (lo hi : Field) (x : Int) : (s.putPairSat lo hi x).cla = s.cla := rfl
@[simp] theorem State.putPairSat_auth (s : State) (lo hi : Field) (x : Int) : (s.putPairSat lo hi x).auth = s.auth := rfl
@[simp] theorem State.putPairSat_flt (s : State) (lo hi : Field) (x : Int) : (s.putPairSat lo hi x).flt = s.flt := rfl
@[simp] theorem State.putPairSat_cnj (s : State) (lo hi : Field) (x : Int) : (s.putPairSat lo hi x).cnj = s.cnj := rfl
@[simp] theorem State.putPairSat_sys (s : State) (lo hi : Field) (x : Int) : (s.putPairSat lo hi x).sys = s.sys := rfl
@[simp] theorem State.putPairSat_free (s : State) (lo hi : Field) (x : Int) : (s.putPairSat lo hi x).free = s.free := rfl
@[simp] theorem State.putPairSat_hot (s : State) (lo hi : Field) (x : Int) : (s.putPairSat lo hi x).hot = s.hot := rfl
@[simp] theorem State.putPairSat_pending (s : State) (lo hi : Field) (x : Int) : (s.putPairSat lo hi x).pending = s.pending := rfl

/-! ### State.bump -/

@[simp] theorem State.bump_tb (s : State) (lo hi : Field) (n : Nat) : (s.bump lo hi n).tb = s.tb := rfl
@[simp] theorem State.bump_jr (s : State) (lo hi : Field) (n : Nat) : (s.bump lo hi n).jr = s.jr := rfl
@[simp] theorem State.bump_hif (s : State) (lo hi : Field) (n : Nat) : (s.bump lo hi n).hif = s.hif := rfl
@[simp] theorem State.bump_fab (s : State) (lo hi : Field) (n : Nat) : (s.bump lo hi n).fab = s.fab := rfl
@[simp] theorem State.bump_obs (s : State) (lo hi : Field) (n : Nat) : (s.bump lo hi n).obs = s.obs := rfl
@[simp] theorem State.bump_refin (s : State) (lo hi : Field) (n : Nat) : (s.bump lo hi n).refin = s.refin := rfl
@[simp] theorem State.bump_utc (s : State) (lo hi : Field) (n : Nat) : (s.bump lo hi n).utc = s.utc := rfl
@[simp] theorem State.bump_gns (s : State) (lo hi : Field) (n : Nat) : (s.bump lo hi n).gns = s.gns := rfl
@[simp] theorem State.bump_sel (s : State) (lo hi : Field) (n : Nat) : (s.bump lo hi n).sel = s.sel := rfl
@[simp] theorem State.bump_tns (s : State) (lo hi : Field) (n : Nat) : (s.bump lo hi n).tns = s.tns := rfl
@[simp] theorem State.bump_syn (s : State) (lo hi : Field) (n : Nat) : (s.bump lo hi n).syn = s.syn := rfl
@[simp] theorem State.bump_pls (s : State) (lo hi : Field) (n : Nat) : (s.bump lo hi n).pls = s.pls := rfl
@[simp] theorem State.bump_lan (s : State) (lo hi : Field) (n : Nat) : (s.bump lo hi n).lan = s.lan := rfl
@[simp] theorem State.bump_tsu (s : State) (lo hi : Field) (n : Nat) : (s.bump lo hi n).tsu = s.tsu := rfl
@[simp] theorem State.bump_cla (s : State) (lo hi : Field) (n : Nat) : (s.bump lo hi n).cla = s.cla := rfl
@[simp] theorem State.bump_auth (s : State) (lo hi : Field) (n : Nat) : (s.bump lo hi n).auth = s.auth := rfl
@[simp] theorem State.bump_flt (s : State) (lo hi : Field) (n : Nat) : (s.bump lo hi n).flt = s.flt := rfl
@[simp] theorem State.bump_cnj (s : State) (lo hi : Field) (n : Nat) : (s.bump lo hi n).cnj = s.cnj := rfl
@[simp] theorem State.bump_sys (s : State) (lo hi : Field) (n : Nat) : (s.bump lo hi n).sys = s.sys := rfl
@[simp] theorem State.bump_free (s : State) (lo hi : Field) (n : Nat) : (s.bump lo hi n).free = s.free := rfl
@[simp] theorem State.bump_hot (s : State) (lo hi : Field) (n : Nat) : (s.bump lo hi n).hot = s.hot := rfl
@[simp] theorem State.bump_pending (s : State) (lo hi : Field) (n : Nat) : (s.bump lo hi n).pending = s.pending := rfl

/-! ### State.bumpSat -/

@[simp] theorem State.bumpSat_tb (s : State) (f : Field) (n : Nat) : (s.bumpSat f n).tb = s.tb := rfl
@[simp] theorem State.bumpSat_jr (s : State) (f : Field) (n : Nat) : (s.bumpSat f n).jr = s.jr := rfl
@[simp] theorem State.bumpSat_hif (s : State) (f : Field) (n : Nat) : (s.bumpSat f n).hif = s.hif := rfl
@[simp] theorem State.bumpSat_fab (s : State) (f : Field) (n : Nat) : (s.bumpSat f n).fab = s.fab := rfl
@[simp] theorem State.bumpSat_obs (s : State) (f : Field) (n : Nat) : (s.bumpSat f n).obs = s.obs := rfl
@[simp] theorem State.bumpSat_refin (s : State) (f : Field) (n : Nat) : (s.bumpSat f n).refin = s.refin := rfl
@[simp] theorem State.bumpSat_utc (s : State) (f : Field) (n : Nat) : (s.bumpSat f n).utc = s.utc := rfl
@[simp] theorem State.bumpSat_gns (s : State) (f : Field) (n : Nat) : (s.bumpSat f n).gns = s.gns := rfl
@[simp] theorem State.bumpSat_sel (s : State) (f : Field) (n : Nat) : (s.bumpSat f n).sel = s.sel := rfl
@[simp] theorem State.bumpSat_tns (s : State) (f : Field) (n : Nat) : (s.bumpSat f n).tns = s.tns := rfl
@[simp] theorem State.bumpSat_syn (s : State) (f : Field) (n : Nat) : (s.bumpSat f n).syn = s.syn := rfl
@[simp] theorem State.bumpSat_pls (s : State) (f : Field) (n : Nat) : (s.bumpSat f n).pls = s.pls := rfl
@[simp] theorem State.bumpSat_lan (s : State) (f : Field) (n : Nat) : (s.bumpSat f n).lan = s.lan := rfl
@[simp] theorem State.bumpSat_tsu (s : State) (f : Field) (n : Nat) : (s.bumpSat f n).tsu = s.tsu := rfl
@[simp] theorem State.bumpSat_cla (s : State) (f : Field) (n : Nat) : (s.bumpSat f n).cla = s.cla := rfl
@[simp] theorem State.bumpSat_auth (s : State) (f : Field) (n : Nat) : (s.bumpSat f n).auth = s.auth := rfl
@[simp] theorem State.bumpSat_flt (s : State) (f : Field) (n : Nat) : (s.bumpSat f n).flt = s.flt := rfl
@[simp] theorem State.bumpSat_cnj (s : State) (f : Field) (n : Nat) : (s.bumpSat f n).cnj = s.cnj := rfl
@[simp] theorem State.bumpSat_sys (s : State) (f : Field) (n : Nat) : (s.bumpSat f n).sys = s.sys := rfl
@[simp] theorem State.bumpSat_free (s : State) (f : Field) (n : Nat) : (s.bumpSat f n).free = s.free := rfl
@[simp] theorem State.bumpSat_hot (s : State) (f : Field) (n : Nat) : (s.bumpSat f n).hot = s.hot := rfl
@[simp] theorem State.bumpSat_pending (s : State) (f : Field) (n : Nat) : (s.bumpSat f n).pending = s.pending := rfl

/-! ### State.putMapBit -/

@[simp] theorem State.putMapBit_tb (s : State) (f : Field) (k : Nat) (b : Bool) : (s.putMapBit f k b).tb = s.tb := rfl
@[simp] theorem State.putMapBit_jr (s : State) (f : Field) (k : Nat) (b : Bool) : (s.putMapBit f k b).jr = s.jr := rfl
@[simp] theorem State.putMapBit_hif (s : State) (f : Field) (k : Nat) (b : Bool) : (s.putMapBit f k b).hif = s.hif := rfl
@[simp] theorem State.putMapBit_fab (s : State) (f : Field) (k : Nat) (b : Bool) : (s.putMapBit f k b).fab = s.fab := rfl
@[simp] theorem State.putMapBit_obs (s : State) (f : Field) (k : Nat) (b : Bool) : (s.putMapBit f k b).obs = s.obs := rfl
@[simp] theorem State.putMapBit_refin (s : State) (f : Field) (k : Nat) (b : Bool) : (s.putMapBit f k b).refin = s.refin := rfl
@[simp] theorem State.putMapBit_utc (s : State) (f : Field) (k : Nat) (b : Bool) : (s.putMapBit f k b).utc = s.utc := rfl
@[simp] theorem State.putMapBit_gns (s : State) (f : Field) (k : Nat) (b : Bool) : (s.putMapBit f k b).gns = s.gns := rfl
@[simp] theorem State.putMapBit_sel (s : State) (f : Field) (k : Nat) (b : Bool) : (s.putMapBit f k b).sel = s.sel := rfl
@[simp] theorem State.putMapBit_tns (s : State) (f : Field) (k : Nat) (b : Bool) : (s.putMapBit f k b).tns = s.tns := rfl
@[simp] theorem State.putMapBit_syn (s : State) (f : Field) (k : Nat) (b : Bool) : (s.putMapBit f k b).syn = s.syn := rfl
@[simp] theorem State.putMapBit_pls (s : State) (f : Field) (k : Nat) (b : Bool) : (s.putMapBit f k b).pls = s.pls := rfl
@[simp] theorem State.putMapBit_lan (s : State) (f : Field) (k : Nat) (b : Bool) : (s.putMapBit f k b).lan = s.lan := rfl
@[simp] theorem State.putMapBit_tsu (s : State) (f : Field) (k : Nat) (b : Bool) : (s.putMapBit f k b).tsu = s.tsu := rfl
@[simp] theorem State.putMapBit_cla (s : State) (f : Field) (k : Nat) (b : Bool) : (s.putMapBit f k b).cla = s.cla := rfl
@[simp] theorem State.putMapBit_auth (s : State) (f : Field) (k : Nat) (b : Bool) : (s.putMapBit f k b).auth = s.auth := rfl
@[simp] theorem State.putMapBit_flt (s : State) (f : Field) (k : Nat) (b : Bool) : (s.putMapBit f k b).flt = s.flt := rfl
@[simp] theorem State.putMapBit_cnj (s : State) (f : Field) (k : Nat) (b : Bool) : (s.putMapBit f k b).cnj = s.cnj := rfl
@[simp] theorem State.putMapBit_sys (s : State) (f : Field) (k : Nat) (b : Bool) : (s.putMapBit f k b).sys = s.sys := rfl
@[simp] theorem State.putMapBit_free (s : State) (f : Field) (k : Nat) (b : Bool) : (s.putMapBit f k b).free = s.free := rfl
@[simp] theorem State.putMapBit_hot (s : State) (f : Field) (k : Nat) (b : Bool) : (s.putMapBit f k b).hot = s.hot := rfl
@[simp] theorem State.putMapBit_pending (s : State) (f : Field) (k : Nat) (b : Bool) : (s.putMapBit f k b).pending = s.pending := rfl

/-! ### State.publish -/

@[simp] theorem State.publish_tb (s : State) (v q : Field) : (s.publish v q).tb = s.tb := rfl
@[simp] theorem State.publish_jr (s : State) (v q : Field) : (s.publish v q).jr = s.jr := rfl
@[simp] theorem State.publish_hif (s : State) (v q : Field) : (s.publish v q).hif = s.hif := rfl
@[simp] theorem State.publish_fab (s : State) (v q : Field) : (s.publish v q).fab = s.fab := rfl
@[simp] theorem State.publish_obs (s : State) (v q : Field) : (s.publish v q).obs = s.obs := rfl
@[simp] theorem State.publish_refin (s : State) (v q : Field) : (s.publish v q).refin = s.refin := rfl
@[simp] theorem State.publish_utc (s : State) (v q : Field) : (s.publish v q).utc = s.utc := rfl
@[simp] theorem State.publish_gns (s : State) (v q : Field) : (s.publish v q).gns = s.gns := rfl
@[simp] theorem State.publish_sel (s : State) (v q : Field) : (s.publish v q).sel = s.sel := rfl
@[simp] theorem State.publish_tns (s : State) (v q : Field) : (s.publish v q).tns = s.tns := rfl
@[simp] theorem State.publish_syn (s : State) (v q : Field) : (s.publish v q).syn = s.syn := rfl
@[simp] theorem State.publish_pls (s : State) (v q : Field) : (s.publish v q).pls = s.pls := rfl
@[simp] theorem State.publish_lan (s : State) (v q : Field) : (s.publish v q).lan = s.lan := rfl
@[simp] theorem State.publish_tsu (s : State) (v q : Field) : (s.publish v q).tsu = s.tsu := rfl
@[simp] theorem State.publish_cla (s : State) (v q : Field) : (s.publish v q).cla = s.cla := rfl
@[simp] theorem State.publish_auth (s : State) (v q : Field) : (s.publish v q).auth = s.auth := rfl
@[simp] theorem State.publish_flt (s : State) (v q : Field) : (s.publish v q).flt = s.flt := rfl
@[simp] theorem State.publish_cnj (s : State) (v q : Field) : (s.publish v q).cnj = s.cnj := rfl
@[simp] theorem State.publish_sys (s : State) (v q : Field) : (s.publish v q).sys = s.sys := rfl
@[simp] theorem State.publish_free (s : State) (v q : Field) : (s.publish v q).free = s.free := rfl
@[simp] theorem State.publish_hot (s : State) (v q : Field) : (s.publish v q).hot = s.hot := rfl
@[simp] theorem State.publish_pending (s : State) (v q : Field) : (s.publish v q).pending = s.pending := rfl

/-! ### State.nextSeq -/

@[simp] theorem State.nextSeq_tb (s : State) (q : Field) : (s.nextSeq q).tb = s.tb := rfl
@[simp] theorem State.nextSeq_jr (s : State) (q : Field) : (s.nextSeq q).jr = s.jr := rfl
@[simp] theorem State.nextSeq_hif (s : State) (q : Field) : (s.nextSeq q).hif = s.hif := rfl
@[simp] theorem State.nextSeq_fab (s : State) (q : Field) : (s.nextSeq q).fab = s.fab := rfl
@[simp] theorem State.nextSeq_obs (s : State) (q : Field) : (s.nextSeq q).obs = s.obs := rfl
@[simp] theorem State.nextSeq_refin (s : State) (q : Field) : (s.nextSeq q).refin = s.refin := rfl
@[simp] theorem State.nextSeq_utc (s : State) (q : Field) : (s.nextSeq q).utc = s.utc := rfl
@[simp] theorem State.nextSeq_gns (s : State) (q : Field) : (s.nextSeq q).gns = s.gns := rfl
@[simp] theorem State.nextSeq_sel (s : State) (q : Field) : (s.nextSeq q).sel = s.sel := rfl
@[simp] theorem State.nextSeq_tns (s : State) (q : Field) : (s.nextSeq q).tns = s.tns := rfl
@[simp] theorem State.nextSeq_syn (s : State) (q : Field) : (s.nextSeq q).syn = s.syn := rfl
@[simp] theorem State.nextSeq_pls (s : State) (q : Field) : (s.nextSeq q).pls = s.pls := rfl
@[simp] theorem State.nextSeq_lan (s : State) (q : Field) : (s.nextSeq q).lan = s.lan := rfl
@[simp] theorem State.nextSeq_tsu (s : State) (q : Field) : (s.nextSeq q).tsu = s.tsu := rfl
@[simp] theorem State.nextSeq_cla (s : State) (q : Field) : (s.nextSeq q).cla = s.cla := rfl
@[simp] theorem State.nextSeq_auth (s : State) (q : Field) : (s.nextSeq q).auth = s.auth := rfl
@[simp] theorem State.nextSeq_flt (s : State) (q : Field) : (s.nextSeq q).flt = s.flt := rfl
@[simp] theorem State.nextSeq_cnj (s : State) (q : Field) : (s.nextSeq q).cnj = s.cnj := rfl
@[simp] theorem State.nextSeq_sys (s : State) (q : Field) : (s.nextSeq q).sys = s.sys := rfl
@[simp] theorem State.nextSeq_free (s : State) (q : Field) : (s.nextSeq q).free = s.free := rfl
@[simp] theorem State.nextSeq_hot (s : State) (q : Field) : (s.nextSeq q).hot = s.hot := rfl
@[simp] theorem State.nextSeq_pending (s : State) (q : Field) : (s.nextSeq q).pending = s.pending := rfl

/-! ### State.setFlag -/

@[simp] theorem State.setFlag_tb (s : State) (f : FlagBit) : (s.setFlag f).tb = s.tb := rfl
@[simp] theorem State.setFlag_jr (s : State) (f : FlagBit) : (s.setFlag f).jr = s.jr := rfl
@[simp] theorem State.setFlag_hif (s : State) (f : FlagBit) : (s.setFlag f).hif = s.hif := rfl
@[simp] theorem State.setFlag_fab (s : State) (f : FlagBit) : (s.setFlag f).fab = s.fab := rfl
@[simp] theorem State.setFlag_obs (s : State) (f : FlagBit) : (s.setFlag f).obs = s.obs := rfl
@[simp] theorem State.setFlag_refin (s : State) (f : FlagBit) : (s.setFlag f).refin = s.refin := rfl
@[simp] theorem State.setFlag_utc (s : State) (f : FlagBit) : (s.setFlag f).utc = s.utc := rfl
@[simp] theorem State.setFlag_gns (s : State) (f : FlagBit) : (s.setFlag f).gns = s.gns := rfl
@[simp] theorem State.setFlag_sel (s : State) (f : FlagBit) : (s.setFlag f).sel = s.sel := rfl
@[simp] theorem State.setFlag_tns (s : State) (f : FlagBit) : (s.setFlag f).tns = s.tns := rfl
@[simp] theorem State.setFlag_syn (s : State) (f : FlagBit) : (s.setFlag f).syn = s.syn := rfl
@[simp] theorem State.setFlag_pls (s : State) (f : FlagBit) : (s.setFlag f).pls = s.pls := rfl
@[simp] theorem State.setFlag_lan (s : State) (f : FlagBit) : (s.setFlag f).lan = s.lan := rfl
@[simp] theorem State.setFlag_tsu (s : State) (f : FlagBit) : (s.setFlag f).tsu = s.tsu := rfl
@[simp] theorem State.setFlag_cla (s : State) (f : FlagBit) : (s.setFlag f).cla = s.cla := rfl
@[simp] theorem State.setFlag_auth (s : State) (f : FlagBit) : (s.setFlag f).auth = s.auth := rfl
@[simp] theorem State.setFlag_flt (s : State) (f : FlagBit) : (s.setFlag f).flt = s.flt := rfl
@[simp] theorem State.setFlag_cnj (s : State) (f : FlagBit) : (s.setFlag f).cnj = s.cnj := rfl
@[simp] theorem State.setFlag_sys (s : State) (f : FlagBit) : (s.setFlag f).sys = s.sys := rfl
@[simp] theorem State.setFlag_free (s : State) (f : FlagBit) : (s.setFlag f).free = s.free := rfl
@[simp] theorem State.setFlag_pending (s : State) (f : FlagBit) : (s.setFlag f).pending = s.pending := rfl

/-! ### State.flagIf -/

@[simp] theorem State.flagIf_tb (s : State) (b : Bool) (f : FlagBit) : (s.flagIf b f).tb = s.tb := by cases b <;> rfl
@[simp] theorem State.flagIf_jr (s : State) (b : Bool) (f : FlagBit) : (s.flagIf b f).jr = s.jr := by cases b <;> rfl
@[simp] theorem State.flagIf_hif (s : State) (b : Bool) (f : FlagBit) : (s.flagIf b f).hif = s.hif := by cases b <;> rfl
@[simp] theorem State.flagIf_fab (s : State) (b : Bool) (f : FlagBit) : (s.flagIf b f).fab = s.fab := by cases b <;> rfl
@[simp] theorem State.flagIf_obs (s : State) (b : Bool) (f : FlagBit) : (s.flagIf b f).obs = s.obs := by cases b <;> rfl
@[simp] theorem State.flagIf_refin (s : State) (b : Bool) (f : FlagBit) : (s.flagIf b f).refin = s.refin := by cases b <;> rfl
@[simp] theorem State.flagIf_utc (s : State) (b : Bool) (f : FlagBit) : (s.flagIf b f).utc = s.utc := by cases b <;> rfl
@[simp] theorem State.flagIf_gns (s : State) (b : Bool) (f : FlagBit) : (s.flagIf b f).gns = s.gns := by cases b <;> rfl
@[simp] theorem State.flagIf_sel (s : State) (b : Bool) (f : FlagBit) : (s.flagIf b f).sel = s.sel := by cases b <;> rfl
@[simp] theorem State.flagIf_tns (s : State) (b : Bool) (f : FlagBit) : (s.flagIf b f).tns = s.tns := by cases b <;> rfl
@[simp] theorem State.flagIf_syn (s : State) (b : Bool) (f : FlagBit) : (s.flagIf b f).syn = s.syn := by cases b <;> rfl
@[simp] theorem State.flagIf_pls (s : State) (b : Bool) (f : FlagBit) : (s.flagIf b f).pls = s.pls := by cases b <;> rfl
@[simp] theorem State.flagIf_lan (s : State) (b : Bool) (f : FlagBit) : (s.flagIf b f).lan = s.lan := by cases b <;> rfl
@[simp] theorem State.flagIf_tsu (s : State) (b : Bool) (f : FlagBit) : (s.flagIf b f).tsu = s.tsu := by cases b <;> rfl
@[simp] theorem State.flagIf_cla (s : State) (b : Bool) (f : FlagBit) : (s.flagIf b f).cla = s.cla := by cases b <;> rfl
@[simp] theorem State.flagIf_auth (s : State) (b : Bool) (f : FlagBit) : (s.flagIf b f).auth = s.auth := by cases b <;> rfl
@[simp] theorem State.flagIf_flt (s : State) (b : Bool) (f : FlagBit) : (s.flagIf b f).flt = s.flt := by cases b <;> rfl
@[simp] theorem State.flagIf_cnj (s : State) (b : Bool) (f : FlagBit) : (s.flagIf b f).cnj = s.cnj := by cases b <;> rfl
@[simp] theorem State.flagIf_sys (s : State) (b : Bool) (f : FlagBit) : (s.flagIf b f).sys = s.sys := by cases b <;> rfl
@[simp] theorem State.flagIf_free (s : State) (b : Bool) (f : FlagBit) : (s.flagIf b f).free = s.free := by cases b <;> rfl
@[simp] theorem State.flagIf_pending (s : State) (b : Bool) (f : FlagBit) : (s.flagIf b f).pending = s.pending := by cases b <;> rfl

/-! ### State.perf -/

@[simp] theorem State.perf_regs (s : State) (e i n : Nat) : (s.perf e i n).regs = s.regs := rfl
@[simp] theorem State.perf_tb (s : State) (e i n : Nat) : (s.perf e i n).tb = s.tb := rfl
@[simp] theorem State.perf_jr (s : State) (e i n : Nat) : (s.perf e i n).jr = s.jr := rfl
@[simp] theorem State.perf_hif (s : State) (e i n : Nat) : (s.perf e i n).hif = s.hif := rfl
@[simp] theorem State.perf_fab (s : State) (e i n : Nat) : (s.perf e i n).fab = s.fab := rfl
@[simp] theorem State.perf_refin (s : State) (e i n : Nat) : (s.perf e i n).refin = s.refin := rfl
@[simp] theorem State.perf_utc (s : State) (e i n : Nat) : (s.perf e i n).utc = s.utc := rfl
@[simp] theorem State.perf_gns (s : State) (e i n : Nat) : (s.perf e i n).gns = s.gns := rfl
@[simp] theorem State.perf_sel (s : State) (e i n : Nat) : (s.perf e i n).sel = s.sel := rfl
@[simp] theorem State.perf_tns (s : State) (e i n : Nat) : (s.perf e i n).tns = s.tns := rfl
@[simp] theorem State.perf_syn (s : State) (e i n : Nat) : (s.perf e i n).syn = s.syn := rfl
@[simp] theorem State.perf_pls (s : State) (e i n : Nat) : (s.perf e i n).pls = s.pls := rfl
@[simp] theorem State.perf_lan (s : State) (e i n : Nat) : (s.perf e i n).lan = s.lan := rfl
@[simp] theorem State.perf_tsu (s : State) (e i n : Nat) : (s.perf e i n).tsu = s.tsu := rfl
@[simp] theorem State.perf_cla (s : State) (e i n : Nat) : (s.perf e i n).cla = s.cla := rfl
@[simp] theorem State.perf_auth (s : State) (e i n : Nat) : (s.perf e i n).auth = s.auth := rfl
@[simp] theorem State.perf_flt (s : State) (e i n : Nat) : (s.perf e i n).flt = s.flt := rfl
@[simp] theorem State.perf_cnj (s : State) (e i n : Nat) : (s.perf e i n).cnj = s.cnj := rfl
@[simp] theorem State.perf_sys (s : State) (e i n : Nat) : (s.perf e i n).sys = s.sys := rfl
@[simp] theorem State.perf_free (s : State) (e i n : Nat) : (s.perf e i n).free = s.free := rfl
@[simp] theorem State.perf_hot (s : State) (e i n : Nat) : (s.perf e i n).hot = s.hot := rfl
@[simp] theorem State.perf_pending (s : State) (e i n : Nat) : (s.perf e i n).pending = s.pending := rfl

/-! ### State.commitMark -/

@[simp] theorem State.commitMark_regs (s : State) : (s.commitMark).regs = s.regs := rfl
@[simp] theorem State.commitMark_tb (s : State) : (s.commitMark).tb = s.tb := rfl
@[simp] theorem State.commitMark_hif (s : State) : (s.commitMark).hif = s.hif := rfl
@[simp] theorem State.commitMark_fab (s : State) : (s.commitMark).fab = s.fab := rfl
@[simp] theorem State.commitMark_obs (s : State) : (s.commitMark).obs = s.obs := rfl
@[simp] theorem State.commitMark_refin (s : State) : (s.commitMark).refin = s.refin := rfl
@[simp] theorem State.commitMark_utc (s : State) : (s.commitMark).utc = s.utc := rfl
@[simp] theorem State.commitMark_gns (s : State) : (s.commitMark).gns = s.gns := rfl
@[simp] theorem State.commitMark_sel (s : State) : (s.commitMark).sel = s.sel := rfl
@[simp] theorem State.commitMark_tns (s : State) : (s.commitMark).tns = s.tns := rfl
@[simp] theorem State.commitMark_syn (s : State) : (s.commitMark).syn = s.syn := rfl
@[simp] theorem State.commitMark_pls (s : State) : (s.commitMark).pls = s.pls := rfl
@[simp] theorem State.commitMark_lan (s : State) : (s.commitMark).lan = s.lan := rfl
@[simp] theorem State.commitMark_tsu (s : State) : (s.commitMark).tsu = s.tsu := rfl
@[simp] theorem State.commitMark_cla (s : State) : (s.commitMark).cla = s.cla := rfl
@[simp] theorem State.commitMark_auth (s : State) : (s.commitMark).auth = s.auth := rfl
@[simp] theorem State.commitMark_flt (s : State) : (s.commitMark).flt = s.flt := rfl
@[simp] theorem State.commitMark_cnj (s : State) : (s.commitMark).cnj = s.cnj := rfl
@[simp] theorem State.commitMark_sys (s : State) : (s.commitMark).sys = s.sys := rfl
@[simp] theorem State.commitMark_free (s : State) : (s.commitMark).free = s.free := rfl
@[simp] theorem State.commitMark_hot (s : State) : (s.commitMark).hot = s.hot := rfl
@[simp] theorem State.commitMark_pending (s : State) : (s.commitMark).pending = s.pending := rfl

/-! ### State.feed -/

@[simp] theorem State.feed_regs (s : State) (i : Nat) (m : Meas) : (s.feed i m).regs = s.regs := rfl
@[simp] theorem State.feed_tb (s : State) (i : Nat) (m : Meas) : (s.feed i m).tb = s.tb := rfl
@[simp] theorem State.feed_jr (s : State) (i : Nat) (m : Meas) : (s.feed i m).jr = s.jr := rfl
@[simp] theorem State.feed_hif (s : State) (i : Nat) (m : Meas) : (s.feed i m).hif = s.hif := rfl
@[simp] theorem State.feed_fab (s : State) (i : Nat) (m : Meas) : (s.feed i m).fab = s.fab := rfl
@[simp] theorem State.feed_obs (s : State) (i : Nat) (m : Meas) : (s.feed i m).obs = s.obs := rfl
@[simp] theorem State.feed_refin (s : State) (i : Nat) (m : Meas) : (s.feed i m).refin = s.refin := rfl
@[simp] theorem State.feed_utc (s : State) (i : Nat) (m : Meas) : (s.feed i m).utc = s.utc := rfl
@[simp] theorem State.feed_gns (s : State) (i : Nat) (m : Meas) : (s.feed i m).gns = s.gns := rfl
@[simp] theorem State.feed_tns (s : State) (i : Nat) (m : Meas) : (s.feed i m).tns = s.tns := rfl
@[simp] theorem State.feed_syn (s : State) (i : Nat) (m : Meas) : (s.feed i m).syn = s.syn := rfl
@[simp] theorem State.feed_pls (s : State) (i : Nat) (m : Meas) : (s.feed i m).pls = s.pls := rfl
@[simp] theorem State.feed_lan (s : State) (i : Nat) (m : Meas) : (s.feed i m).lan = s.lan := rfl
@[simp] theorem State.feed_tsu (s : State) (i : Nat) (m : Meas) : (s.feed i m).tsu = s.tsu := rfl
@[simp] theorem State.feed_cla (s : State) (i : Nat) (m : Meas) : (s.feed i m).cla = s.cla := rfl
@[simp] theorem State.feed_auth (s : State) (i : Nat) (m : Meas) : (s.feed i m).auth = s.auth := rfl
@[simp] theorem State.feed_flt (s : State) (i : Nat) (m : Meas) : (s.feed i m).flt = s.flt := rfl
@[simp] theorem State.feed_cnj (s : State) (i : Nat) (m : Meas) : (s.feed i m).cnj = s.cnj := rfl
@[simp] theorem State.feed_sys (s : State) (i : Nat) (m : Meas) : (s.feed i m).sys = s.sys := rfl
@[simp] theorem State.feed_free (s : State) (i : Nat) (m : Meas) : (s.feed i m).free = s.free := rfl
@[simp] theorem State.feed_hot (s : State) (i : Nat) (m : Meas) : (s.feed i m).hot = s.hot := rfl
@[simp] theorem State.feed_pending (s : State) (i : Nat) (m : Meas) : (s.feed i m).pending = s.pending := rfl

/-! ### windowEvent -/

@[simp] theorem windowEvent_regs (s : State) (k i d : Nat) : (windowEvent s k i d).regs = s.regs := rfl
@[simp] theorem windowEvent_tb (s : State) (k i d : Nat) : (windowEvent s k i d).tb = s.tb := rfl
@[simp] theorem windowEvent_jr (s : State) (k i d : Nat) : (windowEvent s k i d).jr = s.jr := rfl
@[simp] theorem windowEvent_hif (s : State) (k i d : Nat) : (windowEvent s k i d).hif = s.hif := rfl
@[simp] theorem windowEvent_fab (s : State) (k i d : Nat) : (windowEvent s k i d).fab = s.fab := rfl
@[simp] theorem windowEvent_obs (s : State) (k i d : Nat) : (windowEvent s k i d).obs = s.obs := rfl
@[simp] theorem windowEvent_refin (s : State) (k i d : Nat) : (windowEvent s k i d).refin = s.refin := rfl
@[simp] theorem windowEvent_utc (s : State) (k i d : Nat) : (windowEvent s k i d).utc = s.utc := rfl
@[simp] theorem windowEvent_gns (s : State) (k i d : Nat) : (windowEvent s k i d).gns = s.gns := rfl
@[simp] theorem windowEvent_sel (s : State) (k i d : Nat) : (windowEvent s k i d).sel = s.sel := rfl
@[simp] theorem windowEvent_tns (s : State) (k i d : Nat) : (windowEvent s k i d).tns = s.tns := rfl
@[simp] theorem windowEvent_syn (s : State) (k i d : Nat) : (windowEvent s k i d).syn = s.syn := rfl
@[simp] theorem windowEvent_pls (s : State) (k i d : Nat) : (windowEvent s k i d).pls = s.pls := rfl
@[simp] theorem windowEvent_lan (s : State) (k i d : Nat) : (windowEvent s k i d).lan = s.lan := rfl
@[simp] theorem windowEvent_tsu (s : State) (k i d : Nat) : (windowEvent s k i d).tsu = s.tsu := rfl
@[simp] theorem windowEvent_cla (s : State) (k i d : Nat) : (windowEvent s k i d).cla = s.cla := rfl
@[simp] theorem windowEvent_auth (s : State) (k i d : Nat) : (windowEvent s k i d).auth = s.auth := rfl
@[simp] theorem windowEvent_cnj (s : State) (k i d : Nat) : (windowEvent s k i d).cnj = s.cnj := rfl
@[simp] theorem windowEvent_sys (s : State) (k i d : Nat) : (windowEvent s k i d).sys = s.sys := rfl
@[simp] theorem windowEvent_free (s : State) (k i d : Nat) : (windowEvent s k i d).free = s.free := rfl
@[simp] theorem windowEvent_hot (s : State) (k i d : Nat) : (windowEvent s k i d).hot = s.hot := rfl
@[simp] theorem windowEvent_pending (s : State) (k i d : Nat) : (windowEvent s k i d).pending = s.pending := rfl

/-! ### alertOn -/

@[simp] theorem alertOn_regs (s : State) (k : Nat) : (alertOn s k).regs = s.regs := rfl
@[simp] theorem alertOn_tb (s : State) (k : Nat) : (alertOn s k).tb = s.tb := rfl
@[simp] theorem alertOn_jr (s : State) (k : Nat) : (alertOn s k).jr = s.jr := rfl
@[simp] theorem alertOn_hif (s : State) (k : Nat) : (alertOn s k).hif = s.hif := rfl
@[simp] theorem alertOn_fab (s : State) (k : Nat) : (alertOn s k).fab = s.fab := rfl
@[simp] theorem alertOn_obs (s : State) (k : Nat) : (alertOn s k).obs = s.obs := rfl
@[simp] theorem alertOn_refin (s : State) (k : Nat) : (alertOn s k).refin = s.refin := rfl
@[simp] theorem alertOn_utc (s : State) (k : Nat) : (alertOn s k).utc = s.utc := rfl
@[simp] theorem alertOn_gns (s : State) (k : Nat) : (alertOn s k).gns = s.gns := rfl
@[simp] theorem alertOn_sel (s : State) (k : Nat) : (alertOn s k).sel = s.sel := rfl
@[simp] theorem alertOn_tns (s : State) (k : Nat) : (alertOn s k).tns = s.tns := rfl
@[simp] theorem alertOn_syn (s : State) (k : Nat) : (alertOn s k).syn = s.syn := rfl
@[simp] theorem alertOn_pls (s : State) (k : Nat) : (alertOn s k).pls = s.pls := rfl
@[simp] theorem alertOn_lan (s : State) (k : Nat) : (alertOn s k).lan = s.lan := rfl
@[simp] theorem alertOn_tsu (s : State) (k : Nat) : (alertOn s k).tsu = s.tsu := rfl
@[simp] theorem alertOn_cla (s : State) (k : Nat) : (alertOn s k).cla = s.cla := rfl
@[simp] theorem alertOn_auth (s : State) (k : Nat) : (alertOn s k).auth = s.auth := rfl
@[simp] theorem alertOn_flt (s : State) (k : Nat) : (alertOn s k).flt = s.flt := rfl
@[simp] theorem alertOn_cnj (s : State) (k : Nat) : (alertOn s k).cnj = s.cnj := rfl
@[simp] theorem alertOn_free (s : State) (k : Nat) : (alertOn s k).free = s.free := rfl
@[simp] theorem alertOn_hot (s : State) (k : Nat) : (alertOn s k).hot = s.hot := rfl
@[simp] theorem alertOn_pending (s : State) (k : Nat) : (alertOn s k).pending = s.pending := rfl

/-! ### State.setCnj -/

@[simp] theorem State.setCnj_regs (s : State) (f : Cnj → Cnj) : (s.setCnj f).regs = s.regs := rfl
@[simp] theorem State.setCnj_tb (s : State) (f : Cnj → Cnj) : (s.setCnj f).tb = s.tb := rfl
@[simp] theorem State.setCnj_jr (s : State) (f : Cnj → Cnj) : (s.setCnj f).jr = s.jr := rfl
@[simp] theorem State.setCnj_hif (s : State) (f : Cnj → Cnj) : (s.setCnj f).hif = s.hif := rfl
@[simp] theorem State.setCnj_fab (s : State) (f : Cnj → Cnj) : (s.setCnj f).fab = s.fab := rfl
@[simp] theorem State.setCnj_obs (s : State) (f : Cnj → Cnj) : (s.setCnj f).obs = s.obs := rfl
@[simp] theorem State.setCnj_refin (s : State) (f : Cnj → Cnj) : (s.setCnj f).refin = s.refin := rfl
@[simp] theorem State.setCnj_utc (s : State) (f : Cnj → Cnj) : (s.setCnj f).utc = s.utc := rfl
@[simp] theorem State.setCnj_gns (s : State) (f : Cnj → Cnj) : (s.setCnj f).gns = s.gns := rfl
@[simp] theorem State.setCnj_sel (s : State) (f : Cnj → Cnj) : (s.setCnj f).sel = s.sel := rfl
@[simp] theorem State.setCnj_tns (s : State) (f : Cnj → Cnj) : (s.setCnj f).tns = s.tns := rfl
@[simp] theorem State.setCnj_syn (s : State) (f : Cnj → Cnj) : (s.setCnj f).syn = s.syn := rfl
@[simp] theorem State.setCnj_pls (s : State) (f : Cnj → Cnj) : (s.setCnj f).pls = s.pls := rfl
@[simp] theorem State.setCnj_lan (s : State) (f : Cnj → Cnj) : (s.setCnj f).lan = s.lan := rfl
@[simp] theorem State.setCnj_tsu (s : State) (f : Cnj → Cnj) : (s.setCnj f).tsu = s.tsu := rfl
@[simp] theorem State.setCnj_cla (s : State) (f : Cnj → Cnj) : (s.setCnj f).cla = s.cla := rfl
@[simp] theorem State.setCnj_auth (s : State) (f : Cnj → Cnj) : (s.setCnj f).auth = s.auth := rfl
@[simp] theorem State.setCnj_flt (s : State) (f : Cnj → Cnj) : (s.setCnj f).flt = s.flt := rfl
@[simp] theorem State.setCnj_sys (s : State) (f : Cnj → Cnj) : (s.setCnj f).sys = s.sys := rfl
@[simp] theorem State.setCnj_free (s : State) (f : Cnj → Cnj) : (s.setCnj f).free = s.free := rfl
@[simp] theorem State.setCnj_hot (s : State) (f : Cnj → Cnj) : (s.setCnj f).hot = s.hot := rfl
@[simp] theorem State.setCnj_pending (s : State) (f : Cnj → Cnj) : (s.setCnj f).pending = s.pending := rfl

/-! ### State.setSys -/

@[simp] theorem State.setSys_regs (s : State) (f : Sys → Sys) : (s.setSys f).regs = s.regs := rfl
@[simp] theorem State.setSys_tb (s : State) (f : Sys → Sys) : (s.setSys f).tb = s.tb := rfl
@[simp] theorem State.setSys_jr (s : State) (f : Sys → Sys) : (s.setSys f).jr = s.jr := rfl
@[simp] theorem State.setSys_hif (s : State) (f : Sys → Sys) : (s.setSys f).hif = s.hif := rfl
@[simp] theorem State.setSys_fab (s : State) (f : Sys → Sys) : (s.setSys f).fab = s.fab := rfl
@[simp] theorem State.setSys_obs (s : State) (f : Sys → Sys) : (s.setSys f).obs = s.obs := rfl
@[simp] theorem State.setSys_refin (s : State) (f : Sys → Sys) : (s.setSys f).refin = s.refin := rfl
@[simp] theorem State.setSys_utc (s : State) (f : Sys → Sys) : (s.setSys f).utc = s.utc := rfl
@[simp] theorem State.setSys_gns (s : State) (f : Sys → Sys) : (s.setSys f).gns = s.gns := rfl
@[simp] theorem State.setSys_sel (s : State) (f : Sys → Sys) : (s.setSys f).sel = s.sel := rfl
@[simp] theorem State.setSys_tns (s : State) (f : Sys → Sys) : (s.setSys f).tns = s.tns := rfl
@[simp] theorem State.setSys_syn (s : State) (f : Sys → Sys) : (s.setSys f).syn = s.syn := rfl
@[simp] theorem State.setSys_pls (s : State) (f : Sys → Sys) : (s.setSys f).pls = s.pls := rfl
@[simp] theorem State.setSys_lan (s : State) (f : Sys → Sys) : (s.setSys f).lan = s.lan := rfl
@[simp] theorem State.setSys_tsu (s : State) (f : Sys → Sys) : (s.setSys f).tsu = s.tsu := rfl
@[simp] theorem State.setSys_cla (s : State) (f : Sys → Sys) : (s.setSys f).cla = s.cla := rfl
@[simp] theorem State.setSys_auth (s : State) (f : Sys → Sys) : (s.setSys f).auth = s.auth := rfl
@[simp] theorem State.setSys_flt (s : State) (f : Sys → Sys) : (s.setSys f).flt = s.flt := rfl
@[simp] theorem State.setSys_cnj (s : State) (f : Sys → Sys) : (s.setSys f).cnj = s.cnj := rfl
@[simp] theorem State.setSys_free (s : State) (f : Sys → Sys) : (s.setSys f).free = s.free := rfl
@[simp] theorem State.setSys_hot (s : State) (f : Sys → Sys) : (s.setSys f).hot = s.hot := rfl
@[simp] theorem State.setSys_pending (s : State) (f : Sys → Sys) : (s.setSys f).pending = s.pending := rfl

/-! ### State.fire -/

@[simp] theorem State.fire_tb (s : State) (v : Nat) : (s.fire v).tb = s.tb := by unfold State.fire; split <;> rfl
@[simp] theorem State.fire_jr (s : State) (v : Nat) : (s.fire v).jr = s.jr := by unfold State.fire; split <;> rfl
@[simp] theorem State.fire_fab (s : State) (v : Nat) : (s.fire v).fab = s.fab := by unfold State.fire; split <;> rfl
@[simp] theorem State.fire_obs (s : State) (v : Nat) : (s.fire v).obs = s.obs := by unfold State.fire; split <;> rfl
@[simp] theorem State.fire_refin (s : State) (v : Nat) : (s.fire v).refin = s.refin := by unfold State.fire; split <;> rfl
@[simp] theorem State.fire_utc (s : State) (v : Nat) : (s.fire v).utc = s.utc := by unfold State.fire; split <;> rfl
@[simp] theorem State.fire_gns (s : State) (v : Nat) : (s.fire v).gns = s.gns := by unfold State.fire; split <;> rfl
@[simp] theorem State.fire_sel (s : State) (v : Nat) : (s.fire v).sel = s.sel := by unfold State.fire; split <;> rfl
@[simp] theorem State.fire_tns (s : State) (v : Nat) : (s.fire v).tns = s.tns := by unfold State.fire; split <;> rfl
@[simp] theorem State.fire_syn (s : State) (v : Nat) : (s.fire v).syn = s.syn := by unfold State.fire; split <;> rfl
@[simp] theorem State.fire_pls (s : State) (v : Nat) : (s.fire v).pls = s.pls := by unfold State.fire; split <;> rfl
@[simp] theorem State.fire_lan (s : State) (v : Nat) : (s.fire v).lan = s.lan := by unfold State.fire; split <;> rfl
@[simp] theorem State.fire_tsu (s : State) (v : Nat) : (s.fire v).tsu = s.tsu := by unfold State.fire; split <;> rfl
@[simp] theorem State.fire_cla (s : State) (v : Nat) : (s.fire v).cla = s.cla := by unfold State.fire; split <;> rfl
@[simp] theorem State.fire_auth (s : State) (v : Nat) : (s.fire v).auth = s.auth := by unfold State.fire; split <;> rfl
@[simp] theorem State.fire_flt (s : State) (v : Nat) : (s.fire v).flt = s.flt := by unfold State.fire; split <;> rfl
@[simp] theorem State.fire_cnj (s : State) (v : Nat) : (s.fire v).cnj = s.cnj := by unfold State.fire; split <;> rfl
@[simp] theorem State.fire_sys (s : State) (v : Nat) : (s.fire v).sys = s.sys := by unfold State.fire; split <;> rfl
@[simp] theorem State.fire_free (s : State) (v : Nat) : (s.fire v).free = s.free := by unfold State.fire; split <;> rfl
@[simp] theorem State.fire_hot (s : State) (v : Nat) : (s.fire v).hot = s.hot := by unfold State.fire; split <;> rfl
@[simp] theorem State.fire_pending (s : State) (v : Nat) : (s.fire v).pending = s.pending := by unfold State.fire; split <;> rfl

/-! ### State.setObs -/

@[simp] theorem State.setObs_regs (s : State) (f : Obs → Obs) : (s.setObs f).regs = s.regs := rfl
@[simp] theorem State.setObs_tb (s : State) (f : Obs → Obs) : (s.setObs f).tb = s.tb := rfl
@[simp] theorem State.setObs_jr (s : State) (f : Obs → Obs) : (s.setObs f).jr = s.jr := rfl
@[simp] theorem State.setObs_hif (s : State) (f : Obs → Obs) : (s.setObs f).hif = s.hif := rfl
@[simp] theorem State.setObs_fab (s : State) (f : Obs → Obs) : (s.setObs f).fab = s.fab := rfl
@[simp] theorem State.setObs_refin (s : State) (f : Obs → Obs) : (s.setObs f).refin = s.refin := rfl
@[simp] theorem State.setObs_utc (s : State) (f : Obs → Obs) : (s.setObs f).utc = s.utc := rfl
@[simp] theorem State.setObs_gns (s : State) (f : Obs → Obs) : (s.setObs f).gns = s.gns := rfl
@[simp] theorem State.setObs_sel (s : State) (f : Obs → Obs) : (s.setObs f).sel = s.sel := rfl
@[simp] theorem State.setObs_tns (s : State) (f : Obs → Obs) : (s.setObs f).tns = s.tns := rfl
@[simp] theorem State.setObs_syn (s : State) (f : Obs → Obs) : (s.setObs f).syn = s.syn := rfl
@[simp] theorem State.setObs_pls (s : State) (f : Obs → Obs) : (s.setObs f).pls = s.pls := rfl
@[simp] theorem State.setObs_lan (s : State) (f : Obs → Obs) : (s.setObs f).lan = s.lan := rfl
@[simp] theorem State.setObs_tsu (s : State) (f : Obs → Obs) : (s.setObs f).tsu = s.tsu := rfl
@[simp] theorem State.setObs_cla (s : State) (f : Obs → Obs) : (s.setObs f).cla = s.cla := rfl
@[simp] theorem State.setObs_auth (s : State) (f : Obs → Obs) : (s.setObs f).auth = s.auth := rfl
@[simp] theorem State.setObs_flt (s : State) (f : Obs → Obs) : (s.setObs f).flt = s.flt := rfl
@[simp] theorem State.setObs_cnj (s : State) (f : Obs → Obs) : (s.setObs f).cnj = s.cnj := rfl
@[simp] theorem State.setObs_sys (s : State) (f : Obs → Obs) : (s.setObs f).sys = s.sys := rfl
@[simp] theorem State.setObs_free (s : State) (f : Obs → Obs) : (s.setObs f).free = s.free := rfl
@[simp] theorem State.setObs_hot (s : State) (f : Obs → Obs) : (s.setObs f).hot = s.hot := rfl
@[simp] theorem State.setObs_pending (s : State) (f : Obs → Obs) : (s.setObs f).pending = s.pending := rfl

/-! ### State.stage -/

@[simp] theorem State.stage_tb (s : State) (t st : Nat) (p : List Byte) : (s.stage t st p).tb = s.tb := by
  unfold State.stage
  split
  · rfl
  · split
    · rw [State.perf_tb, State.setObs_tb, State.setFlag_tb, State.bump_tb]
    · rw [State.commitMark_tb, State.setObs_tb]
@[simp] theorem State.stage_hif (s : State) (t st : Nat) (p : List Byte) : (s.stage t st p).hif = s.hif := by
  unfold State.stage
  split
  · rfl
  · split
    · rw [State.perf_hif, State.setObs_hif, State.setFlag_hif, State.bump_hif]
    · rw [State.commitMark_hif, State.setObs_hif]
@[simp] theorem State.stage_fab (s : State) (t st : Nat) (p : List Byte) : (s.stage t st p).fab = s.fab := by
  unfold State.stage
  split
  · rfl
  · split
    · rw [State.perf_fab, State.setObs_fab, State.setFlag_fab, State.bump_fab]
    · rw [State.commitMark_fab, State.setObs_fab]
@[simp] theorem State.stage_refin (s : State) (t st : Nat) (p : List Byte) : (s.stage t st p).refin = s.refin := by
  unfold State.stage
  split
  · rfl
  · split
    · rw [State.perf_refin, State.setObs_refin, State.setFlag_refin, State.bump_refin]
    · rw [State.commitMark_refin, State.setObs_refin]
@[simp] theorem State.stage_utc (s : State) (t st : Nat) (p : List Byte) : (s.stage t st p).utc = s.utc := by
  unfold State.stage
  split
  · rfl
  · split
    · rw [State.perf_utc, State.setObs_utc, State.setFlag_utc, State.bump_utc]
    · rw [State.commitMark_utc, State.setObs_utc]
@[simp] theorem State.stage_gns (s : State) (t st : Nat) (p : List Byte) : (s.stage t st p).gns = s.gns := by
  unfold State.stage
  split
  · rfl
  · split
    · rw [State.perf_gns, State.setObs_gns, State.setFlag_gns, State.bump_gns]
    · rw [State.commitMark_gns, State.setObs_gns]
@[simp] theorem State.stage_sel (s : State) (t st : Nat) (p : List Byte) : (s.stage t st p).sel = s.sel := by
  unfold State.stage
  split
  · rfl
  · split
    · rw [State.perf_sel, State.setObs_sel, State.setFlag_sel, State.bump_sel]
    · rw [State.commitMark_sel, State.setObs_sel]
@[simp] theorem State.stage_tns (s : State) (t st : Nat) (p : List Byte) : (s.stage t st p).tns = s.tns := by
  unfold State.stage
  split
  · rfl
  · split
    · rw [State.perf_tns, State.setObs_tns, State.setFlag_tns, State.bump_tns]
    · rw [State.commitMark_tns, State.setObs_tns]
@[simp] theorem State.stage_syn (s : State) (t st : Nat) (p : List Byte) : (s.stage t st p).syn = s.syn := by
  unfold State.stage
  split
  · rfl
  · split
    · rw [State.perf_syn, State.setObs_syn, State.setFlag_syn, State.bump_syn]
    · rw [State.commitMark_syn, State.setObs_syn]
@[simp] theorem State.stage_pls (s : State) (t st : Nat) (p : List Byte) : (s.stage t st p).pls = s.pls := by
  unfold State.stage
  split
  · rfl
  · split
    · rw [State.perf_pls, State.setObs_pls, State.setFlag_pls, State.bump_pls]
    · rw [State.commitMark_pls, State.setObs_pls]
@[simp] theorem State.stage_lan (s : State) (t st : Nat) (p : List Byte) : (s.stage t st p).lan = s.lan := by
  unfold State.stage
  split
  · rfl
  · split
    · rw [State.perf_lan, State.setObs_lan, State.setFlag_lan, State.bump_lan]
    · rw [State.commitMark_lan, State.setObs_lan]
@[simp] theorem State.stage_tsu (s : State) (t st : Nat) (p : List Byte) : (s.stage t st p).tsu = s.tsu := by
  unfold State.stage
  split
  · rfl
  · split
    · rw [State.perf_tsu, State.setObs_tsu, State.setFlag_tsu, State.bump_tsu]
    · rw [State.commitMark_tsu, State.setObs_tsu]
@[simp] theorem State.stage_cla (s : State) (t st : Nat) (p : List Byte) : (s.stage t st p).cla = s.cla := by
  unfold State.stage
  split
  · rfl
  · split
    · rw [State.perf_cla, State.setObs_cla, State.setFlag_cla, State.bump_cla]
    · rw [State.commitMark_cla, State.setObs_cla]
@[simp] theorem State.stage_auth (s : State) (t st : Nat) (p : List Byte) : (s.stage t st p).auth = s.auth := by
  unfold State.stage
  split
  · rfl
  · split
    · rw [State.perf_auth, State.setObs_auth, State.setFlag_auth, State.bump_auth]
    · rw [State.commitMark_auth, State.setObs_auth]
@[simp] theorem State.stage_flt (s : State) (t st : Nat) (p : List Byte) : (s.stage t st p).flt = s.flt := by
  unfold State.stage
  split
  · rfl
  · split
    · rw [State.perf_flt, State.setObs_flt, State.setFlag_flt, State.bump_flt]
    · rw [State.commitMark_flt, State.setObs_flt]
@[simp] theorem State.stage_cnj (s : State) (t st : Nat) (p : List Byte) : (s.stage t st p).cnj = s.cnj := by
  unfold State.stage
  split
  · rfl
  · split
    · rw [State.perf_cnj, State.setObs_cnj, State.setFlag_cnj, State.bump_cnj]
    · rw [State.commitMark_cnj, State.setObs_cnj]
@[simp] theorem State.stage_sys (s : State) (t st : Nat) (p : List Byte) : (s.stage t st p).sys = s.sys := by
  unfold State.stage
  split
  · rfl
  · split
    · rw [State.perf_sys, State.setObs_sys, State.setFlag_sys, State.bump_sys]
    · rw [State.commitMark_sys, State.setObs_sys]
@[simp] theorem State.stage_free (s : State) (t st : Nat) (p : List Byte) : (s.stage t st p).free = s.free := by
  unfold State.stage
  split
  · rfl
  · split
    · rw [State.perf_free, State.setObs_free, State.setFlag_free, State.bump_free]
    · rw [State.commitMark_free, State.setObs_free]
@[simp] theorem State.stage_pending (s : State) (t st : Nat) (p : List Byte) : (s.stage t st p).pending = s.pending := by
  unfold State.stage
  split
  · rfl
  · split
    · rw [State.perf_pending, State.setObs_pending, State.setFlag_pending, State.bump_pending]
    · rw [State.commitMark_pending, State.setObs_pending]

/-! ### State.publishFlt -/

@[simp] theorem State.publishFlt_tb (s : State) : (s.publishFlt).tb = s.tb := rfl
@[simp] theorem State.publishFlt_jr (s : State) : (s.publishFlt).jr = s.jr := rfl
@[simp] theorem State.publishFlt_hif (s : State) : (s.publishFlt).hif = s.hif := rfl
@[simp] theorem State.publishFlt_fab (s : State) : (s.publishFlt).fab = s.fab := rfl
@[simp] theorem State.publishFlt_obs (s : State) : (s.publishFlt).obs = s.obs := rfl
@[simp] theorem State.publishFlt_refin (s : State) : (s.publishFlt).refin = s.refin := rfl
@[simp] theorem State.publishFlt_utc (s : State) : (s.publishFlt).utc = s.utc := rfl
@[simp] theorem State.publishFlt_gns (s : State) : (s.publishFlt).gns = s.gns := rfl
@[simp] theorem State.publishFlt_sel (s : State) : (s.publishFlt).sel = s.sel := rfl
@[simp] theorem State.publishFlt_tns (s : State) : (s.publishFlt).tns = s.tns := rfl
@[simp] theorem State.publishFlt_syn (s : State) : (s.publishFlt).syn = s.syn := rfl
@[simp] theorem State.publishFlt_pls (s : State) : (s.publishFlt).pls = s.pls := rfl
@[simp] theorem State.publishFlt_lan (s : State) : (s.publishFlt).lan = s.lan := rfl
@[simp] theorem State.publishFlt_tsu (s : State) : (s.publishFlt).tsu = s.tsu := rfl
@[simp] theorem State.publishFlt_cla (s : State) : (s.publishFlt).cla = s.cla := rfl
@[simp] theorem State.publishFlt_auth (s : State) : (s.publishFlt).auth = s.auth := rfl
@[simp] theorem State.publishFlt_flt (s : State) : (s.publishFlt).flt = s.flt := rfl
@[simp] theorem State.publishFlt_cnj (s : State) : (s.publishFlt).cnj = s.cnj := rfl
@[simp] theorem State.publishFlt_sys (s : State) : (s.publishFlt).sys = s.sys := rfl
@[simp] theorem State.publishFlt_free (s : State) : (s.publishFlt).free = s.free := rfl
@[simp] theorem State.publishFlt_hot (s : State) : (s.publishFlt).hot = s.hot := rfl
@[simp] theorem State.publishFlt_pending (s : State) : (s.publishFlt).pending = s.pending := rfl

/-! ### State.journalRoom -/

@[simp] theorem State.journalRoom_tb (s : State) : (s.journalRoom).tb = s.tb := by
  unfold State.journalRoom
  extract_lets head tail old s1
  have h : s1.tb = s.tb := by unfold s1; rw [State.setFlag_tb, State.put_tb]
  split
  · split
    · exact h
    · rw [State.bump_tb, h]
  · rfl
@[simp] theorem State.journalRoom_jr (s : State) : (s.journalRoom).jr = s.jr := by
  unfold State.journalRoom
  extract_lets head tail old s1
  have h : s1.jr = s.jr := by unfold s1; rw [State.setFlag_jr, State.put_jr]
  split
  · split
    · exact h
    · rw [State.bump_jr, h]
  · rfl
@[simp] theorem State.journalRoom_hif (s : State) : (s.journalRoom).hif = s.hif := by
  unfold State.journalRoom
  extract_lets head tail old s1
  have h : s1.hif = s.hif := by unfold s1; rw [State.setFlag_hif, State.put_hif]
  split
  · split
    · exact h
    · rw [State.bump_hif, h]
  · rfl
@[simp] theorem State.journalRoom_fab (s : State) : (s.journalRoom).fab = s.fab := by
  unfold State.journalRoom
  extract_lets head tail old s1
  have h : s1.fab = s.fab := by unfold s1; rw [State.setFlag_fab, State.put_fab]
  split
  · split
    · exact h
    · rw [State.bump_fab, h]
  · rfl
@[simp] theorem State.journalRoom_obs (s : State) : (s.journalRoom).obs = s.obs := by
  unfold State.journalRoom
  extract_lets head tail old s1
  have h : s1.obs = s.obs := by unfold s1; rw [State.setFlag_obs, State.put_obs]
  split
  · split
    · exact h
    · rw [State.bump_obs, h]
  · rfl
@[simp] theorem State.journalRoom_refin (s : State) : (s.journalRoom).refin = s.refin := by
  unfold State.journalRoom
  extract_lets head tail old s1
  have h : s1.refin = s.refin := by unfold s1; rw [State.setFlag_refin, State.put_refin]
  split
  · split
    · exact h
    · rw [State.bump_refin, h]
  · rfl
@[simp] theorem State.journalRoom_utc (s : State) : (s.journalRoom).utc = s.utc := by
  unfold State.journalRoom
  extract_lets head tail old s1
  have h : s1.utc = s.utc := by unfold s1; rw [State.setFlag_utc, State.put_utc]
  split
  · split
    · exact h
    · rw [State.bump_utc, h]
  · rfl
@[simp] theorem State.journalRoom_gns (s : State) : (s.journalRoom).gns = s.gns := by
  unfold State.journalRoom
  extract_lets head tail old s1
  have h : s1.gns = s.gns := by unfold s1; rw [State.setFlag_gns, State.put_gns]
  split
  · split
    · exact h
    · rw [State.bump_gns, h]
  · rfl
@[simp] theorem State.journalRoom_sel (s : State) : (s.journalRoom).sel = s.sel := by
  unfold State.journalRoom
  extract_lets head tail old s1
  have h : s1.sel = s.sel := by unfold s1; rw [State.setFlag_sel, State.put_sel]
  split
  · split
    · exact h
    · rw [State.bump_sel, h]
  · rfl
@[simp] theorem State.journalRoom_tns (s : State) : (s.journalRoom).tns = s.tns := by
  unfold State.journalRoom
  extract_lets head tail old s1
  have h : s1.tns = s.tns := by unfold s1; rw [State.setFlag_tns, State.put_tns]
  split
  · split
    · exact h
    · rw [State.bump_tns, h]
  · rfl
@[simp] theorem State.journalRoom_syn (s : State) : (s.journalRoom).syn = s.syn := by
  unfold State.journalRoom
  extract_lets head tail old s1
  have h : s1.syn = s.syn := by unfold s1; rw [State.setFlag_syn, State.put_syn]
  split
  · split
    · exact h
    · rw [State.bump_syn, h]
  · rfl
@[simp] theorem State.journalRoom_pls (s : State) : (s.journalRoom).pls = s.pls := by
  unfold State.journalRoom
  extract_lets head tail old s1
  have h : s1.pls = s.pls := by unfold s1; rw [State.setFlag_pls, State.put_pls]
  split
  · split
    · exact h
    · rw [State.bump_pls, h]
  · rfl
@[simp] theorem State.journalRoom_lan (s : State) : (s.journalRoom).lan = s.lan := by
  unfold State.journalRoom
  extract_lets head tail old s1
  have h : s1.lan = s.lan := by unfold s1; rw [State.setFlag_lan, State.put_lan]
  split
  · split
    · exact h
    · rw [State.bump_lan, h]
  · rfl
@[simp] theorem State.journalRoom_tsu (s : State) : (s.journalRoom).tsu = s.tsu := by
  unfold State.journalRoom
  extract_lets head tail old s1
  have h : s1.tsu = s.tsu := by unfold s1; rw [State.setFlag_tsu, State.put_tsu]
  split
  · split
    · exact h
    · rw [State.bump_tsu, h]
  · rfl
@[simp] theorem State.journalRoom_cla (s : State) : (s.journalRoom).cla = s.cla := by
  unfold State.journalRoom
  extract_lets head tail old s1
  have h : s1.cla = s.cla := by unfold s1; rw [State.setFlag_cla, State.put_cla]
  split
  · split
    · exact h
    · rw [State.bump_cla, h]
  · rfl
@[simp] theorem State.journalRoom_auth (s : State) : (s.journalRoom).auth = s.auth := by
  unfold State.journalRoom
  extract_lets head tail old s1
  have h : s1.auth = s.auth := by unfold s1; rw [State.setFlag_auth, State.put_auth]
  split
  · split
    · exact h
    · rw [State.bump_auth, h]
  · rfl
@[simp] theorem State.journalRoom_flt (s : State) : (s.journalRoom).flt = s.flt := by
  unfold State.journalRoom
  extract_lets head tail old s1
  have h : s1.flt = s.flt := by unfold s1; rw [State.setFlag_flt, State.put_flt]
  split
  · split
    · exact h
    · rw [State.bump_flt, h]
  · rfl
@[simp] theorem State.journalRoom_cnj (s : State) : (s.journalRoom).cnj = s.cnj := by
  unfold State.journalRoom
  extract_lets head tail old s1
  have h : s1.cnj = s.cnj := by unfold s1; rw [State.setFlag_cnj, State.put_cnj]
  split
  · split
    · exact h
    · rw [State.bump_cnj, h]
  · rfl
@[simp] theorem State.journalRoom_sys (s : State) : (s.journalRoom).sys = s.sys := by
  unfold State.journalRoom
  extract_lets head tail old s1
  have h : s1.sys = s.sys := by unfold s1; rw [State.setFlag_sys, State.put_sys]
  split
  · split
    · exact h
    · rw [State.bump_sys, h]
  · rfl
@[simp] theorem State.journalRoom_free (s : State) : (s.journalRoom).free = s.free := by
  unfold State.journalRoom
  extract_lets head tail old s1
  have h : s1.free = s.free := by unfold s1; rw [State.setFlag_free, State.put_free]
  split
  · split
    · exact h
    · rw [State.bump_free, h]
  · rfl
@[simp] theorem State.journalRoom_pending (s : State) : (s.journalRoom).pending = s.pending := by
  unfold State.journalRoom
  extract_lets head tail old s1
  have h : s1.pending = s.pending := by unfold s1; rw [State.setFlag_pending, State.put_pending]
  split
  · split
    · exact h
    · rw [State.bump_pending, h]
  · rfl

/-! ### State.journalSlot -/

@[simp] theorem State.journalSlot_regs (s : State) (r : JRec) : (s.journalSlot r).regs = s.regs := rfl
@[simp] theorem State.journalSlot_tb (s : State) (r : JRec) : (s.journalSlot r).tb = s.tb := rfl
@[simp] theorem State.journalSlot_hif (s : State) (r : JRec) : (s.journalSlot r).hif = s.hif := rfl
@[simp] theorem State.journalSlot_fab (s : State) (r : JRec) : (s.journalSlot r).fab = s.fab := rfl
@[simp] theorem State.journalSlot_obs (s : State) (r : JRec) : (s.journalSlot r).obs = s.obs := rfl
@[simp] theorem State.journalSlot_refin (s : State) (r : JRec) : (s.journalSlot r).refin = s.refin := rfl
@[simp] theorem State.journalSlot_utc (s : State) (r : JRec) : (s.journalSlot r).utc = s.utc := rfl
@[simp] theorem State.journalSlot_gns (s : State) (r : JRec) : (s.journalSlot r).gns = s.gns := rfl
@[simp] theorem State.journalSlot_sel (s : State) (r : JRec) : (s.journalSlot r).sel = s.sel := rfl
@[simp] theorem State.journalSlot_tns (s : State) (r : JRec) : (s.journalSlot r).tns = s.tns := rfl
@[simp] theorem State.journalSlot_syn (s : State) (r : JRec) : (s.journalSlot r).syn = s.syn := rfl
@[simp] theorem State.journalSlot_pls (s : State) (r : JRec) : (s.journalSlot r).pls = s.pls := rfl
@[simp] theorem State.journalSlot_lan (s : State) (r : JRec) : (s.journalSlot r).lan = s.lan := rfl
@[simp] theorem State.journalSlot_tsu (s : State) (r : JRec) : (s.journalSlot r).tsu = s.tsu := rfl
@[simp] theorem State.journalSlot_cla (s : State) (r : JRec) : (s.journalSlot r).cla = s.cla := rfl
@[simp] theorem State.journalSlot_auth (s : State) (r : JRec) : (s.journalSlot r).auth = s.auth := rfl
@[simp] theorem State.journalSlot_flt (s : State) (r : JRec) : (s.journalSlot r).flt = s.flt := rfl
@[simp] theorem State.journalSlot_cnj (s : State) (r : JRec) : (s.journalSlot r).cnj = s.cnj := rfl
@[simp] theorem State.journalSlot_sys (s : State) (r : JRec) : (s.journalSlot r).sys = s.sys := rfl
@[simp] theorem State.journalSlot_free (s : State) (r : JRec) : (s.journalSlot r).free = s.free := rfl
@[simp] theorem State.journalSlot_hot (s : State) (r : JRec) : (s.journalSlot r).hot = s.hot := rfl
@[simp] theorem State.journalSlot_pending (s : State) (r : JRec) : (s.journalSlot r).pending = s.pending := rfl

/-! ### State.journalAt -/

@[simp] theorem State.journalAt_tb (s : State) (st a b c : Nat) (p : List Byte) : (s.journalAt st a b c p).tb = s.tb := by
  unfold State.journalAt
  extract_lets r head s1
  have h : s1.tb = s.tb := by
    unfold s1; rw [State.perf_tb, State.put_tb, State.journalSlot_tb, State.journalRoom_tb]
  split
  · rw [State.stage_tb, h]
  · exact h
@[simp] theorem State.journalAt_hif (s : State) (st a b c : Nat) (p : List Byte) : (s.journalAt st a b c p).hif = s.hif := by
  unfold State.journalAt
  extract_lets r head s1
  have h : s1.hif = s.hif := by
    unfold s1; rw [State.perf_hif, State.put_hif, State.journalSlot_hif, State.journalRoom_hif]
  split
  · rw [State.stage_hif, h]
  · exact h
@[simp] theorem State.journalAt_fab (s : State) (st a b c : Nat) (p : List Byte) : (s.journalAt st a b c p).fab = s.fab := by
  unfold State.journalAt
  extract_lets r head s1
  have h : s1.fab = s.fab := by
    unfold s1; rw [State.perf_fab, State.put_fab, State.journalSlot_fab, State.journalRoom_fab]
  split
  · rw [State.stage_fab, h]
  · exact h
@[simp] theorem State.journalAt_refin (s : State) (st a b c : Nat) (p : List Byte) : (s.journalAt st a b c p).refin = s.refin := by
  unfold State.journalAt
  extract_lets r head s1
  have h : s1.refin = s.refin := by
    unfold s1; rw [State.perf_refin, State.put_refin, State.journalSlot_refin, State.journalRoom_refin]
  split
  · rw [State.stage_refin, h]
  · exact h
@[simp] theorem State.journalAt_utc (s : State) (st a b c : Nat) (p : List Byte) : (s.journalAt st a b c p).utc = s.utc := by
  unfold State.journalAt
  extract_lets r head s1
  have h : s1.utc = s.utc := by
    unfold s1; rw [State.perf_utc, State.put_utc, State.journalSlot_utc, State.journalRoom_utc]
  split
  · rw [State.stage_utc, h]
  · exact h
@[simp] theorem State.journalAt_gns (s : State) (st a b c : Nat) (p : List Byte) : (s.journalAt st a b c p).gns = s.gns := by
  unfold State.journalAt
  extract_lets r head s1
  have h : s1.gns = s.gns := by
    unfold s1; rw [State.perf_gns, State.put_gns, State.journalSlot_gns, State.journalRoom_gns]
  split
  · rw [State.stage_gns, h]
  · exact h
@[simp] theorem State.journalAt_sel (s : State) (st a b c : Nat) (p : List Byte) : (s.journalAt st a b c p).sel = s.sel := by
  unfold State.journalAt
  extract_lets r head s1
  have h : s1.sel = s.sel := by
    unfold s1; rw [State.perf_sel, State.put_sel, State.journalSlot_sel, State.journalRoom_sel]
  split
  · rw [State.stage_sel, h]
  · exact h
@[simp] theorem State.journalAt_tns (s : State) (st a b c : Nat) (p : List Byte) : (s.journalAt st a b c p).tns = s.tns := by
  unfold State.journalAt
  extract_lets r head s1
  have h : s1.tns = s.tns := by
    unfold s1; rw [State.perf_tns, State.put_tns, State.journalSlot_tns, State.journalRoom_tns]
  split
  · rw [State.stage_tns, h]
  · exact h
@[simp] theorem State.journalAt_syn (s : State) (st a b c : Nat) (p : List Byte) : (s.journalAt st a b c p).syn = s.syn := by
  unfold State.journalAt
  extract_lets r head s1
  have h : s1.syn = s.syn := by
    unfold s1; rw [State.perf_syn, State.put_syn, State.journalSlot_syn, State.journalRoom_syn]
  split
  · rw [State.stage_syn, h]
  · exact h
@[simp] theorem State.journalAt_pls (s : State) (st a b c : Nat) (p : List Byte) : (s.journalAt st a b c p).pls = s.pls := by
  unfold State.journalAt
  extract_lets r head s1
  have h : s1.pls = s.pls := by
    unfold s1; rw [State.perf_pls, State.put_pls, State.journalSlot_pls, State.journalRoom_pls]
  split
  · rw [State.stage_pls, h]
  · exact h
@[simp] theorem State.journalAt_lan (s : State) (st a b c : Nat) (p : List Byte) : (s.journalAt st a b c p).lan = s.lan := by
  unfold State.journalAt
  extract_lets r head s1
  have h : s1.lan = s.lan := by
    unfold s1; rw [State.perf_lan, State.put_lan, State.journalSlot_lan, State.journalRoom_lan]
  split
  · rw [State.stage_lan, h]
  · exact h
@[simp] theorem State.journalAt_tsu (s : State) (st a b c : Nat) (p : List Byte) : (s.journalAt st a b c p).tsu = s.tsu := by
  unfold State.journalAt
  extract_lets r head s1
  have h : s1.tsu = s.tsu := by
    unfold s1; rw [State.perf_tsu, State.put_tsu, State.journalSlot_tsu, State.journalRoom_tsu]
  split
  · rw [State.stage_tsu, h]
  · exact h
@[simp] theorem State.journalAt_cla (s : State) (st a b c : Nat) (p : List Byte) : (s.journalAt st a b c p).cla = s.cla := by
  unfold State.journalAt
  extract_lets r head s1
  have h : s1.cla = s.cla := by
    unfold s1; rw [State.perf_cla, State.put_cla, State.journalSlot_cla, State.journalRoom_cla]
  split
  · rw [State.stage_cla, h]
  · exact h
@[simp] theorem State.journalAt_auth (s : State) (st a b c : Nat) (p : List Byte) : (s.journalAt st a b c p).auth = s.auth := by
  unfold State.journalAt
  extract_lets r head s1
  have h : s1.auth = s.auth := by
    unfold s1; rw [State.perf_auth, State.put_auth, State.journalSlot_auth, State.journalRoom_auth]
  split
  · rw [State.stage_auth, h]
  · exact h
@[simp] theorem State.journalAt_flt (s : State) (st a b c : Nat) (p : List Byte) : (s.journalAt st a b c p).flt = s.flt := by
  unfold State.journalAt
  extract_lets r head s1
  have h : s1.flt = s.flt := by
    unfold s1; rw [State.perf_flt, State.put_flt, State.journalSlot_flt, State.journalRoom_flt]
  split
  · rw [State.stage_flt, h]
  · exact h
@[simp] theorem State.journalAt_cnj (s : State) (st a b c : Nat) (p : List Byte) : (s.journalAt st a b c p).cnj = s.cnj := by
  unfold State.journalAt
  extract_lets r head s1
  have h : s1.cnj = s.cnj := by
    unfold s1; rw [State.perf_cnj, State.put_cnj, State.journalSlot_cnj, State.journalRoom_cnj]
  split
  · rw [State.stage_cnj, h]
  · exact h
@[simp] theorem State.journalAt_sys (s : State) (st a b c : Nat) (p : List Byte) : (s.journalAt st a b c p).sys = s.sys := by
  unfold State.journalAt
  extract_lets r head s1
  have h : s1.sys = s.sys := by
    unfold s1; rw [State.perf_sys, State.put_sys, State.journalSlot_sys, State.journalRoom_sys]
  split
  · rw [State.stage_sys, h]
  · exact h
@[simp] theorem State.journalAt_free (s : State) (st a b c : Nat) (p : List Byte) : (s.journalAt st a b c p).free = s.free := by
  unfold State.journalAt
  extract_lets r head s1
  have h : s1.free = s.free := by
    unfold s1; rw [State.perf_free, State.put_free, State.journalSlot_free, State.journalRoom_free]
  split
  · rw [State.stage_free, h]
  · exact h
@[simp] theorem State.journalAt_pending (s : State) (st a b c : Nat) (p : List Byte) : (s.journalAt st a b c p).pending = s.pending := by
  unfold State.journalAt
  extract_lets r head s1
  have h : s1.pending = s.pending := by
    unfold s1; rw [State.perf_pending, State.put_pending, State.journalSlot_pending, State.journalRoom_pending]
  split
  · rw [State.stage_pending, h]
  · exact h

/-! ### State.journal -/

@[simp] theorem State.journal_tb (s : State) (a b c : Nat) (p : List Byte) : (s.journal a b c p).tb = s.tb := State.journalAt_tb ..
@[simp] theorem State.journal_hif (s : State) (a b c : Nat) (p : List Byte) : (s.journal a b c p).hif = s.hif := State.journalAt_hif ..
@[simp] theorem State.journal_fab (s : State) (a b c : Nat) (p : List Byte) : (s.journal a b c p).fab = s.fab := State.journalAt_fab ..
@[simp] theorem State.journal_refin (s : State) (a b c : Nat) (p : List Byte) : (s.journal a b c p).refin = s.refin := State.journalAt_refin ..
@[simp] theorem State.journal_utc (s : State) (a b c : Nat) (p : List Byte) : (s.journal a b c p).utc = s.utc := State.journalAt_utc ..
@[simp] theorem State.journal_gns (s : State) (a b c : Nat) (p : List Byte) : (s.journal a b c p).gns = s.gns := State.journalAt_gns ..
@[simp] theorem State.journal_sel (s : State) (a b c : Nat) (p : List Byte) : (s.journal a b c p).sel = s.sel := State.journalAt_sel ..
@[simp] theorem State.journal_tns (s : State) (a b c : Nat) (p : List Byte) : (s.journal a b c p).tns = s.tns := State.journalAt_tns ..
@[simp] theorem State.journal_syn (s : State) (a b c : Nat) (p : List Byte) : (s.journal a b c p).syn = s.syn := State.journalAt_syn ..
@[simp] theorem State.journal_pls (s : State) (a b c : Nat) (p : List Byte) : (s.journal a b c p).pls = s.pls := State.journalAt_pls ..
@[simp] theorem State.journal_lan (s : State) (a b c : Nat) (p : List Byte) : (s.journal a b c p).lan = s.lan := State.journalAt_lan ..
@[simp] theorem State.journal_tsu (s : State) (a b c : Nat) (p : List Byte) : (s.journal a b c p).tsu = s.tsu := State.journalAt_tsu ..
@[simp] theorem State.journal_cla (s : State) (a b c : Nat) (p : List Byte) : (s.journal a b c p).cla = s.cla := State.journalAt_cla ..
@[simp] theorem State.journal_auth (s : State) (a b c : Nat) (p : List Byte) : (s.journal a b c p).auth = s.auth := State.journalAt_auth ..
@[simp] theorem State.journal_flt (s : State) (a b c : Nat) (p : List Byte) : (s.journal a b c p).flt = s.flt := State.journalAt_flt ..
@[simp] theorem State.journal_cnj (s : State) (a b c : Nat) (p : List Byte) : (s.journal a b c p).cnj = s.cnj := State.journalAt_cnj ..
@[simp] theorem State.journal_sys (s : State) (a b c : Nat) (p : List Byte) : (s.journal a b c p).sys = s.sys := State.journalAt_sys ..
@[simp] theorem State.journal_free (s : State) (a b c : Nat) (p : List Byte) : (s.journal a b c p).free = s.free := State.journalAt_free ..
@[simp] theorem State.journal_pending (s : State) (a b c : Nat) (p : List Byte) : (s.journal a b c p).pending = s.pending := State.journalAt_pending ..

/-! ### State.deliver -/

@[simp] theorem State.deliver_tb (s : State) (a b c d e : Nat) (i r : Bool) : (s.deliver a b c d e i r).tb = s.tb := by unfold State.deliver; dsimp only; split <;> rfl
@[simp] theorem State.deliver_jr (s : State) (a b c d e : Nat) (i r : Bool) : (s.deliver a b c d e i r).jr = s.jr := by unfold State.deliver; dsimp only; split <;> rfl
@[simp] theorem State.deliver_hif (s : State) (a b c d e : Nat) (i r : Bool) : (s.deliver a b c d e i r).hif = s.hif := by unfold State.deliver; dsimp only; split <;> rfl
@[simp] theorem State.deliver_fab (s : State) (a b c d e : Nat) (i r : Bool) : (s.deliver a b c d e i r).fab = s.fab := by unfold State.deliver; dsimp only; split <;> rfl
@[simp] theorem State.deliver_obs (s : State) (a b c d e : Nat) (i r : Bool) : (s.deliver a b c d e i r).obs = s.obs := by unfold State.deliver; dsimp only; split <;> rfl
@[simp] theorem State.deliver_refin (s : State) (a b c d e : Nat) (i r : Bool) : (s.deliver a b c d e i r).refin = s.refin := by unfold State.deliver; dsimp only; split <;> rfl
@[simp] theorem State.deliver_utc (s : State) (a b c d e : Nat) (i r : Bool) : (s.deliver a b c d e i r).utc = s.utc := by unfold State.deliver; dsimp only; split <;> rfl
@[simp] theorem State.deliver_gns (s : State) (a b c d e : Nat) (i r : Bool) : (s.deliver a b c d e i r).gns = s.gns := by unfold State.deliver; dsimp only; split <;> rfl
@[simp] theorem State.deliver_sel (s : State) (a b c d e : Nat) (i r : Bool) : (s.deliver a b c d e i r).sel = s.sel := by unfold State.deliver; dsimp only; split <;> rfl
@[simp] theorem State.deliver_tns (s : State) (a b c d e : Nat) (i r : Bool) : (s.deliver a b c d e i r).tns = s.tns := by unfold State.deliver; dsimp only; split <;> rfl
@[simp] theorem State.deliver_syn (s : State) (a b c d e : Nat) (i r : Bool) : (s.deliver a b c d e i r).syn = s.syn := by unfold State.deliver; dsimp only; split <;> rfl
@[simp] theorem State.deliver_pls (s : State) (a b c d e : Nat) (i r : Bool) : (s.deliver a b c d e i r).pls = s.pls := by unfold State.deliver; dsimp only; split <;> rfl
@[simp] theorem State.deliver_lan (s : State) (a b c d e : Nat) (i r : Bool) : (s.deliver a b c d e i r).lan = s.lan := by unfold State.deliver; dsimp only; split <;> rfl
@[simp] theorem State.deliver_tsu (s : State) (a b c d e : Nat) (i r : Bool) : (s.deliver a b c d e i r).tsu = s.tsu := by unfold State.deliver; dsimp only; split <;> rfl
@[simp] theorem State.deliver_cla (s : State) (a b c d e : Nat) (i r : Bool) : (s.deliver a b c d e i r).cla = s.cla := by unfold State.deliver; dsimp only; split <;> rfl
@[simp] theorem State.deliver_auth (s : State) (a b c d e : Nat) (i r : Bool) : (s.deliver a b c d e i r).auth = s.auth := by unfold State.deliver; dsimp only; split <;> rfl
@[simp] theorem State.deliver_cnj (s : State) (a b c d e : Nat) (i r : Bool) : (s.deliver a b c d e i r).cnj = s.cnj := by unfold State.deliver; dsimp only; split <;> rfl
@[simp] theorem State.deliver_sys (s : State) (a b c d e : Nat) (i r : Bool) : (s.deliver a b c d e i r).sys = s.sys := by unfold State.deliver; dsimp only; split <;> rfl
@[simp] theorem State.deliver_free (s : State) (a b c d e : Nat) (i r : Bool) : (s.deliver a b c d e i r).free = s.free := by unfold State.deliver; dsimp only; split <;> rfl
@[simp] theorem State.deliver_hot (s : State) (a b c d e : Nat) (i r : Bool) : (s.deliver a b c d e i r).hot = s.hot := by unfold State.deliver; dsimp only; split <;> rfl
@[simp] theorem State.deliver_pending (s : State) (a b c d e : Nat) (i r : Bool) : (s.deliver a b c d e i r).pending = s.pending := by unfold State.deliver; dsimp only; split <;> rfl

/-! ### State.reportAt -/

@[simp] theorem State.reportAt_tb (s : State) (a b c d e : Nat) : (s.reportAt a b c d e).tb = s.tb := State.deliver_tb ..
@[simp] theorem State.reportAt_jr (s : State) (a b c d e : Nat) : (s.reportAt a b c d e).jr = s.jr := State.deliver_jr ..
@[simp] theorem State.reportAt_hif (s : State) (a b c d e : Nat) : (s.reportAt a b c d e).hif = s.hif := State.deliver_hif ..
@[simp] theorem State.reportAt_fab (s : State) (a b c d e : Nat) : (s.reportAt a b c d e).fab = s.fab := State.deliver_fab ..
@[simp] theorem State.reportAt_obs (s : State) (a b c d e : Nat) : (s.reportAt a b c d e).obs = s.obs := State.deliver_obs ..
@[simp] theorem State.reportAt_refin (s : State) (a b c d e : Nat) : (s.reportAt a b c d e).refin = s.refin := State.deliver_refin ..
@[simp] theorem State.reportAt_utc (s : State) (a b c d e : Nat) : (s.reportAt a b c d e).utc = s.utc := State.deliver_utc ..
@[simp] theorem State.reportAt_gns (s : State) (a b c d e : Nat) : (s.reportAt a b c d e).gns = s.gns := State.deliver_gns ..
@[simp] theorem State.reportAt_sel (s : State) (a b c d e : Nat) : (s.reportAt a b c d e).sel = s.sel := State.deliver_sel ..
@[simp] theorem State.reportAt_tns (s : State) (a b c d e : Nat) : (s.reportAt a b c d e).tns = s.tns := State.deliver_tns ..
@[simp] theorem State.reportAt_syn (s : State) (a b c d e : Nat) : (s.reportAt a b c d e).syn = s.syn := State.deliver_syn ..
@[simp] theorem State.reportAt_pls (s : State) (a b c d e : Nat) : (s.reportAt a b c d e).pls = s.pls := State.deliver_pls ..
@[simp] theorem State.reportAt_lan (s : State) (a b c d e : Nat) : (s.reportAt a b c d e).lan = s.lan := State.deliver_lan ..
@[simp] theorem State.reportAt_tsu (s : State) (a b c d e : Nat) : (s.reportAt a b c d e).tsu = s.tsu := State.deliver_tsu ..
@[simp] theorem State.reportAt_cla (s : State) (a b c d e : Nat) : (s.reportAt a b c d e).cla = s.cla := State.deliver_cla ..
@[simp] theorem State.reportAt_auth (s : State) (a b c d e : Nat) : (s.reportAt a b c d e).auth = s.auth := State.deliver_auth ..
@[simp] theorem State.reportAt_cnj (s : State) (a b c d e : Nat) : (s.reportAt a b c d e).cnj = s.cnj := State.deliver_cnj ..
@[simp] theorem State.reportAt_sys (s : State) (a b c d e : Nat) : (s.reportAt a b c d e).sys = s.sys := State.deliver_sys ..
@[simp] theorem State.reportAt_free (s : State) (a b c d e : Nat) : (s.reportAt a b c d e).free = s.free := State.deliver_free ..
@[simp] theorem State.reportAt_hot (s : State) (a b c d e : Nat) : (s.reportAt a b c d e).hot = s.hot := State.deliver_hot ..
@[simp] theorem State.reportAt_pending (s : State) (a b c d e : Nat) : (s.reportAt a b c d e).pending = s.pending := State.deliver_pending ..

/-! ### State.report -/

@[simp] theorem State.report_tb (s : State) (a : Nat) : (s.report a).tb = s.tb := State.deliver_tb ..
@[simp] theorem State.report_jr (s : State) (a : Nat) : (s.report a).jr = s.jr := State.deliver_jr ..
@[simp] theorem State.report_hif (s : State) (a : Nat) : (s.report a).hif = s.hif := State.deliver_hif ..
@[simp] theorem State.report_fab (s : State) (a : Nat) : (s.report a).fab = s.fab := State.deliver_fab ..
@[simp] theorem State.report_obs (s : State) (a : Nat) : (s.report a).obs = s.obs := State.deliver_obs ..
@[simp] theorem State.report_refin (s : State) (a : Nat) : (s.report a).refin = s.refin := State.deliver_refin ..
@[simp] theorem State.report_utc (s : State) (a : Nat) : (s.report a).utc = s.utc := State.deliver_utc ..
@[simp] theorem State.report_gns (s : State) (a : Nat) : (s.report a).gns = s.gns := State.deliver_gns ..
@[simp] theorem State.report_sel (s : State) (a : Nat) : (s.report a).sel = s.sel := State.deliver_sel ..
@[simp] theorem State.report_tns (s : State) (a : Nat) : (s.report a).tns = s.tns := State.deliver_tns ..
@[simp] theorem State.report_syn (s : State) (a : Nat) : (s.report a).syn = s.syn := State.deliver_syn ..
@[simp] theorem State.report_pls (s : State) (a : Nat) : (s.report a).pls = s.pls := State.deliver_pls ..
@[simp] theorem State.report_lan (s : State) (a : Nat) : (s.report a).lan = s.lan := State.deliver_lan ..
@[simp] theorem State.report_tsu (s : State) (a : Nat) : (s.report a).tsu = s.tsu := State.deliver_tsu ..
@[simp] theorem State.report_cla (s : State) (a : Nat) : (s.report a).cla = s.cla := State.deliver_cla ..
@[simp] theorem State.report_auth (s : State) (a : Nat) : (s.report a).auth = s.auth := State.deliver_auth ..
@[simp] theorem State.report_cnj (s : State) (a : Nat) : (s.report a).cnj = s.cnj := State.deliver_cnj ..
@[simp] theorem State.report_sys (s : State) (a : Nat) : (s.report a).sys = s.sys := State.deliver_sys ..
@[simp] theorem State.report_free (s : State) (a : Nat) : (s.report a).free = s.free := State.deliver_free ..
@[simp] theorem State.report_hot (s : State) (a : Nat) : (s.report a).hot = s.hot := State.deliver_hot ..
@[simp] theorem State.report_pending (s : State) (a : Nat) : (s.report a).pending = s.pending := State.deliver_pending ..

end Sys2Proof.Machine
end

