-- ==== Sys2Proof/Laws/Registers.lean ====
section
/-!
SUPPORT. What the shared register operations do, field by field: a written field reads back, every other field keeps its value; the
journal and the interrupt vectors touch only their own registers. Provers cite these and unfold no operation.
-/

namespace Sys2Proof.Machine

/-! ### A field written, another field read -/

theorem State.get_put (s : State) (f g : Field) (v : Nat) :
    (s.put f v).get g = if g.key = f.key then v % 2 ^ f.w else s.get g := by
  simp [State.get, State.put]

@[simp] theorem State.get_put_same (s : State) (f : Field) (v : Nat) : (s.put f v).get f = v % 2 ^ f.w := by
  simp [State.get_put]

theorem State.get_put_ne {s : State} {f g : Field} {v : Nat} (h : g.key ≠ f.key) : (s.put f v).get g = s.get g := by
  simp [State.get_put, h]

theorem State.get_putB (s : State) (f g : Field) (b : Bool) :
    (s.putB f b).get g = if g.key = f.key then b2n b % 2 ^ f.w else s.get g := State.get_put ..

theorem State.get_putS (s : State) (f g : Field) (x : Int) :
    (s.putS f x).get g = if g.key = f.key then unsigned f.w x % 2 ^ f.w else s.get g := State.get_put ..

theorem State.get_putSat (s : State) (f g : Field) (x : Int) :
    (s.putSat f x).get g = if g.key = f.key then satS f.w x % 2 ^ f.w else s.get g := State.get_put ..

theorem State.get_putSatU (s : State) (f g : Field) (v : Nat) :
    (s.putSatU f v).get g = if g.key = f.key then satU f.w v % 2 ^ f.w else s.get g := State.get_put ..

theorem State.get_putMapBit (s : State) (f g : Field) (k : Nat) (b : Bool) :
    (s.putMapBit f k b).get g = if g.key = f.key then setBit (s.get f) k b % 2 ^ f.w else s.get g := State.get_put ..

theorem State.get_nextSeq (s : State) (f g : Field) :
    (s.nextSeq f).get g = if g.key = f.key then (s.get f + 1) % 2 ^ f.w else s.get g := State.get_put ..

theorem State.get_publish (s : State) (v q g : Field) :
    (s.publish v q).get g = if g.key = q.key then (s.get q + 1) % 2 ^ q.w else if g.key = v.key then 1 % 2 ^ v.w else s.get g := by
  simp [State.publish, State.get_put]

theorem State.get_putPair (s : State) (lo hi g : Field) (v : Nat) :
    (s.putPair lo hi v).get g =
      if g.key = hi.key then v / 2 ^ lo.w % 2 ^ hi.w else if g.key = lo.key then v % 2 ^ lo.w else s.get g := by
  simp [State.putPair, State.get_put]

theorem State.get_bump_ne {s : State} {lo hi g : Field} {n : Nat} (h : g.key ≠ lo.key) (h' : g.key ≠ hi.key) :
    (s.bump lo hi n).get g = s.get g := by
  simp [State.bump, State.get_putPair, h, h']

theorem State.get_setFlag_ne {s : State} {f : FlagBit} {g : Field} (h : g.key ≠ f.bit.key) (h' : g.key ≠ f.cnt.key) :
    (s.setFlag f).get g = s.get g := by
  show ((s.put f.bit 1).bumpSat f.cnt 1).get g = _
  simp [State.bumpSat, State.get_putSatU, State.get_put, h, h']

theorem State.get_flagIf_ne {s : State} {b : Bool} {f : FlagBit} {g : Field} (h : g.key ≠ f.bit.key) (h' : g.key ≠ f.cnt.key) :
    (s.flagIf b f).get g = s.get g := by
  cases b
  · rfl
  · exact State.get_setFlag_ne h h'

/-! ### Operations that touch only the registers of one block -/

/-- A key below a bound is not the key of a field at or above it. -/
theorem key_ne {g f : Field} {n : Nat} (h : g.key < n) (hf : n ≤ f.key) : g.key ≠ f.key := by omega

@[simp] theorem State.get_perf (s : State) (e i n : Nat) (g : Field) : (s.perf e i n).get g = s.get g := rfl

@[simp] theorem State.get_commitMark (s : State) (g : Field) : (s.commitMark).get g = s.get g := rfl

@[simp] theorem State.get_setObs (s : State) (f : Obs → Obs) (g : Field) : (s.setObs f).get g = s.get g := rfl

@[simp] theorem State.get_setCnj (s : State) (f : Cnj → Cnj) (g : Field) : (s.setCnj f).get g = s.get g := rfl

@[simp] theorem State.get_setSys (s : State) (f : Sys → Sys) (g : Field) : (s.setSys f).get g = s.get g := rfl

@[simp] theorem State.get_feed (s : State) (i : Nat) (m : Meas) (g : Field) : (s.feed i m).get g = s.get g := rfl

@[simp] theorem State.get_journalSlot (s : State) (r : JRec) (g : Field) : (s.journalSlot r).get g = s.get g := rfl

@[simp] theorem get_windowEvent (s : State) (k i d : Nat) (g : Field) : (windowEvent s k i d).get g = s.get g := rfl

@[simp] theorem get_alertOn (s : State) (k : Nat) (g : Field) : (alertOn s k).get g = s.get g := rfl

theorem State.get_stage {s : State} {t stamp : Nat} {pay : List Byte} {g : Field} (h : g.key < 46137344) :
    (s.stage t stamp pay).get g = s.get g := by
  unfold State.stage
  split
  · rfl
  · split
    · rw [State.get_perf, State.get_setObs, State.get_setFlag_ne (key_ne h (by decide)) (key_ne h (by decide)),
        State.get_bump_ne (key_ne h (by decide)) (key_ne h (by decide))]
    · rw [State.get_commitMark, State.get_setObs]

theorem State.get_journalRoom {s : State} {g : Field} (h : g.key < 46137344) : s.journalRoom.get g = s.get g := by
  unfold State.journalRoom
  extract_lets head tail old s1
  have h1 : s1.get g = s.get g := by
    unfold s1
    rw [State.get_setFlag_ne (key_ne h (by decide)) (key_ne h (by decide)), State.get_put_ne (key_ne h (by decide))]
  split
  · split
    · exact h1
    · rw [State.get_bump_ne (key_ne h (by decide)) (key_ne h (by decide)), h1]
  · rfl

/-- The journal changes registers of block OBS only (from 0x16_0000 on). -/
theorem State.get_journalAt {s : State} {st sev src code : Nat} {pay : List Byte} {g : Field} (h : g.key < 46137344) :
    (s.journalAt st sev src code pay).get g = s.get g := by
  unfold State.journalAt
  extract_lets r head s1
  have h1 : s1.get g = s.get g := by
    unfold s1
    rw [State.get_perf, State.get_put_ne (key_ne h (by decide)), State.get_journalSlot, State.get_journalRoom h]
  split
  · rw [State.get_stage h, h1]
  · exact h1

theorem State.get_journal {s : State} {sev src code : Nat} {pay : List Byte} {g : Field} (h : g.key < 46137344) :
    (s.journal sev src code pay).get g = s.get g := State.get_journalAt h

/-- A vector changes pending bits only (0x02_9000 to 0x02_9FFF). -/
theorem State.get_fire {s : State} {v : Nat} {g : Field} (h : g.addr < 0x029000 ∨ 0x02A000 ≤ g.addr) (hv : v < 8192) (hl : g.lo < 32) :
    (s.fire v).get g = s.get g := by
  unfold State.fire
  split
  · refine State.get_put_ne ?_
    simp only [Field.key, Reg.MSIX_PBA_PENDING]
    omega
  · rfl

/-! ### The journal takes a record -/

theorem State.get_journalRoom_head (s : State) : s.journalRoom.get Reg.OBS_JRNL_HEAD_JIDX = s.get Reg.OBS_JRNL_HEAD_JIDX := by
  unfold State.journalRoom
  extract_lets head tail old s1
  have h1 : s1.get Reg.OBS_JRNL_HEAD_JIDX = s.get Reg.OBS_JRNL_HEAD_JIDX := by
    unfold s1
    rw [State.get_setFlag_ne (by decide) (by decide), State.get_put_ne (by decide)]
  split
  · split
    · exact h1
    · rw [State.get_bump_ne (by decide) (by decide), h1]
  · rfl

@[simp] theorem Jrnl.commit_ring (j : Jrnl) (stopped live : Bool) : (j.commit stopped live).ring = j.ring := rfl

/-- Staging a Sceat record leaves the journal's slots as they are. -/
theorem State.stage_ring (s : State) (t stamp : Nat) (pay : List Byte) : (s.stage t stamp pay).jr.ring = s.jr.ring := by
  unfold State.stage
  split
  · rfl
  · split
    · rw [State.perf_jr, State.setObs_jr, State.setFlag_jr, State.bump_jr]
    · rfl

/-- The journal after a commit: the record stands at the slot the head named. -/
theorem State.journalAt_ring (s : State) (st sev src code : Nat) (pay : List Byte) :
    (s.journalAt st sev src code pay).jr.ring =
      s.jr.ring.set (fun _ => JSlot.zero) (s.get Reg.OBS_JRNL_HEAD_JIDX % jrnlSlots)
        ⟨⟨st, s.jr.cseq, s.get Reg.GEN_STRAP_UNIT_ID, sev, src, code, pay⟩, false⟩ := by
  unfold State.journalAt
  extract_lets r head s1
  have h1 : s1.jr.ring = s.jr.ring.set (fun _ => JSlot.zero) (s.get Reg.OBS_JRNL_HEAD_JIDX % jrnlSlots) ⟨r, false⟩ := by
    unfold s1
    rw [State.perf_jr, State.put_jr]
    unfold State.journalSlot
    rw [State.get_journalRoom_head]
    show (Jrnl.commit _ _ _).ring = _
    rw [Jrnl.commit_ring, State.journalRoom_jr]
  split
  · rw [State.stage_ring, h1]
  · exact h1

end Sys2Proof.Machine
end

