-- ==== Sys2Proof/Laws/Claims.lean ====
section
/-!
SUPPORT. The terms of the claims, taken apart once: what a commit puts into the journal, what keeps it there, and what accepting a
descriptor does.
-/

namespace Sys2Proof.Machine

/-- A commit is seen. -/
theorem committed_journalAt (s : State) (st sev src code : Nat) (pay : List Byte) :
    committed s (s.journalAt st sev src code pay) (s.recordOf st sev src code pay) := by
  unfold committed
  rw [State.journalAt_ring, get_set, if_pos rfl]
  rfl

theorem committed_journal (s : State) (sev src code : Nat) (pay : List Byte) :
    committed s (s.journal sev src code pay) (s.recordOf s.nowShort sev src code pay) := committed_journalAt ..

/-- What was done before the commit without touching the journal does not matter. -/
theorem committed_of_pre {s s' t : State} {r : JRec} (h : s'.get Reg.OBS_JRNL_HEAD_JIDX = s.get Reg.OBS_JRNL_HEAD_JIDX)
    (hc : committed s' t r) : committed s t r := by
  unfold committed at *
  rw [← h]
  exact hc

/-- What is done after it without touching the journal ring keeps it. -/
theorem committed_of_ring {s t t' : State} {r : JRec} (h : t'.jr.ring = t.jr.ring) (hc : committed s t r) : committed s t' r := by
  unfold committed at *
  rw [h]
  exact hc

/-- A record depends on CSEQ, the unit and its own contents alone. -/
theorem recordOf_congr {s s' : State} (h : s'.jr.cseq = s.jr.cseq)
    (hu : s'.get Reg.GEN_STRAP_UNIT_ID = s.get Reg.GEN_STRAP_UNIT_ID) (st sev src code : Nat) (pay : List Byte) :
    s'.recordOf st sev src code pay = s.recordOf st sev src code pay := by
  unfold State.recordOf
  rw [h, hu]

/-- An accepted descriptor is applied at once. -/
theorem Accepts.submit {sp : OpSpec} {s : State} {d : Desc} (h : Accepts sp s d) :
    submit sp s d = sp.apply (taken s d) (takenAs s d sp.opcode) := by
  unfold Machine.submit acceptDesc
  rw [if_neg (by simp [h.running])]
  extract_lets s1 s2 eff w past
  have he : eff = none := if_neg (by simp [h.flags])
  have hw : w = takenAs s d sp.opcode := by unfold w; rw [he]; rfl
  have hs : s2 = taken s d := rfl
  have hp : past = false := by unfold past; rw [he]
  have hd : waitingDue sp s2 w = true := by
    have h1 := h.due
    have h2 := h.up
    rw [← hs] at h1 h2
    unfold waitingDue
    rw [hw]
    simp [takenAs, h1, h2]
  clear_value s2 w past
  subst hs hw hp
  simp [h.flags, h.mode, h.check, hd]

/-! ### What acceptance leaves -/

@[simp] theorem taken_tb (s : State) (d : Desc) : (taken s d).tb = s.tb := rfl
@[simp] theorem taken_hif (s : State) (d : Desc) : (taken s d).hif = s.hif := rfl
@[simp] theorem taken_fab (s : State) (d : Desc) : (taken s d).fab = s.fab := rfl
@[simp] theorem taken_obs (s : State) (d : Desc) : (taken s d).obs = s.obs := rfl
@[simp] theorem taken_refin (s : State) (d : Desc) : (taken s d).refin = s.refin := rfl
@[simp] theorem taken_utc (s : State) (d : Desc) : (taken s d).utc = s.utc := rfl
@[simp] theorem taken_gns (s : State) (d : Desc) : (taken s d).gns = s.gns := rfl
@[simp] theorem taken_sel (s : State) (d : Desc) : (taken s d).sel = s.sel := rfl
@[simp] theorem taken_tns (s : State) (d : Desc) : (taken s d).tns = s.tns := rfl
@[simp] theorem taken_syn (s : State) (d : Desc) : (taken s d).syn = s.syn := rfl
@[simp] theorem taken_pls (s : State) (d : Desc) : (taken s d).pls = s.pls := rfl
@[simp] theorem taken_lan (s : State) (d : Desc) : (taken s d).lan = s.lan := rfl
@[simp] theorem taken_tsu (s : State) (d : Desc) : (taken s d).tsu = s.tsu := rfl
@[simp] theorem taken_cla (s : State) (d : Desc) : (taken s d).cla = s.cla := rfl
@[simp] theorem taken_auth (s : State) (d : Desc) : (taken s d).auth = s.auth := rfl
@[simp] theorem taken_flt (s : State) (d : Desc) : (taken s d).flt = s.flt := rfl
@[simp] theorem taken_cnj (s : State) (d : Desc) : (taken s d).cnj = s.cnj := rfl
@[simp] theorem taken_sys (s : State) (d : Desc) : (taken s d).sys = s.sys := rfl
@[simp] theorem taken_free (s : State) (d : Desc) : (taken s d).free = s.free := rfl
@[simp] theorem taken_hot (s : State) (d : Desc) : (taken s d).hot = s.hot := rfl
@[simp] theorem taken_pending (s : State) (d : Desc) : (taken s d).pending = s.pending := rfl

/-- Acceptance changes registers of block HIF only. -/
theorem get_taken {s : State} {d : Desc} {g : Field} (h : g.addr < 0x020000 ∨ 0x030000 ≤ g.addr) (hl : g.lo < 32) :
    (taken s d).get g = s.get g := by
  have hc : cqOf (s.put Reg.HIF_ASEQ_ASEQ (s.get Reg.HIF_ASEQ_ASEQ + 1)) d.ring < 64 := Nat.mod_lt _ (by decide)
  unfold taken reserve
  rw [State.get_put_ne, State.get_put_ne]
  · simp only [Field.key, Reg.HIF_ASEQ_ASEQ]
    omega
  · simp only [Field.key, Reg.HR_RSV_RSV]
    omega

theorem taken_mode (s : State) (d : Desc) : (taken s d).mode = s.mode := by
  unfold State.mode
  rw [get_taken (by decide) (by decide)]

theorem taken_tbU (s : State) (d : Desc) : (taken s d).tbU = s.tbU := rfl

theorem taken_freeNs (s : State) (d : Desc) : (taken s d).freeNs = s.freeNs := rfl

end Sys2Proof.Machine
end

