-- ==== Sys2Proof/Laws/Kept.lean ====
section
/-!
SUPPORT. Kept composes: what it says of a record update, a conditional, a fold.
-/

namespace Sys2Proof.Machine

theorem testBit_of_or {T A i : Nat} (h : T ||| A = A) (hi : T.testBit i = true) : A.testBit i = true := by
  rw [← h, Nat.testBit_or, hi, Bool.true_or]

theorem or_trans {S T A : Nat} (h : S ||| T = T) (hA : T ||| A = A) : S ||| A = A := by
  rw [← hA, ← Nat.or_assoc, h]

theorem Kept.refl (A : Nat) (s : State) : Kept A s s :=
  ⟨fun p _ => by cases p <;> rfl, rfl, Nat.le_refl _, id⟩

theorem Part.Same.trans {s t u : State} {p : Part} (h : p.Same s t) (h' : p.Same t u) : p.Same s u := by
  cases p <;> exact Eq.trans h' h

theorem Kept.trans {A : Nat} {s t u : State} (h : Kept A s t) (h' : Kept A t u) : Kept A s u :=
  ⟨fun p hp => (h.frame p hp).trans (h'.frame p hp), h'.queue.trans h.queue, Nat.le_trans h.free h'.free, h'.canon ∘ h.canon⟩

theorem Kept.mono {A B : Nat} {s t : State} (h : Kept A s t) (hAB : A ||| B = B) : Kept B s t :=
  ⟨fun p hp => h.frame p (by
    cases ha : A.testBit p.bit with
    | false => rfl
    | true => rw [testBit_of_or hAB ha] at hp; exact absurd hp (by decide)), h.queue, h.free, h.canon⟩

theorem Kept.cut {A : Nat} {s0 s t : State} (h : Kept A s0 s) (hb : Kept A s0 s → Kept A s0 t) : Kept A s0 t := hb h

theorem Kept.ite {A : Nat} {s0 : State} {c : Prop} [Decidable c] {a b : State} (ha : Kept A s0 a) (hb : Kept A s0 b) :
    Kept A s0 (if c then a else b) := by split <;> assumption

theorem Kept.foldl {A : Nat} {s0 : State} {α : Type} {f : State → α → State} {l : List α} {s : State} (h : Kept A s0 s)
    (hf : ∀ s a, Kept A s0 s → Kept A s0 (f s a)) : Kept A s0 (l.foldl f s) := by
  induction l generalizing s with
  | nil => exact h
  | cons a l ih => exact ih (hf s a h)

theorem Kept.of_fst {A : Nat} {s0 t : State} {α : Type} {p : State × α} {x : α} (e : p = (t, x)) (h : Kept A s0 p.1) : Kept A s0 t := by
  rw [e] at h; exact h

theorem Kept.of_snd {A : Nat} {s0 t : State} {α : Type} {p : α × State} {x : α} (e : p = (x, t)) (h : Kept A s0 p.2) : Kept A s0 t := by
  rw [e] at h; exact h

/-- A pair taken apart. -/
theorem Kept.pair {A : Nat} {s0 : State} {α β : Type} {p : α × β} {f : α → β → State} (h : ∀ a b, p = (a, b) → Kept A s0 (f a b)) :
    Kept A s0 (match p with | (a, b) => f a b) := h p.1 p.2 rfl

theorem Kept.some_ {A : Nat} {s0 t : State} (h : Kept A s0 t) : ∀ u, some t = some u → Kept A s0 u := by
  rintro u ⟨⟩
  exact h

theorem Kept.ite_some {A : Nat} {s0 : State} {c : Prop} [Decidable c] {a b : Option State} (ha : ∀ t, a = some t → Kept A s0 t)
    (hb : ∀ t, b = some t → Kept A s0 t) : ∀ t, (if c then a else b) = some t → Kept A s0 t := by
  split <;> assumption

theorem Kept.none_ {A : Nat} {s0 : State} : ∀ u, (none : Option State) = some u → Kept A s0 u := by
  rintro u ⟨⟩

theorem Kept.getD {A : Nat} {s0 s : State} {o : Option State} (h : ∀ t, o = some t → Kept A s0 t) (hs : Kept A s0 s) :
    Kept A s0 (o.getD s) := by
  cases o with
  | none => exact hs
  | some t => exact h t rfl

/-- A fold that carries a state beside something else. -/
theorem Kept.foldl_fst {A : Nat} {s0 : State} {α β : Type} {f : State × β → α → State × β} {l : List α} {s : State × β}
    (h : Kept A s0 s.1) (hf : ∀ s a, Kept A s0 s.1 → Kept A s0 (f s a).1) : Kept A s0 (l.foldl f s).1 := by
  induction l generalizing s with
  | nil => exact h
  | cons a l ih => exact ih (hf s a h)

/-- A record update: each part is in the set or unchanged. -/
theorem Kept.upd {A : Nat} {s0 s : State} {x_regs : SMap Nat} {x_tb : Tb} {x_jr : Jrnl} {x_hif : Hif} {x_fab : Fab} {x_obs : Obs} {x_refin : Refin} {x_utc : Utc} {x_gns : Gnss} {x_sel : Sel} {x_tns : Tense} {x_syn : Syn} {x_pls : Pls} {x_lan : Lan} {x_tsu : Tsu} {x_cla : Cla} {x_auth : Auth} {x_flt : Flt} {x_cnj : Cnj} {x_sys : Sys} {x_hot : List Nat} {x_free : Nat} {x_pending : List Instr}
    (hq : x_pending = s.pending) (hf : s.free ≤ x_free) (h : Kept A s0 s)
    (hregs : A.testBit 0 = true ∨ x_regs = s.regs)
    (htb : A.testBit 1 = true ∨ x_tb = s.tb)
    (hjr : A.testBit 2 = true ∨ x_jr = s.jr)
    (hhif : A.testBit 3 = true ∨ x_hif = s.hif)
    (hfab : A.testBit 4 = true ∨ x_fab = s.fab)
    (hobs : A.testBit 5 = true ∨ x_obs = s.obs)
    (hrefin : A.testBit 6 = true ∨ x_refin = s.refin)
    (hutc : A.testBit 7 = true ∨ x_utc = s.utc)
    (hgns : A.testBit 8 = true ∨ x_gns = s.gns)
    (hsel : A.testBit 9 = true ∨ x_sel = s.sel)
    (htns : A.testBit 10 = true ∨ x_tns = s.tns)
    (hsyn : A.testBit 11 = true ∨ x_syn = s.syn)
    (hpls : A.testBit 12 = true ∨ x_pls = s.pls)
    (hlan : A.testBit 13 = true ∨ x_lan = s.lan)
    (htsu : A.testBit 14 = true ∨ x_tsu = s.tsu)
    (hcla : A.testBit 15 = true ∨ x_cla = s.cla)
    (hauth : A.testBit 16 = true ∨ x_auth = s.auth)
    (hflt : A.testBit 17 = true ∨ x_flt = s.flt)
    (hcnj : A.testBit 18 = true ∨ x_cnj = s.cnj)
    (hsys : A.testBit 19 = true ∨ x_sys = s.sys)
    (hhot : A.testBit 20 = true ∨ x_hot = s.hot)
    (c1 : s.Canon → SMap.wf resetOf x_regs = true) (c2 : s.Canon → SMap.wf (fun _ => Entry.empty) x_hif.mem = true)
    (c3 : s.Canon → SMap.wf (fun _ => []) x_hif.host = true) (c4 : s.Canon → SMap.wf (fun _ => JSlot.zero) x_jr.ring = true)
    (c5 : s.Canon → SMap.wf (fun _ => 0) x_fab.sram = true) :
    Kept A s0 (State.mk x_regs x_tb x_jr x_hif x_fab x_obs x_refin x_utc x_gns x_sel x_tns x_syn x_pls x_lan x_tsu x_cla x_auth x_flt x_cnj x_sys x_free x_hot x_pending) :=
  h.trans ⟨fun p hp => by
    cases p with
    | regs => exact hregs.resolve_left (fun e => by rw [show A.testBit 0 = false from hp] at e; exact absurd e (by decide))
    | tb => exact htb.resolve_left (fun e => by rw [show A.testBit 1 = false from hp] at e; exact absurd e (by decide))
    | jr => exact hjr.resolve_left (fun e => by rw [show A.testBit 2 = false from hp] at e; exact absurd e (by decide))
    | hif => exact hhif.resolve_left (fun e => by rw [show A.testBit 3 = false from hp] at e; exact absurd e (by decide))
    | fab => exact hfab.resolve_left (fun e => by rw [show A.testBit 4 = false from hp] at e; exact absurd e (by decide))
    | obs => exact hobs.resolve_left (fun e => by rw [show A.testBit 5 = false from hp] at e; exact absurd e (by decide))
    | refin => exact hrefin.resolve_left (fun e => by rw [show A.testBit 6 = false from hp] at e; exact absurd e (by decide))
    | utc => exact hutc.resolve_left (fun e => by rw [show A.testBit 7 = false from hp] at e; exact absurd e (by decide))
    | gns => exact hgns.resolve_left (fun e => by rw [show A.testBit 8 = false from hp] at e; exact absurd e (by decide))
    | sel => exact hsel.resolve_left (fun e => by rw [show A.testBit 9 = false from hp] at e; exact absurd e (by decide))
    | tns => exact htns.resolve_left (fun e => by rw [show A.testBit 10 = false from hp] at e; exact absurd e (by decide))
    | syn => exact hsyn.resolve_left (fun e => by rw [show A.testBit 11 = false from hp] at e; exact absurd e (by decide))
    | pls => exact hpls.resolve_left (fun e => by rw [show A.testBit 12 = false from hp] at e; exact absurd e (by decide))
    | lan => exact hlan.resolve_left (fun e => by rw [show A.testBit 13 = false from hp] at e; exact absurd e (by decide))
    | tsu => exact htsu.resolve_left (fun e => by rw [show A.testBit 14 = false from hp] at e; exact absurd e (by decide))
    | cla => exact hcla.resolve_left (fun e => by rw [show A.testBit 15 = false from hp] at e; exact absurd e (by decide))
    | auth => exact hauth.resolve_left (fun e => by rw [show A.testBit 16 = false from hp] at e; exact absurd e (by decide))
    | flt => exact hflt.resolve_left (fun e => by rw [show A.testBit 17 = false from hp] at e; exact absurd e (by decide))
    | cnj => exact hcnj.resolve_left (fun e => by rw [show A.testBit 18 = false from hp] at e; exact absurd e (by decide))
    | sys => exact hsys.resolve_left (fun e => by rw [show A.testBit 19 = false from hp] at e; exact absurd e (by decide))
    | hot => exact hhot.resolve_left (fun e => by rw [show A.testBit 20 = false from hp] at e; exact absurd e (by decide))
    , hq, hf, fun c => ⟨c1 c, c2 c, c3 c, c4 c, c5 c⟩⟩

end Sys2Proof.Machine
end

