-- ==== Sys2Proof/Laws/Setters.lean ====
section
/-!
SUPPORT. The parts of State and the registers under the updates of one unit's own state: true by unfolding, so that no proof unfolds
them.
-/

namespace Sys2Proof.Machine

/-! ### State.setTns -/

@[simp] theorem State.get_setTns (s : State) (f : Tense → Tense) (g : Field) : (s.setTns f).get g = s.get g := rfl
@[simp] theorem State.bit_setTns (s : State) (f : Tense → Tense) (g : Field) : (s.setTns f).bit g = s.bit g := rfl
@[simp] theorem State.setTns_regs (s : State) (f : Tense → Tense) : (s.setTns f).regs = s.regs := rfl
@[simp] theorem State.setTns_tb (s : State) (f : Tense → Tense) : (s.setTns f).tb = s.tb := rfl
@[simp] theorem State.setTns_jr (s : State) (f : Tense → Tense) : (s.setTns f).jr = s.jr := rfl
@[simp] theorem State.setTns_hif (s : State) (f : Tense → Tense) : (s.setTns f).hif = s.hif := rfl
@[simp] theorem State.setTns_fab (s : State) (f : Tense → Tense) : (s.setTns f).fab = s.fab := rfl
@[simp] theorem State.setTns_obs (s : State) (f : Tense → Tense) : (s.setTns f).obs = s.obs := rfl
@[simp] theorem State.setTns_refin (s : State) (f : Tense → Tense) : (s.setTns f).refin = s.refin := rfl
@[simp] theorem State.setTns_utc (s : State) (f : Tense → Tense) : (s.setTns f).utc = s.utc := rfl
@[simp] theorem State.setTns_gns (s : State) (f : Tense → Tense) : (s.setTns f).gns = s.gns := rfl
@[simp] theorem State.setTns_sel (s : State) (f : Tense → Tense) : (s.setTns f).sel = s.sel := rfl
@[simp] theorem State.setTns_tns (s : State) (f : Tense → Tense) : (s.setTns f).tns = f s.tns := rfl
@[simp] theorem State.setTns_syn (s : State) (f : Tense → Tense) : (s.setTns f).syn = s.syn := rfl
@[simp] theorem State.setTns_pls (s : State) (f : Tense → Tense) : (s.setTns f).pls = s.pls := rfl
@[simp] theorem State.setTns_lan (s : State) (f : Tense → Tense) : (s.setTns f).lan = s.lan := rfl
@[simp] theorem State.setTns_tsu (s : State) (f : Tense → Tense) : (s.setTns f).tsu = s.tsu := rfl
@[simp] theorem State.setTns_cla (s : State) (f : Tense → Tense) : (s.setTns f).cla = s.cla := rfl
@[simp] theorem State.setTns_auth (s : State) (f : Tense → Tense) : (s.setTns f).auth = s.auth := rfl
@[simp] theorem State.setTns_flt (s : State) (f : Tense → Tense) : (s.setTns f).flt = s.flt := rfl
@[simp] theorem State.setTns_cnj (s : State) (f : Tense → Tense) : (s.setTns f).cnj = s.cnj := rfl
@[simp] theorem State.setTns_sys (s : State) (f : Tense → Tense) : (s.setTns f).sys = s.sys := rfl
@[simp] theorem State.setTns_free (s : State) (f : Tense → Tense) : (s.setTns f).free = s.free := rfl
@[simp] theorem State.setTns_hot (s : State) (f : Tense → Tense) : (s.setTns f).hot = s.hot := rfl
@[simp] theorem State.setTns_pending (s : State) (f : Tense → Tense) : (s.setTns f).pending = s.pending := rfl

/-! ### State.setGns -/

@[simp] theorem State.get_setGns (s : State) (f : Gnss → Gnss) (g : Field) : (s.setGns f).get g = s.get g := rfl
@[simp] theorem State.bit_setGns (s : State) (f : Gnss → Gnss) (g : Field) : (s.setGns f).bit g = s.bit g := rfl
@[simp] theorem State.setGns_regs (s : State) (f : Gnss → Gnss) : (s.setGns f).regs = s.regs := rfl
@[simp] theorem State.setGns_tb (s : State) (f : Gnss → Gnss) : (s.setGns f).tb = s.tb := rfl
@[simp] theorem State.setGns_jr (s : State) (f : Gnss → Gnss) : (s.setGns f).jr = s.jr := rfl
@[simp] theorem State.setGns_hif (s : State) (f : Gnss → Gnss) : (s.setGns f).hif = s.hif := rfl
@[simp] theorem State.setGns_fab (s : State) (f : Gnss → Gnss) : (s.setGns f).fab = s.fab := rfl
@[simp] theorem State.setGns_obs (s : State) (f : Gnss → Gnss) : (s.setGns f).obs = s.obs := rfl
@[simp] theorem State.setGns_refin (s : State) (f : Gnss → Gnss) : (s.setGns f).refin = s.refin := rfl
@[simp] theorem State.setGns_utc (s : State) (f : Gnss → Gnss) : (s.setGns f).utc = s.utc := rfl
@[simp] theorem State.setGns_gns (s : State) (f : Gnss → Gnss) : (s.setGns f).gns = f s.gns := rfl
@[simp] theorem State.setGns_sel (s : State) (f : Gnss → Gnss) : (s.setGns f).sel = s.sel := rfl
@[simp] theorem State.setGns_tns (s : State) (f : Gnss → Gnss) : (s.setGns f).tns = s.tns := rfl
@[simp] theorem State.setGns_syn (s : State) (f : Gnss → Gnss) : (s.setGns f).syn = s.syn := rfl
@[simp] theorem State.setGns_pls (s : State) (f : Gnss → Gnss) : (s.setGns f).pls = s.pls := rfl
@[simp] theorem State.setGns_lan (s : State) (f : Gnss → Gnss) : (s.setGns f).lan = s.lan := rfl
@[simp] theorem State.setGns_tsu (s : State) (f : Gnss → Gnss) : (s.setGns f).tsu = s.tsu := rfl
@[simp] theorem State.setGns_cla (s : State) (f : Gnss → Gnss) : (s.setGns f).cla = s.cla := rfl
@[simp] theorem State.setGns_auth (s : State) (f : Gnss → Gnss) : (s.setGns f).auth = s.auth := rfl
@[simp] theorem State.setGns_flt (s : State) (f : Gnss → Gnss) : (s.setGns f).flt = s.flt := rfl
@[simp] theorem State.setGns_cnj (s : State) (f : Gnss → Gnss) : (s.setGns f).cnj = s.cnj := rfl
@[simp] theorem State.setGns_sys (s : State) (f : Gnss → Gnss) : (s.setGns f).sys = s.sys := rfl
@[simp] theorem State.setGns_free (s : State) (f : Gnss → Gnss) : (s.setGns f).free = s.free := rfl
@[simp] theorem State.setGns_hot (s : State) (f : Gnss → Gnss) : (s.setGns f).hot = s.hot := rfl
@[simp] theorem State.setGns_pending (s : State) (f : Gnss → Gnss) : (s.setGns f).pending = s.pending := rfl

/-! ### State.setPls -/

@[simp] theorem State.get_setPls (s : State) (f : Pls → Pls) (g : Field) : (s.setPls f).get g = s.get g := rfl
@[simp] theorem State.bit_setPls (s : State) (f : Pls → Pls) (g : Field) : (s.setPls f).bit g = s.bit g := rfl
@[simp] theorem State.setPls_regs (s : State) (f : Pls → Pls) : (s.setPls f).regs = s.regs := rfl
@[simp] theorem State.setPls_tb (s : State) (f : Pls → Pls) : (s.setPls f).tb = s.tb := rfl
@[simp] theorem State.setPls_jr (s : State) (f : Pls → Pls) : (s.setPls f).jr = s.jr := rfl
@[simp] theorem State.setPls_hif (s : State) (f : Pls → Pls) : (s.setPls f).hif = s.hif := rfl
@[simp] theorem State.setPls_fab (s : State) (f : Pls → Pls) : (s.setPls f).fab = s.fab := rfl
@[simp] theorem State.setPls_obs (s : State) (f : Pls → Pls) : (s.setPls f).obs = s.obs := rfl
@[simp] theorem State.setPls_refin (s : State) (f : Pls → Pls) : (s.setPls f).refin = s.refin := rfl
@[simp] theorem State.setPls_utc (s : State) (f : Pls → Pls) : (s.setPls f).utc = s.utc := rfl
@[simp] theorem State.setPls_gns (s : State) (f : Pls → Pls) : (s.setPls f).gns = s.gns := rfl
@[simp] theorem State.setPls_sel (s : State) (f : Pls → Pls) : (s.setPls f).sel = s.sel := rfl
@[simp] theorem State.setPls_tns (s : State) (f : Pls → Pls) : (s.setPls f).tns = s.tns := rfl
@[simp] theorem State.setPls_syn (s : State) (f : Pls → Pls) : (s.setPls f).syn = s.syn := rfl
@[simp] theorem State.setPls_pls (s : State) (f : Pls → Pls) : (s.setPls f).pls = f s.pls := rfl
@[simp] theorem State.setPls_lan (s : State) (f : Pls → Pls) : (s.setPls f).lan = s.lan := rfl
@[simp] theorem State.setPls_tsu (s : State) (f : Pls → Pls) : (s.setPls f).tsu = s.tsu := rfl
@[simp] theorem State.setPls_cla (s : State) (f : Pls → Pls) : (s.setPls f).cla = s.cla := rfl
@[simp] theorem State.setPls_auth (s : State) (f : Pls → Pls) : (s.setPls f).auth = s.auth := rfl
@[simp] theorem State.setPls_flt (s : State) (f : Pls → Pls) : (s.setPls f).flt = s.flt := rfl
@[simp] theorem State.setPls_cnj (s : State) (f : Pls → Pls) : (s.setPls f).cnj = s.cnj := rfl
@[simp] theorem State.setPls_sys (s : State) (f : Pls → Pls) : (s.setPls f).sys = s.sys := rfl
@[simp] theorem State.setPls_free (s : State) (f : Pls → Pls) : (s.setPls f).free = s.free := rfl
@[simp] theorem State.setPls_hot (s : State) (f : Pls → Pls) : (s.setPls f).hot = s.hot := rfl
@[simp] theorem State.setPls_pending (s : State) (f : Pls → Pls) : (s.setPls f).pending = s.pending := rfl

/-! ### State.setCla -/

@[simp] theorem State.get_setCla (s : State) (f : Cla → Cla) (g : Field) : (s.setCla f).get g = s.get g := rfl
@[simp] theorem State.bit_setCla (s : State) (f : Cla → Cla) (g : Field) : (s.setCla f).bit g = s.bit g := rfl
@[simp] theorem State.setCla_regs (s : State) (f : Cla → Cla) : (s.setCla f).regs = s.regs := rfl
@[simp] theorem State.setCla_tb (s : State) (f : Cla → Cla) : (s.setCla f).tb = s.tb := rfl
@[simp] theorem State.setCla_jr (s : State) (f : Cla → Cla) : (s.setCla f).jr = s.jr := rfl
@[simp] theorem State.setCla_hif (s : State) (f : Cla → Cla) : (s.setCla f).hif = s.hif := rfl
@[simp] theorem State.setCla_fab (s : State) (f : Cla → Cla) : (s.setCla f).fab = s.fab := rfl
@[simp] theorem State.setCla_obs (s : State) (f : Cla → Cla) : (s.setCla f).obs = s.obs := rfl
@[simp] theorem State.setCla_refin (s : State) (f : Cla → Cla) : (s.setCla f).refin = s.refin := rfl
@[simp] theorem State.setCla_utc (s : State) (f : Cla → Cla) : (s.setCla f).utc = s.utc := rfl
@[simp] theorem State.setCla_gns (s : State) (f : Cla → Cla) : (s.setCla f).gns = s.gns := rfl
@[simp] theorem State.setCla_sel (s : State) (f : Cla → Cla) : (s.setCla f).sel = s.sel := rfl
@[simp] theorem State.setCla_tns (s : State) (f : Cla → Cla) : (s.setCla f).tns = s.tns := rfl
@[simp] theorem State.setCla_syn (s : State) (f : Cla → Cla) : (s.setCla f).syn = s.syn := rfl
@[simp] theorem State.setCla_pls (s : State) (f : Cla → Cla) : (s.setCla f).pls = s.pls := rfl
@[simp] theorem State.setCla_lan (s : State) (f : Cla → Cla) : (s.setCla f).lan = s.lan := rfl
@[simp] theorem State.setCla_tsu (s : State) (f : Cla → Cla) : (s.setCla f).tsu = s.tsu := rfl
@[simp] theorem State.setCla_cla (s : State) (f : Cla → Cla) : (s.setCla f).cla = f s.cla := rfl
@[simp] theorem State.setCla_auth (s : State) (f : Cla → Cla) : (s.setCla f).auth = s.auth := rfl
@[simp] theorem State.setCla_flt (s : State) (f : Cla → Cla) : (s.setCla f).flt = s.flt := rfl
@[simp] theorem State.setCla_cnj (s : State) (f : Cla → Cla) : (s.setCla f).cnj = s.cnj := rfl
@[simp] theorem State.setCla_sys (s : State) (f : Cla → Cla) : (s.setCla f).sys = s.sys := rfl
@[simp] theorem State.setCla_free (s : State) (f : Cla → Cla) : (s.setCla f).free = s.free := rfl
@[simp] theorem State.setCla_hot (s : State) (f : Cla → Cla) : (s.setCla f).hot = s.hot := rfl
@[simp] theorem State.setCla_pending (s : State) (f : Cla → Cla) : (s.setCla f).pending = s.pending := rfl

/-! ### State.setTsu -/

@[simp] theorem State.get_setTsu (s : State) (f : Tsu → Tsu) (g : Field) : (s.setTsu f).get g = s.get g := rfl
@[simp] theorem State.bit_setTsu (s : State) (f : Tsu → Tsu) (g : Field) : (s.setTsu f).bit g = s.bit g := rfl
@[simp] theorem State.setTsu_regs (s : State) (f : Tsu → Tsu) : (s.setTsu f).regs = s.regs := rfl
@[simp] theorem State.setTsu_tb (s : State) (f : Tsu → Tsu) : (s.setTsu f).tb = s.tb := rfl
@[simp] theorem State.setTsu_jr (s : State) (f : Tsu → Tsu) : (s.setTsu f).jr = s.jr := rfl
@[simp] theorem State.setTsu_hif (s : State) (f : Tsu → Tsu) : (s.setTsu f).hif = s.hif := rfl
@[simp] theorem State.setTsu_fab (s : State) (f : Tsu → Tsu) : (s.setTsu f).fab = s.fab := rfl
@[simp] theorem State.setTsu_obs (s : State) (f : Tsu → Tsu) : (s.setTsu f).obs = s.obs := rfl
@[simp] theorem State.setTsu_refin (s : State) (f : Tsu → Tsu) : (s.setTsu f).refin = s.refin := rfl
@[simp] theorem State.setTsu_utc (s : State) (f : Tsu → Tsu) : (s.setTsu f).utc = s.utc := rfl
@[simp] theorem State.setTsu_gns (s : State) (f : Tsu → Tsu) : (s.setTsu f).gns = s.gns := rfl
@[simp] theorem State.setTsu_sel (s : State) (f : Tsu → Tsu) : (s.setTsu f).sel = s.sel := rfl
@[simp] theorem State.setTsu_tns (s : State) (f : Tsu → Tsu) : (s.setTsu f).tns = s.tns := rfl
@[simp] theorem State.setTsu_syn (s : State) (f : Tsu → Tsu) : (s.setTsu f).syn = s.syn := rfl
@[simp] theorem State.setTsu_pls (s : State) (f : Tsu → Tsu) : (s.setTsu f).pls = s.pls := rfl
@[simp] theorem State.setTsu_lan (s : State) (f : Tsu → Tsu) : (s.setTsu f).lan = s.lan := rfl
@[simp] theorem State.setTsu_tsu (s : State) (f : Tsu → Tsu) : (s.setTsu f).tsu = f s.tsu := rfl
@[simp] theorem State.setTsu_cla (s : State) (f : Tsu → Tsu) : (s.setTsu f).cla = s.cla := rfl
@[simp] theorem State.setTsu_auth (s : State) (f : Tsu → Tsu) : (s.setTsu f).auth = s.auth := rfl
@[simp] theorem State.setTsu_flt (s : State) (f : Tsu → Tsu) : (s.setTsu f).flt = s.flt := rfl
@[simp] theorem State.setTsu_cnj (s : State) (f : Tsu → Tsu) : (s.setTsu f).cnj = s.cnj := rfl
@[simp] theorem State.setTsu_sys (s : State) (f : Tsu → Tsu) : (s.setTsu f).sys = s.sys := rfl
@[simp] theorem State.setTsu_free (s : State) (f : Tsu → Tsu) : (s.setTsu f).free = s.free := rfl
@[simp] theorem State.setTsu_hot (s : State) (f : Tsu → Tsu) : (s.setTsu f).hot = s.hot := rfl
@[simp] theorem State.setTsu_pending (s : State) (f : Tsu → Tsu) : (s.setTsu f).pending = s.pending := rfl

/-! ### State.setCh -/

@[simp] theorem State.get_setCh (s : State) (c : Nat) (x : Ch) (g : Field) : (s.setCh c x).get g = s.get g := rfl
@[simp] theorem State.bit_setCh (s : State) (c : Nat) (x : Ch) (g : Field) : (s.setCh c x).bit g = s.bit g := rfl
@[simp] theorem State.setCh_regs (s : State) (c : Nat) (x : Ch) : (s.setCh c x).regs = s.regs := rfl
@[simp] theorem State.setCh_tb (s : State) (c : Nat) (x : Ch) : (s.setCh c x).tb = s.tb := rfl
@[simp] theorem State.setCh_jr (s : State) (c : Nat) (x : Ch) : (s.setCh c x).jr = s.jr := rfl
@[simp] theorem State.setCh_hif (s : State) (c : Nat) (x : Ch) : (s.setCh c x).hif = s.hif := rfl
@[simp] theorem State.setCh_fab (s : State) (c : Nat) (x : Ch) : (s.setCh c x).fab = s.fab := rfl
@[simp] theorem State.setCh_obs (s : State) (c : Nat) (x : Ch) : (s.setCh c x).obs = s.obs := rfl
@[simp] theorem State.setCh_utc (s : State) (c : Nat) (x : Ch) : (s.setCh c x).utc = s.utc := rfl
@[simp] theorem State.setCh_gns (s : State) (c : Nat) (x : Ch) : (s.setCh c x).gns = s.gns := rfl
@[simp] theorem State.setCh_sel (s : State) (c : Nat) (x : Ch) : (s.setCh c x).sel = s.sel := rfl
@[simp] theorem State.setCh_tns (s : State) (c : Nat) (x : Ch) : (s.setCh c x).tns = s.tns := rfl
@[simp] theorem State.setCh_syn (s : State) (c : Nat) (x : Ch) : (s.setCh c x).syn = s.syn := rfl
@[simp] theorem State.setCh_pls (s : State) (c : Nat) (x : Ch) : (s.setCh c x).pls = s.pls := rfl
@[simp] theorem State.setCh_lan (s : State) (c : Nat) (x : Ch) : (s.setCh c x).lan = s.lan := rfl
@[simp] theorem State.setCh_tsu (s : State) (c : Nat) (x : Ch) : (s.setCh c x).tsu = s.tsu := rfl
@[simp] theorem State.setCh_cla (s : State) (c : Nat) (x : Ch) : (s.setCh c x).cla = s.cla := rfl
@[simp] theorem State.setCh_auth (s : State) (c : Nat) (x : Ch) : (s.setCh c x).auth = s.auth := rfl
@[simp] theorem State.setCh_flt (s : State) (c : Nat) (x : Ch) : (s.setCh c x).flt = s.flt := rfl
@[simp] theorem State.setCh_cnj (s : State) (c : Nat) (x : Ch) : (s.setCh c x).cnj = s.cnj := rfl
@[simp] theorem State.setCh_sys (s : State) (c : Nat) (x : Ch) : (s.setCh c x).sys = s.sys := rfl
@[simp] theorem State.setCh_free (s : State) (c : Nat) (x : Ch) : (s.setCh c x).free = s.free := rfl
@[simp] theorem State.setCh_hot (s : State) (c : Nat) (x : Ch) : (s.setCh c x).hot = s.hot := rfl
@[simp] theorem State.setCh_pending (s : State) (c : Nat) (x : Ch) : (s.setCh c x).pending = s.pending := rfl

/-! ### State.setRef -/

@[simp] theorem State.get_setRef (s : State) (i : Nat) (r : RefSt) (g : Field) : (s.setRef i r).get g = s.get g := rfl
@[simp] theorem State.bit_setRef (s : State) (i : Nat) (r : RefSt) (g : Field) : (s.setRef i r).bit g = s.bit g := rfl
@[simp] theorem State.setRef_regs (s : State) (i : Nat) (r : RefSt) : (s.setRef i r).regs = s.regs := rfl
@[simp] theorem State.setRef_tb (s : State) (i : Nat) (r : RefSt) : (s.setRef i r).tb = s.tb := rfl
@[simp] theorem State.setRef_jr (s : State) (i : Nat) (r : RefSt) : (s.setRef i r).jr = s.jr := rfl
@[simp] theorem State.setRef_hif (s : State) (i : Nat) (r : RefSt) : (s.setRef i r).hif = s.hif := rfl
@[simp] theorem State.setRef_fab (s : State) (i : Nat) (r : RefSt) : (s.setRef i r).fab = s.fab := rfl
@[simp] theorem State.setRef_obs (s : State) (i : Nat) (r : RefSt) : (s.setRef i r).obs = s.obs := rfl
@[simp] theorem State.setRef_refin (s : State) (i : Nat) (r : RefSt) : (s.setRef i r).refin = s.refin := rfl
@[simp] theorem State.setRef_utc (s : State) (i : Nat) (r : RefSt) : (s.setRef i r).utc = s.utc := rfl
@[simp] theorem State.setRef_gns (s : State) (i : Nat) (r : RefSt) : (s.setRef i r).gns = s.gns := rfl
@[simp] theorem State.setRef_tns (s : State) (i : Nat) (r : RefSt) : (s.setRef i r).tns = s.tns := rfl
@[simp] theorem State.setRef_syn (s : State) (i : Nat) (r : RefSt) : (s.setRef i r).syn = s.syn := rfl
@[simp] theorem State.setRef_pls (s : State) (i : Nat) (r : RefSt) : (s.setRef i r).pls = s.pls := rfl
@[simp] theorem State.setRef_lan (s : State) (i : Nat) (r : RefSt) : (s.setRef i r).lan = s.lan := rfl
@[simp] theorem State.setRef_tsu (s : State) (i : Nat) (r : RefSt) : (s.setRef i r).tsu = s.tsu := rfl
@[simp] theorem State.setRef_cla (s : State) (i : Nat) (r : RefSt) : (s.setRef i r).cla = s.cla := rfl
@[simp] theorem State.setRef_auth (s : State) (i : Nat) (r : RefSt) : (s.setRef i r).auth = s.auth := rfl
@[simp] theorem State.setRef_flt (s : State) (i : Nat) (r : RefSt) : (s.setRef i r).flt = s.flt := rfl
@[simp] theorem State.setRef_cnj (s : State) (i : Nat) (r : RefSt) : (s.setRef i r).cnj = s.cnj := rfl
@[simp] theorem State.setRef_sys (s : State) (i : Nat) (r : RefSt) : (s.setRef i r).sys = s.sys := rfl
@[simp] theorem State.setRef_free (s : State) (i : Nat) (r : RefSt) : (s.setRef i r).free = s.free := rfl
@[simp] theorem State.setRef_hot (s : State) (i : Nat) (r : RefSt) : (s.setRef i r).hot = s.hot := rfl
@[simp] theorem State.setRef_pending (s : State) (i : Nat) (r : RefSt) : (s.setRef i r).pending = s.pending := rfl

/-! ### State.setClient -/

@[simp] theorem State.get_setClient (s : State) (p : Nat) (c : Client) (g : Field) : (s.setClient p c).get g = s.get g := rfl
@[simp] theorem State.bit_setClient (s : State) (p : Nat) (c : Client) (g : Field) : (s.setClient p c).bit g = s.bit g := rfl
@[simp] theorem State.setClient_regs (s : State) (p : Nat) (c : Client) : (s.setClient p c).regs = s.regs := rfl
@[simp] theorem State.setClient_tb (s : State) (p : Nat) (c : Client) : (s.setClient p c).tb = s.tb := rfl
@[simp] theorem State.setClient_jr (s : State) (p : Nat) (c : Client) : (s.setClient p c).jr = s.jr := rfl
@[simp] theorem State.setClient_hif (s : State) (p : Nat) (c : Client) : (s.setClient p c).hif = s.hif := rfl
@[simp] theorem State.setClient_fab (s : State) (p : Nat) (c : Client) : (s.setClient p c).fab = s.fab := rfl
@[simp] theorem State.setClient_obs (s : State) (p : Nat) (c : Client) : (s.setClient p c).obs = s.obs := rfl
@[simp] theorem State.setClient_refin (s : State) (p : Nat) (c : Client) : (s.setClient p c).refin = s.refin := rfl
@[simp] theorem State.setClient_utc (s : State) (p : Nat) (c : Client) : (s.setClient p c).utc = s.utc := rfl
@[simp] theorem State.setClient_gns (s : State) (p : Nat) (c : Client) : (s.setClient p c).gns = s.gns := rfl
@[simp] theorem State.setClient_tns (s : State) (p : Nat) (c : Client) : (s.setClient p c).tns = s.tns := rfl
@[simp] theorem State.setClient_syn (s : State) (p : Nat) (c : Client) : (s.setClient p c).syn = s.syn := rfl
@[simp] theorem State.setClient_pls (s : State) (p : Nat) (c : Client) : (s.setClient p c).pls = s.pls := rfl
@[simp] theorem State.setClient_lan (s : State) (p : Nat) (c : Client) : (s.setClient p c).lan = s.lan := rfl
@[simp] theorem State.setClient_tsu (s : State) (p : Nat) (c : Client) : (s.setClient p c).tsu = s.tsu := rfl
@[simp] theorem State.setClient_cla (s : State) (p : Nat) (c : Client) : (s.setClient p c).cla = s.cla := rfl
@[simp] theorem State.setClient_auth (s : State) (p : Nat) (c : Client) : (s.setClient p c).auth = s.auth := rfl
@[simp] theorem State.setClient_flt (s : State) (p : Nat) (c : Client) : (s.setClient p c).flt = s.flt := rfl
@[simp] theorem State.setClient_cnj (s : State) (p : Nat) (c : Client) : (s.setClient p c).cnj = s.cnj := rfl
@[simp] theorem State.setClient_sys (s : State) (p : Nat) (c : Client) : (s.setClient p c).sys = s.sys := rfl
@[simp] theorem State.setClient_free (s : State) (p : Nat) (c : Client) : (s.setClient p c).free = s.free := rfl
@[simp] theorem State.setClient_hot (s : State) (p : Nat) (c : Client) : (s.setClient p c).hot = s.hot := rfl
@[simp] theorem State.setClient_pending (s : State) (p : Nat) (c : Client) : (s.setClient p c).pending = s.pending := rfl

/-! ### State.setGen -/

@[simp] theorem State.get_setGen (s : State) (n : Nat) (x : Gen) (g : Field) : (s.setGen n x).get g = s.get g := rfl
@[simp] theorem State.bit_setGen (s : State) (n : Nat) (x : Gen) (g : Field) : (s.setGen n x).bit g = s.bit g := rfl
@[simp] theorem State.setGen_regs (s : State) (n : Nat) (x : Gen) : (s.setGen n x).regs = s.regs := rfl
@[simp] theorem State.setGen_tb (s : State) (n : Nat) (x : Gen) : (s.setGen n x).tb = s.tb := rfl
@[simp] theorem State.setGen_jr (s : State) (n : Nat) (x : Gen) : (s.setGen n x).jr = s.jr := rfl
@[simp] theorem State.setGen_hif (s : State) (n : Nat) (x : Gen) : (s.setGen n x).hif = s.hif := rfl
@[simp] theorem State.setGen_fab (s : State) (n : Nat) (x : Gen) : (s.setGen n x).fab = s.fab := rfl
@[simp] theorem State.setGen_obs (s : State) (n : Nat) (x : Gen) : (s.setGen n x).obs = s.obs := rfl
@[simp] theorem State.setGen_refin (s : State) (n : Nat) (x : Gen) : (s.setGen n x).refin = s.refin := rfl
@[simp] theorem State.setGen_utc (s : State) (n : Nat) (x : Gen) : (s.setGen n x).utc = s.utc := rfl
@[simp] theorem State.setGen_gns (s : State) (n : Nat) (x : Gen) : (s.setGen n x).gns = s.gns := rfl
@[simp] theorem State.setGen_sel (s : State) (n : Nat) (x : Gen) : (s.setGen n x).sel = s.sel := rfl
@[simp] theorem State.setGen_tns (s : State) (n : Nat) (x : Gen) : (s.setGen n x).tns = s.tns := rfl
@[simp] theorem State.setGen_syn (s : State) (n : Nat) (x : Gen) : (s.setGen n x).syn = s.syn := rfl
@[simp] theorem State.setGen_lan (s : State) (n : Nat) (x : Gen) : (s.setGen n x).lan = s.lan := rfl
@[simp] theorem State.setGen_tsu (s : State) (n : Nat) (x : Gen) : (s.setGen n x).tsu = s.tsu := rfl
@[simp] theorem State.setGen_cla (s : State) (n : Nat) (x : Gen) : (s.setGen n x).cla = s.cla := rfl
@[simp] theorem State.setGen_auth (s : State) (n : Nat) (x : Gen) : (s.setGen n x).auth = s.auth := rfl
@[simp] theorem State.setGen_flt (s : State) (n : Nat) (x : Gen) : (s.setGen n x).flt = s.flt := rfl
@[simp] theorem State.setGen_cnj (s : State) (n : Nat) (x : Gen) : (s.setGen n x).cnj = s.cnj := rfl
@[simp] theorem State.setGen_sys (s : State) (n : Nat) (x : Gen) : (s.setGen n x).sys = s.sys := rfl
@[simp] theorem State.setGen_free (s : State) (n : Nat) (x : Gen) : (s.setGen n x).free = s.free := rfl
@[simp] theorem State.setGen_hot (s : State) (n : Nat) (x : Gen) : (s.setGen n x).hot = s.hot := rfl
@[simp] theorem State.setGen_pending (s : State) (n : Nat) (x : Gen) : (s.setGen n x).pending = s.pending := rfl

/-! ### State.setOut -/

@[simp] theorem State.get_setOut (s : State) (n : Nat) (o : OutSt) (g : Field) : (s.setOut n o).get g = s.get g := rfl
@[simp] theorem State.bit_setOut (s : State) (n : Nat) (o : OutSt) (g : Field) : (s.setOut n o).bit g = s.bit g := rfl
@[simp] theorem State.setOut_regs (s : State) (n : Nat) (o : OutSt) : (s.setOut n o).regs = s.regs := rfl
@[simp] theorem State.setOut_tb (s : State) (n : Nat) (o : OutSt) : (s.setOut n o).tb = s.tb := rfl
@[simp] theorem State.setOut_jr (s : State) (n : Nat) (o : OutSt) : (s.setOut n o).jr = s.jr := rfl
@[simp] theorem State.setOut_hif (s : State) (n : Nat) (o : OutSt) : (s.setOut n o).hif = s.hif := rfl
@[simp] theorem State.setOut_fab (s : State) (n : Nat) (o : OutSt) : (s.setOut n o).fab = s.fab := rfl
@[simp] theorem State.setOut_obs (s : State) (n : Nat) (o : OutSt) : (s.setOut n o).obs = s.obs := rfl
@[simp] theorem State.setOut_refin (s : State) (n : Nat) (o : OutSt) : (s.setOut n o).refin = s.refin := rfl
@[simp] theorem State.setOut_utc (s : State) (n : Nat) (o : OutSt) : (s.setOut n o).utc = s.utc := rfl
@[simp] theorem State.setOut_gns (s : State) (n : Nat) (o : OutSt) : (s.setOut n o).gns = s.gns := rfl
@[simp] theorem State.setOut_sel (s : State) (n : Nat) (o : OutSt) : (s.setOut n o).sel = s.sel := rfl
@[simp] theorem State.setOut_tns (s : State) (n : Nat) (o : OutSt) : (s.setOut n o).tns = s.tns := rfl
@[simp] theorem State.setOut_pls (s : State) (n : Nat) (o : OutSt) : (s.setOut n o).pls = s.pls := rfl
@[simp] theorem State.setOut_lan (s : State) (n : Nat) (o : OutSt) : (s.setOut n o).lan = s.lan := rfl
@[simp] theorem State.setOut_tsu (s : State) (n : Nat) (o : OutSt) : (s.setOut n o).tsu = s.tsu := rfl
@[simp] theorem State.setOut_cla (s : State) (n : Nat) (o : OutSt) : (s.setOut n o).cla = s.cla := rfl
@[simp] theorem State.setOut_auth (s : State) (n : Nat) (o : OutSt) : (s.setOut n o).auth = s.auth := rfl
@[simp] theorem State.setOut_flt (s : State) (n : Nat) (o : OutSt) : (s.setOut n o).flt = s.flt := rfl
@[simp] theorem State.setOut_cnj (s : State) (n : Nat) (o : OutSt) : (s.setOut n o).cnj = s.cnj := rfl
@[simp] theorem State.setOut_sys (s : State) (n : Nat) (o : OutSt) : (s.setOut n o).sys = s.sys := rfl
@[simp] theorem State.setOut_free (s : State) (n : Nat) (o : OutSt) : (s.setOut n o).free = s.free := rfl
@[simp] theorem State.setOut_hot (s : State) (n : Nat) (o : OutSt) : (s.setOut n o).hot = s.hot := rfl
@[simp] theorem State.setOut_pending (s : State) (n : Nat) (o : OutSt) : (s.setOut n o).pending = s.pending := rfl

/-! ### State.setDpll -/

@[simp] theorem State.get_setDpll (s : State) (k : Nat) (d : DpllSt) (g : Field) : (s.setDpll k d).get g = s.get g := rfl
@[simp] theorem State.bit_setDpll (s : State) (k : Nat) (d : DpllSt) (g : Field) : (s.setDpll k d).bit g = s.bit g := rfl
@[simp] theorem State.setDpll_regs (s : State) (k : Nat) (d : DpllSt) : (s.setDpll k d).regs = s.regs := rfl
@[simp] theorem State.setDpll_tb (s : State) (k : Nat) (d : DpllSt) : (s.setDpll k d).tb = s.tb := rfl
@[simp] theorem State.setDpll_jr (s : State) (k : Nat) (d : DpllSt) : (s.setDpll k d).jr = s.jr := rfl
@[simp] theorem State.setDpll_hif (s : State) (k : Nat) (d : DpllSt) : (s.setDpll k d).hif = s.hif := rfl
@[simp] theorem State.setDpll_fab (s : State) (k : Nat) (d : DpllSt) : (s.setDpll k d).fab = s.fab := rfl
@[simp] theorem State.setDpll_obs (s : State) (k : Nat) (d : DpllSt) : (s.setDpll k d).obs = s.obs := rfl
@[simp] theorem State.setDpll_refin (s : State) (k : Nat) (d : DpllSt) : (s.setDpll k d).refin = s.refin := rfl
@[simp] theorem State.setDpll_utc (s : State) (k : Nat) (d : DpllSt) : (s.setDpll k d).utc = s.utc := rfl
@[simp] theorem State.setDpll_gns (s : State) (k : Nat) (d : DpllSt) : (s.setDpll k d).gns = s.gns := rfl
@[simp] theorem State.setDpll_sel (s : State) (k : Nat) (d : DpllSt) : (s.setDpll k d).sel = s.sel := rfl
@[simp] theorem State.setDpll_tns (s : State) (k : Nat) (d : DpllSt) : (s.setDpll k d).tns = s.tns := rfl
@[simp] theorem State.setDpll_pls (s : State) (k : Nat) (d : DpllSt) : (s.setDpll k d).pls = s.pls := rfl
@[simp] theorem State.setDpll_lan (s : State) (k : Nat) (d : DpllSt) : (s.setDpll k d).lan = s.lan := rfl
@[simp] theorem State.setDpll_tsu (s : State) (k : Nat) (d : DpllSt) : (s.setDpll k d).tsu = s.tsu := rfl
@[simp] theorem State.setDpll_cla (s : State) (k : Nat) (d : DpllSt) : (s.setDpll k d).cla = s.cla := rfl
@[simp] theorem State.setDpll_auth (s : State) (k : Nat) (d : DpllSt) : (s.setDpll k d).auth = s.auth := rfl
@[simp] theorem State.setDpll_flt (s : State) (k : Nat) (d : DpllSt) : (s.setDpll k d).flt = s.flt := rfl
@[simp] theorem State.setDpll_cnj (s : State) (k : Nat) (d : DpllSt) : (s.setDpll k d).cnj = s.cnj := rfl
@[simp] theorem State.setDpll_sys (s : State) (k : Nat) (d : DpllSt) : (s.setDpll k d).sys = s.sys := rfl
@[simp] theorem State.setDpll_free (s : State) (k : Nat) (d : DpllSt) : (s.setDpll k d).free = s.free := rfl
@[simp] theorem State.setDpll_hot (s : State) (k : Nat) (d : DpllSt) : (s.setDpll k d).hot = s.hot := rfl
@[simp] theorem State.setDpll_pending (s : State) (k : Nat) (d : DpllSt) : (s.setDpll k d).pending = s.pending := rfl

/-! ### State.setPort -/

@[simp] theorem State.get_setPort (s : State) (p : Nat) (x : PortSt) (g : Field) : (s.setPort p x).get g = s.get g := rfl
@[simp] theorem State.bit_setPort (s : State) (p : Nat) (x : PortSt) (g : Field) : (s.setPort p x).bit g = s.bit g := rfl
@[simp] theorem State.setPort_regs (s : State) (p : Nat) (x : PortSt) : (s.setPort p x).regs = s.regs := rfl
@[simp] theorem State.setPort_tb (s : State) (p : Nat) (x : PortSt) : (s.setPort p x).tb = s.tb := rfl
@[simp] theorem State.setPort_jr (s : State) (p : Nat) (x : PortSt) : (s.setPort p x).jr = s.jr := rfl
@[simp] theorem State.setPort_hif (s : State) (p : Nat) (x : PortSt) : (s.setPort p x).hif = s.hif := rfl
@[simp] theorem State.setPort_fab (s : State) (p : Nat) (x : PortSt) : (s.setPort p x).fab = s.fab := rfl
@[simp] theorem State.setPort_obs (s : State) (p : Nat) (x : PortSt) : (s.setPort p x).obs = s.obs := rfl
@[simp] theorem State.setPort_refin (s : State) (p : Nat) (x : PortSt) : (s.setPort p x).refin = s.refin := rfl
@[simp] theorem State.setPort_utc (s : State) (p : Nat) (x : PortSt) : (s.setPort p x).utc = s.utc := rfl
@[simp] theorem State.setPort_gns (s : State) (p : Nat) (x : PortSt) : (s.setPort p x).gns = s.gns := rfl
@[simp] theorem State.setPort_sel (s : State) (p : Nat) (x : PortSt) : (s.setPort p x).sel = s.sel := rfl
@[simp] theorem State.setPort_tns (s : State) (p : Nat) (x : PortSt) : (s.setPort p x).tns = s.tns := rfl
@[simp] theorem State.setPort_syn (s : State) (p : Nat) (x : PortSt) : (s.setPort p x).syn = s.syn := rfl
@[simp] theorem State.setPort_pls (s : State) (p : Nat) (x : PortSt) : (s.setPort p x).pls = s.pls := rfl
@[simp] theorem State.setPort_tsu (s : State) (p : Nat) (x : PortSt) : (s.setPort p x).tsu = s.tsu := rfl
@[simp] theorem State.setPort_cla (s : State) (p : Nat) (x : PortSt) : (s.setPort p x).cla = s.cla := rfl
@[simp] theorem State.setPort_auth (s : State) (p : Nat) (x : PortSt) : (s.setPort p x).auth = s.auth := rfl
@[simp] theorem State.setPort_flt (s : State) (p : Nat) (x : PortSt) : (s.setPort p x).flt = s.flt := rfl
@[simp] theorem State.setPort_cnj (s : State) (p : Nat) (x : PortSt) : (s.setPort p x).cnj = s.cnj := rfl
@[simp] theorem State.setPort_sys (s : State) (p : Nat) (x : PortSt) : (s.setPort p x).sys = s.sys := rfl
@[simp] theorem State.setPort_free (s : State) (p : Nat) (x : PortSt) : (s.setPort p x).free = s.free := rfl
@[simp] theorem State.setPort_hot (s : State) (p : Nat) (x : PortSt) : (s.setPort p x).hot = s.hot := rfl
@[simp] theorem State.setPort_pending (s : State) (p : Nat) (x : PortSt) : (s.setPort p x).pending = s.pending := rfl

/-! ### State.setLane -/

@[simp] theorem State.get_setLane (s : State) (l : Nat) (x : LaneSt) (g : Field) : (s.setLane l x).get g = s.get g := rfl
@[simp] theorem State.bit_setLane (s : State) (l : Nat) (x : LaneSt) (g : Field) : (s.setLane l x).bit g = s.bit g := rfl
@[simp] theorem State.setLane_regs (s : State) (l : Nat) (x : LaneSt) : (s.setLane l x).regs = s.regs := rfl
@[simp] theorem State.setLane_tb (s : State) (l : Nat) (x : LaneSt) : (s.setLane l x).tb = s.tb := rfl
@[simp] theorem State.setLane_jr (s : State) (l : Nat) (x : LaneSt) : (s.setLane l x).jr = s.jr := rfl
@[simp] theorem State.setLane_hif (s : State) (l : Nat) (x : LaneSt) : (s.setLane l x).hif = s.hif := rfl
@[simp] theorem State.setLane_fab (s : State) (l : Nat) (x : LaneSt) : (s.setLane l x).fab = s.fab := rfl
@[simp] theorem State.setLane_obs (s : State) (l : Nat) (x : LaneSt) : (s.setLane l x).obs = s.obs := rfl
@[simp] theorem State.setLane_refin (s : State) (l : Nat) (x : LaneSt) : (s.setLane l x).refin = s.refin := rfl
@[simp] theorem State.setLane_utc (s : State) (l : Nat) (x : LaneSt) : (s.setLane l x).utc = s.utc := rfl
@[simp] theorem State.setLane_gns (s : State) (l : Nat) (x : LaneSt) : (s.setLane l x).gns = s.gns := rfl
@[simp] theorem State.setLane_sel (s : State) (l : Nat) (x : LaneSt) : (s.setLane l x).sel = s.sel := rfl
@[simp] theorem State.setLane_tns (s : State) (l : Nat) (x : LaneSt) : (s.setLane l x).tns = s.tns := rfl
@[simp] theorem State.setLane_syn (s : State) (l : Nat) (x : LaneSt) : (s.setLane l x).syn = s.syn := rfl
@[simp] theorem State.setLane_pls (s : State) (l : Nat) (x : LaneSt) : (s.setLane l x).pls = s.pls := rfl
@[simp] theorem State.setLane_tsu (s : State) (l : Nat) (x : LaneSt) : (s.setLane l x).tsu = s.tsu := rfl
@[simp] theorem State.setLane_cla (s : State) (l : Nat) (x : LaneSt) : (s.setLane l x).cla = s.cla := rfl
@[simp] theorem State.setLane_auth (s : State) (l : Nat) (x : LaneSt) : (s.setLane l x).auth = s.auth := rfl
@[simp] theorem State.setLane_flt (s : State) (l : Nat) (x : LaneSt) : (s.setLane l x).flt = s.flt := rfl
@[simp] theorem State.setLane_cnj (s : State) (l : Nat) (x : LaneSt) : (s.setLane l x).cnj = s.cnj := rfl
@[simp] theorem State.setLane_sys (s : State) (l : Nat) (x : LaneSt) : (s.setLane l x).sys = s.sys := rfl
@[simp] theorem State.setLane_free (s : State) (l : Nat) (x : LaneSt) : (s.setLane l x).free = s.free := rfl
@[simp] theorem State.setLane_hot (s : State) (l : Nat) (x : LaneSt) : (s.setLane l x).hot = s.hot := rfl
@[simp] theorem State.setLane_pending (s : State) (l : Nat) (x : LaneSt) : (s.setLane l x).pending = s.pending := rfl

end Sys2Proof.Machine
end

