-- ==== Sys2Proof/Machine/Code8b.lean ====
section
/-!
DEFINITION. 8b/10b line coding (R259, R260): the special characters, the encoder and decoder with running disparity. The code groups of the data
characters and the running disparity of a sub-block are those of IEEE 802.3 Clause 36, which the rule names (PRESUMED, log 84).
-/

namespace Sys2Proof.Machine

/-- A character: special (K) or data (D), and its octet. -/
structure Char8 where
  special : Bool
  octet : Nat
  deriving DecidableEq, Repr

/-- A special character's code groups at RD− and RD+, abcdei fghj with a the highest bit. -/
structure SpecialGroup where
  octet : Nat
  neg : Nat
  pos : Nat
  deriving DecidableEq, Repr

/-- The special characters of R259: K28.5, K28.1, K27.7, K29.7, K23.7 and K30.7. -/
def specialGroups : List SpecialGroup :=
  [⟨0xBC, 0b0011111010, 0b1100000101⟩, ⟨0x3C, 0b0011111001, 0b1100000110⟩, ⟨0xFB, 0b1101101000, 0b0010010111⟩,
   ⟨0xFD, 0b1011101000, 0b0100010111⟩, ⟨0xF7, 0b1110101000, 0b0001010111⟩, ⟨0xFE, 0b0111101000, 0b1000010111⟩]

/-- Ones among the low n bits of v. -/
def onesIn (n v : Nat) : Nat := ((List.range n).filter (bitOf v)).length

/-- abcdei of D.x at RD−, for x = 0 to 31. -/
def data6 : List Nat :=
  [0b100111, 0b011101, 0b101101, 0b110001, 0b110101, 0b101001, 0b011001, 0b111000,
   0b111001, 0b100101, 0b010101, 0b110100, 0b001101, 0b101100, 0b011100, 0b010111,
   0b011011, 0b100011, 0b010011, 0b110010, 0b001011, 0b101010, 0b011010, 0b111010,
   0b110011, 0b100110, 0b010110, 0b110110, 0b001110, 0b101110, 0b011110, 0b101011]

/-- fghj of D.x.y at RD−, for y = 0 to 7 (the primary form of y = 7). -/
def data4 : List Nat := [0b1011, 0b1001, 0b0101, 0b1100, 0b1101, 0b1010, 0b0110, 0b1110]

/-- A sub-block of n bits as it is sent at running disparity `rd` (true: RD+): one that is not balanced, and 111000 and 1100, is complemented
at RD+. -/
def atDisparity (n v : Nat) (rd : Bool) : Nat :=
  if rd && (2 * onesIn n v != n || (n = 6 && v = 0b111000) || (n = 4 && v = 0b1100)) then 2 ^ n - 1 - v else v

/-- The running disparity after a sub-block. -/
def disparityAfter (n v : Nat) (rd : Bool) : Bool :=
  if n < 2 * onesIn n v || (n = 6 && v = 0b000111) || (n = 4 && v = 0b0011) then true
  else if 2 * onesIn n v < n || (n = 6 && v = 0b111000) || (n = 4 && v = 0b1100) then false
  else rd

/-- The fghj sub-block of D.x.y at the disparity that its abcdei leaves: y = 7 takes its alternate form where five equal bits would run. -/
def second4 (x y : Nat) (rd : Bool) : Nat :=
  let alt : Bool := y = 7 && (if rd then x = 11 || x = 13 || x = 14 else x = 17 || x = 18 || x = 20)
  atDisparity 4 (if alt then 0b0111 else data4.getD y 0) rd

/-- The code group of a character at running disparity `rd`; none for a special character that R259 does not list. -/
def encode8b (rd : Bool) (c : Char8) : Option Nat :=
  if c.special then
    (specialGroups.find? (fun g => g.octet = c.octet)).map (fun g => if rd then g.pos else g.neg)
  else
    let x := c.octet % 32
    let a := atDisparity 6 (data6.getD x 0) rd
    some (a * 16 + second4 x (c.octet / 32 % 8) (disparityAfter 6 a rd))

/-- The running disparity after a code group. -/
def afterGroup (rd : Bool) (g : Nat) : Bool := disparityAfter 4 (g % 16) (disparityAfter 6 (g / 16) rd)

/-- A transmitter's code groups for characters, from its running disparity, and the disparity it ends with. It starts with RD− (R260). -/
def encodeRun : Bool → List Char8 → List Nat × Bool
  | rd, [] => ([], rd)
  | rd, c :: l =>
    match encode8b rd c with
    | some g => let r := encodeRun (afterGroup rd g) l
                (g :: r.1, r.2)
    | none => encodeRun rd l

/-- Every character that is coded. -/
def allChars : List Char8 :=
  (List.range 256).map (fun v => ⟨false, v⟩) ++ specialGroups.map (fun g => ⟨true, g.octet⟩)

/-- The character of a code group at running disparity `rd`: none where it is invalid or has the wrong disparity. -/
def decode8b (rd : Bool) (g : Nat) : Option Char8 := allChars.find? (fun c => encode8b rd c = some g)

/-- What a receiver reads of code groups: the characters (none for one in error), the code groups in error, which PCS_DISP_ERR counts, and the
disparity it ends with. A frame that contains one in error is flagged CODE_ERR (R260). -/
def decodeRun : Bool → List Nat → List (Option Char8) × Nat × Bool
  | rd, [] => ([], 0, rd)
  | rd, g :: l =>
    let c := decode8b rd g
    let r := decodeRun (afterGroup rd g) l
    (c :: r.1, (if c.isNone then 1 else 0) + r.2.1, r.2.2)

end Sys2Proof.Machine
end

