-- ==== Sys2Proof/Machine/LaneView.lean ====
section
/-!
DEFINITION. What the lanes and ports put on the line (R255–R257, R263, R265, R266, R268, R270, R279, R280, R288), read from the state: a
lane's driver, rate and content, the test patterns, the end of a cut frame, and the trailer or tag of a frame sent through a redundancy group.
-/

namespace Sys2Proof.Machine

/-! ### Lane drivers -/

/-- What a transmit lane carries: electrical idle, a test pattern (1 PRBS7, 2 PRBS9, 3 PRBS31), the mode's idle, remote fault ordered sets,
frames between idle, or the received data looped. -/
inductive LaneDrive where
  | off
  | pattern (k : Nat)
  | idle
  | remoteFault
  | frames
  | looped
  deriving DecidableEq, Repr

/-- A transmit lane: its line rate in kb/s, whether its polarity is inverted, the FEC lane it sends, its tap codes, and what it carries. -/
structure LaneTx where
  rate : Nat
  inv : Bool
  fec : Nat
  taps : Nat × Nat × Nat
  drive : LaneDrive
  deriving DecidableEq, Repr

/-- Line rate of a mode's lane in kb/s (R256). -/
def laneRate (m : Nat) : Nat := if m = 0 then 1250000 else if m = 1 then 10312500 else 25781250

/-- What a port sends on its lanes beside a test pattern: in the safe state idle, or nothing with SQ_SAFE; under local fault remote fault and
under remote fault idle; in loopback by KIND. -/
def portDrive (s : State) (p : Nat) : LaneDrive :=
  if link s p = 0 || link s p = 5 then .off
  else if s.mode = .safe then (if s.bit (Reg.MAC_MODE_SQ_SAFE p) then .off else .idle)
  else if link s p = 4 then
    (let k := (s.port p).kind
     if k = 1 then .frames else if k = 2 then .idle else .looped)
  else if s.bit (Reg.MAC_STAT_LF p) then .remoteFault
  else if s.bit (Reg.MAC_STAT_RF p) || link s p != 3 then .idle else .frames

/-- Service lane l as it is driven. -/
def laneTx (s : State) (l : Nat) : LaneTx :=
  let taps := (s.get (Reg.LN_TXEQ_PRE l), s.get (Reg.LN_TXEQ_MAIN l), s.get (Reg.LN_TXEQ_POST l))
  let inv := s.bit (Reg.LN_CFG_TX_INV l)
  match portOfLane s l with
  | none => ⟨0, inv, 0, taps, .off⟩
  | some p =>
    let m := s.get (Reg.MAC_MODE_MODE p)
    let k := s.get (Reg.LN_CFG_PRBS l)
    let test : Bool := k != 0 && (link s p = 0 || link s p = 4) && s.mode != .boot && s.mode != .safe
    let fast : Bool := link s p = 0 && s.bit (Reg.LN_CFG_RATE28 l)
    ⟨if test && fast then 28125000 else laneRate m, inv, if m != 3 then 0 else if s.bit (Reg.MAC_MODE_TX_REV p) then 3 - l % 4 else l % 4, taps,
     if test then .pattern k else portDrive s p⟩

/-- Length and second tap of a test pattern's generator (ITU-T O.150): x⁷ + x⁶ + 1, x⁹ + x⁵ + 1 and x³¹ + x²⁸ + 1. -/
def patternTaps (k : Nat) : Nat × Nat := if k = 1 then (7, 6) else if k = 2 then (9, 5) else (31, 28)

/-- One bit of test pattern k from the last bits sent, the latest in bit 0: the generator after it. The bit sent is its bit 0. -/
def patternStep (k g : Nat) : Nat :=
  let (n, t) := patternTaps k
  (2 * g + (if bitOf g (n - 1) != bitOf g (t - 1) then 1 else 0)) % 2 ^ n

/-! ### The end of a cut frame (R288) -/

/-- In 8b/10b: K30.7, then K29.7, then idle. -/
def cutEnd8b : List Char8 := [⟨true, 0xFE⟩, ⟨true, 0xFD⟩]

/-- In 64b/66b: the payload of the error control block, type 0x1E in its low octet and eight /E/ characters of 7 bits (0x1E). -/
def cutBlock66 : Nat := 0x1E + (List.range 8).foldl (fun n k => n + 0x1E * 2 ^ (8 + 7 * k)) 0

/-! ### Redundancy (R279, R280) -/

/-- The octets a frame sent on port p of group g carries for its sequence number: in PRP the trailer, with LanId 0xA on PORT_A and 0xB on
PORT_B, LSDUsize and the PRP suffix; in HSR the tag, with NETID and LanId 0 or 1. `size` is LSDUsize as IEC 62439-3 defines it. -/
def redOctets (s : State) (g p seq size : Nat) : List Byte :=
  let second : Bool := s.get (Reg.RG_CFG_PORT_A g) != p
  if s.get (Reg.RG_CFG_MODE g) = 2 then
    beBytes 2 0x892F ++ beBytes 2 ((s.get (Reg.RG_CFG_NETID g) * 2 + b2n second) % 16 * 4096 + size % 4096) ++ beBytes 2 seq
  else beBytes 2 seq ++ beBytes 2 ((if second then 0xB else 0xA) * 4096 + size % 4096) ++ beBytes 2 0x88FB

/-- The tag in front of a frame's type: none for one that carries no VLAN tag. -/
def tagOctets (m : Msg) : Nat := match m with | .ptp o => (if o.env.tci.isSome then 4 else 0) | .ntp o => (if o.env.tci.isSome then 4 else 0) | _ => 0

/-- The trailer or tag of a frame that leaves. LSDUsize counts from after the type field, of HSR that of the tag, without the
FCS. -/
def sentRed (s : State) (x : SentFrame) : Option (List Byte) :=
  match groupOf s x.port, x.red with
  | some g, some seq => some (redOctets s g x.port seq (x.len - 18 - tagOctets x.msg))
  | _, _ => none

end Sys2Proof.Machine
end

