-- ==== Sys2Proof/Machine/LinkView.lean ====
section
/-!
DEFINITION. What the Conjunction link carries (R490, R493–R495, R518): the octets of a frame, its characters on a lane, the check a
receiver makes of them, and the heartbeat pin.
-/

namespace Sys2Proof.Machine

/-! ### Octets (R493, R494) -/

/-- TYPE of a payload. -/
def payType : LinkPay → Nat
  | .heartbeat _ => 1
  | .state .. => 2
  | .ident _ => 3
  | .key .. => 4
  | .keyAck _ => 5
  | .notice .. => 6

/-- The number n of payload octets that TYPE fixes. -/
def payLength (type : Nat) : Option Nat := [(1, 8), (2, 48), (3, 12), (4, 24), (5, 8), (6, 16)].lookup type

/-- The payload's octets. -/
def payOctets : LinkPay → List Byte
  | .heartbeat h =>
    [h.unit, h.mode, h.role, h.pstate, h.flags, h.ts].flatMap (leBytes 1) ++ leBytes 2 0
  | .state sent rcvd p =>
    fineBytes sent ++ fineBytes rcvd ++ leBytes 8 p.gloss ++ leBytes 2 (unsigned 16 p.tai)
      ++ [p.utc, p.clsT, p.clsD, p.tsrc, p.trc, p.verdict].flatMap (leBytes 1) ++ leBytes 2 p.steps ++ leBytes 2 0 ++ leBytes 4 p.refId
  | .ident p =>
    leBytes 2 p.part ++ leBytes 1 p.stepping ++ leBytes 1 p.unit ++ leBytes 2 p.release ++ leBytes 1 (b2n p.q58) ++ leBytes 1 0
      ++ leBytes 4 p.digest
  | .key k adopt => leBytes 16 k ++ leBytes 8 adopt
  | .keyAck adopt => leBytes 8 adopt
  | .notice src cls flags stamp => leBytes 1 src ++ leBytes 1 cls ++ leBytes 1 flags ++ leBytes 1 0 ++ fineBytes stamp

/-- The octets of a frame: header, payload and CRC-32. -/
def frameOctets (f : LinkFrame) : List Byte :=
  let l := leBytes 1 (payType f.pay) ++ leBytes 1 f.lane ++ leBytes 2 f.fseq ++ leBytes 4 f.cseq ++ payOctets f.pay
  l ++ leBytes 4 (crc32 l)

/-! ### Characters (R493, R495, R518) -/

/-- K27.7 starts a frame, K29.7 ends it, K30.7 before that ends one cut by the safe state, K28.5 is idle and K28.1 a marker. -/
def kChar (o : Nat) : Char8 := ⟨true, o⟩

/-- The characters of a frame. -/
def frameChars (f : LinkFrame) : List Char8 :=
  kChar 0xFB :: ((frameOctets f).map (fun b => ⟨false, b.toNat⟩) ++ [kChar 0xFD])

/-- The frame in progress when the safe-state net is asserted, cut after `n` characters. -/
def cutChars (f : LinkFrame) (n : Nat) : List Char8 := (frameChars f).take n ++ [kChar 0xFE, kChar 0xFD]

/-- What a receiver finds of the characters after K27.7, none standing for a code group in error: a valid frame, one the sender cut,
which is discarded without a violation, or a violation. -/
inductive LinkCheck where
  | valid (octets : List Byte)
  | cut
  | violation
  deriving DecidableEq, Repr

/-- The octets of data characters up to the first special or erroneous one, and what follows. -/
def splitData : List (Option Char8) → List Byte × List (Option Char8)
  | some ⟨false, v⟩ :: l => let r := splitData l; (BitVec.ofNat 8 v :: r.1, r.2)
  | l => ([], l)

/-- The check of R495. -/
def linkCheck (cs : List (Option Char8)) : LinkCheck :=
  let (d, rest) := splitData cs
  let body := d.take (d.length - 4)
  let whole : Bool := match payLength (leNat d 0 1) with | some n => d.length = 12 + n | none => false
  match rest with
  | some ⟨true, 0xFE⟩ :: some ⟨true, 0xFD⟩ :: _ => .cut
  | some ⟨true, 0xFD⟩ :: _ => if whole && leNat d body.length 4 = crc32 body then .valid d else .violation
  | _ => .violation

/-! ### Pins (R490) -/

/-- The level of HB_OUT: it toggles while the pair unit runs and is low otherwise. -/
def hbOutLevel (s : State) : Bool := pairRuns s && s.cnj.hbOut

end Sys2Proof.Machine
end

