-- ==== Sys2Proof/WellFormed.lean ====
section
/-!
DEFINITION. Well-formed commands: what a command's operands must satisfy beside the bounds their types give. Meanings are total: they
answer on ill-formed commands too.
-/

namespace Sys2Proof

/-- No value stands twice. -/
def distinct {α : Type} [DecidableEq α] : List α → Bool
  | [] => true
  | a :: l => !decide (a ∈ l) && distinct l

/-- A descriptor carries the 48 operand bytes 16–63 (R401). -/
def Desc.wf (d : Desc) : Bool := decide (d.op.length = 48)

/-- A channel's C/N0 and elevation lie in a byte and in ±90° (R100). -/
def ChanIn.wf (c : ChanIn) : Bool := decide (c.cn0 < 256) && decide (-90 ≤ c.elev) && decide (c.elev ≤ 90)

/-- A satellite of an epoch has a channel. -/
def SatIn.wf (x : SatIn) : Bool := (x.l1.isSome || x.l5.isSome) && decide (x.tow < 604800)

/-- Well-formedness of an epoch: of its channels, each of which reports once, and of its satellites. -/
def EpochIn.wf (e : EpochIn) : Bool := e.chans.all ChanIn.wf && e.sats.all SatIn.wf && distinct (e.chans.map (fun c => c.ch))

/-- A PTP header's fields hold what their widths hold (IEEE 1588 header, R324). -/
def PtpIn.wf (m : PtpIn) : Bool :=
  decide (m.type < 16) && decide (m.version < 16) && decide (m.domain < 256) && decide (m.seqId < 65536)
    && decide (m.sender < 2 ^ 80) && decide (m.reqPort < 2 ^ 80)

/-- An NTP header's fields hold what their widths hold (R324). -/
def NtpIn.wf (m : NtpIn) : Bool := decide (m.vn < 8) && decide (m.mode < 8) && decide (m.poll < 256) && decide (m.xmt < 2 ^ 64)

/-- What a frame carries is well formed. -/
def Pay.wf : Pay → Bool
  | .ntp t m => decide (t < 3) && m.wf
  | .ptp t m => decide (t < 3) && m.wf
  | .ntsKe => true
  | .addr => true
  | .pause => true
  | .pfc => true
  | .other => true

/-- A redundancy trailer's fields hold what their widths hold (R279). -/
def RedIn.wf (r : RedIn) : Bool := decide (r.lan < 16) && decide (r.seq < 65536)

/-- A frame: its octets are those before the FCS; addresses and tags hold what their widths hold. -/
def FrameIn.wf (f : FrameIn) : Bool :=
  decide (f.octets.length + 4 = f.len) && decide (f.da < 2 ^ 48) && decide (f.sa < 2 ^ 48)
    && f.tags.all (fun t => decide (t.1 < 65536) && decide (t.2 < 65536)) && decide (f.ip < 2 ^ 128)
    && (match f.red with | some r => r.wf | none => true) && f.pay.wf

/-- A HEARTBEAT's fields hold what their widths hold (R494). -/
def HbPay.wf (h : HbPay) : Bool :=
  decide (h.unit < 2) && decide (h.mode < 8) && decide (h.role < 4) && decide (h.pstate < 8) && decide (h.flags < 256)
    && decide (h.ts < 256)

/-- An IDENT's fields hold what their widths hold (R494). -/
def IdentPay.wf (p : IdentPay) : Bool :=
  decide (p.part < 65536) && decide (p.stepping < 256) && decide (p.unit < 2) && decide (p.release < 65536)
    && decide (p.digest < 2 ^ 32)

/-- A STATE frame's fields hold what their widths hold (R494). -/
def PeerState.wf (p : PeerState) : Bool :=
  decide (p.gloss < 2 ^ 64) && decide (p.utc < 256) && decide (p.clsT < 256) && decide (p.clsD < 256) && decide (p.tsrc < 256)
    && decide (p.trc < 4) && decide (p.verdict < 256) && decide (p.steps < 65536) && decide (p.refId < 2 ^ 32)

/-- A command is well formed. -/
def Instr.wf : Instr → Bool
  | .registerWrite _ _ => true
  | .unalignedAccess => true
  | .w1cFlagWrite _ _ => true
  | .ffHeldRelease => true
  | .glossPublication _ _ _ => true
  | .cseqSlotEnd => true
  | .tbClockStop => true
  | .oscinLoss => true
  | .apllLossOfLock _ => true
  | .apllLock _ => true
  | .leapApplied => true
  | .leapArmed => true
  | .inputEdge _ _ _ => true
  | .evtEdge _ _ _ => true
  | .tdcCalibration _ _ _ => true
  | .evtCalibration _ _ _ => true
  | .windowClose _ => true
  | .todMessage _ _ _ _ _ _ _ _ _ => true
  | .todIntervalEnd => true
  | .refinChWrite _ _ _ => true
  | .refinSet d => d.wf
  | .effectiveTimeReached => true
  | .bandStuck _ _ => true
  | .stuckClear _ => true
  | .sidePeakSlip _ _ => true
  | .gnssSolution e => e.wf
  | .jamTrip _ _ => true
  | .gnssCheckClear _ => true
  | .snapCaptured l1 l5 => decide (l1.length ≤ 655360) && decide (l5.length ≤ 655360)
  | .surveyIn d => d.wf
  | .surveyDone => true
  | .surveySuspendExpiry => true
  | .gnssPosSet d => d.wf
  | .gnssSnapshot d => d.wf
  | .snapExport d => d.wf
  | .snapExportDone _ => true
  | .snapRelease d => d.wf
  | .gnssSet d => d.wf
  | .qualHoldoffExpiry _ => true
  | .dqHoldoffExpiry _ => true
  | .refLosTimeout _ => true
  | .driftSample => true
  | .waitToRestore => true
  | .esmcPduRx _ _ _ _ _ => true
  | .esmcTimeout _ => true
  | .ptpClientRx _ f _ => f.wf
  | .selSet d => d.wf
  | .selForce d => d.wf
  | .learnSample => true
  | .rollingFit => true
  | .efcCentring => true
  | .efcFrameEnd => true
  | .tempRead => true
  | .tempReadDone _ => true
  | .tnsStep d => d.wf
  | .tnsHostTime d => d.wf
  | .tnsUtc d => d.wf
  | .tnsSet d => d.wf
  | .holdoverLearn d => d.wf
  | .holdoverLearnDone => true
  | .hoModelLoad d => d.wf
  | .tcRejoin _ => true
  | .glossStale => true
  | .dpllUpdate _ _ _ clocks => distinct (clocks.map (fun c => c.1))
  | .esmcInfoTx _ => true
  | .outputStart _ => true
  | .outputStop _ => true
  | .outputSlewEnd _ => true
  | .outEnWrite _ _ => true
  | .synSet d => d.wf
  | .outCtl d => d.wf
  | .schedCommit _ => true
  | .schedOccurrence _ => true
  | .pulseEnd _ => true
  | .irigFrame _ => true
  | .todTxMessage => true
  | .plsSched d => d.wf
  | .plsSet d => d.wf
  | .plsAlign d => d.wf
  | .alignQuietInstant _ => true
  | .alignSlewEnd _ => true
  | .alignTimeout _ => true
  | .plsSchRead _ => true
  | .plsSchWrite _ => true
  | .signalDetect _ => true
  | .polarityTimeout _ => true
  | .bringupComplete _ _ _ _ => true
  | .bringupFail _ _ => true
  | .bringupRetry _ => true
  | .linkLoss _ _ => true
  | .linkFaultRx _ _ => true
  | .frameRx _ f => f.wf
  | .pauseRx _ quanta => distinct (quanta.map (fun q => q.1))
  | .pauseExpiry _ _ => true
  | .pauseWatchdog _ _ => true
  | .pwdHoldExpiry _ _ => true
  | .eyeMeasure _ _ _ => true
  | .supervisionTx _ => true
  | .portDisturb _ => true
  | .portSet d => d.wf
  | .laneSet d => d.wf
  | .portLoopback d => d.wf
  | .rgSet d => d.wf
  | .tsuPdCalibration _ => true
  | .ttxGrant _ _ len _ _ => decide (0 < len)
  | .frameCommit _ _ len => decide (0 < len)
  | .frameArm _ => true
  | .frameLaunch _ => true
  | .egressVerify _ _ => true
  | .unbookedTx _ _ => true
  | .portCalibrate d => d.wf
  | .calProbe _ _ _ => true
  | .portCalibrateDone _ => true
  | .tsuSet d => d.wf
  | .requestDispatch _ => true
  | .aeadComplete _ _ _ _ => true
  | .streamPrepare _ _ => true
  | .followUpPrepare => true
  | .signalingRx _ _ => true
  | .grantWalk late bad => distinct late && distinct bad
  | .delayReqTx _ => true
  | .admissionRefresh => true
  | .reconfDrainEnd => true
  | .svcViolation => true
  | .grantSummary => true
  | .injectEntry _ header _ => decide (header.length = 16)
  | .engineRejoin _ => true
  | .claSet d => d.wf
  | .claRule d => d.wf
  | .streamSet d => d.wf
  | .claSeqkey d => d.wf
  | .claStrRead _ => true
  | .claStrWrite _ => true
  | .claRuleRead _ => true
  | .claRuleWrite _ => true
  | .drbgReseed _ => true
  | .satExpiry _ => true
  | .satInstall d => d.wf
  | .satRotate d => d.wf
  | .satRekey d => d.wf
  | .satRekeyRecord r => decide (r.length = 64)
  | .satInstGo => true
  | .satQryGo _ => true
  | .doorbell _ _ => true
  | .descriptorAccept _ _ d => d.wf
  | .phaseRetry _ _ d => d.wf
  | .coalTimeout _ => true
  | .dmaError _ => true
  | .pcieFlr => true
  | .pcieBmeClear => true
  | .pcieD3hot => true
  | .pcieLinkDown => true
  | .pcieLinkUp _ _ => true
  | .perst => true
  | .pf1Flr => true
  | .nop d => d.wf
  | .modeSet d => d.wf
  | .ringSet d => d.wf
  | .longCtl d => d.wf
  | .abort d => d.wf
  | .hifAbortEngine _ => true
  | .hifAbortRing _ => true
  | .smbIdent => true
  | .smbStatus => true
  | .smbGloss => true
  | .smbTime => true
  | .smbTemp => true
  | .smbPower => true
  | .smbFirstFault => true
  | .smbMargin => true
  | .smbPorts => true
  | .smbPair => true
  | .smbArbiter _ => true
  | .smbAlertMaskRead => true
  | .smbAlertMaskWrite _ => true
  | .smbAlertResponse => true
  | .fabricTransfer _ a _ n beats _ _ _ => decide (beats.length ≤ n.val + 1) && decide (a.toNat % 512 + 32 * (n.val + 1) ≤ 512)
  | .lockTimeout _ => true
  | .resultLanding _ => true
  | .scrubRead _ _ _ => true
  | .speedWindow n ro tj _ => decide (n.length = 64) && decide (ro.length = 16) && decide (tj.length = 8)
  | .plannerEvaluate => true
  | .avsReadback _ _ _ _ => true
  | .marginReplan => true
  | .trendUpdate => true
  | .marginSweep d => d.wf
  | .sweepDone mus => decide (mus.length ≤ 64)
  | .fabSet d => d.wf
  | .marginReport d => d.wf
  | .faultEvent _ _ _ _ _ => true
  | .faultDecision => true
  | .safeStateAssert => true
  | .suppressionWindowClose => true
  | .engWdog _ _ => true
  | .supplyExcursion _ _ => true
  | .tjCrit => true
  | .xoSafeLoss => true
  | .fltSet d => d.wf
  | .fltInject d => d.wf
  | .fltSafe d => d.wf
  | .heartbeatTx => true
  | .heartbeatRx _ _ p => p.wf
  | .hbInEdge => true
  | .peerAbsenceTimeout => true
  | .identTx => true
  | .identRx _ _ p => p.wf
  | .epochMarkerTx _ _ => true
  | .epochMarkerRx _ _ => true
  | .stateFrameRx _ _ _ _ p => p.wf
  | .linkViolation _ => true
  | .laneRestart _ => true
  | .laneSyncChange _ _ => true
  | .keyTx => true
  | .keyRx _ _ _ _ => true
  | .keyAckRx _ _ _ => true
  | .keyAdoption => true
  | .noticeTx => true
  | .noticeRx _ _ _ _ _ _ => true
  | .subjInChange _ => true
  | .arbValidChange _ => true
  | .roleDecisionChange => true
  | .guardExpiry _ => true
  | .takeHoldExpiry => true
  | .driverInactiveInstant _ => true
  | .urgentRelease => true
  | .rehearsalStart => true
  | .rehDwellExpiry => true
  | .rehLimExpiry => true
  | .cnjSet d => d.wf
  | .cnjHandover d => d.wf
  | .sampleCapture _ _ _ _ _ _ _ _ => true
  | .bandwidthWindow _ => true
  | .traceFrameTx => true
  | .traceDma => true
  | .obsTrcFifoRead => true
  | .obsJrnlWaddr _ => true
  | .obsSmpWaddr _ => true
  | .obsPcSnap => true
  | .obsPcFreeze _ => true
  | .pf1PageRead _ _ => true
  | .obsSet d => d.wf
  | .obsSnap d => d.wf
  | .obsGrant d => d.wf
  | .journalExport d => d.wf
  | .journalExportBurst _ => true
  | .aoPowerOn => true
  | .resetAssert => true
  | .resetRelease _ => true
  | .bootHeaderRead primary copy _ => decide (primary.length = 256) && decide (copy.length = 256)
  | .imageVerified _ _ _ _ => true
  | .bootPciGo => true
  | .genModeReqGo _ => true
  | .modeGoEvaluate => true
  | .firmwareStage d => d.wf
  | .firmwareStageDone _ _ => true
  | .trendSave _ => true
  | .linkHeartbeatTimeout _ => true
  | .channelAcquired _ _ _ _ _ _ => true
  | .unicastGrantRequest _ _ => true
  | .injectTimeout => true
  | .dmaPermitted => true
  | .vddAoLow => true
  | .oscinReturn => true
  | .supervisorRejoin _ => true
  | .releaseDeadline => true
  | .prbsLock _ _ => true

end Sys2Proof
end

