-- ==== Sys2Proof/Tests/Slice0.lean ====
section
/-!
SUPPORT. Tests of one step on a small state, the refusal of an ill-formed term by each check of WellFormed, a state that meets the
hypotheses of each statement, and worked examples of the spec, from which their expected values come.
-/

open Sys2Proof Sys2Proof.Machine

namespace Sys2Proof.Tests

/-! ### WellFormed refuses an ill-formed term of each kind -/

/-- A descriptor with its 48 operand bytes zero, in ring 16. -/
def desc : Desc := ⟨16, 0, 0, 0, 0, List.replicate 48 0⟩

/-- A PTP message with every field zero. -/
def ptp : PtpIn := ⟨0, 2, 0, false, 0, 0, 0, false, 0, 0, none, [], none, []⟩

/-- An NTP message with every field zero. -/
def ntp : NtpIn := ⟨48, 4, 3, 0, 0, false, [], none⟩

/-- A frame of 64 octets with its FCS. -/
def frame : FrameIn :=
  ⟨⟨0, 0⟩, 3435973837, 64, true, false, false, 0, 0, [], false, false, false, 0, none, true, .other, List.replicate 60 0⟩

/-- A GNSS epoch that reports nothing. -/
def epoch : EpochIn := ⟨[], [], (0, 0, 0), 0, 0⟩

/-- Correlators that accumulate nothing. -/
def corr : Corr := ⟨(0, 0), (0, 0), (0, 0), (0, 0), (0, 0), (0, 0), (0, 0)⟩

/-- A channel's report, its C/N0 above a byte. -/
def chan : ChanIn := ⟨0, 400, 10, corr, 0, 0⟩

/-- A satellite without a channel. -/
def sat : SatIn := ⟨0, none, none, true, 0, 0, 0, (0, 0, 0), 0, 0, none⟩

/-- A peer's state with every field zero. -/
def peer : PeerState := ⟨0, 0, 0, 0, 0, 0, 0, 0, 0, 0⟩

theorem test_wf_desc : desc.wf = true ∧ ({ desc with op := [0] } : Desc).wf = false := by decide
theorem test_wf_descriptor_command : (Instr.nop desc).wf = true ∧ (Instr.nop { desc with op := [] }).wf = false := by decide
theorem test_wf_distinct : distinct [1, 2, 3] = true ∧ distinct [1, 2, 1] = false := by decide
theorem test_wf_channel : ({ chan with cn0 := 255 } : ChanIn).wf = true ∧ chan.wf = false ∧
    ({ chan with cn0 := 1, elev := 91 } : ChanIn).wf = false := by decide
theorem test_wf_satellite : ({ sat with l1 := some 3 } : SatIn).wf = true ∧ sat.wf = false ∧
    ({ sat with l5 := some 64, tow := 604800 } : SatIn).wf = false := by decide
theorem test_wf_epoch : epoch.wf = true ∧
    ({ epoch with chans := [{ chan with cn0 := 1 }, { chan with cn0 := 2 }] } : EpochIn).wf = false := by decide
theorem test_wf_ptp : ptp.wf = true ∧ ({ ptp with type := 16 } : PtpIn).wf = false := by decide
theorem test_wf_ntp : ntp.wf = true ∧ ({ ntp with vn := 8 } : NtpIn).wf = false := by decide
theorem test_wf_pay : (Pay.ptp 0 ptp).wf = true ∧ (Pay.ntp 3 ntp).wf = false := by decide
theorem test_wf_red : RedIn.wf ⟨true, false, 10, 0⟩ = true ∧ RedIn.wf ⟨true, false, 16, 0⟩ = false := by decide
theorem test_wf_frame : frame.wf = true ∧ ({ frame with len := 65 } : FrameIn).wf = false := by decide
theorem test_wf_heartbeat : HbPay.wf ⟨1, 3, 2, 4, 0, 0⟩ = true ∧ HbPay.wf ⟨2, 3, 2, 4, 0, 0⟩ = false := by decide
theorem test_wf_ident : IdentPay.wf ⟨0x9600, 0x20, 0, 1, false, 0⟩ = true ∧ IdentPay.wf ⟨65536, 0x20, 0, 1, false, 0⟩ = false := by decide
theorem test_wf_peer : peer.wf = true ∧ ({ peer with trc := 4 } : PeerState).wf = false := by decide
theorem test_wf_clocks : (Instr.dpllUpdate 0 0 0 [(0, 1), (1, 1)]).wf = true ∧
    (Instr.dpllUpdate 0 0 0 [(1, 1), (1, 2)]).wf = false := by decide
theorem test_wf_pause : (Instr.pauseRx 0 [(0, 1)]).wf = true ∧ (Instr.pauseRx 0 [(0, 1), (0, 2)]).wf = false := by decide
theorem test_wf_grant : (Instr.ttxGrant 0 0 64 ⟨0, []⟩ ⟨0, []⟩).wf = true ∧ (Instr.ttxGrant 0 0 0 ⟨0, []⟩ ⟨0, []⟩).wf = false ∧
    (Instr.frameCommit 0 0 0).wf = false := by decide
theorem test_wf_walk : (Instr.grantWalk [1] [2]).wf = true ∧ (Instr.grantWalk [1, 1] []).wf = false ∧
    (Instr.grantWalk [] [2, 2]).wf = false := by decide
theorem test_wf_inject : (Instr.injectEntry 0 (List.replicate 16 0) []).wf = true ∧ (Instr.injectEntry 0 [] []).wf = false := by decide
theorem test_wf_rekey_record : (Instr.satRekeyRecord (List.replicate 64 0)).wf = true ∧ (Instr.satRekeyRecord []).wf = false := by decide
theorem test_wf_fabric : (Instr.fabricTransfer 0 0 0 15 [] [] 0 0).wf = true ∧
    (Instr.fabricTransfer 0 32 0 15 [] [] 0 0).wf = false ∧ (Instr.fabricTransfer 0 0 0 0 [(0, 0), (0, 0)] [] 0 0).wf = false := by decide
theorem test_wf_speed : (Instr.speedWindow (List.replicate 64 0) (List.replicate 16 0) (List.replicate 8 0) 0).wf = true ∧
    (Instr.speedWindow [] (List.replicate 16 0) (List.replicate 8 0) 0).wf = false := by decide
theorem test_wf_sweep : (Instr.sweepDone []).wf = true ∧ (Instr.sweepDone (List.replicate 65 0)).wf = false := by decide
theorem test_wf_boot : (Instr.bootHeaderRead [] [] 0).wf = false := by decide

/-! ### No row gives bits (log 62) -/

theorem test_no_word_decodes : decodeTableWord 32 0x9600 = none := rfl

/-! ### One step -/

/-- What a step answers, when it is a next state, satisfies f. -/
def next (o : Host.Outcome State Fault Refusal) (f : State → Bool) : Bool :=
  match o with
  | .next t => f t
  | .fault _ => false
  | .refused _ => false

/-- The reset state with the given commands waiting. -/
def waiting (l : List Instr) : State := { State.reset with pending := l }

/-- The reset state with its time base running at a counter value. -/
def running (n : Nat) : State := { State.reset with tb := { State.reset.tb with running := true, cyc := n } }


section

set_option Elab.async false

/-! ### The hypotheses of every statement are met: one witness for each clause -/

/-- A descriptor with the given operand bytes (offsets 16–63), the others zero. -/
def dsc (l : List (Nat × Byte)) : Desc := { desc with op := l.foldl (fun o p => o.set (p.1 - 16) p.2) (List.replicate 48 0) }

/-- A state out of reset, every engine running, at a counter value, with the given register fields. -/
def atC (n : Nat) (l : List (Field × Nat)) : State :=
  { State.reset with
    tb := { State.reset.tb with running := true, cyc := n, ao := n }
    regs := l.map (fun p => (p.1.key, p.2))
    sys := { State.reset.sys with engReset := 0, inReset := false, step := 3 } }

/-- SERVICE at 1 s of the time base, a boundary of every grid. -/
def st (l : List (Field × Nat)) : State := atC 1000000000 ((Reg.GEN_MODE_MODE, 2) :: l)

/-- SETUP at the same instant. -/
def su (l : List (Field × Nat)) : State := atC 1000000000 ((Reg.GEN_MODE_MODE, 1) :: l)

/-- Whether a descriptor is accepted and applied at once. -/
def acc (sp : OpSpec) (s : State) (d : Desc) : Bool :=
  s.mode != .boot && s.mode != .test && decide (d.flags.toNat < 64) && decide (d.byte3 = 0) && !d.timed
    && modeAccepts (taken s d).mode sp.opcode && decide (sp.check (taken s d) d = 0) && sp.due (taken s d) d && !supervisorsDown (taken s d)

theorem accepts_of {sp : OpSpec} {s : State} {d : Desc} (h : acc sp s d = true) : Accepts sp s d := by
  simp only [acc, Bool.and_eq_true, bne_iff_ne, decide_eq_true_eq, Bool.not_eq_true'] at h
  obtain ⟨⟨⟨⟨⟨⟨⟨⟨h1, h2⟩, h3⟩, h4⟩, h5⟩, h6⟩, h7⟩, h8⟩, h9⟩ := h
  exact ⟨⟨h1, h2⟩, ⟨h3, h4, h5⟩, h6, h7, h8, h9⟩

theorem wit_ClockEvents_1 : (st []).tbLive = true := by decide +kernel
theorem wit_ClockEvents_2 : (st [(Reg.SYN_OSC_OSCIN_OK, 1)]).bit Reg.SYN_OSC_OSCIN_OK = true := by decide +kernel
theorem wit_ClockEvents_3 : apllLocked (st [(Reg.SYN_APLL_STAT_LOCK, 1)]) 0 = true := by decide +kernel
theorem wit_ClockEvents_4 : (2 : Fin 3) ≠ 0 ∧ apllLocked (st [(Reg.SYN_APLL_STAT_LOCK, 4)]) (2 : Fin 3) = true := by decide +kernel
theorem wit_ClockEvents_5 : (st []).bit Reg.SYN_OSC_OSCIN_OK = false ∧ (st []).tb.running = true := by decide +kernel
theorem wit_ClockEvents_6 : ∃ s : State, apllLocked s 0 = false ∧ 2 ≤ s.sys.step ∧ s.tb.running = false :=
  ⟨{ State.reset with sys := { State.reset.sys with step := 2 } }, by decide +kernel⟩
theorem wit_CseqSlotEnd_1 : ∃ s : State, s.tbLive = true ∧ s.jr.dirty = true ∧ s.tb.cyc % 64 = 63 :=
  ⟨{ running 127 with jr := { State.reset.jr with dirty := true } }, by decide +kernel⟩
theorem wit_CseqSlotEnd_2 : State.reset.jr.dirty = false := by decide
theorem wit_ClockEvents_7 : apllLocked (st []) (1 : Fin 3) = false ∧ 2 ≤ (st []).sys.step ∧ (st []).tb.running = true := by decide +kernel
/-- A state with the given UTC fields at 1 s. -/
def utcSt (f : Utc → Utc) : State := { st [(Reg.TNS_LEAP_CFG_ARM_WIN, 10)] with utc := f State.reset.utc }
theorem wit_LeapSecond_1 : ∃ s : State, s.utc.inLeapEnd = none ∧ s.utc.leap = some (1, true) ∧ s.atOrPast (1 * secU) = true ∧
    utcValid s = true := ⟨utcSt (fun u => { u with leap := some (1, true), valid := true }), by decide +kernel⟩
theorem wit_LeapSecond_2 : ∃ s : State, s.utc.inLeapEnd = none ∧ s.utc.leap = some (1, false) ∧ s.atOrPast (1 * secU) = true ∧
    utcValid s = true := ⟨utcSt (fun u => { u with leap := some (1, false), valid := true }), by decide +kernel⟩
theorem wit_LeapSecond_3 : ∃ s : State, s.utc.inLeapEnd = none ∧ s.utc.leap = some (1, true) ∧ s.atOrPast (1 * secU) = true ∧
    utcValid s = false := ⟨utcSt (fun u => { u with leap := some (1, true) }), by decide +kernel⟩
theorem wit_LeapSecond_4 : ∃ s : State, s.utc.announced = some (11, true, 2) ∧ s.tbLive = true ∧ s.utc.leap = none ∧
    11 ≤ tbSec s.tbU + s.get Reg.TNS_LEAP_CFG_ARM_WIN :=
  ⟨utcSt (fun u => { u with announced := some (11, true, 2) }), by decide +kernel⟩

theorem wit_TensePublishes_1 : (st []).atMs = true ∧ tenseMode (st []) = true ∧ bothTcReset (st []) = false ∧
    (st []).tns.doneAt ≠ some (st []).freeNs := by decide +kernel
theorem wit_TensePublishes_2 : ∃ s : State, s.atMs = true ∧ tenseMode s = true ∧ selRuns s = true ∧ tsState s = 2 ∧ current s 0 = some 1 ∧
    restored s (cands s 0) 1 ≠ [] ∧ s.tns.doneAt = some s.freeNs :=
  ⟨{ st [(Reg.TNS_STAT_STATE, 2), (Reg.SEL_STAT_SRC_V, 1), (Reg.SEL_STAT_SRC, 1), (Reg.SEL_CFG_REVERT, 1), (Reg.SEL_CFG_WTR, 1),
      (Reg.ENT_CFG_RANK 1, 2), (Reg.ENT_CFG_RANK 16, 1), (Reg.ENT_STAT_STATE 16, 3)] with
    sel := { State.reset.sel with refs := [(16, { RefSt.zero with qsince := some 0 })] }
    tns := { State.reset.tns with doneAt := some 1000000000 } }, by decide +kernel⟩
theorem wit_TensePublishes_3 : ∃ (s : State) (p : Pub), s.tns.pubs = p :: [] ∧ bothTcReset s = true ∧ p.freeAt + hG ≤ s.freeNs ∧
    s.tns.stale = false :=
  ⟨{ running 1000000000 with tns := { State.reset.tns with pubs := [⟨0, 0, 0, none⟩] } }, ⟨0, 0, 0, none⟩, by decide +kernel⟩
theorem wit_TensePublishes_4 : ∃ s : State, s.atSec = true ∧ bitOf s.sys.engReset 16 = true ∧ (∀ t, s.tns.rejoin = some t → t < s.freeNs) :=
  ⟨running 1000000000, by decide +kernel, by decide +kernel, nofun⟩
theorem wit_TensePublishes_5 : ∃ s : State, tenseMode s = true ∧ s.atSec = true ∧ bothTcReset s = false ∧ learnRuns (learnPoint s) = true :=
  ⟨st [(Reg.TNS_STAT_STATE, 2), (Reg.TNS_CFG_AUTO_LEARN, 1)], by decide +kernel⟩
theorem wit_TensePublishes_6 : ∃ s : State, learnMode s = true ∧ s.bit Reg.TNS_CFG_AUTO_LEARN = true ∧ learnOp s = none ∧ tsState s = 2 ∧
    3600 ≤ s.tns.learn.sinceFit ∧ s.get Reg.TNS_HO_WIN_HO_MIN * 60 ≤ s.tns.learn.means.length :=
  ⟨{ st [(Reg.TNS_STAT_STATE, 2), (Reg.TNS_CFG_AUTO_LEARN, 1), (Reg.TNS_HO_WIN_HO_MIN, 0)] with
    tns := { State.reset.tns with learn := { Learn.zero with sinceFit := 3600 } } }, by decide +kernel⟩
theorem wit_EfcAndTemperature_1 : ∃ s : State, tenseMode s = true ∧ bothTcReset s = false ∧ s.get Reg.TNS_CFG_EFC_MODE = 1 ∧ tsState s = 2 ∧
    s.tns.efcFrame = none ∧ s.get Reg.TNS_EFC_CTL_EFC_INT ≠ 0 ∧ s.get Reg.TNS_EFC_CTL_EFC_INT * 1000000000 ≤ s.tns.efcNs ∧ efcGain s ≠ 0 ∧
    unitF (s.get Reg.TNS_EFC_BAND_EFC_BAND) 15 < absQ (s.tns.efcSum * 1000000 / (s.tns.efcNs : Rat)) :=
  ⟨{ st [(Reg.TNS_STAT_STATE, 2), (Reg.TNS_CFG_EFC_MODE, 1), (Reg.TNS_EFC_CTL_EFC_INT, 1), (Reg.TNS_EFC_GAIN_GAIN, 1),
      (Reg.TNS_EFC_BAND_EFC_BAND, 1)] with tns := { State.reset.tns with efcNs := 1000000000, efcSum := 1000000 } }, by decide +kernel⟩
theorem wit_EfcAndTemperature_2 : ∃ s : State, s.tns.efcFrame = some (1, 0) ∧ 0 ≤ s.freeNs :=
  ⟨{ State.reset with tns := { State.reset.tns with efcFrame := some (1, 0) } }, by decide +kernel⟩
theorem wit_EfcAndTemperature_3 : ∃ s : State, tenseMode s = true ∧ s.bit Reg.TNS_CFG_TEMP_EN = true ∧ s.atSec = true :=
  ⟨st [(Reg.TNS_CFG_TEMP_EN, 1)], by decide +kernel⟩
theorem wit_EfcAndTemperature_4 : ∃ s : State, s.tns.tempAsk ≠ none ∧ s.tns.tempBad ≠ 2 :=
  ⟨{ State.reset with tns := { State.reset.tns with tempAsk := some (0x48, 0) } }, by decide +kernel⟩
theorem wit_EfcAndTemperature_5 : ∃ s : State, s.tns.tempAsk ≠ none ∧ s.tns.tempBad = 2 :=
  ⟨{ State.reset with tns := { State.reset.tns with tempAsk := some (0x48, 0), tempBad := 2 } }, by decide +kernel⟩

/-- A state with a jump outstanding on reference 3. -/
def jumping : State := { st [(Reg.TNS_STAT_STATE, 3)] with tns := { State.reset.tns with dj := some (3, 7) } }

theorem wit_TenseCommands_1 : Accepts tnsStepOp (st []) (dsc [(24, 5)]) ∧ (dsc [(24, 5)]).u8 16 = 0 ∧ (st []).tns.dj = none ∧
    tsState (st []) = 0 := ⟨accepts_of (by decide +kernel), by decide +kernel⟩
theorem wit_TenseCommands_2 : Accepts tnsStepOp jumping (dsc [(16, 1)]) ∧ (dsc [(16, 1)]).u8 16 = 1 ∧ jumping.tns.dj = some (3, 7) :=
  ⟨accepts_of (by decide +kernel), by decide +kernel⟩
theorem wit_TenseCommands_3 : Accepts tnsStepOp jumping (dsc [(16, 2)]) ∧ (dsc [(16, 2)]).u8 16 = 2 ∧ jumping.tns.dj = some (3, 7) :=
  ⟨accepts_of (by decide +kernel), by decide +kernel⟩
theorem wit_TenseCommands_4 : Accepts tnsStepOp jumping (dsc [(16, 3)]) ∧ (dsc [(16, 3)]).u8 16 = 3 ∧ jumping.tns.dj = some (3, 7) :=
  ⟨accepts_of (by decide +kernel), by decide +kernel⟩
theorem wit_TenseCommands_5 : Accepts hostTimeOp (st []) (dsc [(20, 1)]) := accepts_of (by decide +kernel)
theorem wit_TenseCommands_6 : Accepts tnsUtcOp (st []) (dsc [(20, 37)]) ∧ (dsc [(20, 37)]).u8 16 = 0 :=
  ⟨accepts_of (by decide +kernel), by decide +kernel⟩
/-- TNS_UTC that arms an inserted second at second 86,400 (T_L = 0x15180) under an offset of 0. -/
def leapD : Desc := dsc [(16, 1), (22, 1), (24, 0x80), (25, 0x51), (26, 1)]

theorem wit_TenseCommands_12 : ∃ s : State, Accepts tnsUtcOp s leapD ∧ leapD.u8 16 = 1 ∧ 86400 = leapD.u32 24 + leapD.u16 28 * 2 ^ 32 ∧
    utcValid s = true ∧ s.utc.leap = none ∧ isEndOfDay s 86400 (leapD.u8 22 = 0x01) = true ∧ s.tbU + 2 * secU ≤ 86400 * secU :=
  ⟨{ st [] with utc := { State.reset.utc with valid := true } }, accepts_of (by decide +kernel), by decide +kernel⟩
theorem wit_TenseCommands_7 : ∃ s : State, Accepts tnsUtcOp s (dsc [(16, 2)]) ∧ (dsc [(16, 2)]).u8 16 = 2 ∧ s.utc.leap ≠ none :=
  ⟨{ st [] with utc := { State.reset.utc with leap := some (9, true) } }, accepts_of (by decide +kernel), by decide +kernel⟩
theorem wit_TenseCommands_8 : Accepts tnsSetOp (st []) (dsc []) := accepts_of (by decide +kernel)
theorem wit_TenseCommands_9 : Accepts learnOpSpec (st []) (dsc [(16, 0x10), (17, 0x0E)]) ∧
    bitOf ((dsc [(16, 0x10), (17, 0x0E)]).u8 20) 0 = false := ⟨accepts_of (by decide +kernel), by decide +kernel⟩

/-- A long operation of an opcode, with a descriptor, neither suspended nor asked to stop. -/
def long (opcode port : Nat) (d : Desc) : LongOp := ⟨opcode, port, 0, d, 0, false, false, false, false⟩

/-- SERVICE with one long operation. -/
def st1 (l : List (Field × Nat)) (o : LongOp) : State := { st l with hif := { State.reset.hif with longs := [o] } }

theorem wit_TenseCommands_10 : ∃ (s : State) (l : LongOp), learnOp s = some l ∧ s.tns.learn.used = some 3600 ∧ l.suspended = false ∧
    l.d.u32 16 ≤ 3600 ∧ tsState s = 2 :=
  ⟨{ st1 [(Reg.TNS_STAT_STATE, 2)] (long 0x0244 0 (dsc [(16, 0x10), (17, 0x0E)])) with
    tns := { State.reset.tns with learn := { Learn.zero with used := some 3600 } } }, long 0x0244 0 (dsc [(16, 0x10), (17, 0x0E)]),
    by decide +kernel⟩
theorem wit_TenseCommands_11 : ∃ d, Accepts modelLoadOp (st []) d ∧ tsState (st []) = 0 ∧ learnOp (st []) = none :=
  ⟨dsc [(36, 1), (40, 1), (44, 1)], accepts_of (by decide +kernel), by decide +kernel⟩

/-- A channel measuring 1PPS windows of 1 s that begin at phase 0, calibrated and open. -/
def ppsCh : Ch := { Ch.zero with set := ⟨1, 0, 3, 1000, 1, 0, 0, false, 0, false, 0, false, false⟩, isOpen := true, calOk := true, c1 := 256, c2 := 700 }

theorem wit_Measurement_1 : ∃ s : State, measuring s = true ∧ (s.ch 2).isOpen = true ∧ inCalInterval s (s.ch 2).set = false ∧
    (s.ch 2).calOk = true ∧ (s.ch 2).numbered % (s.ch 2).set.div = 0 ∧ (s.ch 2).numbered / (s.ch 2).set.div < 32 ∧
    (s.ch 2).set.hasEpochs = true ∧ atEpoch s (s.ch 2).set = false ∧ (s.ch 2).lastStop = none ∧ (s.ch 2).set.pps = false :=
  ⟨(atC 1000000003 [(Reg.GEN_MODE_MODE, 2)]).setCh 2 ppsCh, by decide +kernel⟩
theorem wit_Measurement_2 : ∃ s : State, measuring s = true ∧ inCalInterval s (s.ch 2).set = true ∧
    calValid (256 : BitVec 12).toNat (640 : BitVec 12).toNat = true :=
  ⟨(atC 999999990 [(Reg.GEN_MODE_MODE, 2)]).setCh 2 ppsCh, by decide +kernel⟩
theorem wit_Measurement_3 : ∃ s : State, measuring s = true ∧ onGrid s (16 + 1) = true ∧ s.reached msU (500000 * 65536) = true ∧
    calValid (3000 : BitVec 12).toNat (3840 : BitVec 12).toNat = true :=
  ⟨(atC 1000500000 [(Reg.GEN_MODE_MODE, 2)]).setCh 17 { Ch.zero with set := { ppsCh.set with dir := true } }, by decide +kernel⟩
theorem wit_Measurement_4 : ∃ s : State, measuring s = true ∧ atEpoch s (s.ch 2).set = true ∧ (s.ch 2).isOpen = true ∧
    (s.ch 2).openAt ≠ s.freeNs ∧ (s.ch 2).changed = false := ⟨(st []).setCh 2 ppsCh, by decide +kernel⟩
theorem wit_Measurement_5 : ∃ s : State, measuring s = true ∧ (s.ch (16 + 7)).set.dir = false ∧ (s.ch (16 + 7)).set.type = 3 ∧
    (s.ch (16 + 7)).set.post = false ∧ inGridInterval s = false :=
  ⟨(st []).setCh 23 { Ch.zero with set := { ppsCh.set with type := 3 } }, by decide +kernel⟩
theorem wit_Measurement_7 : ∃ s : State, measuring s = true ∧ (s.ch (16 + 7)).set.dir = false ∧ (s.ch (16 + 7)).set.type = 3 ∧
    (s.ch (16 + 7)).set.post = true ∧ inGridInterval s = false ∧ (s.ch (16 + 7)).calOk = true ∧ (s.ch (16 + 7)).lastStop = none ∧
    (s.ch (16 + 7)).fifo = [] ∧ (s.ch (16 + 7)).ovf = false :=
  ⟨(st []).setCh 23 { Ch.zero with set := { ppsCh.set with type := 3, post := true }, calOk := true }, by decide +kernel⟩
theorem wit_Measurement_6 : (su []).mode = .setup := by decide +kernel
theorem wit_RefinSet : ∃ d, Accepts refinSetOp (st []) d ∧ isSrc (st []) (refOfCh (st []) (d.u8 16)) = false ∧ bitOf (d.u8 17) 0 = false ∧
    d.u8 16 < 16 := ⟨dsc [(16, 15)], accepts_of (by decide +kernel), by decide +kernel⟩
theorem wit_TodInput_1 : measuring (st [(Reg.TOD_CFG_EN, 1)]) = true ∧ (st [(Reg.TOD_CFG_EN, 1)]).bit Reg.TOD_CFG_EN = true := by
  decide +kernel
theorem wit_TodInput_2 : ∃ s : State, measuring s = true ∧ s.bit Reg.TOD_CFG_EN = true ∧ s.bit Reg.TOD_CFG_LABEL = false ∧
    s.refin.tod.pulse = some 10000000 ∧ 1000000 ≤ s.freeNs - 10000000 ∧ s.freeNs - 10000000 ≤ 990000000 ∧ s.refin.tod.paired = none ∧
    s.refin.tod.lastSec = none ∧ s.refin.tod.closed = false :=
  ⟨(st [(Reg.TOD_CFG_EN, 1)]).setTod (fun t => { t with pulse := some 10000000 }),
    by decide +kernel⟩
theorem wit_TodInput_3 : ∃ s : State, measuring s = true ∧ s.bit Reg.TOD_CFG_EN = true ∧ s.bit Reg.TOD_CFG_LABEL = false ∧
    s.refin.tod.pulse = some 10000000 ∧ s.refin.tod.missed = false ∧ 10000000 + 990000000 ≤ s.freeNs ∧ s.refin.tod.paired = none ∧
    s.refin.tod.closed = true ∧ s.refin.tod.ended = false :=
  ⟨(st [(Reg.TOD_CFG_EN, 1)]).setTod (fun t => { t with pulse := some 10000000, closed := true }),
    by decide +kernel⟩

/-- SERVICE with GNSS state. -/
def stG (l : List (Field × Nat)) (f : Gnss → Gnss) : State := { st l with gns := f State.reset.gns }

/-- A survey of 100 s, to be met at 10 cm. -/
def survey : Survey := ⟨60, 3600, 100, false, 61, 0, 0, 0, 10, 0, none, none⟩

theorem wit_GnssEvents_1 : gnssRuns (st []) = true ∧ bitOf (st []).sys.engReset 19 = false ∧
    (st []).gns.epoch ≠ some (latestEpoch (st [])).2.1 := by decide +kernel
theorem wit_GnssEvents_2 : ∃ s : State, s.gns.epoch = some (latestEpoch s).2.1 :=
  ⟨stG [] (fun g => { g with epoch := some 1000000000 }), by decide +kernel⟩
theorem wit_GnssEvents_3 : ∃ s : State, ((5 * s.get Reg.GNSS_JAM_CFG_JAM_THR : Nat) : Int) < 1000 ∧ gnssRuns s = true ∧
    bandOn s (1 : Fin 2) = true ∧ s.get Reg.GNSS_JAM_CFG_JAM_HOLD ≤ s.gns.jamRun.get (fun _ => 0) (1 : Fin 2) + 1 :=
  ⟨st [(Reg.GNSS_CFG_EN_L5, 1), (Reg.GNSS_JAM_CFG_JAM_THR, 30), (Reg.GNSS_JAM_CFG_JAM_HOLD, 1)], by decide +kernel⟩
theorem wit_GnssEvents_4 : ∃ s : State, gnssRuns s = true ∧ chkActive s (6 : Fin 7) = true ∧
    s.gns.seenAt.get (fun _ => 0) (6 : Fin 7) + s.get Reg.GNSS_CHK_ACT_CLR_HOLD * 1000000000 ≤ s.freeNs :=
  ⟨st [(Reg.GNSS_CHK_ACTIVE_ACTIVE, 64), (Reg.GNSS_CHK_ACT_CLR_HOLD, 1)], by decide +kernel⟩

/-- What SNAP_CAPTURED leaves of a capture of slot k without samples, before a slot is given up. -/
def captured (s : State) (k : Nat) : State :=
  let u := (((setSlot s k { s.slot k with
      bands := b2n (bandOn s 0) + 2 * b2n (bandOn s 1), l1 := if bandOn s 0 then [] else [], l5 := if bandOn s 1 then [] else [] }).putB
    (Reg.SNAP_STAT_FULL k) true).putB (Reg.SNAP_STAT_LIVE k) false).setGns
      (fun g => { g with run := none, live := none, frozen := g.frozen ++ [k] })
  pickLive (u.journal 0 0x0005 0x0502 (leBytes 1 k ++ leBytes 1 0 ++ leBytes 2 (u.get (Reg.SNAP_STAT_CAUSE k)) ++
    leBytes 8 (shortOf (s.slot k).first)))

theorem wit_GnssEvents_5 : ∃ s : State, s.gns.run = some (0, 5) ∧ 5 ≤ s.freeNs ∧ (captured s 0).gns.live.isSome = true :=
  ⟨stG [] (fun g => { g with run := some (0, 5) }), by decide +kernel⟩
theorem wit_GnssEvents_5_policy : ∃ s : State, s.gns.run = some (0, 5) ∧ 5 ≤ s.freeNs ∧ (captured s 0).gns.live = none ∧
    (captured s 0).bit Reg.GNSS_SNAP_CFG_POLICY = true ∧
    (captured s 0).gns.frozen.find? (fun j => j != 0 && !(captured s 0).bit (Reg.SNAP_STAT_LOCK j)) = some 1 :=
  ⟨stG [(Reg.GNSS_SNAP_CFG_POLICY, 1), (Reg.SNAP_STAT_FULL 1, 1), (Reg.SNAP_STAT_FULL 2, 1)]
    (fun g => { g with run := some (0, 5), frozen := [1, 2] }), by decide +kernel⟩
theorem wit_GnssEvents_6 : ∃ (s : State) (l : LongOp) (v : Survey), surveyOp s = some l ∧ s.gns.survey = some v ∧ l.suspended = false ∧
    0 < v.n ∧ v.minS * 1000000000 ≤ surveyNs s v ∧ v.sig ≤ v.target :=
  ⟨{ st1 [] (long 0x0221 0 desc) with gns := { State.reset.gns with survey := some { survey with minS := 0 } } },
    long 0x0221 0 desc, { survey with minS := 0 }, by decide +kernel⟩
theorem wit_GnssEvents_7 : ∃ (s : State) (l : LongOp) (v : Survey), surveyOp s = some l ∧ s.gns.survey = some v ∧ l.suspended = false ∧
    v.target < v.sig ∧ v.maxS * 1000000000 ≤ surveyNs s v ∧ v.adoptPartial = false :=
  ⟨{ st1 [] (long 0x0221 0 desc) with gns := { State.reset.gns with survey := some { survey with sig := 101, acc := 3600000000000 } } },
    long 0x0221 0 desc, { survey with sig := 101, acc := 3600000000000 }, by decide +kernel⟩
theorem wit_GnssEvents_8 : ∃ s : State, s.gns.survey = some { survey with susp := some 0 } ∧ 0 + 86400 * 1000000000 < s.freeNs :=
  ⟨{ atC 86400000000001 [] with gns := { State.reset.gns with survey := some { survey with susp := some 0 } } }, by decide +kernel⟩
theorem wit_GnssEvents_9 : ∃ s : State, gnssRuns s = true ∧ bandOn s (0 : Fin 2) = true ∧ (1 : Byte) ≠ 0 ∧
    s.bit (Reg.GNSS_BAND_STUCK 0) = true := ⟨st [(Reg.GNSS_CFG_EN_L1, 1), (Reg.GNSS_BAND_STUCK 0, 1)], by decide +kernel⟩
theorem wit_GnssEvents_10 : ∃ s : State, gnssRuns s = true ∧ bandOn s (1 : Fin 2) = true ∧ (255 : Byte) ≠ 0 ∧
    s.bit (Reg.GNSS_BAND_STUCK 1) = false := ⟨st [(Reg.GNSS_CFG_EN_L5, 1)], by decide +kernel⟩
theorem wit_GnssEvents_11 : ∃ s : State, s.bit (Reg.GNSS_BAND_STUCK 1) = true ∧ s.gns.stuckAt.get (fun _ => 0) 1 + 1000000000 ≤ s.freeNs :=
  ⟨st [(Reg.GNSS_BAND_STUCK 1, 1)], by decide +kernel⟩

/-- A ms in which VL has power alone. -/
def slipping : Corr := { corr with vl := (5, 0) }

theorem wit_GnssEvents_12 : ∃ s : State, (List.replicate 20 slipping).reverse = slipping :: List.replicate 19 slipping ∧
    19 ≤ (List.replicate 19 slipping).length ∧ (slipping :: (List.replicate 19 slipping).take 19).all sidePeak = true ∧
    gnssRuns s = true ∧ isBoc s (127 : Fin 128) = true ∧ tracking s (127 : Fin 128) = true :=
  ⟨st [(Reg.CHN_STAT_SIG 127, 2), (Reg.CHN_STAT_STATE 127, 3)], by decide +kernel⟩
theorem wit_GnssEvents_13 : ∃ s : State, gnssRuns s = true ∧ (assignChans s [] []).get (Reg.CHN_STAT_STATE (127 : Fin 128)) ≠ 0 ∧
    (4 : Fin 5) ≠ 0 := ⟨st [(Reg.CHN_STAT_STATE 127, 1)], by decide +kernel⟩
theorem wit_GnssCommands_1 : ∃ d, Accepts surveyInOp (st []) d := ⟨dsc [(16, 60), (20, 60), (24, 1)], accepts_of (by decide +kernel)⟩
theorem wit_GnssCommands_2 : ∃ d, Accepts posSetOp (st []) d := ⟨dsc [(28, 1)], accepts_of (by decide +kernel)⟩
theorem wit_GnssCommands_3 : ∃ s d, Accepts snapshotOp s d ∧ s.gns.run = none ∧ s.gns.live = some (2, 0) :=
  ⟨stG [] (fun g => { g with live := some (2, 0) }), dsc [(16, 15)], accepts_of (by decide +kernel), by decide +kernel⟩
theorem wit_GnssCommands_4 : ∃ s d, Accepts snapExportOp s d :=
  ⟨st [(Reg.SNAP_STAT_FULL 2, 1)], dsc [(16, 2), (34, 0x14), (33, 0x00), (32, 0x40)], accepts_of (by decide +kernel)⟩
theorem wit_GnssCommands_5 : ∃ (s : State) (o : OpenOp), exportsOf s (2 : Fin 3) = [o] ∧ s.dmaOk = true ∧ bitOf (o.d.u8 17) 0 = false :=
  ⟨{ st [(Reg.HIF_STAT_LINK_UP, 1), (Reg.HIF_STAT_BME, 1)] with hif := { State.reset.hif with opens := [⟨0, 0x0224, desc, 0, 2⟩] } },
    ⟨0, 0x0224, desc, 0, 2⟩, by decide +kernel⟩
theorem wit_GnssCommands_8 : ∃ s : State, exportsOf s (0 : Fin 3) ≠ [] ∧ s.dmaOk = true ∧
    (exportsOf s (0 : Fin 3)).any (fun o => bitOf (o.d.u8 17) 0) = true :=
  ⟨{ st [(Reg.HIF_STAT_LINK_UP, 1), (Reg.HIF_STAT_BME, 1)] with hif := { State.reset.hif with
      opens := [⟨0, 0x0224, desc, 0, 0⟩, ⟨1, 0x0224, dsc [(17, 1)], 0, 0⟩] } }, by decide +kernel⟩
theorem wit_GnssCommands_6 : ∃ s d, Accepts snapReleaseOp s d :=
  ⟨st [(Reg.SNAP_STAT_FULL 2, 1)], dsc [(16, 2)], accepts_of (by decide +kernel)⟩
theorem wit_GnssCommands_7 : ∃ d, Accepts gnssSetOp (st []) d ∧ isSrc (st []) 16 = false ∧ isSrc (st []) 17 = false ∧ isSrc (st []) 18 = false ∧
    bitOf (d.u8 16) 0 = false := ⟨dsc [], accepts_of (by decide +kernel), by decide +kernel⟩

/-- SERVICE with one reference's state. -/
def stR (l : List (Field × Nat)) (i : Nat) (r : RefSt) : State := { st l with sel := { State.reset.sel with refs := [(i, r)] } }

theorem wit_ReferenceEvents_1 : ∃ s : State, tenseMode s = true ∧ s.atMs = true ∧ selRuns s = true ∧ refState s (16 : Fin 32) = 2 ∧
    holdDue s (16 : Fin 32) = true :=
  ⟨stR [(Reg.ENT_STAT_STATE 16, 2), (Reg.ENT_CFG_QUAL_HOLD 16, 1)] 16 { RefSt.zero with holdEnd := some 0 }, by decide +kernel⟩
theorem wit_ReferenceEvents_2 : ∃ s : State, tenseMode s = true ∧ s.atMs = true ∧ selRuns s = true ∧ isQual s (16 : Fin 32) = true ∧
    dqDue s (16 : Fin 32) = some 5 :=
  ⟨stR [(Reg.ENT_STAT_STATE 16, 3), (Reg.ENT_CFG_DQ_HOLD 16, 10)] 16 { RefSt.zero with
    mons := [(5, { MonSt.zero with bad := true, wasBad := true, taken := 1, due := some 0 })] }, by decide +kernel⟩
theorem wit_ReferenceEvents_3 : ∃ s : State, tenseMode s = true ∧ s.atMs = true ∧ selRuns s = true ∧ losDue s (18 : Fin 32) = true :=
  ⟨st [], by decide +kernel⟩
theorem wit_ReferenceEvents_3b : losDue (st []) (30 : Fin 32) = true ∧ losDue (st []) (16 : Fin 32) = true := by decide +kernel
theorem wit_ReferenceEvents_4 : losDue (st []) (20 : Fin 32) = true ∧ losDue (st []) (27 : Fin 32) = true := by decide +kernel
theorem wit_ReferenceEvents_5 : tenseMode (st []) = true ∧ (st []).atSec = true ∧ selRuns (st []) = true := by decide +kernel
theorem wit_ReferenceEvents_6 : ∃ s : State, tenseMode s = true ∧ readsEsmc s (7 : Fin 8) = true ∧ link s (7 : Fin 8) = 3 :=
  ⟨st [(Reg.ENT_NET_NETMODE 27, 1), (Reg.MAC_STAT_LINK 7, 3)], by decide +kernel⟩
theorem wit_ReferenceEvents_7 : ∃ (s : State) (e : Nat × Nat), tenseMode s = true ∧ s.sel.esmc.find? (fun e => e.1 = (7 : Fin 8).val) = some e ∧
    e.2 + 5000000000 ≤ s.freeNs + 1 ∧ 0 < e.2 :=
  ⟨{ atC 5000000000 [(Reg.GEN_MODE_MODE, 2)] with sel := { State.reset.sel with esmc := [(7, 1)] } }, (7, 1), by decide +kernel⟩

/-- Port 7's client running under binding 0, a default PTP binding, with the port UP. -/
def clientRegs : List (Field × Nat) := [(Reg.ENT_CFG_EN 27, 1), (Reg.ENT_NET_NETMODE 27, 0), (Reg.PCL_CFG_EN 7, 1), (Reg.PCL_CFG_PROFILE 7, 0),
  (Reg.MAC_STAT_LINK 7, 3), (Reg.PB_CFG_EN 0, 1), (Reg.PB_CFG_TYPE 0, 0), (Reg.PB_CFG_DOMAIN 0, 0), (Reg.PB_CFG_TRANSPORT 0, 0),
  (Reg.PB_CFG_SEC 0, 0), (Reg.PCL_CFG_CHOICE 7, 0)]

/-- An Announce message with every field zero. -/
def ann : Ann := ⟨0, 0, 128, 6, 0x20, 0, 128, 128, 0, 0, 0x20, true, true, 37, true, false, false⟩

theorem wit_ReferenceEvents_8 : ∃ (s : State) (m : PtpIn), clientRuns s (7 : Fin 8) = true ∧ link s (7 : Fin 8) = 3 ∧
    ptpViolation s (clientBinding s (7 : Fin 8)) 0 m = none ∧ mayMaster s (7 : Fin 8) 0 m.sender = true ∧ m.type ∈ [0, 8, 9] ∧ m.auth = none ∧
    (s.client (7 : Fin 8)).master = some m.sender :=
  ⟨{ st clientRegs with sel := { State.reset.sel with clients := [(7, { Client.zero with master := some 0 })] } }, { ptp with type := 9 },
    by decide +kernel⟩
theorem wit_ReferenceEvents_9 : ∃ (s : State) (m : PtpIn), clientRuns s (7 : Fin 8) = true ∧ link s (7 : Fin 8) = 3 ∧
    ptpViolation s (clientBinding s (7 : Fin 8)) 0 m = none ∧ mayMaster s (7 : Fin 8) 0 m.sender = true ∧ m.type = 0xB ∧ m.ann = some ann ∧
    m.auth = none := ⟨st clientRegs, { ptp with type := 0xB, ann := some ann }, by decide +kernel⟩
theorem wit_ReferenceEvents_10 : ∃ s : State, clientRuns s (7 : Fin 8) = true ∧ s.bit (Reg.PB_CFG_EN (clientBinding s (7 : Fin 8))) = true ∧
    s.get (Reg.PB_CFG_TYPE (clientBinding s (7 : Fin 8))) = 3 ∧ link s (7 : Fin 8) = 3 ∧ ownSeal s (clientBinding s (7 : Fin 8)) = some false ∧
    enginesOf s 4 = 15 :: [] ∧ (s.client (7 : Fin 8)).masters.find? (fun a => some a.1.ident = (s.client (7 : Fin 8)).master) = some (ann, 3) ∧
    isGroup (targetOf s (7 : Fin 8)) = false ∧
    (∀ g ∈ grantAsks s (7 : Fin 8), (s.client (7 : Fin 8)).grants.get (fun _ => 0) g.type ≤ s.freeNs + 60000000000) :=
  ⟨{ st ((Reg.PB_CFG_TYPE 0, 3) :: (Reg.CLA_ENG_MAP_ROLE 0, 0) :: (Reg.CLA_ENG_MAP_ROLE 1, 0x40000000) :: clientRegs) with
    sel := { State.reset.sel with clients := [(7, { Client.zero with master := some 0, masters := [(ann, 3)] })] } }, by decide +kernel⟩
theorem wit_SelectionCommands_1 : ∃ d, Accepts selSetOp (st []) d ∧ isNamed (taken (st []) d) (d.u8 16) = false :=
  ⟨dsc [(16, 31)], accepts_of (by decide +kernel), by decide +kernel⟩
theorem wit_SelectionCommands_2 : ∃ d, Accepts selForceOp (st []) d ∧ d.u8 16 = 0 ∧ d.u8 18 = 0 :=
  ⟨dsc [], accepts_of (by decide +kernel), by decide +kernel⟩
theorem wit_SelectionCommands_3 : ∃ s d, Accepts selForceOp s d ∧ d.u8 16 = 1 ∧ isCand (taken s d) (d.u8 18) (d.u8 17) = true ∧
    withinJump (taken s d) (d.u8 17) = true :=
  ⟨st [(Reg.ENT_CFG_RANK 16, 1), (Reg.ENT_STAT_STATE 16, 3)], dsc [(16, 1), (17, 16)], accepts_of (by decide +kernel), by decide +kernel⟩
theorem wit_SelectionCommands_3b : ∃ s d, Accepts selForceOp s d ∧ d.u8 16 = 1 ∧ isCand (taken s d) (d.u8 18) (d.u8 17) = true ∧ d.u8 18 = 1 :=
  ⟨st [(Reg.ENT_CFG_RANK 27, 1), (Reg.ENT_STAT_STATE 27, 3), (Reg.ENT_NET_NETMODE 27, 1)], dsc [(16, 1), (17, 27), (18, 1)],
    accepts_of (by decide +kernel), by decide +kernel⟩
theorem wit_SelectionCommands_4 : ∃ d e, Accepts selForceOp (st []) d ∧ d.u8 16 = 2 ∧ Accepts selForceOp (st []) e ∧ e.u8 16 = 3 :=
  ⟨dsc [(16, 2)], dsc [(16, 3), (17, 30)], accepts_of (by decide +kernel), by decide +kernel, accepts_of (by decide +kernel), by decide +kernel⟩

theorem wit_Synthesis_1 : (st []).mode ≠ .boot ∧ (st []).mode ≠ .test ∧ (st []).tbLive = true := by decide +kernel
theorem wit_Synthesis_2 : ∃ s : State, s.tbLive = true ∧ esmcOn s (7 : Fin 8) = true ∧ s.syn.esmcAt.get (fun _ => 0) (7 : Fin 8) = 0 :=
  ⟨st [(Reg.SYN_SYNCE_CFG_ESMC_EN, 128)], by decide +kernel⟩

/-- SERVICE with one output's state. -/
def stO (l : List (Field × Nat)) (n : Nat) (o : OutSt) : State := { st l with syn := { State.reset.syn with outs := [(n, o)] } }

theorem wit_Synthesis_3 : ∃ s : State, (s.out (11 : Fin 12)).startAt = some 5 ∧ outState s (11 : Fin 12) = 1 ∧ 5 ≤ s.freeNs ∧
    outClocked s (11 : Fin 12) = true ∧ startEdge s (11 : Fin 12) = true ∧ (s.out (11 : Fin 12)).starts = [] :=
  ⟨stO [(Reg.OUT_STAT_STATE 11, 1), (Reg.OUT_CFG_SRC 11, 1), (Reg.SYN_APLL_STAT_LOCK, 7)] 11 { OutSt.zero with startAt := some 5 },
    by decide +kernel⟩
theorem wit_Synthesis_3b : ∃ s : State, (s.out (0 : Fin 12)).startAt = some 5 ∧ outState s (0 : Fin 12) = 1 ∧ 5 ≤ s.freeNs ∧
    outSrc s (0 : Fin 12) = 5 ∧ startEdge s (0 : Fin 12) = true ∧ (s.out (0 : Fin 12)).starts = [] :=
  ⟨stO [(Reg.OUT_STAT_STATE 0, 1), (Reg.OUT_CFG_SRC 0, 5)] 0 { OutSt.zero with startAt := some 5 }, by decide +kernel⟩
theorem wit_Synthesis_4 : ∃ s : State, outState s (11 : Fin 12) = 4 ∧ outSrc s (11 : Fin 12) ≠ 5 ∧ (s.out (11 : Fin 12)).reload = [] ∧
    (s.out (11 : Fin 12)).again = false := ⟨st [(Reg.OUT_STAT_STATE 11, 4), (Reg.OUT_CFG_SRC 11, 0)], by decide +kernel⟩

/-- Output 11 after its falling edge, with nothing that waited for it. -/
def edged (s : State) : State :=
  setOutState ((s.setOut 11 { s.out 11 with
    stops := [], reload := [], squelch := false, halted := false, slewTo := none, prev := none, edge0 := none }).putB (Reg.OUT_STAT_ALIGNED 11) false) 11 0 (s.out 11).cause (s.out 11).tag

theorem wit_Synthesis_4b : ∃ s : State, outState s (11 : Fin 12) = 4 ∧ outSrc s (11 : Fin 12) ≠ 5 ∧ (s.out (11 : Fin 12)).reload = [] ∧
    (s.out (11 : Fin 12)).stops = [] ∧ (s.out (11 : Fin 12)).squelch = false ∧ (s.out (11 : Fin 12)).again = true ∧
    outCfgErr (edged s) (11 : Fin 12) = false :=
  ⟨stO [(Reg.OUT_STAT_STATE 11, 4), (Reg.OUT_CFG_SRC 11, 0), (Reg.OUT_FN_FN 11, 1), (Reg.OUT_FD_FD 11, 1)] 11
    { OutSt.zero with again := true }, by decide +kernel⟩
theorem wit_Synthesis_5 : ∃ s : State, outState s (11 : Fin 12) = 3 ∧ (s.out (11 : Fin 12)).slewTo = some 5 ∧ 5 ≤ s.freeNs :=
  ⟨stO [(Reg.OUT_STAT_STATE 11, 3)] 11 { OutSt.zero with slewTo := some 5 }, by decide +kernel⟩
theorem wit_Synthesis_6 : (su []).mode = .setup := by decide +kernel

/-- Output 11 with SRC its generator, in a state. -/
def outRegs (x : Nat) : List (Field × Nat) := [(Reg.OUT_STAT_STATE 11, x), (Reg.OUT_CFG_SRC 11, 5)]
/-- Output 11 with SRC TS at 1 Hz, in a state. -/
def outRegs0 (x : Nat) : List (Field × Nat) :=
  [(Reg.OUT_STAT_STATE 11, x), (Reg.OUT_CFG_SRC 11, 0), (Reg.OUT_FN_FN 11, 1), (Reg.OUT_FD_FD 11, 1)]

theorem wit_OutCtl_1 : ∃ s d, Accepts outCtlOp s d ∧ d.u8 17 = 0 ∧ outCfgErr (taken s d) (d.u8 16) = false ∧
    outState (taken s d) (d.u8 16) = 2 := ⟨st (outRegs 2), dsc [(16, 11)], accepts_of (by decide +kernel), by decide +kernel⟩
theorem wit_OutCtl_2 : ∃ s d, Accepts outCtlOp s d ∧ d.u8 17 = 1 ∧ outState (taken s d) (d.u8 16) = 0 :=
  ⟨st (outRegs 0), dsc [(16, 11), (17, 1)], accepts_of (by decide +kernel), by decide +kernel⟩
theorem wit_OutCtl_3 : ∃ s d, Accepts outCtlOp s d ∧ d.u8 17 = 1 ∧ outState (taken s d) (d.u8 16) = 2 :=
  ⟨st (outRegs 2), dsc [(16, 11), (17, 1)], accepts_of (by decide +kernel), by decide +kernel⟩
theorem wit_OutCtl_4 : ∃ s d, Accepts outCtlOp s d ∧ d.u8 17 = 2 ∧ d.u8 18 = 1 ∧ outBusy (taken s d) (d.u8 16) = false ∧
    outSrc (taken s d) (d.u8 16) ≠ 5 ∧ outState (taken s d) (d.u8 16) = 2 :=
  ⟨st (outRegs0 2), dsc [(16, 11), (17, 2), (18, 1)], accepts_of (by decide +kernel), by decide +kernel⟩
theorem wit_OutCtl_5 : ∃ s d, Accepts outCtlOp s d ∧ d.u8 17 = 3 ∧ outBusy (taken s d) (d.u8 16) = false ∧
    outSrc (taken s d) (d.u8 16) ≠ 5 ∧ outCfgErr (storeFreq (taken s d) (d.u8 16) (d.u32 20) (d.u16 24)) (d.u8 16) = false ∧
    outState (taken s d) (d.u8 16) = 0 :=
  ⟨st (outRegs0 0), dsc [(16, 11), (17, 3), (20, 1), (24, 1)], accepts_of (by decide +kernel), by decide +kernel⟩

/-- The raw image of an entry: target, control byte, action, period in 2⁻⁹ ns, width in ns, count. -/
def raw (target ctrl action period width count : Nat) : List Byte :=
  leBytes 10 0 ++ leBytes 1 target ++ leBytes 1 ctrl ++ leBytes 4 action ++ leBytes 8 period ++ leBytes 4 width ++ leBytes 4 count

/-- A periodic entry of 1 ms pulses of 1 µs on generator 23, enabled, whose next occurrence is due at a time. -/
def entry (first : Nat) : PlsEntry := ⟨raw 23 0x03 0 512000000 1000 0, true, first, none, 0, none, false⟩

/-- SERVICE with schedule running and the given entries and generators. -/
def stP (l : List (Field × Nat)) (f : Pls → Pls) : State := (st ((Reg.PLS_CFG_SCHED_EN, 1) :: l)).setPls f

theorem wit_PulseEvents_1 : ∃ s : State, s.tbLive = true ∧ (s.entry (2047 : Fin 2048)).more = true ∧ (s.entry (2047 : Fin 2048)).count = 0 ∧
    schedHeld s = false ∧ ∃ u, u = s.setEntry (2047 : Fin 2048) { s.entry (2047 : Fin 2048) with lastIdx := some (s.entry (2047 : Fin 2048)).nextIdx } ∧
      clkNow u (s.entry (2047 : Fin 2048)) + leadU ≤ (s.entry (2047 : Fin 2048)).occ (s.entry (2047 : Fin 2048)).nextIdx :=
  ⟨stP [] (fun p => { p with entries := [(2047, entry (2 * secU))] }), by decide +kernel, by decide +kernel, by decide +kernel,
    by decide +kernel, _, rfl, by decide +kernel⟩
theorem wit_PulseEvents_1b : ∃ s : State, s.tbLive = true ∧ (s.entry (1 : Fin 2048)).more = true ∧ (s.entry (1 : Fin 2048)).count = 0 ∧
    schedHeld s = false ∧ ∃ u, u = s.setEntry (1 : Fin 2048) { s.entry (1 : Fin 2048) with lastIdx := some (s.entry (1 : Fin 2048)).nextIdx } ∧
      (s.entry (1 : Fin 2048)).occ (s.entry (1 : Fin 2048)).nextIdx < clkNow u (s.entry (1 : Fin 2048)) + leadU ∧
      overloaded u (toTb u (s.entry (1 : Fin 2048)).target (s.entry (1 : Fin 2048)).clk
        ((s.entry (1 : Fin 2048)).occ (s.entry (1 : Fin 2048)).nextIdx)) = true :=
  ⟨stP [] (fun p => { p with entries := (List.range 65).map (fun i => (i, { entry secU with raw := raw 23 0x03 0 0 1000 0 })) }),
    by decide +kernel, by decide +kernel, by decide +kernel, by decide +kernel, _, rfl, by decide +kernel⟩
theorem wit_PulseEvents_2 : ∃ s : State, s.tbLive = true ∧ (s.entry (2047 : Fin 2048)).more = true ∧ (s.entry (2047 : Fin 2048)).count = 0 ∧
    schedHeld s = true :=
  ⟨{ st [(Reg.PLS_CFG_SCHED_EN, 0)] with pls := { State.reset.pls with entries := [(2047, entry (2 * secU))] } }, by decide +kernel⟩
theorem wit_PulseEvents_3 : ∃ (s : State) (c : Comm), s.pls.comms.find? (fun c => c.entry = (2047 : Fin 2048).val && commDue s c) = some c ∧
    s.pls.comms.filter (fun d => (s.entry d.entry).target = (s.entry (2047 : Fin 2048)).target && commDue s d && keyLt (commKey s d) (commKey s c)) = [] ∧
    ∃ u, u = s.setPls (fun p => { p with comms := p.comms.filter (fun x => !(x.entry = c.entry && x.idx = c.idx)) }) ∧
      schedHeld u = false ∧ genMode u (u.entry (2047 : Fin 2048)).target = 1 ∧ (u.entry (2047 : Fin 2048)).periodic = true ∧
      (u.entry (2047 : Fin 2048)).count = 0 ∧ (u.entry (2047 : Fin 2048)).firedIdx = none :=
  ⟨stP [(Reg.GEN_CFG_MODE 23, 1)] (fun p => { p with entries := [(2047, entry secU)], comms := [⟨2047, 0, secU⟩] }), ⟨2047, 0, secU⟩,
    by decide +kernel, by decide +kernel, _, rfl, by decide +kernel⟩
theorem wit_PulseEvents_3b : ∃ (s : State) (c : Comm), s.pls.comms.find? (fun c => c.entry = (0 : Fin 2048).val && commDue s c) = some c ∧
    s.pls.comms.filter (fun d => (s.entry d.entry).target = (s.entry (0 : Fin 2048)).target && commDue s d && keyLt (commKey s d) (commKey s c)) = [] ∧
    ∃ u, u = s.setPls (fun p => { p with comms := p.comms.filter (fun x => !(x.entry = c.entry && x.idx = c.idx)) }) ∧
      schedHeld u = false ∧ genMode u (u.entry (0 : Fin 2048)).target ≠ 1 :=
  ⟨stP [(Reg.GEN_CFG_MODE 23, 0)] (fun p => { p with entries := [(0, entry secU)], comms := [⟨0, 0, secU⟩] }), ⟨0, 0, secU⟩,
    by decide +kernel, by decide +kernel, _, rfl, by decide +kernel⟩
theorem wit_PulseEvents_4 : ∃ s : State, (s.gen (23 : Fin 24)).ends = some (true, 5) ∧ 5 ≤ (if true then s.tbU else ptNow s (23 : Fin 24)) ∧
    turnsBack s (23 : Fin 24) (toTb s (23 : Fin 24) true 5) false = false :=
  ⟨stP [] (fun p => { p with gens := [(23, { Gen.zero with ends := some (true, 5) })] }), by decide +kernel⟩
theorem wit_PulseEvents_5 : ∃ s : State, (plsRuns s = true ∧ isTarget (23 : Fin 24) = true ∧ genMode s (23 : Fin 24) = 2 ∧
    ptNow s (23 : Fin 24) % secU < 65536 ∧ (s.gen (23 : Fin 24)).nextMark = none ∧
    (s.gen (23 : Fin 24)).frame ≠ some (ptNow s (23 : Fin 24) - ptNow s (23 : Fin 24) % secU) ∧ (s.gen (23 : Fin 24)).align = none) ∧
    ∃ m f u, m = ptNow s (23 : Fin 24) - ptNow s (23 : Fin 24) % secU ∧
      f = irigFrame s (23 : Fin 24) (tbSec m) (edgeGloss s (23 : Fin 24) (toTb s (23 : Fin 24) false m) (heldPs s (23 : Fin 24))) ∧
      u = showGen (lastFrameEdge ((s.setPls (fun p => { p with frames := p.frames.set (fun _ => []) (23 : Fin 24) f })).setGen (23 : Fin 24)
        { s.gen (23 : Fin 24) with frame := some m, nextMark := none }) (23 : Fin 24)) (23 : Fin 24) ∧ genDriven u (23 : Fin 24) = false :=
  ⟨stP [(Reg.GEN_CFG_MODE 23, 2)] id, by decide +kernel, _, _, _, rfl, rfl, rfl, by decide +kernel⟩

/-- A ToD message with every field zero. -/
def tod : TodMsg := ⟨0, 0, false, false, false, 0⟩

theorem wit_PulseEvents_6 : ∃ s : State, s.pls.pulse = some (0, tod) ∧ plsRuns s = true ∧
    0 + s.get Reg.PLS_TOD_CFG_TX_OFS * 1000000 ≤ s.freeNs :=
  ⟨stP [(Reg.PLS_TOD_CFG_TX_OFS, 255)] (fun p => { p with pulse := some (0, tod) }), by decide +kernel⟩
theorem wit_PulseEvents_7 : ∃ (s : State) (a : Align), (s.gen (23 : Fin 24)).align = some a ∧ a.slew = false ∧ isQuiet s (23 : Fin 24) = true ∧
    genMode (endAlign s (23 : Fin 24) a (heldNow s (23 : Fin 24))) (23 : Fin 24) ≠ 2 :=
  ⟨stP [(Reg.GEN_CFG_MODE 23, 1)] (fun p => { p with gens := [(23, { Gen.zero with align := some ⟨false, 7, 0, 0, 0⟩ })] }), ⟨false, 7, 0, 0, 0⟩,
    by decide +kernel⟩
theorem wit_PulseEvents_8 : ∃ (s : State) (a : Align), (s.gen (23 : Fin 24)).align = some a ∧ a.slew = true ∧ heldNow s (23 : Fin 24) = 0 :=
  ⟨stP [(Reg.PLS_SLEW_ALIGN_SLEW, 1000)] (fun p => { p with gens := [(23, { Gen.zero with align := some ⟨true, 7, 0, 0, 0⟩ })] }), ⟨true, 7, 0, 0, 0⟩,
    by decide +kernel⟩
theorem wit_PulseEvents_9 : ∃ (s : State) (a : Align), (s.gen (23 : Fin 24)).align = some a ∧ a.slew = false ∧ a.since + 1000000000 ≤ s.freeNs :=
  ⟨stP [] (fun p => { p with gens := [(23, { Gen.zero with align := some ⟨false, 7, 0, 0, 0⟩ })] }), ⟨false, 7, 0, 0, 0⟩, by decide +kernel⟩

/-- A one-shot entry on the TB clock at 4 s, on generator 0. -/
def schedOp : Desc := { desc with op := leBytes 4 2047 ++ (leBytes 4 0 ++ leBytes 4 4 ++ leBytes 2 0 ++ leBytes 1 0 ++ leBytes 1 0x21 ++
  leBytes 12 0 ++ leBytes 4 2 ++ leBytes 4 0) ++ List.replicate 12 0 }

theorem wit_PulseCommands_1 : ∃ d, Accepts plsSchedOp (st []) d ∧ d.u8 18 = 0 ∧ lateEntry (taken (st []) d) (entryOf (taken (st []) d) (schedImage d)) = false :=
  ⟨schedOp, accepts_of (by decide +kernel), by decide +kernel⟩
theorem wit_PulseCommands_2 : ∃ d e, Accepts plsSchedOp (st []) d ∧ d.u8 18 = 2 ∧ Accepts plsSchedOp (st []) e ∧ e.u8 18 = 3 :=
  ⟨dsc [(18, 2)], dsc [(18, 3)], accepts_of (by decide +kernel), by decide +kernel, accepts_of (by decide +kernel), by decide +kernel⟩
theorem wit_PulseCommands_3 : ∃ d, Accepts plsSetOp (st []) d ∧ d.u8 16 ≠ 255 ∧ bitOf (d.u16 18) 0 = false ∧
    genCfgErr (plsStore (rebaseSlews (taken (st []) d)) d) (d.u8 16) = false ∧ todCfgErr (plsStore (rebaseSlews (taken (st []) d)) d) = false :=
  ⟨dsc [(16, 23)], accepts_of (by decide +kernel), by decide +kernel⟩
theorem wit_PulseCommands_4 : ∃ d, Accepts plsAlignOp (st []) d ∧ d.u8 16 ≠ 255 := ⟨dsc [(16, 23), (17, 1)], accepts_of (by decide +kernel), by decide +kernel⟩
theorem wit_PulseCommands_5 : ∃ s : State, s.mode = .setup ∧ ∃ u, u = s.put Reg.PLS_SCH_ADDR_INDEX (2047 : Fin 2048) ∧
    imageValid (entryOf u (schData u)) = true :=
  ⟨su [(Reg.PLS_SCH_DATA_DATA 2, 0x21000000), (Reg.PLS_SCH_DATA_DATA 6, 2)], by decide +kernel, _, rfl, by decide +kernel⟩
theorem wit_PulseCommands_5b : ∃ s : State, s.mode = .setup ∧ ∃ u, u = s.put Reg.PLS_SCH_ADDR_INDEX (2047 : Fin 2048) ∧
    imageValid (entryOf u (schData u)) = false := ⟨su [], by decide +kernel, _, rfl, by decide +kernel⟩

/-- SERVICE with the ports' and lanes' own state. -/
def stL (l : List (Field × Nat)) (f : Lan → Lan) : State := { st l with lan := f State.reset.lan }

theorem wit_PortEvents_1 : ∃ s : State, link s (7 : Fin 8) = 1 ∧ (s.port (7 : Fin 8)).retryAt = none ∧ s.mapBit Reg.SYN_APLL_STAT_LOCK 1 = true :=
  ⟨st [(Reg.MAC_STAT_LINK 7, 1), (Reg.SYN_APLL_STAT_LOCK, 2)], by decide +kernel⟩
theorem wit_PortEvents_2 : ∃ s : State, portOfLane s (15 : Fin 16) = some 6 ∧ link s 6 = 2 ∧ s.bit (Reg.LN_CFG_RX_POL_AUTO (15 : Fin 16)) = true ∧
    (s.lane (15 : Fin 16)).tried < 2 :=
  ⟨st [(Reg.MAC_MODE_MODE 6, 3), (Reg.MAC_STAT_LINK 6, 2), (Reg.LN_CFG_RX_POL_AUTO 15, 1)], by decide +kernel⟩
theorem wit_PortEvents_3 : ∃ s : State, link s (6 : Fin 8) = 2 ∧ s.bit (Reg.MAC_STAT_LF (6 : Fin 8)) = false ∧ s.get (Reg.MAC_MODE_MODE (6 : Fin 8)) = 3 ∧
    isPermutation (27 : Byte).toNat = true :=
  ⟨st [(Reg.MAC_MODE_MODE 6, 3), (Reg.MAC_STAT_LINK 6, 2)], by decide +kernel⟩
theorem wit_PortEvents_4 : ∃ s t : State, link s (7 : Fin 8) = 2 ∧ s.bit (Reg.MAC_STAT_LF (7 : Fin 8)) = false ∧ s.get (Reg.MAC_MODE_MODE (7 : Fin 8)) ≠ 3 ∧
    (s.get (Reg.MAC_MODE_MODE (7 : Fin 8)) = 0 → s.bit (Reg.MAC_MODE_AN_EN (7 : Fin 8)) = true → false = true) ∧
    link t (7 : Fin 8) = 2 ∧ t.bit (Reg.MAC_STAT_LF (7 : Fin 8)) = false ∧ t.get (Reg.MAC_MODE_MODE (7 : Fin 8)) = 0 ∧
    t.bit (Reg.MAC_MODE_AN_EN (7 : Fin 8)) = true :=
  ⟨st [(Reg.MAC_MODE_MODE 7, 2), (Reg.MAC_STAT_LINK 7, 2)], st [(Reg.MAC_MODE_MODE 7, 0), (Reg.MAC_MODE_AN_EN 7, 1), (Reg.MAC_STAT_LINK 7, 2)], by decide +kernel⟩
theorem wit_PortEvents_5 : link (st [(Reg.MAC_STAT_LINK 7, 2)]) (7 : Fin 8) = 2 := by decide +kernel
theorem wit_PortEvents_6 : ∃ s : State, (s.port (6 : Fin 8)).retryAt = some 5 ∧ 5 ≤ s.freeNs ∧
    ∃ u, u = s.setPort (6 : Fin 8) { s.port (6 : Fin 8) with retryAt := none } ∧ link u (6 : Fin 8) = 1 ∧
      (lanesOf u (6 : Fin 8)).all (fun l => u.bit (Reg.LN_STAT_SIG_DET l)) = true :=
  ⟨stL [(Reg.MAC_STAT_LINK 6, 1), (Reg.MAC_MODE_MODE 6, 1), (Reg.LN_STAT_SIG_DET 12, 1)] (fun x => { x with
    ports := [(6, { PortSt.zero with retryAt := some 5 })] }), by decide +kernel, by decide +kernel, _, rfl, by decide +kernel⟩
theorem wit_PortEvents_6b : ∃ s : State, (s.port (7 : Fin 8)).retryAt = some 5 ∧ 5 ≤ s.freeNs ∧
    ∃ u, u = s.setPort (7 : Fin 8) { s.port (7 : Fin 8) with retryAt := none } ∧ link u (7 : Fin 8) ≠ 1 :=
  ⟨stL [(Reg.MAC_STAT_LINK 7, 0)] (fun x => { x with ports := [(7, { PortSt.zero with retryAt := some 5 })] }), by decide +kernel,
    by decide +kernel, _, rfl, by decide +kernel⟩
theorem wit_PortEvents_7 : link (st [(Reg.MAC_STAT_LINK 7, 3)]) (7 : Fin 8) = 3 ∧ (6 : Fin 7) ≠ 0 ∧ (6 : Fin 7) ≠ 4 := by decide +kernel
/-- What LINK_FAULT_RX shows on port 7 before it publishes. -/
def faulted (s : State) (lf rf : Bool) : State :=
  (s.putB (Reg.MAC_STAT_LF (7 : Fin 8)) lf).putB (Reg.MAC_STAT_RF (7 : Fin 8)) rf
theorem wit_PortEvents_9 : ∃ s u : State,
    u = (s.flagIf (decide ((2 : Fin 3).val = 1) && !s.bit (Reg.MAC_STAT_LF (7 : Fin 8))) (Flag.MAC_LF (7 : Fin 8))).flagIf
      (decide ((2 : Fin 3).val = 2) && !s.bit (Reg.MAC_STAT_RF (7 : Fin 8))) (Flag.MAC_RF (7 : Fin 8)) ∧
    (faulted u false true).regs ≠ u.regs ∧ (2 : Fin 3) ≠ 1 := ⟨st [], _, rfl, by decide +kernel⟩
theorem wit_PortEvents_9b : (faulted (st []) false false).regs = (st []).regs ∧ (0 : Fin 3) ≠ 1 := by decide +kernel
theorem wit_PortEvents_9c : ∃ s u : State,
    u = (s.flagIf (decide ((1 : Fin 3).val = 1) && !s.bit (Reg.MAC_STAT_LF (7 : Fin 8))) (Flag.MAC_LF (7 : Fin 8))).flagIf
      (decide ((1 : Fin 3).val = 2) && !s.bit (Reg.MAC_STAT_RF (7 : Fin 8))) (Flag.MAC_RF (7 : Fin 8)) ∧
    (faulted u true false).regs ≠ u.regs ∧
    link ((faulted u true false).publish (Reg.MAC_STAT_VALID (7 : Fin 8)) (Reg.MAC_STAT_SEQ (7 : Fin 8))) (7 : Fin 8) = 3 :=
  ⟨st [(Reg.MAC_STAT_LINK 7, 3)], _, rfl, by decide +kernel⟩
theorem wit_PortEvents_10 : portUp (st [(Reg.MAC_STAT_LINK 7, 3)]) (7 : Fin 8) = true := by decide +kernel

/-- SERVICE with port 7 paused for class 8 since instant 0. -/
def paused (l : List (Field × Nat)) : State :=
  stL l (fun x => { x with ports := [(7, { PortSt.zero with pauses := [(8, { PauseSt.zero with since := some 0 })] })] })

theorem wit_PortEvents_11 : (pauseOf (paused []) (7 : Fin 8) (8 : Fin 9)).since = some 0 ∧
    (pauseOf (paused []) (7 : Fin 8) (8 : Fin 9)).holdTo ≤ (paused []).freeNs := by decide +kernel
theorem wit_PortEvents_12 : ∃ s : State, (pauseOf s (7 : Fin 8) (8 : Fin 9)).since = some 0 ∧
    0 + s.get (Reg.MAC_PWD_PWD_LIM (7 : Fin 8)) * 1000000 < s.freeNs := ⟨paused [(Reg.MAC_PWD_PWD_LIM 7, 999)], by decide +kernel⟩
theorem wit_PortEvents_13 : (pauseOf (st []) (7 : Fin 8) (8 : Fin 9)).ignore ≤ (st []).freeNs := by decide +kernel

/-- SERVICE with lane 17's eye measured each second. -/
def eyes : State := st [(Reg.GEN_STRAP_PAIR_EN, 1), (Reg.LN_EYE_CFG_EYE_INT 17, 1), (Reg.LN_EYE_CFG_EYE_MIN_H 17, 64), (Reg.LN_EYE_CFG_EYE_MIN_V 17, 10)]

theorem wit_PortEvents_14 : (eyes.get (Reg.LN_EYE_CFG_EYE_INT (17 : Fin 18)) ≠ 0 ∧ eyes.tbLive = true ∧ eyes.mode ≠ .boot ∧ eyes.mode ≠ .test ∧
    (eyes.lane (17 : Fin 18)).eyeAt = 0 ∧ ((17 : Fin 18).val < 16 ∨ eyes.bit Reg.GEN_STRAP_PAIR_EN = true) ∧ (eyes.lane (17 : Fin 18)).eyeLow = false) ∧
    ∃ u, u = ((eyes.put (Reg.LN_EYE_EYE_H (17 : Fin 18)) 64).put (Reg.LN_EYE_EYE_V (17 : Fin 18)) 40).publish
        (Reg.LN_STAT_VALID (17 : Fin 18)) (Reg.LN_STAT_SEQ (17 : Fin 18)) ∧
      (decide (64 < u.get (Reg.LN_EYE_CFG_EYE_MIN_H (17 : Fin 18))) || decide (40 < 4 * u.get (Reg.LN_EYE_CFG_EYE_MIN_V (17 : Fin 18)))) = false :=
  ⟨by decide +kernel, _, rfl, by decide +kernel⟩
theorem wit_PortEvents_14b : ∃ u, u = ((eyes.put (Reg.LN_EYE_EYE_H (17 : Fin 18)) 64).put (Reg.LN_EYE_EYE_V (17 : Fin 18)) 39).publish
        (Reg.LN_STAT_VALID (17 : Fin 18)) (Reg.LN_STAT_SEQ (17 : Fin 18)) ∧
      (decide (64 < u.get (Reg.LN_EYE_CFG_EYE_MIN_H (17 : Fin 18))) || decide (39 < 4 * u.get (Reg.LN_EYE_CFG_EYE_MIN_V (17 : Fin 18)))) = true :=
  ⟨_, rfl, by decide +kernel⟩
theorem wit_PortEvents_15 : ∃ s : State, s.get (Reg.LN_CFG_PRBS (15 : Fin 16)) ≠ 0 ∧ portOfLane s (15 : Fin 16) ≠ none ∧
    prbsAllowed s (15 : Fin 16) = true :=
  ⟨st [(Reg.LN_CFG_PRBS 15, 3), (Reg.MAC_MODE_MODE 6, 3)], by decide +kernel⟩
theorem wit_PortEvents_16 : ∃ s : State, s.get (Reg.RG_CFG_MODE (3 : Fin 4)) ≠ 0 ∧ groupErr s (3 : Fin 4) = false ∧
    s.bit (Reg.RG_CFG_SUP_EN (3 : Fin 4)) = true ∧ s.mode ≠ .boot ∧ s.mode ≠ .safe ∧ s.mode ≠ .test ∧ s.lan.supAt.get (fun _ => 0) (3 : Fin 4) = 0 :=
  ⟨st [(Reg.RG_CFG_MODE 3, 1), (Reg.RG_CFG_PORT_A 3, 5), (Reg.RG_CFG_PORT_B 3, 7), (Reg.RG_CFG_SUP_EN 3, 1)], by decide +kernel⟩
theorem wit_PortEvents_17 : ∃ (s : State) (d : Disturb), (s.port (7 : Fin 8)).disturb = some d ∧ lineBusy s (7 : Fin 8) = false ∧
    disturbPeer (s.setPort (7 : Fin 8) { s.port (7 : Fin 8) with disturb := none }) (7 : Fin 8) d = false :=
  ⟨stL [] (fun x => { x with ports := [(7, { PortSt.zero with disturb := some ⟨4, [], 1, 9, none⟩ })] }), ⟨4, [], 1, 9, none⟩,
    by decide +kernel⟩
theorem wit_PortEvents_17b : ∃ (s : State) (d : Disturb), (s.port (7 : Fin 8)).disturb = some d ∧ lineBusy s (7 : Fin 8) = false ∧
    ∃ u, u = s.setPort (7 : Fin 8) { s.port (7 : Fin 8) with disturb := none } ∧ disturbPeer u (7 : Fin 8) d = true ∧
      link u (7 : Fin 8) ≠ baseLink u (7 : Fin 8) :=
  ⟨stL [(Reg.MAC_STAT_LINK 7, 3)] (fun x => { x with
    ports := [(6, { PortSt.zero with disturb := some ⟨1, [], 0, 7, some (takenAs (st []) (dsc []) 0x0273)⟩ }),
      (7, { PortSt.zero with disturb := some ⟨1, [], 0, 7, some (takenAs (st []) (dsc []) 0x0273)⟩ })] }),
    ⟨1, [], 0, 7, some (takenAs (st []) (dsc []) 0x0273)⟩, by decide +kernel, by decide +kernel, _, rfl, by decide +kernel⟩
theorem wit_PortCommands_1 : ∃ d, Accepts portSetOp (st []) d ∧ ∃ regs u, regs = maskedRegs d (d.u16 18) (portAddrs (d.u8 16)) ∧
    u = showPorts (regs.foldl (fun s r => s.storeWord r.1 r.2) (taken (st []) d)) ∧
    (List.range 8).any (fun q => u.bit (Reg.MAC_STAT_CFGERR q) && !(taken (st []) d).bit (Reg.MAC_STAT_CFGERR q)) = false ∧
    disturbs (taken (st []) d) u (d.u8 16) = false := ⟨dsc [(16, 7)], accepts_of (by decide +kernel), _, _, rfl, rfl, by decide +kernel⟩
theorem wit_PortCommands_1b : ∃ s d, Accepts portSetOp s d ∧ ∃ regs u, regs = maskedRegs d (d.u16 18) (portAddrs (d.u8 16)) ∧
    u = showPorts (regs.foldl (fun s r => s.storeWord r.1 r.2) (taken s d)) ∧
    (List.range 8).any (fun q => u.bit (Reg.MAC_STAT_CFGERR q) && !(taken s d).bit (Reg.MAC_STAT_CFGERR q)) = false ∧
    disturbs (taken s d) u (d.u8 16) = true ∧ ((taken s d).port (d.u8 16)).disturb = none ∧ bitOf (d.u8 17) 0 = true :=
  ⟨st [(Reg.MAC_MODE_EN 7, 1), (Reg.MAC_MODE_MODE 7, 1), (Reg.MAC_MODE_FEC 7, 0)], dsc [(16, 7), (17, 1), (18, 1), (20, 2)],
    accepts_of (by decide +kernel), _, _, rfl, rfl, by decide +kernel⟩
theorem wit_PortCommands_2 : ∃ d, Accepts laneSetOp (st []) d ∧ ∃ u, u = (maskedRegs d (d.u16 18) (laneAddrs (d.u8 16))).foldl
      (fun s r => s.storeWord r.1 r.2) (taken (st []) d) ∧
    u.get (Reg.LN_CFG_PRBS (d.u8 16)) = (taken (st []) d).get (Reg.LN_CFG_PRBS (d.u8 16)) ∧
    (taken (st []) d).loadWord (0x0B1000 + 0x100 * d.u8 16) = u.loadWord (0x0B1000 + 0x100 * d.u8 16) :=
  ⟨dsc [(16, 15)], accepts_of (by decide +kernel), _, rfl, by decide +kernel⟩
theorem wit_PortCommands_2b : ∃ s d, Accepts laneSetOp s d ∧ ∃ u, u = (maskedRegs d (d.u16 18) (laneAddrs (d.u8 16))).foldl
      (fun s r => s.storeWord r.1 r.2) (taken s d) ∧
    u.get (Reg.LN_CFG_PRBS (d.u8 16)) = (taken s d).get (Reg.LN_CFG_PRBS (d.u8 16)) ∧
    (taken s d).loadWord (0x0B1000 + 0x100 * d.u8 16) ≠ u.loadWord (0x0B1000 + 0x100 * d.u8 16) ∧
    portOfLane (taken s d) (d.u8 16) = some 6 ∧ link (taken s d) 6 = 3 ∧ ((taken s d).port 6).disturb = none ∧ bitOf (d.u8 17) 0 = true :=
  ⟨st [(Reg.MAC_MODE_MODE 6, 3), (Reg.MAC_STAT_LINK 6, 3)], dsc [(16, 15), (17, 1), (18, 1)], accepts_of (by decide +kernel), _, rfl,
    by decide +kernel⟩
theorem wit_PortCommands_3 : ∃ s d, Accepts portLoopbackOp s d ∧ link (taken s d) (d.u8 16) = 3 ∧ d.u8 17 ≠ 0 ∧
    ((taken s d).port (d.u8 16)).disturb = none ∧ bitOf (d.u8 18) 0 = true :=
  ⟨st [(Reg.MAC_STAT_LINK 7, 3)], dsc [(16, 7), (17, 3), (18, 1)], accepts_of (by decide +kernel), by decide +kernel⟩
theorem wit_PortCommands_3b : ∃ s d, Accepts portLoopbackOp s d ∧ link (taken s d) (d.u8 16) = 4 ∧
    ((taken s d).port (d.u8 16)).disturb = none ∧ bitOf (d.u8 18) 0 = true :=
  ⟨st [(Reg.MAC_STAT_LINK 7, 4)], dsc [(16, 7), (18, 1)], accepts_of (by decide +kernel), by decide +kernel⟩
theorem wit_PortCommands_4 : ∃ d, Accepts rgSetOp (st []) d ∧ ∃ u, u = showPorts ((maskedRegs d (d.u16 18) [0x0D0000 + 0x20 * d.u8 16,
      0x0D0000 + 0x20 * d.u8 16 + 4]).foldl (fun s r => s.storeWord r.1 r.2) (taken (st []) d)) ∧ groupErr u (d.u8 16) = false ∧
    [Reg.RG_CFG_MODE (d.u8 16), Reg.RG_CFG_PORT_A (d.u8 16), Reg.RG_CFG_PORT_B (d.u8 16)].any
      (fun f => (taken (st []) d).get f != u.get f) = false := ⟨dsc [(16, 3)], accepts_of (by decide +kernel), _, rfl, by decide +kernel⟩

/-- A booking of port 7 for a probe at 1 s of the time base. -/
def bk : Booking := ⟨1, 7, 7, 0, secU, secU, secU, 64, 0, 0, 0, true, true, false, false, false, false, 64, .probe, none, 0, false⟩

/-- SERVICE with one booking, port 7 UP. -/
def stB (b : Booking) : State := { st [(Reg.MAC_STAT_LINK 7, 3), (Reg.MAC_MODE_MODE 7, 1), (Reg.TSU_CFG_VTOL, 1000)] with
  tsu := { State.reset.tsu with books := [b] } }

/-- The edge whose stamp on port p is `u`, with no TX_DLY and no trim. -/
def edgeAt (s : State) (p u : Nat) : Edge := ⟨(u : Int) - ((s.tb.cyc * 65536 : Nat) : Int) - s.tb.ofs + Config.kDir p true, 0⟩

theorem egressStamp_edgeAt (s : State) (p u : Nat) (h : s.tb.step = none) (ht : s.tsu.trims.get (fun _ => 0) p = 0) :
    egressStamp s p (edgeAt s p u) 0 = roundStamp u := by
  simp only [egressStamp, crossing, State.instant, h, halfTrim, ht, edgeAt]
  congr 1
  push_cast
  ring

theorem wit_EgressEvents_1 : (booksOf (stB bk) (7 : Fin 8)).find? (fun b => !b.armed && deadlineAt (stB bk) b ≤ ((stB bk).tbU : Int)) = some bk ∧
    bk.inTsu = true := by decide +kernel
theorem wit_EgressEvents_1b : ∃ b : Booking, (booksOf (stB b) (7 : Fin 8)).find? (fun c => !c.armed && deadlineAt (stB b) c ≤ ((stB b).tbU : Int)) = some b ∧
    b.inTsu = false ∧ b.dead = false := ⟨{ bk with inTsu := false }, by decide +kernel⟩
theorem wit_EgressEvents_1c : ∃ b : Booking, (booksOf (stB b) (7 : Fin 8)).find? (fun c => !c.armed && deadlineAt (stB b) c ≤ ((stB b).tbU : Int)) = some b ∧
    b.inTsu = false ∧ b.dead = true := ⟨{ bk with inTsu := false, dead := true }, by decide +kernel⟩
theorem wit_EgressEvents_2 : ∃ b : Booking, (booksOf (stB b) (7 : Fin 8)).find? (fun c => c.armed && !c.launched && launchAt (stB b) c ≤
    ((stB b).tbU : Int)) = some b ∧ launchCause (stB b) b = none := ⟨{ bk with armed := true }, by decide +kernel⟩
theorem wit_EgressEvents_2b : ∃ (s : State) (b : Booking), (booksOf s (7 : Fin 8)).find? (fun c => c.armed && !c.launched && launchAt s c ≤
    (s.tbU : Int)) = some b ∧ launchCause s b = some 2 :=
  ⟨{ st [] with tsu := { State.reset.tsu with books := [{ bk with armed := true }] } }, { bk with armed := true }, by decide +kernel⟩
theorem wit_EgressEvents_3 : ∃ (b : Booking) (e : Edge), (booksOf (stB b) (7 : Fin 8)).find? (fun b => b.launched) = some b ∧ b.cut = false ∧
    ∃ stamp diff, stamp = egressStamp (stB b) (7 : Fin 8) e b.txDly ∧
      diff = roundQ ((((stamp : Int) - (b.ttx : Int) : Int) : Rat) * 1000 / 65536) ∧ absN diff ≤ (stB b).get Reg.TSU_CFG_VTOL :=
  ⟨{ bk with armed := true, launched := true }, edgeAt (stB { bk with armed := true, launched := true }) (7 : Fin 8) secU, by decide +kernel,
    by decide +kernel, roundStamp secU, _, (egressStamp_edgeAt _ _ _ (by decide +kernel) (by decide +kernel)).symm, rfl, by decide +kernel⟩
/-- SERVICE with a supervision frame waiting on port 7. -/
def waits : State := stL [(Reg.MAC_STAT_LINK 7, 3)] (fun x => { x with unb := [⟨7, .supervision 0, 70, none, none⟩] })

theorem wit_EgressEvents_4 : ∃ (u : Unbooked) (e : Edge),
    waits.lan.unb.find? (fun u => u.port = (7 : Fin 8).val && !pauseHolds waits u && mayLeave waits u) = some u ∧
    mayTransmit waits (7 : Fin 8) = true ∧
    fitsNow waits (7 : Fin 8) u.len (egressStamp waits (7 : Fin 8) e (waits.get (Reg.TSU_TXDLY_TX_DLY (7 : Fin 8)))) = true ∧ u.inj = none := by
  refine ⟨⟨7, .supervision 0, 70, none, none⟩, edgeAt waits (7 : Fin 8) (5 * secU), by decide +kernel, by decide +kernel, ?_, rfl⟩
  rw [show waits.get (Reg.TSU_TXDLY_TX_DLY (7 : Fin 8)) = 0 by decide +kernel, egressStamp_edgeAt _ _ _ (by decide +kernel) (by decide +kernel)]
  decide +kernel

/-- Operands of PORT_CALIBRATE: port 7, a method, flag bits, 16 probes. -/
def calD (m f : Byte) : Desc := dsc [(16, 7), (17, m), (18, f), (20, 16)]

theorem wit_EgressEvents_6 : ∃ s : State, (s.cal (7 : Fin 8)).probeAt + 10000 ≤ s.freeNs ∧ calRuns s (7 : Fin 8) 0 = true :=
  ⟨st1 [(Reg.MAC_STAT_LINK 7, 4)] (long 0x0280 7 (calD 0 1)), by decide +kernel⟩
theorem wit_EgressEvents_7 : ∃ s : State, (s.cal (7 : Fin 8)).probeAt + 10000 ≤ s.freeNs ∧ calRuns s (7 : Fin 8) 0 = false ∧
    calRuns s (7 : Fin 8) 1 = true := ⟨st1 [(Reg.MAC_STAT_LINK 7, 3)] (long 0x0280 7 (calD 1 1)), by decide +kernel⟩
theorem wit_EgressEvents_8 : ∃ (s : State) (l : LongOp), calOp s (7 : Fin 8) = some l ∧ l.cancelReq = false ∧ l.suspended = false ∧
    l.d.u32 20 ≤ (s.cal (7 : Fin 8)).n :=
  ⟨{ st1 [] (long 0x0280 7 (calD 1 1)) with tsu := { State.reset.tsu with cals := [(7, { Cal.zero with n := 16 })] } }, long 0x0280 7 (calD 1 1),
    by decide +kernel⟩
theorem wit_EgressEvents_9 : ∃ (s : State) (l : LongOp), calOp s (7 : Fin 8) = some l ∧ l.cancelReq = true :=
  ⟨st1 [] { long 0x0280 7 (calD 1 1) with cancelReq := true }, { long 0x0280 7 (calD 1 1) with cancelReq := true }, by decide +kernel⟩
theorem wit_EgressCommands_1 : ∃ d, Accepts portCalibrateOp (st []) d ∧ calOp (taken (st []) d) (d.u8 16) = none ∧
    link (taken (st []) d) (d.u8 16) ≠ 4 ∧ calMethod d ≤ 1 ∧ bitOf (d.u8 18) 0 = true :=
  ⟨calD 1 1, accepts_of (by decide +kernel), by decide +kernel⟩
theorem wit_EgressCommands_1b : ∃ s d, Accepts portCalibrateOp s d ∧ calOp (taken s d) (d.u8 16) = none ∧ link (taken s d) (d.u8 16) ≠ 4 ∧
    calMethod d = 2 ∧ calLocked (taken s d) (d.u8 16) = true :=
  ⟨st [(Reg.ENT_CFG_EN 27, 1), (Reg.ENT_NET_NETMODE 27, 0), (Reg.TNS_STAT_STATE, 2)], calD 2 0, accepts_of (by decide +kernel), by decide +kernel⟩
theorem wit_EgressCommands_2 : ∃ d, Accepts tsuSetOp (st []) d ∧ d.u8 16 = 255 := ⟨dsc [(16, 255)], accepts_of (by decide +kernel), by decide +kernel⟩
theorem wit_EgressCommands_3 : ∃ d, Accepts tsuSetOp (st []) d ∧ d.u8 16 ≠ 255 ∧ portProtected (taken (st []) d) (d.u8 16) = false :=
  ⟨dsc [(16, 7)], accepts_of (by decide +kernel), by decide +kernel⟩

/-- SERVICE with the service's own state. -/
def stC (l : List (Field × Nat)) (f : Cla → Cla) : State := (st l).setCla f

/-- An NTP request's transaction on engine 15, context 3. -/
def txn (j : Job) (k : Stage) : Txn :=
  { id := 0, cls := 0, target := 7, bind := 0, trx := 0, tnom := 2 * secU, job := j, mac := 0, cseq := 0, engine := 15, ctx := 3, stage := k,
    msg := none, red := none, found := false, unicast := true, hdrLen := 0, env := ⟨0, none, 0⟩ }

/-- An NTS request. -/
def nts : NtpIn := { ntp with nts := some ⟨true, 0, 32, 0, 16, 116⟩ }

/-- A PTP message of this unit with every field zero. -/
def own : PtpOut := ⟨2, 1, ⟨0, none, 0⟩, 0, 0, 0, 0, 0, 0, 0, 0, 0, 0, false, false, 0, true, 37, true, false, false, none, [], [], 0, none⟩

theorem wit_FrameReceived_1 : ∃ s t : State, link s (7 : Fin 8) = 3 ∧ s.mode = .safe ∧ link t (7 : Fin 8) = 4 ∧ t.mode = .safe :=
  ⟨atC 5 [(Reg.GEN_MODE_MODE, 4), (Reg.MAC_STAT_LINK 7, 3)], atC 5 [(Reg.GEN_MODE_MODE, 4), (Reg.MAC_STAT_LINK 7, 4)], by decide +kernel⟩
theorem wit_FrameReceived_2 : ∃ (s : State) (f : FrameIn), link s (7 : Fin 8) = 3 ∧ s.mode = .service ∧ ∃ u, u = countRx s (7 : Fin 8) f ∧
    u.mode = .service ∧ link u (7 : Fin 8) = 3 ∧ daOk u (7 : Fin 8) f.da = false :=
  ⟨st [(Reg.MAC_STAT_LINK 7, 3)], { frame with da := 5 }, by decide +kernel, by decide +kernel, _, rfl, by decide +kernel⟩
theorem wit_FrameReceived_2b : ∃ (s : State) (f : FrameIn), link s (7 : Fin 8) = 3 ∧ s.mode = .service ∧ ∃ u, u = countRx s (7 : Fin 8) f ∧
    u.mode = .service ∧ link u (7 : Fin 8) = 3 ∧ daOk u (7 : Fin 8) f.da = true ∧ f.sa = macAddr u (7 : Fin 8) :=
  ⟨st [(Reg.MAC_STAT_LINK 7, 3)], frame, by decide +kernel, by decide +kernel, _, rfl, by decide +kernel⟩
theorem wit_FrameReceived_2c : ∃ (s : State) (f : FrameIn), link s (7 : Fin 8) = 3 ∧ s.mode = .service ∧ ∃ u, u = countRx s (7 : Fin 8) f ∧
    u.mode = .service ∧ link u (7 : Fin 8) = 3 ∧ daOk u (7 : Fin 8) f.da = true ∧ f.sa ≠ macAddr u (7 : Fin 8) ∧ f.room = false :=
  ⟨st [(Reg.MAC_STAT_LINK 7, 3)], { frame with sa := 5, room := false }, by decide +kernel, by decide +kernel, _, rfl, by decide +kernel⟩
theorem wit_ServiceEvents_1 : ∃ (s : State) (t : Txn), engDown s (15 : Fin 16) = false ∧
    s.cla.queue.find? (fun t => t.engine = (15 : Fin 16).val) = some t ∧ freeCtx s (15 : Fin 16) = some 0 ∧
    (inFlight s (15 : Fin 16)).any (fun u => u.cls != t.cls) = false :=
  ⟨stC [] (fun c => { c with queue := [txn (.ntp ntp) (.op 0)] }), txn (.ntp ntp) (.op 0), by decide +kernel⟩
theorem wit_ServiceEvents_2 : ∃ (s : State) (x : Txn) (m : NtpIn), txnOf s (15 : Fin 16) (3 : Fin 4) = some x ∧ x.stage = .op 1 ∧ x.job = .ntp m ∧
    cyRuns s = true ∧ opBlocks s x ≠ 0 :=
  ⟨stC [(Reg.SAT_STAT_CY_RDY, 1)] (fun c => { c with flight := [txn (.ntp nts) (.op 1)] }), txn (.ntp nts) (.op 1), nts, by decide +kernel⟩
theorem wit_ServiceEvents_3 : ∃ (s : State) (x : Txn) (m : PtpIn), txnOf s (15 : Fin 16) (3 : Fin 4) = some x ∧ x.stage = .seal ∧ x.job = .ptp m ∧
    cyRuns s = true ∧ opBlocks s x = 0 ∧ s.bit Reg.SAT_CFG_SEAL_CHK = false :=
  ⟨stC [(Reg.SAT_STAT_CY_RDY, 1), (Reg.SAT_CFG_SEAL_CHK, 0)] (fun c => { c with flight := [txn (.ptp ptp) .seal] }), txn (.ptp ptp) .seal, ptp,
    by decide +kernel⟩
theorem wit_ServiceEvents_4 : ∃ (s : State) (x : Txn), txnOf s (15 : Fin 16) (3 : Fin 4) = some x ∧ x.stage = .grant ∧ openBooks s x = [] ∧
    needsSeal s x = some false ∧ portsOf s x.target = [7] ∧ portUp s 7 = true ∧
    bestStart s [7] x.tnom 64 7 ⟨2 * secU * 65536, []⟩ = some (2 * secU) :=
  ⟨stC [(Reg.MAC_STAT_LINK 7, 3), (Reg.MAC_MODE_MODE 7, 1), (Reg.TSU_CFG_SLIP, 100)] (fun c => { c with flight := [txn (.ntp ntp) .grant] }),
    txn (.ntp ntp) .grant, by decide +kernel⟩
theorem wit_ServiceEvents_5 : ∃ (s : State) (x : Txn), txnOf s (15 : Fin 16) (3 : Fin 4) = some x ∧ x.stage = .commit :=
  ⟨stC [] (fun c => { c with flight := [txn (.ntp ntp) .commit] }), txn (.ntp ntp) .commit, by decide +kernel⟩

/-- A stream of Sync and Announce on port 7 each second, at phase 0, under binding 0. -/
def stream : List Byte := [7, 0, 0, 7, 0, 0, 0, 0] ++ List.replicate 24 0

theorem wit_ServiceEvents_6 : ∃ s : State, s.mode = .service ∧ bitOf (strByte (s.stream (511 : Fin 512)) 3) 0 = true ∧
    bitOf (strByte (s.stream (511 : Fin 512)) 3) (if true then 2 else 1) = true ∧ s.tbLive = true ∧
    ∃ n u, n = max (s.cla.nextN.get (fun _ => 0) (2 * (511 : Fin 512) + b2n true)) (firstN (s.stream (511 : Fin 512)) true (s.tbU + 1)) ∧
      u = s.setCla (fun c => { c with nextN := c.nextN.set (fun _ => 0) (2 * (511 : Fin 512) + b2n true) (n + 1) }) ∧
      prepState s (streamAt (s.stream (511 : Fin 512)) true n) = 2 :=
  ⟨stC [(Reg.CLA_CTRL_STREAM_LEAD, 2000000)] (fun c => { c with streams := [(511, stream)] }), by decide +kernel, by decide +kernel, by decide +kernel,
    by decide +kernel, _, _, rfl, rfl, by decide +kernel⟩
theorem wit_ServiceEvents_6b : ∃ s : State, s.mode = .service ∧ bitOf (strByte (s.stream (0 : Fin 512)) 3) 0 = true ∧
    bitOf (strByte (s.stream (0 : Fin 512)) 3) (if false then 2 else 1) = true ∧ s.tbLive = true ∧
    ∃ n u, n = max (s.cla.nextN.get (fun _ => 0) (2 * (0 : Fin 512) + b2n false)) (firstN (s.stream (0 : Fin 512)) false (s.tbU + 1)) ∧
      u = s.setCla (fun c => { c with nextN := c.nextN.set (fun _ => 0) (2 * (0 : Fin 512) + b2n false) (n + 1) }) ∧
      ∃ t, t = strByte (s.stream (0 : Fin 512)) 0 ∧ t < 8 ∧ prepState s (streamAt (s.stream (0 : Fin 512)) false n) = 1 ∧
        ptpBinding u (strByte (s.stream (0 : Fin 512)) 2) = true :=
  ⟨stC [(Reg.CLA_CTRL_STREAM_LEAD, 1000000), (Reg.PB_CFG_EN 0, 1), (Reg.PB_CFG_TYPE 0, 5)] (fun c => { c with streams := [(0, stream)] }),
    by decide +kernel, by decide +kernel, by decide +kernel, by decide +kernel, _, _, rfl, rfl, _, rfl, by decide +kernel⟩
theorem wit_ServiceEvents_7 : ∃ (s : State) (f : FollowUp), s.cla.fus = f :: [] ∧ s.mode = .service :=
  ⟨stC [] (fun c => { c with fus := [⟨7, 0, own, 0, 0⟩] }), ⟨7, 0, own, 0, 0⟩, by decide +kernel⟩
theorem wit_ServiceEvents_8 : ∃ (s : State) (q : CtrlMsg), s.cla.ctrlq = q :: [] ∧ enginesOf s 4 = 15 :: [] ∧ s.mode = .service ∧ q.m.auth = none ∧
    q.m.type = 0xD :=
  ⟨stC [(Reg.CLA_ENG_MAP_ROLE 0, 0), (Reg.CLA_ENG_MAP_ROLE 1, 0x40000000)] (fun c => { c with
    ctrlq := [⟨7, 0, 0, 0, 0, frame, { ptp with type := 0xD }⟩] }), ⟨7, 0, 0, 0, 0, frame, { ptp with type := 0xD }⟩, by decide +kernel⟩
theorem wit_ServiceEvents_8b : ∃ (s : State) (q : CtrlMsg), s.cla.ctrlq = q :: [] ∧ enginesOf s 4 = 15 :: [] ∧ s.mode = .service ∧ q.m.auth = none ∧
    ∃ u, u = s.setCla (fun c => { c with ctrlq := [] }) ∧ q.m.type ≠ 0xD ∧ u.get (Reg.PB_CFG_TYPE q.bind) ≠ 3 :=
  ⟨stC [(Reg.CLA_ENG_MAP_ROLE 0, 0), (Reg.CLA_ENG_MAP_ROLE 1, 0x40000000), (Reg.PB_CFG_TYPE 63, 0)] (fun c => { c with
    ctrlq := [⟨7, 63, 0, 0, 0, frame, { ptp with type := 0xC }⟩] }), ⟨7, 63, 0, 0, 0, frame, { ptp with type := 0xC }⟩, by decide +kernel,
    by decide +kernel, by decide +kernel, by decide +kernel, _, rfl, by decide +kernel⟩
theorem wit_ServiceEvents_8c : ∃ (s : State) (q : CtrlMsg), s.cla.ctrlq = q :: [] ∧ enginesOf s 4 = 15 :: [] ∧ s.mode = .service ∧ q.m.auth = none ∧
    ∃ u r t, u = s.setCla (fun c => { c with ctrlq := [] }) ∧
      r = q.m.sigs.foldl (fun a g => ((negotiate (takeGrant a.1 q g) q g).1, a.2 ++ (negotiate (takeGrant a.1 q g) q g).2.toList)) (u, []) ∧
      t = targetOf r.1 q.port ∧ q.m.type ≠ 0xD ∧ u.get (Reg.PB_CFG_TYPE q.bind) = 3 ∧ r.2 ≠ [] ∧ ownSeal r.1 q.bind = some false ∧ t < 8 :=
  ⟨stC [(Reg.CLA_ENG_MAP_ROLE 0, 0), (Reg.CLA_ENG_MAP_ROLE 1, 0x40000000), (Reg.PB_CFG_EN 63, 1), (Reg.PB_CFG_TYPE 63, 3)] (fun c => { c with
    ctrlq := [⟨7, 63, 0, 0, 0, frame, { ptp with type := 0xC, sigs := [⟨0, 9, 0, 300⟩] }⟩] }),
    ⟨7, 63, 0, 0, 0, frame, { ptp with type := 0xC, sigs := [⟨0, 9, 0, 300⟩] }⟩, by decide +kernel, by decide +kernel, by decide +kernel,
    by decide +kernel, _, _, _, rfl, rfl, rfl, by decide +kernel⟩
theorem wit_ServiceEvents_9 : ∃ s : State, s.mode = .service ∧ s.bit Reg.CLA_GT_CFG_EN = true ∧ s.tbLive = true ∧
    s.cla.walkAt + 7812500 ≤ s.freeNs := ⟨st [(Reg.CLA_GT_CFG_EN, 1)], by decide +kernel⟩

/-- SERVICE with port 7's client running on a master. -/
def stM (l : List (Field × Nat)) : State :=
  { st (l ++ clientRegs) with sel := { State.reset.sel with clients := [(7, { Client.zero with master := some 0 })] } }

theorem wit_ServiceEvents_10 : ∃ s : State, (s.client (7 : Fin 8)).master = some 0 ∧ clientRuns s (7 : Fin 8) = true ∧
    s.bit (Reg.PB_CFG_EN (s.get (Reg.PCL_CFG_PROFILE (7 : Fin 8)))) = true ∧ s.get (Reg.PB_CFG_TYPE (s.get (Reg.PCL_CFG_PROFILE (7 : Fin 8)))) = 0 ∧
    s.tbLive = true ∧
    ∃ n u, n = max ((s.client (7 : Fin 8)).nreq.getD 0) (ceilDiv (s.tbU + 1 - 1000 * (7 : Fin 8) * 65536)
        (intervalU (s.getS (Reg.PCL_CFG_LOG_DREQ (7 : Fin 8))))) ∧ u = s.setClient (7 : Fin 8) { s.client (7 : Fin 8) with nreq := some (n + 1) } ∧
      prepState s (dreqAt s (7 : Fin 8) n) = 2 :=
  ⟨stM [(Reg.CLA_CTRL_STREAM_LEAD, 20000000)], by decide +kernel, by decide +kernel, by decide +kernel, by decide +kernel, by decide +kernel,
    _, _, rfl, rfl, by decide +kernel⟩
theorem wit_ServiceEvents_10b : ∃ s : State, (s.client (7 : Fin 8)).master = some 0 ∧ clientRuns s (7 : Fin 8) = true ∧
    s.bit (Reg.PB_CFG_EN (s.get (Reg.PCL_CFG_PROFILE (7 : Fin 8)))) = true ∧ s.get (Reg.PB_CFG_TYPE (s.get (Reg.PCL_CFG_PROFILE (7 : Fin 8)))) = 2 ∧
    s.tbLive = true ∧
    ∃ n u, n = max ((s.client (7 : Fin 8)).nreq.getD 0) (ceilDiv (s.tbU + 1 - 1000 * (7 : Fin 8) * 65536)
        (intervalU (s.getS (Reg.PCL_CFG_LOG_DREQ (7 : Fin 8))))) ∧ u = s.setClient (7 : Fin 8) { s.client (7 : Fin 8) with nreq := some (n + 1) } ∧
      prepState s (dreqAt s (7 : Fin 8) n) = 1 ∧ isGroup (targetOf u (7 : Fin 8)) = false :=
  ⟨stM [(Reg.CLA_CTRL_STREAM_LEAD, 7), (Reg.PB_CFG_TYPE 0, 2)], by decide +kernel, by decide +kernel, by decide +kernel, by decide +kernel,
    by decide +kernel, _, _, rfl, rfl, by decide +kernel⟩
theorem wit_ServiceEvents_11 : (st []).atMs = true ∧ (st []).mode ≠ .boot ∧ (st []).mode ≠ .test := by decide +kernel
theorem wit_ServiceEvents_12 : ∃ s : State, s.cla.paused ≠ [] ∧ (∀ c ∈ s.cla.paused, occOf s c = 0) :=
  ⟨stC [] (fun c => { c with paused := [0, 3] }), by decide +kernel⟩
theorem wit_ServiceEvents_13 : (st []).atSec = true := by decide +kernel
theorem wit_ServiceEvents_14 : ∃ s : State, s.atSec = true ∧ s.cla.grants ≠ (0, 0, 0, 0) :=
  ⟨stC [] (fun c => { c with grants := (0, 0, 0, 1) }), by decide +kernel⟩

/-- Ring 63 running with a type, one entry ahead of the device; ring 62 its completion ring, running. -/
def ringRegs (type : Nat) : List (Field × Nat) := [(Reg.HR_STAT_STATE 63, 1), (Reg.HR_CFG_TYPE 63, type), (Reg.HR_CFG_LOG2_SIZE 63, 4),
  (Reg.HR_PROD_IDX 63, 1), (Reg.HR_CFG_CQ 63, 62), (Reg.HR_CFG_TYPE 62, 1), (Reg.HR_STAT_STATE 62, 1), (Reg.HR_CFG_LOG2_SIZE 62, 4),
  (Reg.HR_CFG_ESZ 63, 0)]

theorem wit_ServiceEvents_15 : ∃ s : State, (s.bit Reg.CLA_INJ_EN = true ∧ s.get Reg.CLA_INJ_RING = (63 : Fin 64).val ∧ ringState s (63 : Fin 64) = 1 ∧
    s.get (Reg.HR_CFG_TYPE (63 : Fin 64)) = 4 ∧ ringUsed s (63 : Fin 64) ≠ 0 ∧ s.mode = .service ∧ cqValid s (63 : Fin 64) = true ∧
    canReserve s (cqOf s (63 : Fin 64)) 1 = true) ∧ ∃ u, u = reserve (setCons s (63 : Fin 64) (consPos s (63 : Fin 64) + 1)) (cqOf s (63 : Fin 64)) ∧
      u.mode = .service ∧ injBad u (63 : Fin 64) (List.replicate 16 0) [] = true :=
  ⟨st ((Reg.CLA_INJ_EN, 1) :: (Reg.CLA_INJ_RING, 63) :: ringRegs 4), by decide +kernel, _, rfl, by decide +kernel⟩
theorem wit_ServiceEvents_15b : ∃ (s : State) (h f : List Byte), (s.bit Reg.CLA_INJ_EN = true ∧ s.get Reg.CLA_INJ_RING = (63 : Fin 64).val ∧
    ringState s (63 : Fin 64) = 1 ∧ s.get (Reg.HR_CFG_TYPE (63 : Fin 64)) = 4 ∧ ringUsed s (63 : Fin 64) ≠ 0 ∧ s.mode = .service ∧
    cqValid s (63 : Fin 64) = true ∧ canReserve s (cqOf s (63 : Fin 64)) 1 = true) ∧
    ∃ u, u = reserve (setCons s (63 : Fin 64) (consPos s (63 : Fin 64) + 1)) (cqOf s (63 : Fin 64)) ∧ u.mode = .service ∧
      injBad u (63 : Fin 64) h f = false ∧ isGroup (leNat h 0 1) = false :=
  ⟨st ((Reg.CLA_INJ_EN, 1) :: (Reg.CLA_INJ_RING, 63) :: (Reg.MAC_STAT_LINK 7, 3) :: ringRegs 4), [7, 0, 60, 0] ++ List.replicate 12 0,
    List.replicate 60 0, by decide +kernel, _, rfl, by decide +kernel⟩
theorem wit_ServiceEvents_16 : ∃ s : State, engDown s (15 : Fin 16) = true ∧ s.atMs = true ∧ s.cla.engAt.get (fun _ => 0) (15 : Fin 16) < s.freeNs :=
  ⟨(st []).setSys (fun y => { y with engReset := 0x8000 }), by decide +kernel⟩
theorem wit_ServiceCommands_1 : ∃ d l, Accepts claSetOp (st []) d ∧ claAddrs (d.u8 16) = some l ∧
    ∃ u, u = storeService (taken (st []) d) (maskedWords d (d.u16 18) l) ∧ claCfgErr u = false ∧ clientsAltered (taken (st []) d) u = [] ∧
      wChanged (taken (st []) d) u = [] := ⟨dsc [(16, 3)], [0x1001C0], accepts_of (by decide +kernel), by decide +kernel, _, rfl, by decide +kernel⟩
theorem wit_ServiceCommands_2 : ∃ d e f, (Accepts claRuleOp (st []) d ∧ d.u8 18 = 0) ∧ (Accepts claRuleOp (st []) e ∧ e.u8 18 = 1) ∧
    Accepts claRuleOp (st []) f ∧ f.u8 18 = 3 :=
  ⟨dsc [(16, 255), (17, 15)], dsc [(18, 1)], dsc [(18, 3)], ⟨accepts_of (by decide +kernel), by decide +kernel⟩,
    ⟨accepts_of (by decide +kernel), by decide +kernel⟩, accepts_of (by decide +kernel), by decide +kernel⟩
theorem wit_ServiceCommands_3 : ∃ d, Accepts streamSetOp (st [(Reg.PB_CFG_TYPE 0, 5)]) d := ⟨dsc [(16, 255), (17, 1), (20, 7)], accepts_of (by decide +kernel)⟩
theorem wit_ServiceCommands_4 : ∃ s : State, s.mode = .setup ∧ ∃ u r, u = s.put Reg.CLA_STR_ADDR_INDEX (511 : Fin 512) ∧
    r = dataImage u Reg.CLA_STR_DATA_DATA ∧ streamValid u (511 : Fin 512) r = true :=
  ⟨su [(Reg.PB_CFG_TYPE 0, 5)], by decide +kernel, _, _, rfl, rfl, by decide +kernel⟩
theorem wit_ServiceCommands_4b : ∃ s : State, s.mode = .setup ∧ ∃ u r, u = s.put Reg.CLA_STR_ADDR_INDEX (0 : Fin 512) ∧
    r = dataImage u Reg.CLA_STR_DATA_DATA ∧ streamValid u (0 : Fin 512) r = false :=
  ⟨su [(Reg.CLA_STR_DATA_DATA 0, 8)], by decide +kernel, _, _, rfl, rfl, by decide +kernel⟩
theorem wit_ServiceCommands_5 : ∃ s : State, s.mode = .setup ∧ ∃ u r, u = s.put Reg.CLA_RULE_ADDR_INDEX (4095 : Fin 4096) ∧
    r = dataImage u Reg.CLA_RULE_DATA_DATA ∧ ruleValid r = true := ⟨su [], by decide +kernel, _, _, rfl, rfl, by decide +kernel⟩
theorem wit_ServiceCommands_5b : ∃ s : State, s.mode = .setup ∧ ∃ u r, u = s.put Reg.CLA_RULE_ADDR_INDEX (0 : Fin 4096) ∧
    r = dataImage u Reg.CLA_RULE_DATA_DATA ∧ ruleValid r = false :=
  ⟨su [(Reg.CLA_RULE_DATA_DATA 7, 1)], by decide +kernel, _, _, rfl, rfl, by decide +kernel⟩

/-- SERVICE with entries in the SAT. -/
def stA (l : List (Field × Nat)) (i : Nat) (e : SatEntry) : State := (st l).setSat i e

/-- An NTS master entry, valid until 1 s of the time base. -/
def ntsEntry : SatEntry := { SatEntry.zero with valid := true, type := 1, notAfter := 1 }

theorem wit_Authentication_1 : ∃ s : State, s.atSec = true ∧ cyRuns s = true ∧ s.mode ≠ .boot ∧ s.mode ≠ .test :=
  ⟨st [(Reg.SAT_STAT_CY_RDY, 1)], by decide +kernel⟩
theorem wit_Authentication_2 : ∃ s : State, s.atSec = true ∧ (s.sat (8191 : Fin 8192)).valid = true ∧ (s.sat (8191 : Fin 8192)).notAfter ≠ 0 ∧
    s.expand ((s.sat (8191 : Fin 8192)).notAfter * 2 ^ 32) ≤ s.tbU ∧ isCurrent s (8191 : Fin 8192) = false :=
  ⟨stA [] 8191 ntsEntry, by decide +kernel⟩
theorem wit_Authentication_2b : ∃ s : State, s.atSec = true ∧ (s.sat (8191 : Fin 8192)).valid = true ∧ (s.sat (8191 : Fin 8192)).notAfter ≠ 0 ∧
    s.expand ((s.sat (8191 : Fin 8192)).notAfter * 2 ^ 32) ≤ s.tbU ∧ isCurrent s (8191 : Fin 8192) = true ∧
    (s.sat (8191 : Fin 8192)).held = false :=
  ⟨stA [(Reg.SAT_CUR_NTS_V, 1), (Reg.SAT_CUR_NTS_INDEX, 8191)] 8191 ntsEntry, by decide +kernel⟩

/-- The image of an NTS master entry 0. -/
def image : List Byte := [0, 0, 0, 1] ++ List.replicate 44 0

theorem wit_Authentication_3 : Accepts satInstallOp (st []) { desc with op := image } ∧
    isCurrent (taken (st []) { desc with op := image }) (leNat image 0 2) = false := ⟨accepts_of (by decide +kernel), by decide +kernel⟩
theorem wit_Authentication_4 : ∃ d, Accepts satRotateOp (st []) d ∧ d.u16 18 = 0xFFFF :=
  ⟨dsc [(16, 79), (18, 255), (19, 255)], accepts_of (by decide +kernel), by decide +kernel⟩
theorem wit_Authentication_5 : ∃ s d, Accepts satRotateOp s d ∧ d.u16 18 ≠ 0xFFFF ∧ meetsTarget (taken s d) (d.u8 16) (d.u16 18) = true :=
  ⟨stA [] 8191 ntsEntry, dsc [(18, 255), (19, 31)], accepts_of (by decide +kernel), by decide +kernel⟩
theorem wit_Authentication_6 : ∃ d, Accepts satRekeyOp (st []) d ∧ longOp (taken (st []) d) 0x02A2 0 = none :=
  ⟨dsc [(24, 1)], accepts_of (by decide +kernel), by decide +kernel⟩

/-- SERVICE with a rekey of n records running and DMA permitted. -/
def rekeying (n : Byte) : State := { st [(Reg.HIF_STAT_LINK_UP, 1), (Reg.HIF_STAT_BME, 1)] with
  hif := { State.reset.hif with longs := [long 0x02A2 0 (dsc [(24, n)])] }
  auth := { State.reset.auth with rekey := some ⟨0, 0, 0⟩ } }

theorem wit_Authentication_7 : longOp (rekeying 2) 0x02A2 0 = some (long 0x02A2 0 (dsc [(24, 2)])) ∧ (rekeying 2).auth.rekey = some ⟨0, 0, 0⟩ ∧
    (rekeying 2).dmaOk = true ∧ ∃ u, u = rekeyRecord (rekeying 2) ⟨0, 0, 0⟩ [] ∧ ∃ j, u.auth.rekey = some j ∧ j.next < (dsc [(24, 2)]).u32 24 :=
  ⟨by decide +kernel, by decide +kernel, by decide +kernel, _, rfl, ⟨1, 0, 1⟩, by decide +kernel⟩
theorem wit_Authentication_7b : longOp (rekeying 1) 0x02A2 0 = some (long 0x02A2 0 (dsc [(24, 1)])) ∧ (rekeying 1).auth.rekey = some ⟨0, 0, 0⟩ ∧
    (rekeying 1).dmaOk = true ∧ ∃ u, u = rekeyRecord (rekeying 1) ⟨0, 0, 0⟩ [] ∧ ∃ j, u.auth.rekey = some j ∧ (dsc [(24, 1)]).u32 24 ≤ j.next :=
  ⟨by decide +kernel, by decide +kernel, by decide +kernel, _, rfl, ⟨1, 0, 1⟩, by decide +kernel⟩
theorem wit_Authentication_8 : ∃ s : State, s.mode = .setup ∧ ∃ im u, im = (List.range 12).flatMap (fun k => leBytes 4 (s.get (Reg.SAT_INST_DATA_DATA k))) ∧
    u = (List.range 12).foldl (fun s k => s.put (Reg.SAT_INST_DATA_DATA k) 0) s ∧ satImageOk im = false :=
  ⟨su [], by decide +kernel, _, _, rfl, rfl, by decide +kernel⟩
theorem wit_Authentication_8b : ∃ s : State, s.mode = .setup ∧ ∃ im u, im = (List.range 12).flatMap (fun k => leBytes 4 (s.get (Reg.SAT_INST_DATA_DATA k))) ∧
    u = (List.range 12).foldl (fun s k => s.put (Reg.SAT_INST_DATA_DATA k) 0) s ∧ satImageOk im = true ∧ isCurrent u (leNat im 0 2) = false :=
  ⟨su [(Reg.SAT_INST_DATA_DATA 0, 0x01000000)], by decide +kernel, _, _, rfl, rfl, by decide +kernel⟩

/-- SERVICE with the host interface's own state. -/
def stH (l : List (Field × Nat)) (f : Hif → Hif) : State := { st l with hif := f State.reset.hif }

theorem wit_HostAccess_1 : ∃ (s : State) (r : BitVec 22) (v : Word), pcieRuns s = true ∧ commandWrite s (4 * r.toNat) v.toNat = none ∧
    4 * r.toNat ≠ 0x140040 ∧ s.mode ≠ .setup ∧ (clearFlags s (4 * r.toNat) v.toNat).mode = s.mode :=
  ⟨st [], 8, 1, by decide +kernel⟩
theorem wit_HostAccess_1b : ∃ (s : State) (r : BitVec 22) (v : Word), pcieRuns s = true ∧ commandWrite s (4 * r.toNat) v.toNat = none ∧
    4 * r.toNat ≠ 0x140040 ∧ (clearFlags s (4 * r.toNat) v.toNat).mode = .setup :=
  ⟨su [], 0x2FFFFF, 1, by decide +kernel⟩
theorem wit_HostAccess_2 : ∃ (s t : State) (r : BitVec 22) (v : Word), pcieRuns s = true ∧ commandWrite s (4 * r.toNat) v.toNat = some t :=
  ⟨st [], _, 0x8010, 0, by decide +kernel, by rfl⟩
theorem wit_HostAccess_4 : pcieRuns (st []) = true ∧ (st []).flt.heldAo ≠ some ((st []).tb.ao / 20) := by decide +kernel
theorem wit_HostAccess_6 : ringState (st []) (0 : Fin 64) = 0 ∧ ringState (st [(Reg.HR_STAT_STATE 63, 3)]) (63 : Fin 64) = 3 ∧
    pcieRuns (st [(Reg.HR_STAT_STATE 63, 3)]) = true := by decide +kernel
theorem wit_HostAccess_7 : ∃ (s : State) (v : Word), pcieRuns s = true ∧ ringState s (63 : Fin 64) = 1 ∧ hostProduced s (63 : Fin 64) = true ∧
    v.toNat % 65536 < ringSize s (63 : Fin 64) ∧ ∃ n pos, n = ringSize s (63 : Fin 64) ∧
      pos = v.toNat / 65536 % 256 * n + v.toNat % 65536 ∧ (pos + 256 * n - prodPos s (63 : Fin 64)) % (256 * n) ≤ n - ringUsed s (63 : Fin 64) :=
  ⟨st (ringRegs 0), 15, by decide +kernel, by decide +kernel, by decide +kernel, by decide +kernel, _, _, rfl, rfl, by decide +kernel⟩
theorem wit_HostAccess_7b : ∃ (s : State) (v : Word), pcieRuns s = true ∧ ringState s (63 : Fin 64) = 1 ∧ hostProduced s (63 : Fin 64) = true ∧
    v.toNat % 65536 < ringSize s (63 : Fin 64) ∧ ∃ n pos, n = ringSize s (63 : Fin 64) ∧
      pos = v.toNat / 65536 % 256 * n + v.toNat % 65536 ∧ n - ringUsed s (63 : Fin 64) < (pos + 256 * n - prodPos s (63 : Fin 64)) % (256 * n) :=
  ⟨st (ringRegs 0), 0, by decide +kernel, by decide +kernel, by decide +kernel, by decide +kernel, _, _, rfl, rfl, by decide +kernel⟩

/-- A descriptor in ring 63. -/
def d63 : Desc := { desc with ring := 63 }

theorem wit_HostAccess_8 : ∃ s : State, s.mode ≠ .boot ∧ s.mode ≠ .test ∧ ringState s d63.ring = 1 ∧ s.get (Reg.HR_CFG_TYPE d63.ring) = 0 ∧
    ringUsed s d63.ring ≠ 0 ∧ s.hif.retries.get (fun _ => 0) d63.ring = 0 ∧ cqValid s d63.ring = true ∧ canReserve s (cqOf s d63.ring) 1 = true ∧
    false ≠ phaseOf (s.get (Reg.HR_CONS_GEN d63.ring)) := ⟨st (ringRegs 0), by decide +kernel⟩
theorem wit_HostAccess_8b : ∃ s : State, (s.mode ≠ .boot ∧ s.mode ≠ .test ∧ ringState s d63.ring = 1 ∧ s.get (Reg.HR_CFG_TYPE d63.ring) = 0 ∧
    ringUsed s d63.ring ≠ 0 ∧ s.hif.retries.get (fun _ => 0) d63.ring = 0 ∧ cqValid s d63.ring = true ∧ canReserve s (cqOf s d63.ring) 1 = true ∧
    true = phaseOf (s.get (Reg.HR_CONS_GEN d63.ring)) ∧ d63.fence = false ∧ d63.timed = false) ∧
    ∃ u, u = { s with hif := { s.hif with retries := s.hif.retries.set (fun _ => 0) d63.ring 0 } } ∧ roomFor u (0 : BitVec 16).toNat d63 = true :=
  ⟨st (ringRegs 0), by decide +kernel, _, rfl, by decide +kernel⟩
theorem wit_HostAccess_9 : ∃ s : State, s.mode ≠ .boot ∧ s.mode ≠ .test ∧ ringState s d63.ring = 1 ∧ s.get (Reg.HR_CFG_TYPE d63.ring) = 0 ∧
    ringUsed s d63.ring ≠ 0 ∧ s.hif.retries.get (fun _ => 0) d63.ring ≠ 0 ∧ cqValid s d63.ring = true ∧ canReserve s (cqOf s d63.ring) 1 = true ∧
    false ≠ phaseOf (s.get (Reg.HR_CONS_GEN d63.ring)) := ⟨stH (ringRegs 0) (fun h => { h with retries := [(63, 8)] }), by decide +kernel⟩
theorem wit_HostAccess_9b : ∃ s : State, (s.mode ≠ .boot ∧ s.mode ≠ .test ∧ ringState s d63.ring = 1 ∧ s.get (Reg.HR_CFG_TYPE d63.ring) = 0 ∧
    ringUsed s d63.ring ≠ 0 ∧ s.hif.retries.get (fun _ => 0) d63.ring ≠ 0 ∧ cqValid s d63.ring = true ∧ canReserve s (cqOf s d63.ring) 1 = true ∧
    true = phaseOf (s.get (Reg.HR_CONS_GEN d63.ring)) ∧ d63.fence = false ∧ d63.timed = false) ∧
    ∃ u, u = { s with hif := { s.hif with retries := s.hif.retries.set (fun _ => 0) d63.ring 0 } } ∧ roomFor u (0 : BitVec 16).toNat d63 = true :=
  ⟨stH (ringRegs 0) (fun h => { h with retries := [(63, 1)] }), by decide +kernel, _, rfl,
    by decide +kernel⟩
theorem wit_HostAccess_10 : ∃ (w : Waiting) (sp : OpSpec) (s : State), firstDue s = some (w, sp) :=
  ⟨⟨1, 0, d63, 0, none⟩, _, stH [] (fun h => { h with waiting := [⟨1, 0, d63, 0, none⟩] }), by rfl⟩
theorem wit_HostAccess_11 : ∃ s : State, s.hif.notif.get (fun _ => 0) (63 : Fin 64) ≠ 0 ∧ s.get (Reg.HR_COAL_US (63 : Fin 64)) ≠ 0 ∧
    ringState s (63 : Fin 64) = 1 ∧ s.hif.oldest.get (fun _ => 0) (63 : Fin 64) + s.get (Reg.HR_COAL_US (63 : Fin 64)) * 1000 ≤ s.tb.ao :=
  ⟨stH ((Reg.HR_COAL_US 63, 1) :: ringRegs 1) (fun h => { h with notif := [(63, 1)] }), by decide +kernel⟩

/-- SERVICE with the link up and DMA permitted. -/
def linked : State := st ((Reg.HIF_STAT_LINK_UP, 1) :: (Reg.HIF_STAT_BME, 1) :: ringRegs 0)

theorem wit_PcieEvents_1 : ringState linked (63 : Fin 64) = 1 ∧ pcieRuns linked = true ∧ linked.bit Reg.HIF_STAT_LINK_UP = true ∧
    linked.bit Reg.HIF_STAT_BME = true ∧ linked.hif.d3hot = false := by decide +kernel
theorem wit_PcieEvents_6 : pcieRuns (st []) = true ∧ (st []).bit Reg.HIF_STAT_LINK_UP = false := by decide +kernel
theorem wit_PcieEvents_9 : ∃ s : State, pcieRuns s = true ∧ s.bit Reg.HIF_STAT_LINK_UP = true ∧ s.dmaOk = false :=
  ⟨st [(Reg.HIF_STAT_LINK_UP, 1)], by decide +kernel⟩
theorem wit_PcieEvents_10 : ∃ a, pcieRuns (st []) = true ∧ (19 : Fin 32).val ≤ 19 ∧ runAbort (st []) 0 (19 : Fin 32) 0 0 = some a :=
  ⟨_, by decide +kernel, by decide +kernel, rfl⟩
theorem wit_PcieEvents_11 : ∃ a, pcieRuns linked = true ∧ linked.get (Reg.HR_CFG_TYPE (63 : Fin 64)) ≠ 1 ∧
    runAbort linked 2 0 (63 : Fin 64) 0 = some a := ⟨_, by decide +kernel, by decide +kernel, rfl⟩
theorem wit_PcieEvents_12 : ∃ s : State, bitOf s.sys.engReset (18 + (1 : Fin 2)) = true ∧ s.tb.running = true ∧ supervisorsDown s = false :=
  ⟨(st []).setSys (fun y => { y with engReset := 2 ^ 19 }), by decide +kernel⟩

/-- A state in RECOVERY, not of the ROM. -/
def recovery (l : List (Field × Nat)) : State := atC 1000000000 ((Reg.GEN_MODE_MODE, 3) :: l)

theorem wit_HostCommands_1 : Accepts nopOp (st []) (dsc []) := accepts_of (by decide +kernel)
theorem wit_HostCommands_2 : ∃ d e, (Accepts modeSetOp (st []) d ∧ d.u8 16 = 1 ∧ (taken (st []) d).mode = .service) ∧
    Accepts modeSetOp (st []) e ∧ e.u8 16 = 3 ∧ (taken (st []) e).mode = .service :=
  ⟨dsc [(16, 1)], dsc [(16, 3)], ⟨accepts_of (by decide +kernel), by decide +kernel⟩, accepts_of (by decide +kernel), by decide +kernel⟩
theorem wit_HostCommands_4 : ∃ s d, Accepts modeSetOp s d ∧ d.u8 16 = 2 ∧ (taken s d).mode = .recovery ∧
    (taken s d).bit Reg.GEN_MODE_ROM_REC = false ∧ refuseBits (taken s d) = 0 :=
  ⟨recovery [(Reg.FAB_SMEAS_VALID, 1), (Reg.FAB_SMEAS_S_MEAS, 65535), (Reg.SAT_STAT_KAT_OK, 1), (Reg.SYN_APLL_STAT_LOCK, 7),
    (Reg.SAT_STAT_DRBG_OK, 1)], dsc [(16, 2)], accepts_of (by decide +kernel), by decide +kernel⟩
theorem wit_HostCommands_5 : ∃ d, Accepts ringSetOp (st []) d ∧ ringState (taken (st []) d) (d.u8 16) = 0 :=
  ⟨dsc [(16, 63)], accepts_of (by decide +kernel), by decide +kernel⟩
theorem wit_HostCommands_6 : ∃ (s : State) (d : Desc) (l : LongOp), Accepts longCtlOp s d ∧ d.u8 19 = 0 ∧ longFor (taken s d) d = some l ∧
    l.suspended = false ∧ l.opcode ≠ 0x0010 :=
  ⟨st1 [] (long 0x02A2 0 desc), dsc [(16, 0xA2), (17, 2)], long 0x02A2 0 desc, accepts_of (by decide +kernel), by decide +kernel⟩
theorem wit_HostCommands_7 : ∃ (d : Desc) (a : AbortDone), (st []).mode ≠ .boot ∧ (st []).mode ≠ .test ∧ d.flags.toNat < 64 ∧ d.byte3 = 0 ∧
    modeAccepts (taken (st []) d).mode 2 = true ∧ abortBad (taken (st []) d) d = false ∧
    runAbort (taken (st []) d) (d.u8 16) (d.u8 18) (d.u8 20) (d.u32 24) = some a :=
  ⟨dsc [(18, 19)], _, by decide +kernel, by decide +kernel, by decide +kernel, by decide +kernel, by decide +kernel, by decide +kernel, rfl⟩
theorem wit_Smbus_1 : (atC 5 [(Reg.GEN_MODE_MODE, 5)]).mode = .test := by decide +kernel
theorem wit_Smbus_2 : ∃ s : State, s.mode ≠ .test ∧ s.sys.snap.get (fun _ => []) 9 ≠ [] ∧ s.sys.alert &&& s.sys.alertMask ≠ 0 :=
  ⟨(st []).setSys (fun y => { y with snap := [(9, [0])], alert := 8, alertMask := 15 }), by decide +kernel⟩

/-- SERVICE with the fabric's own state. -/
def stF (l : List (Field × Nat)) (f : Fab → Fab) : State := { st l with fab := f State.reset.fab }

/-- A transfer as the fabric takes it up: read (0) of 16 beats by master m at address a, with the decode check passed. -/
def taking (s : State) (m : Fin 23) (a : Word64) : State :=
  checkAt (clearAnswers s) 0x1B (fabTarget (clearAnswers s) m a.toNat).isNone a.toNat m (0 : Fin 8) 0

theorem wit_FabricEvents_1 : (0x22000000 : Word64).toNat % 512 + 32 * ((15 : Fin 16) + 1) ≤ 512 ∧
    fabTarget (taking (st []) 22 0x22000000) (22 : Fin 23) (0x22000000 : Word64).toNat = none := by decide +kernel
theorem wit_FabricEvents_2 : (0x08000000 : Word64).toNat % 512 + 32 * ((15 : Fin 16) + 1) ≤ 512 ∧
    fabTarget (taking (st []) 0 0x08000000) (0 : Fin 23) (0x08000000 : Word64).toNat = some .t1 ∧
    (if isWrite (0 : Fin 8) then mayWrite (0 : Fin 23) .t1 else mayRead (0 : Fin 23) .t1) = false := by decide +kernel
theorem wit_FabricEvents_2b : (0x10FFFE00 : Word64).toNat % 512 + 32 * ((15 : Fin 16) + 1) ≤ 512 ∧
    fabTarget (taking (st []) 15 0x10FFFE00) (15 : Fin 23) (0x10FFFE00 : Word64).toNat = some .t0 ∧
    (if isWrite (0 : Fin 8) then mayWrite (15 : Fin 23) .t0 else mayRead (15 : Fin 23) .t0) = true ∧ (0 : Fin 8) ≠ 3 ∧ (0 : Fin 8) ≠ 4 ∧
    Target.t0 ≠ .t7 ∧ lockOn (taking (st []) 15 0x10FFFE00) Target.t0.num = none := by decide +kernel
theorem wit_FabricEvents_2c : (0xFFFFFFFFFFFFFE00 : Word64).toNat % 512 + 32 * ((15 : Fin 16) + 1) ≤ 512 ∧
    fabTarget (taking (st []) 20 0xFFFFFFFFFFFFFE00) (20 : Fin 23) (0xFFFFFFFFFFFFFE00 : Word64).toNat = some .t7 ∧
    (if isWrite (0 : Fin 8) then mayWrite (20 : Fin 23) .t7 else mayRead (20 : Fin 23) .t7) = true ∧ (0 : Fin 8) ≠ 3 ∧
    (taking (st []) 20 0xFFFFFFFFFFFFFE00).dmaOk = false := by decide +kernel
theorem wit_FabricEvents_2d : ∃ s : State, fabTarget (taking s 15 0x04100000) (15 : Fin 23) (0x04100000 : Word64).toNat = some .t2data ∧
    (if isWrite (0 : Fin 8) then mayWrite (15 : Fin 23) .t2data else mayRead (15 : Fin 23) .t2data) = true ∧ Target.t2data ≠ .t7 ∧
    lockOn (taking s 15 0x04100000) Target.t2data.num = some 18 ∧ 18 ≠ (15 : Fin 23).val :=
  ⟨stF [] (fun f => { f with locks := [(2, (19, 0, 0x04100000))] }), by decide +kernel⟩
theorem wit_FabricEvents_3 : ∃ s : State, lockOn s (7 : Fin 8) = some 22 ∧
    (s.fab.locks.get (fun _ => (0, 0, 0)) (7 : Fin 8)).2.1 + s.get Reg.FAB_CFG_LOCK_TMO * 1000 ≤ s.tb.ao :=
  ⟨stF [(Reg.FAB_CFG_LOCK_TMO, 255)] (fun f => { f with locks := [(7, (23, 0, 0))] }), by decide +kernel⟩

/-- The state once a result has joined the landing buffer. -/
def landed (s : State) : State :=
  { settleLanding s with fab := { (settleLanding s).fab with
    landing := (settleLanding s).fab.landing ++ [(s.tb.cyc, (19 : Fin 20).val, (2 : Fin 3).val)] } }

theorem wit_FabricEvents_4 : (settleLanding (st [])).fab.landing.length < 20 ∧
    (landed (st [])).get Reg.FAB_STAT_LAND_MAX < (landed (st [])).fab.landing.length := by decide +kernel
theorem wit_FabricEvents_4b : ∃ s : State, (settleLanding s).fab.landing.length < 20 ∧
    (landed s).fab.landing.length ≤ (landed s).get Reg.FAB_STAT_LAND_MAX := ⟨st [(Reg.FAB_STAT_LAND_MAX, 1)], by decide +kernel⟩
theorem wit_FabricEvents_6 : (st [(Reg.FAB_CFG_SCRUB_EN, 1)]).bit Reg.FAB_CFG_SCRUB_EN = true := by decide +kernel
theorem wit_FabricEvents_7 : (st []).atMs = true ∧ (st []).mode ≠ .test := by decide +kernel
theorem wit_FabricEvents_8 : ∃ s : State, plannerRuns s = true ∧ s.reached (100 * msU) 0 = true ∧ tracks s = false :=
  ⟨st [(Reg.FAB_PLAN_CFG_PLAN_EN, 0)], by decide +kernel⟩
theorem wit_FabricEvents_8b : ∃ s : State, plannerRuns s = true ∧ s.reached (100 * msU) 0 = true ∧ tracks s = true ∧ s.fab.lastStep = none ∧
    vCmd s < s.get Reg.PWR_VLIM_VFAB_MAX ∧ sMeas s * 100 < s.get Reg.FAB_PLAN_CFG_S_TGT * 16384 :=
  ⟨st [(Reg.FAB_PLAN_CFG_PLAN_EN, 1), (Reg.FAB_PLAN_CFG_TRACK, 1), (Reg.PWR_AVS_STAT_VFAB_CMD, 0), (Reg.PWR_VLIM_VFAB_MAX, 800),
    (Reg.FAB_PLAN_CFG_S_TGT, 105), (Reg.FAB_SMEAS_S_MEAS, 0)], by decide +kernel⟩
theorem wit_FabricEvents_9 : ∃ (s : State) (v : BitVec 10), s.mode ≠ .test ∧ bitOf s.sys.engReset 19 = false ∧ s.fab.stepStop = false ∧
    vCmd s ≤ v.toNat + 10 ∧ v.toNat ≤ vCmd s + 10 ∧
    ∃ u, u = (s.put Reg.PWR_AVS_RD_VREAD v.toNat).put Reg.PWR_AVS_RD_IREAD (0 : BitVec 16).toNat ∧ vCmd u = vCmd s ∧ u.flt.inj = none :=
  ⟨st [(Reg.PWR_AVS_STAT_VFAB_CMD, 800)], 810, by decide +kernel, by decide +kernel, by decide +kernel, by decide +kernel, by decide +kernel, _, rfl,
    by decide +kernel⟩
theorem wit_FabricEvents_10 : plannerRuns (st []) = true ∧ (st []).mode ≠ .recovery := by decide +kernel
theorem wit_FabricEvents_11 : ∃ s : State, s.fab.firstService = some 0 ∧ plannerRuns s = true ∧ s.reached (3600 * secU) 0 = true ∧ s.fab.corrN = 0 :=
  ⟨{ atC 3600000000000 [(Reg.GEN_MODE_MODE, 2)] with fab := { State.reset.fab with firstService := some 0 } }, by decide +kernel⟩

/-- SERVICE with a sweep of the given monitors running. -/
def sweeping (l : List Nat) : State := { st1 [] (long 0x02B0 0 desc) with fab := { State.reset.fab with sweepLeft := l } }

theorem wit_FabricEvents_12 : longOp (sweeping []) 0x02B0 0 = some (long 0x02B0 0 desc) ∧ ∃ u v,
    u = (((sweeping []).fab.sweepLeft.take ([] : List (BitVec 16)).length).zip ([] : List (BitVec 16))).foldl (fun s p => sweepOne s p.1 p.2.toNat) (sweeping []) ∧
    v = { u with fab := { u.fab with sweepLeft := u.fab.sweepLeft.drop ([] : List (BitVec 16)).length } } ∧ v.fab.sweepLeft = [] :=
  ⟨by decide +kernel, _, _, rfl, rfl, by decide +kernel⟩
theorem wit_FabricEvents_12b : longOp (sweeping [63]) 0x02B0 0 = some (long 0x02B0 0 desc) ∧ ∃ u v,
    u = (((sweeping [63]).fab.sweepLeft.take ([] : List (BitVec 16)).length).zip ([] : List (BitVec 16))).foldl (fun s p => sweepOne s p.1 p.2.toNat) (sweeping [63]) ∧
    v = { u with fab := { u.fab with sweepLeft := u.fab.sweepLeft.drop ([] : List (BitVec 16)).length } } ∧ v.fab.sweepLeft ≠ [] :=
  ⟨by decide +kernel, _, _, rfl, rfl, by decide +kernel⟩
theorem wit_MarginCommands_1 : Accepts marginSweepOp (st []) (dsc []) ∧ longOp (taken (st []) (dsc [])) 0x02B0 0 = none :=
  ⟨accepts_of (by decide +kernel), by decide +kernel⟩
theorem wit_MarginCommands_2 : Accepts fabSetOp (st []) (dsc [(18, 8)]) ∧ bitOf ((dsc [(18, 8)]).u16 18) 4 = false :=
  ⟨accepts_of (by decide +kernel), by decide +kernel⟩
theorem wit_MarginCommands_3 : ∃ s d, Accepts marginReportOp s d ∧ (taken s d).dmaOk = true :=
  ⟨st [(Reg.HIF_STAT_LINK_UP, 1), (Reg.HIF_STAT_BME, 1)], dsc [(16, 64)], accepts_of (by decide +kernel), by decide +kernel⟩
theorem wit_MarginCommands_3b : Accepts marginReportOp (st []) (dsc [(16, 64)]) ∧ (taken (st []) (dsc [(16, 64)])).dmaOk = false :=
  ⟨accepts_of (by decide +kernel), by decide +kernel⟩
theorem wit_MarginCommands_4 : ∃ d e, (Accepts synSetOp (st []) d ∧ d.u8 16 = 2) ∧ Accepts synSetOp (st []) e ∧ e.u8 16 = 3 :=
  ⟨dsc [(16, 2)], dsc [(16, 3)], ⟨accepts_of (by decide +kernel), by decide +kernel⟩, accepts_of (by decide +kernel), by decide +kernel⟩
theorem wit_MarginCommands_5 : ∃ d e, (Accepts synSetOp (st []) d ∧ d.u8 16 = 16) ∧ Accepts synSetOp (st []) e ∧ e.u8 16 = 27 :=
  ⟨dsc [(16, 16)], dsc [(16, 27)], ⟨accepts_of (by decide +kernel), by decide +kernel⟩, accepts_of (by decide +kernel), by decide +kernel⟩

/-- SERVICE with observation's own state. -/
def stObs (l : List (Field × Nat)) (f : Obs → Obs) : State := (st l).setObs f

/-- A trace record in staging, not yet delivered anywhere. -/
def stagedRec : Staged := ⟨⟨1, false, 0, 0, []⟩, false, false, 0, false⟩

theorem wit_ObservationActs_1 : ∃ u, u = State.reset.perf 0x020 (15 : Fin 16) ((0 : BitVec 24).toNat + 1) ∧
    u.bit Reg.OBS_SMP_CFG_EN = false := ⟨_, rfl, by decide +kernel⟩
theorem wit_ObservationActs_2 : ∃ s u : State, u = s.perf 0x020 (15 : Fin 16) ((0 : BitVec 24).toNat + 1) ∧
    u.bit Reg.OBS_SMP_CFG_EN = true ∧ u.mapBit Reg.OBS_SMP_CFG_MASK (15 : Fin 16) = true ∧ bitOf u.sys.engReset (15 : Fin 16) = false ∧
    (0 : BitVec 24).toNat + 1 < u.obs.countdown.get (fun _ => 0) (15 : Fin 16) :=
  ⟨stObs [(Reg.OBS_SMP_CFG_EN, 1), (Reg.OBS_SMP_CFG_MASK, 32768)] (fun o => { o with countdown := [(15, 2)] }), _, rfl, by decide +kernel⟩
theorem wit_ObservationActs_2b : ∃ s u : State, u = s.perf 0x020 (15 : Fin 16) ((0 : BitVec 24).toNat + 1) ∧
    u.bit Reg.OBS_SMP_CFG_EN = true ∧ u.mapBit Reg.OBS_SMP_CFG_MASK (15 : Fin 16) = true ∧ bitOf u.sys.engReset (15 : Fin 16) = false ∧
    u.obs.countdown.get (fun _ => 0) (15 : Fin 16) ≤ (0 : BitVec 24).toNat + 1 :=
  ⟨stObs [(Reg.OBS_SMP_CFG_EN, 1), (Reg.OBS_SMP_CFG_MASK, 32768)] (fun o => { o with countdown := [(15, 1)] }), _, rfl, by decide +kernel⟩
theorem wit_ObservationActs_3 : (st []).reached ((st []).obs.bwWin.get (fun _ => 100) (7 : Fin 8) * msU) 0 = true := by decide +kernel
theorem wit_ObservationActs_4 : ∃ (s : State) (r : Staged), s.bit Reg.OBS_TRC_CFG_PORT = true ∧ s.mode ≠ .boot ∧ s.mode ≠ .test ∧
    s.obs.staged.find? (fun r => !r.port) = some r :=
  ⟨stObs [(Reg.OBS_TRC_CFG_PORT, 1)] (fun o => { o with staged := [stagedRec] }), stagedRec, by decide +kernel⟩
theorem wit_ObservationActs_5 : ∃ (s : State) (r : Nat) (x : Staged), r = s.get Reg.OBS_TRC_CFG_RING ∧ s.bit Reg.OBS_TRC_CFG_RING_EN = true ∧
    ringState s r = 1 ∧ s.get (Reg.HR_CFG_TYPE r) = 5 ∧ s.dmaOk = true ∧ ringUsed s r < ringSize s r ∧
    s.obs.staged.find? (fun r => !r.ring) = some x :=
  ⟨stObs ((Reg.OBS_TRC_CFG_RING_EN, 1) :: (Reg.OBS_TRC_CFG_RING, 63) :: (Reg.HR_CFG_TYPE 63, 5) :: (Reg.HR_STAT_STATE 63, 1) ::
    (Reg.HIF_STAT_LINK_UP, 1) :: (Reg.HIF_STAT_BME, 1) :: []) (fun o => { o with staged := [stagedRec] }), 63, stagedRec, by decide +kernel⟩
theorem wit_ObservationActs_6 : ∃ (s : State) (x : Staged), s.mode ≠ .test ∧ s.bit Reg.OBS_TRC_CFG_WIN = true ∧
    s.obs.staged.find? (fun r => !r.win) = some x :=
  ⟨stObs [(Reg.OBS_TRC_CFG_WIN, 1)] (fun o => { o with staged := [stagedRec] }), stagedRec, by decide +kernel⟩
theorem wit_ObservationActs_7 : (st []).mode ≠ .test ∧ (st []).bit Reg.OBS_TRC_CFG_WIN = false := by decide +kernel
theorem wit_ObservationActs_10 : (su []).mode = .setup := by decide +kernel
theorem wit_ObservationActs_12 : (atC 5 []).mode ≠ .test ∧ (atC 5 []).mode = .boot ∧ (136 : Fin 1024).val ≤ 136 := by decide +kernel
theorem wit_ObservationActs_12b : ∃ s : State, s.mode ≠ .test ∧ (136 : Fin 1024).val ≤ 136 ∧ s.mode ≠ .boot ∧ s.obs.grantAt ≠ some s.tb.cyc ∧
    s.mapBit (Reg.OBS_GRANT_GRANT ((136 : Fin 1024).val / 32)) ((136 : Fin 1024).val % 32) = true :=
  ⟨st [(Reg.OBS_GRANT_GRANT 4, 256)], by decide +kernel⟩
theorem wit_ObservationActs_12c : (st []).mode ≠ .test ∧ (0 : Fin 1024).val ≤ 136 ∧ (st []).mode ≠ .boot ∧
    (st []).obs.grantAt ≠ some (st []).tb.cyc ∧
    (st []).mapBit (Reg.OBS_GRANT_GRANT ((0 : Fin 1024).val / 32)) ((0 : Fin 1024).val % 32) = false := by decide +kernel

/-- A state with a journal export under way, from JIDX 0 to before JIDX `stop`. -/
def exporting (stop : Nat) : State := { linked with
  obs := { State.reset.obs with exp := some ⟨0, stop, none, 0, 0, false⟩ }
  hif := { State.reset.hif with longs := [long 0x02E0 0 desc] } }

theorem wit_ObservationActs_13 : ∃ (s u : State) (l : LongOp) (e x : Export), longOp s 0x02E0 0 = some l ∧ s.obs.exp = some e ∧
    l.suspended = false ∧ s.dmaOk = true ∧ exportBurst (0 + 1) s e = (u, x) ∧
    exportAtEnd { u with obs := { u.obs with exp := some x } } x = true :=
  ⟨exporting 0, _, long 0x02E0 0 desc, ⟨0, 0, none, 0, 0, false⟩, _, by decide +kernel, by decide +kernel, by decide +kernel, by decide +kernel,
    rfl, by decide +kernel⟩
theorem wit_ObservationActs_13b : ∃ (s u : State) (l : LongOp) (e x : Export), longOp s 0x02E0 0 = some l ∧ s.obs.exp = some e ∧
    l.suspended = false ∧ s.dmaOk = true ∧ exportBurst (0 + 1) s e = (u, x) ∧
    exportAtEnd { u with obs := { u.obs with exp := some x } } x = false ∧ l.cancelReq = false ∧ l.suspReq = false :=
  ⟨{ exporting 2 with regs := (Reg.OBS_JRNL_HEAD_JIDX.key, 2) :: linked.regs }, _, long 0x02E0 0 desc, ⟨0, 2, none, 0, 0, false⟩, _,
    by decide +kernel, by decide +kernel, by decide +kernel, by decide +kernel, rfl, by decide +kernel⟩
theorem wit_ObservationCommands_1 : ∃ d, Accepts obsSetOp (st []) d ∧ d.u16 16 < 1024 ∧ d.u16 18 = 1 :=
  ⟨dsc [(16, 255), (17, 3), (18, 1)], accepts_of (by decide +kernel), by decide +kernel⟩
theorem wit_ObservationCommands_2 : ∃ d, Accepts obsSetOp (st []) d ∧ d.u16 16 = 0xFFFF ∧ bitOf (d.u16 18) 4 = false :=
  ⟨dsc [(16, 255), (17, 255), (18, 1)], accepts_of (by decide +kernel), by decide +kernel⟩
theorem wit_ObservationCommands_3 : Accepts obsSnapOp (st []) (dsc []) ∧ (dsc []).u8 16 = 0 :=
  ⟨accepts_of (by decide +kernel), by decide +kernel⟩
theorem wit_ObservationCommands_4 : Accepts obsSnapOp (st []) (dsc [(16, 2)]) ∧ (dsc [(16, 2)]).u8 16 ≠ 0 :=
  ⟨accepts_of (by decide +kernel), by decide +kernel⟩
theorem wit_ObservationCommands_5 : Accepts obsGrantOp (st []) (dsc [(33, 1)]) := accepts_of (by decide +kernel)
theorem wit_ObservationCommands_6 : ∃ s d, Accepts journalExportOp s d ∧ longOp (taken s d) 0x02E0 0 = none ∧
    jrnlRetained (taken s d) (d.u32 24) = true :=
  ⟨st [(Reg.OBS_JRNL_HEAD_JIDX, 1)], dsc [(28, 1)], accepts_of (by decide +kernel), by decide +kernel⟩

/-- SERVICE with the fault collector's own state. -/
def stFlt (l : List (Field × Nat)) (f : Flt → Flt) : State := { st l with flt := f State.reset.flt }

/-- An event of FLT_VOTE delivered at AO time 0. -/
def vote : FltEvent := ⟨0, 0, 0, 0, 0, 0, false, false, 0, true⟩

theorem wit_FaultEvents_1 : srcValid (0x00 : Byte).toNat ≠ 0 ∧ srcValid (0x82 : Byte).toNat ≠ 0 := by decide +kernel
theorem wit_FaultEvents_2 : ∃ s : State, s.flt.events.filter (fun e => e.ao + 200 ≤ s.tb.ao) = vote :: [] :=
  ⟨stFlt [] (fun f => { f with events := [vote] }), by decide +kernel⟩
theorem wit_FaultEvents_2b : ∃ s : State, s.flt.events.filter (fun e => e.ao + 200 ≤ s.tb.ao) = vote :: [vote] :=
  ⟨stFlt [] (fun f => { f with events := [vote, { vote with ao := 1000000000 }, vote] }), by decide +kernel⟩
theorem wit_FaultEvents_3 : ∃ (s : State) (n : Net), s.flt.net = some n ∧ s.bit Reg.FLT_STAT_SAFE = false ∧ s.sys.inReset = false :=
  ⟨stFlt [] (fun f => { f with net := some ⟨0, 2, 0, 0, 0⟩ }), ⟨0, 2, 0, 0, 0⟩, by decide +kernel⟩
theorem wit_FaultEvents_4 : ∃ s : State, s.flt.wins = [⟨0x60, [0x10], 0, 0, 0, 0, some 1000000001⟩] ∧ s.tb.ao < 1000000001 :=
  ⟨stFlt [] (fun f => { f with wins := [⟨0x60, [0x10], 0, 0, 0, 0, some 1000000001⟩] }), by decide +kernel⟩
theorem wit_FaultEvents_5 : ∃ s : State, s.flt.wins = [⟨0x60, [0x10], 0, 0, 0, 0, some 1000000000⟩] ∧ 1000000000 ≤ s.tb.ao :=
  ⟨stFlt [] (fun f => { f with wins := [⟨0x60, [0x10], 0, 0, 0, 0, some 1000000000⟩] }), by decide +kernel⟩
theorem wit_FaultEvents_6 : bitOf (st []).sys.engReset (19 : Fin 20) = false := by decide +kernel
theorem wit_FaultEvents_7 : (699 : BitVec 16).toNat < (railLimits (0 : Fin 6)).1 ∧ (railLimits (5 : Fin 6)).2 < (3631 : BitVec 16).toNat := by
  decide +kernel
theorem wit_FaultEvents_10 : ∃ (s : State) (j : Inj), s.flt.inj = some j ∧ j.since + 1000000000 ≤ s.freeNs ∧ ¬(0x21 ≤ j.src ∧ j.src ≤ 0x26) :=
  ⟨stFlt [] (fun f => { f with inj := some ⟨0x27, 0, false, 0⟩ }), ⟨0x27, 0, false, 0⟩, by decide +kernel⟩
theorem wit_FaultCommands_1 : ∃ d, Accepts fltSetOp (st []) d ∧ d.u16 16 = 0xFFFF ∧ bitOf (d.u16 18) 0 = true :=
  ⟨dsc [(16, 255), (17, 255), (18, 1)], accepts_of (by decide +kernel), by decide +kernel⟩
theorem wit_FaultCommands_2 : ∃ d, Accepts fltSetOp (st []) d ∧ d.u16 16 ≠ 0xFFFF ∧ bitOf (d.u16 18) 0 = true :=
  ⟨dsc [(16, 0x82), (18, 1), (20, 2)], accepts_of (by decide +kernel), by decide +kernel⟩
theorem wit_FaultCommands_3 : ∃ d, Accepts fltInjectOp (st []) d ∧ (taken (st []) d).flt.inj = none ∧ bitOf (d.u8 17) 0 = false ∧
    ¬(0x21 ≤ d.u8 16 ∧ d.u8 16 ≤ 0x26) := ⟨dsc [(16, 0x20)], accepts_of (by decide +kernel), by decide +kernel⟩
theorem wit_FaultCommands_4 : Accepts fltSafeOp (st []) (dsc []) := accepts_of (by decide +kernel)

/-- Unit A of a pair, in pair state `p`, both lanes synchronised and up, with the pair unit's own state. -/
def pairAt (p : Nat) (l : List (Field × Nat)) (f : Cnj → Cnj) : State :=
  { st (l ++ [(Reg.CNJ_STAT_PSTATE, p), (Reg.GEN_STRAP_PAIR_EN, 1), (Reg.CNJ_LSTAT_SYNC 0, 1), (Reg.CNJ_LSTAT_SYNC 1, 1),
      (Reg.CNJ_LSTAT_UP 0, 1), (Reg.CNJ_LSTAT_UP 1, 1), (Reg.CNJ_STAT_LINK_UP, 1), (Reg.CNJ_CFG_Q58, 0), (Reg.CNJ_CFG_DETECT, 0)]) with
    cnj := f State.reset.cnj }

/-- Unit B of a pair. -/
def pairB (p : Nat) (f : Cnj → Cnj) : State := pairAt p [(Reg.GEN_STRAP_UNIT_ID, 1)] f

/-- The header of a frame on lane 1 with FSEQ 65,535. -/
def hdr1 : LinkHdr := ⟨1, 65535, 0⟩

/-- A lane that heard a HEARTBEAT at the instant of these witnesses. -/
def heard (l : Nat) : SMap LinkLane := [(l, { LinkLane.zero with hbAt := some 1000000000 })]

theorem wit_PairLink_1 : ∃ s : State, pairRuns s = true ∧ since s s.cnj.hbTx 1000 = true :=
  ⟨pairAt 1 [] (fun c => { c with hbTx := some 999999000 }), by decide +kernel⟩
theorem wit_PairLink_2 : ∃ (s a b : State) (h : LinkHdr), laneTakes s (1 : Fin 2) = true ∧ h.lane = 1 ∧
    s.bit (Reg.CNJ_LSTAT_CROSSED (1 : Fin 2)) = false ∧ a = (takeCseq s h.cseq.toNat).putB (Reg.CNJ_LSTAT_CROSSED (1 : Fin 2)) false ∧
    b = showLane (a.setCl (1 : Fin 2) { a.cl (1 : Fin 2) with hbAt := some a.freeNs }) (1 : Fin 2) ∧ h.fseq.toNat ∈ b.cnj.seen :=
  ⟨pairAt 3 [] (fun c => { c with seen := [65535] }), _, _, hdr1, by decide +kernel, rfl, by decide +kernel, rfl, rfl, by decide +kernel⟩
theorem wit_PairLink_2b : ∃ (s a b : State) (h : LinkHdr), laneTakes s (1 : Fin 2) = true ∧ h.lane = 1 ∧
    s.bit (Reg.CNJ_LSTAT_CROSSED (1 : Fin 2)) = false ∧ a = (takeCseq s h.cseq.toNat).putB (Reg.CNJ_LSTAT_CROSSED (1 : Fin 2)) false ∧
    b = showLane (a.setCl (1 : Fin 2) { a.cl (1 : Fin 2) with hbAt := some a.freeNs }) (1 : Fin 2) ∧ h.fseq.toNat ∉ b.cnj.seen :=
  ⟨pairAt 3 [] id, _, _, hdr1, by decide +kernel, rfl, by decide +kernel, rfl, rfl, by decide +kernel⟩
theorem wit_PairLink_3 : pairRuns (pairAt 1 [] id) = true ∧ (pairAt 1 [] id).cnj.hbIn = none := by decide +kernel
theorem wit_PairLink_4 : ∃ s : State, pairRuns s = true ∧ s.cnj.hbIn = some 999998900 ∧ 999998900 + 900 ≤ s.freeNs ∧ s.freeNs ≤ 999998900 + 1100 ∧
    15 ≤ s.cnj.hbInRun := ⟨pairAt 3 [] (fun c => { c with hbIn := some 999998900, hbInRun := 15 }), by decide +kernel⟩
theorem wit_PairLink_5 : ∃ s u : State, pairRuns s = true ∧ s.bit Reg.CNJ_STAT_PEER_PRESENT = true ∧ peerSilent s = true ∧
    u = showLane (showLane (setPresent s false 3) (0 : Nat)) (1 : Nat) ∧ 2 ≤ pstate u ∧ pstate u ≤ 4 :=
  ⟨pairAt 3 [(Reg.CNJ_STAT_PEER_PRESENT, 1)] id, _, by decide +kernel, by decide +kernel, by decide +kernel, rfl, by decide +kernel⟩
theorem wit_PairLink_5b : ∃ s u : State, pairRuns s = true ∧ s.bit Reg.CNJ_STAT_PEER_PRESENT = true ∧ peerSilent s = true ∧
    u = showLane (showLane (setPresent s false 3) (0 : Nat)) (1 : Nat) ∧ (pstate u < 2 ∨ 4 < pstate u) :=
  ⟨pairAt 5 [(Reg.CNJ_STAT_PEER_PRESENT, 1)] id, _, by decide +kernel, by decide +kernel, by decide +kernel, rfl, by decide +kernel⟩
theorem wit_PairLink_6 : ∃ s : State, pairRuns s = true ∧ since s s.cnj.identTx (if pstate s = 3 then 1000000000 else 100000000) = true :=
  ⟨pairAt 3 [] (fun c => { c with identTx := some 0 }), by decide +kernel⟩
theorem wit_PairLink_7 : ∃ (s : State) (h : LinkHdr), laneTakes s (1 : Fin 2) = true ∧ h.fseq.toNat ∈ s.cnj.seen :=
  ⟨pairAt 3 [] (fun c => { c with seen := [65535] }), hdr1, by decide +kernel⟩
theorem wit_PairLink_7b : ∃ (s : State) (h : LinkHdr), laneTakes s (1 : Fin 2) = true ∧ h.fseq.toNat ∉ s.cnj.seen :=
  ⟨pairAt 3 [] id, hdr1, by decide +kernel⟩
theorem wit_PairLink_8 : ∃ (s u : State) (p : IdentPay), u = setPstate s 2 2 ∧ identDiffers u p = none :=
  ⟨pairAt 1 [] id, _, ⟨0x9600, 0x20, 1, 0, false, 0⟩, rfl, by decide +kernel⟩
theorem wit_PairLink_8b : ∃ (s u : State) (p : IdentPay), u = setPstate s 2 2 ∧ identDiffers u p = some (5, 0, 0) :=
  ⟨pairAt 1 [] id, _, ⟨0x9600, 0x20, 0, 0, false, 0⟩, rfl, by decide +kernel⟩
theorem wit_PairLink_9 : laneTakes (pairAt 3 [] id) (1 : Fin 2) = true := by decide +kernel
theorem wit_PairLink_10 : ∃ s : State, laneTakes s (1 : Fin 2) = true ∧ s.get Reg.CNJ_LINK_VIO_MAX < (recentVio s (1 : Fin 2)).length :=
  ⟨pairAt 3 [(Reg.CNJ_LINK_VIO_MAX, 1)] (fun c => { c with lanes := [(1, { LinkLane.zero with vio := [1000000000, 1] })] }), by decide +kernel⟩
theorem wit_PairLink_11 : pairRuns (pairAt 3 [] id) = true := by decide +kernel
theorem wit_PairLink_12 : ∃ s : State, pairRuns s = true ∧ hbFresh s (1 : Fin 2) = false ∧ pstate (showLane s (1 : Fin 2)) ≠ 5 :=
  ⟨pairAt 3 [] (fun c => { c with lanes := heard 0 }), by decide +kernel⟩
theorem wit_PairLink_12b : ∃ s u : State, pairRuns s = true ∧ hbFresh s (1 : Fin 2) = false ∧ u = showLane s (1 : Fin 2) ∧ pstate u = 5 ∧
    u.bit Reg.CNJ_STAT_LINK_UP = false ∧ u.cnj.downAt + 8000 ≤ u.freeNs :=
  ⟨((pairAt 5 [] id).putB Reg.CNJ_STAT_LINK_UP false).putB (Reg.CNJ_LSTAT_UP 0) false, _, by decide +kernel, by decide +kernel, rfl, by decide +kernel, by decide +kernel,
    by decide +kernel⟩

theorem wit_PairTransfer_1 : exchanges (pairAt 3 [] id) = true ∧ (pairAt 3 [] id).atMs = true := by decide +kernel
theorem wit_PairTransfer_2 : laneTakes (pairAt 3 [] id) (1 : Fin 2) = true := by decide +kernel
theorem wit_PairTransfer_3 : ∃ s : State, laneTakes s (1 : Fin 2) = true ∧ pstate (takeCseq s hdr1.cseq.toNat) ≠ 3 :=
  ⟨pairAt 4 [] id, by decide +kernel⟩
theorem wit_PairTransfer_3b : ∃ (s u : State) (p : PeerState), laneTakes s (1 : Fin 2) = true ∧ pstate (takeCseq s hdr1.cseq.toNat) = 3 ∧
    bitOf p.utc 0 = false ∧ bitOf p.utc 1 = false ∧ bitOf p.utc 2 = false ∧ u = settle (notePeer (takeCseq s hdr1.cseq.toNat) p) ∧
    nearest (u.cl (1 : Fin 2)).sent 0 = none :=
  ⟨pairAt 3 [] id, _, peer, by decide +kernel, by decide +kernel, by decide +kernel, by decide +kernel, by decide +kernel, rfl, by decide +kernel⟩
theorem wit_PairTransfer_3c : ∃ (s u : State) (p : PeerState), laneTakes s (1 : Fin 2) = true ∧ pstate (takeCseq s hdr1.cseq.toNat) = 3 ∧
    bitOf p.utc 0 = false ∧ bitOf p.utc 1 = false ∧ bitOf p.utc 2 = false ∧ u = settle (notePeer (takeCseq s hdr1.cseq.toNat) p) ∧
    nearest (u.cl (1 : Fin 2)).sent (130 : Nat) = some 128 ∧ nearest (u.cl (1 : Fin 2)).rcvd (0 : Nat) = some 256 ∧ openEpoch u = none :=
  ⟨pairAt 3 [] (fun c => { c with lanes := [(1, { LinkLane.zero with sent := [128, 0], rcvd := [256] })] }), _, peer, by decide +kernel,
    by decide +kernel, by decide +kernel, by decide +kernel, by decide +kernel, rfl, by decide +kernel⟩
theorem wit_PairTransfer_4 : ∃ (s : State) (k : KeySend), pairRuns s = true ∧ pstate s = 3 ∧ isUnitA s = true ∧
    s.cnj.keys.find? (keyDue s) = some k :=
  ⟨pairAt 3 [] (fun c => { c with keys := [⟨5, none, none, none, none⟩] }), ⟨5, none, none, none, none⟩, by decide +kernel⟩
theorem wit_PairTransfer_5 : ∃ s u v : State, laneTakes s (1 : Fin 2) = true ∧ u = takeCseq s hdr1.cseq.toNat ∧
    v = u.setCnj (fun c => { c with seen := (hdr1.fseq.toNat :: c.seen).take fseqKept }) ∧ hdr1.fseq.toNat ∉ u.cnj.seen ∧
    isUnitA v = false ∧ pstate v = 3 := ⟨pairB 3 id, _, _, by decide +kernel, rfl, rfl, by decide +kernel⟩
theorem wit_PairTransfer_5b : ∃ s u v : State, laneTakes s (1 : Fin 2) = true ∧ u = takeCseq s hdr1.cseq.toNat ∧
    v = u.setCnj (fun c => { c with seen := (hdr1.fseq.toNat :: c.seen).take fseqKept }) ∧ hdr1.fseq.toNat ∉ u.cnj.seen ∧
    isUnitA v = true := ⟨pairAt 3 [] id, _, _, by decide +kernel, rfl, rfl, by decide +kernel⟩
theorem wit_PairTransfer_6 : ∃ s : State, pairRuns s = true ∧ isUnitA s = false ∧ s.cnj.adopt = some (5, secU) ∧ secU ≤ s.tbU :=
  ⟨pairB 3 (fun c => { c with adopt := some (5, secU) }), by decide +kernel⟩
theorem wit_PairTransfer_7 : ∃ (s : State) (k : KeySend), pairRuns s = true ∧ isUnitA s = true ∧ s.cnj.keys.find? (keyDone s) = some k :=
  ⟨pairAt 3 [] (fun c => { c with keys := [⟨5, some secU, some 0, some 0, none⟩] }), ⟨5, some secU, some 0, some 0, none⟩, by decide +kernel⟩
theorem wit_PairTransfer_8 : ∃ (s : State) (n : Notice), pairRuns s = true ∧ s.cnj.notices = n :: [] :=
  ⟨pairAt 3 [] (fun c => { c with notices := [⟨1, 2, 0, 0⟩] }), ⟨1, 2, 0, 0⟩, by decide +kernel⟩
theorem wit_PairTransfer_9 : ∃ s u : State, laneTakes s (1 : Fin 2) = true ∧ u = takeCseq s hdr1.cseq.toNat ∧ hdr1.fseq.toNat ∉ u.cnj.seen :=
  ⟨pairAt 3 [] id, _, by decide +kernel, rfl, by decide +kernel⟩
theorem wit_PairTransfer_10 : Accepts seqKeyOp (st []) (dsc []) ∧ pairOperation (taken (st []) (dsc [])) = false :=
  ⟨accepts_of (by decide +kernel), by decide +kernel⟩

theorem wit_PairRole_1 : ∃ s u v : State, s.bit Reg.GEN_STRAP_PAIR_EN = true ∧ s.bit Reg.CNJ_STAT_SUBJ_IN = true ∧
    u = putStat s Reg.CNJ_STAT_SUBJ_IN 0 ∧ v = u.setCnj (fun c => { c with inLow := u.freeNs, guardFrom := u.freeNs }) ∧
    u.bit Reg.CNJ_CFG_Q58 = false ∧ role v ≠ 0 :=
  ⟨pairAt 3 [(Reg.CNJ_STAT_SUBJ_IN, 1), (Reg.CNJ_STAT_ROLE, 1)] id, _, _, by decide +kernel, by decide +kernel, rfl, rfl, by decide +kernel⟩
theorem wit_PairRole_1b : ∃ s u v : State, s.bit Reg.GEN_STRAP_PAIR_EN = true ∧ s.bit Reg.CNJ_STAT_SUBJ_IN = true ∧
    u = putStat s Reg.CNJ_STAT_SUBJ_IN 0 ∧ v = u.setCnj (fun c => { c with inLow := u.freeNs, guardFrom := u.freeNs }) ∧
    u.bit Reg.CNJ_CFG_Q58 = false ∧ role v = 0 :=
  ⟨pairAt 3 [(Reg.CNJ_STAT_SUBJ_IN, 1)] id, _, _, by decide +kernel, by decide +kernel, rfl, rfl, by decide +kernel⟩
theorem wit_PairRole_2 : ∃ s u v : State, s.bit Reg.GEN_STRAP_PAIR_EN = true ∧ s.bit Reg.CNJ_STAT_SUBJ_IN = false ∧
    u = putStat s Reg.CNJ_STAT_SUBJ_IN 1 ∧ v = dropDrivers (u.setCnj (fun c => { c with inHigh := u.freeNs })) true ∧
    u.bit Reg.CNJ_CFG_Q58 = false ∧ pairRuns (check v 0x7A (!driversOff v)) = false :=
  ⟨pairAt 0 [] id, _, _, by decide +kernel, by decide +kernel, rfl, rfl, by decide +kernel⟩
theorem wit_PairRole_2b : ∃ s u v : State, s.bit Reg.GEN_STRAP_PAIR_EN = true ∧ s.bit Reg.CNJ_STAT_SUBJ_IN = false ∧
    u = putStat s Reg.CNJ_STAT_SUBJ_IN 1 ∧ v = dropDrivers (u.setCnj (fun c => { c with inHigh := u.freeNs })) true ∧
    u.bit Reg.CNJ_CFG_Q58 = false ∧ pairRuns (check v 0x7A (!driversOff v)) = true ∧ role (check v 0x7A (!driversOff v)) = 3 :=
  ⟨pairAt 3 [(Reg.CNJ_STAT_ROLE, 3)] id, _, _, by decide +kernel, by decide +kernel, rfl, rfl, by decide +kernel⟩
theorem wit_PairRole_3 : (pairAt 0 [] id).bit Reg.GEN_STRAP_PAIR_EN = true := by decide +kernel
theorem wit_PairRole_4 : ∃ s u v : State, pairRuns s = true ∧ s.bit Reg.GEN_STRAP_PAIR_EN = true ∧ role s = 0 ∧ decisionD s = some true ∧
    s.bit Reg.CNJ_STAT_SUBJ_IN = false ∧ waited s = true ∧ u = setRole s 1 (roleCause s) 0 ∧
    v = u.setCnj (fun c => { c with subjOut := true, subjAt := u.freeNs, guardFrom := u.freeNs }) ∧ v.bit Reg.CNJ_CFG_Q58 = false :=
  ⟨pairAt 3 [] id, _, _, by decide +kernel, by decide +kernel, by decide +kernel, by decide +kernel, by decide +kernel, by decide +kernel, rfl,
    rfl, by decide +kernel⟩
theorem wit_PairRole_4a : ∃ s u v : State, (pairRuns s = true ∧ s.bit Reg.GEN_STRAP_PAIR_EN = true ∧ role s = 0 ∧ decisionD s = some true ∧
    s.bit Reg.CNJ_STAT_SUBJ_IN = false ∧ waited s = true) ∧ u = setRole s 1 (roleCause s) 0 ∧
    v = u.setCnj (fun c => { c with subjOut := true, subjAt := u.freeNs, guardFrom := u.freeNs }) ∧ v.bit Reg.CNJ_CFG_Q58 = true :=
  ⟨(pairAt 3 [] id).put Reg.CNJ_CFG_Q58 1, _, _, by decide +kernel, rfl, rfl, by decide +kernel⟩
theorem wit_PairRole_4b : ∃ s : State, pairRuns s = true ∧ s.bit Reg.GEN_STRAP_PAIR_EN = true ∧ role s = 1 ∧ decisionD s ≠ some true ∧
    isUnitA s = true := ⟨pairAt 3 [(Reg.CNJ_STAT_ROLE, 1)] (fun c => { c with yielding := some 1 }), by decide +kernel⟩
theorem wit_PairRole_4c : ∃ s : State, pairRuns s = true ∧ s.bit Reg.GEN_STRAP_PAIR_EN = true ∧ role s = 1 ∧ decisionD s = some true :=
  ⟨pairAt 3 [(Reg.CNJ_STAT_ROLE, 1)] id, by decide +kernel⟩
theorem wit_PairRole_5 : pairRuns (pairB 3 id) = true ∧ (pairB 3 id).bit Reg.GEN_STRAP_PAIR_EN = true ∧ role (pairB 3 id) = 0 ∧
    isUnitA (pairB 3 id) = false := by decide +kernel
theorem wit_PairRole_6 : ∃ s u v : State, pairRuns s = true ∧ role s = 1 ∧ s.bit Reg.CNJ_STAT_SUBJ_IN = false ∧
    s.cnj.guardFrom + s.get Reg.CNJ_TIME_T_GUARD ≤ s.freeNs ∧ decisionD s = some true ∧ u = setRole s 2 (roleCause s) 0 ∧
    v = endHand (showPair (raiseDrivers (u.setCnj (fun c => { c with take := none })))) 1 St.ok [] ∧ v.cnj.reh = none :=
  ⟨pairAt 3 [(Reg.CNJ_STAT_ROLE, 1), (Reg.CNJ_TIME_T_GUARD, 4095)] (fun c => { c with guardFrom := 1000000000 - 4095 }), _, _, by decide +kernel,
    by decide +kernel, by decide +kernel, by decide +kernel, by decide +kernel, rfl, rfl, by decide +kernel⟩
theorem wit_PairRole_7 : ∃ s u : State, pairRuns s = true ∧ s.cnj.urgent.isSome = true ∧ u = setDrv s (setBit s.cnj.drv (11 : Fin 12) false) ∧
    driversOff u = false :=
  ⟨pairAt 3 [(Reg.OUT_CFG_SHARED 0, 1)] (fun c => { c with urgent := some 0, drv := 1 }), _, by decide +kernel, by decide +kernel, rfl,
    by decide +kernel⟩
theorem wit_PairRole_7b : ∃ s u : State, pairRuns s = true ∧ s.cnj.urgent.isSome = true ∧ u = setDrv s (setBit s.cnj.drv (11 : Fin 12) false) ∧
    driversOff u = true :=
  ⟨pairAt 3 [(Reg.OUT_CFG_SHARED 11, 1)] (fun c => { c with urgent := some 0, drv := 2048 }), _, by decide +kernel, by decide +kernel, rfl,
    by decide +kernel⟩
theorem wit_PairRole_8 : ∃ s : State, pairRuns s = true ∧ s.cnj.urgent = none ∧ role s = 2 ∧ interlock s = true :=
  ⟨pairAt 3 [(Reg.CNJ_STAT_ROLE, 2)] (fun c => { c with subjOut := true }), by decide +kernel⟩
theorem wit_PairRole_9 : ∃ s : State, pairRuns s = true ∧ urgentDue s = true :=
  ⟨pairAt 3 [(Reg.CNJ_STAT_ROLE, 2)] (fun c => { c with urgent := some 0 }), by decide +kernel⟩
theorem wit_PairRole_10 : ∃ s : State, pairRuns s = true ∧ role s = 3 ∧ s.cnj.releasing + 1000000000 ≤ s.freeNs :=
  ⟨pairAt 3 [(Reg.CNJ_STAT_ROLE, 3)] id, by decide +kernel⟩
theorem wit_PairRole_11 : ∃ s : State, pairRuns s = true ∧ s.bit Reg.CNJ_CFG_REH_EN = true ∧ s.bit Reg.CNJ_CFG_DETECT = false ∧
    rehearsalDue s = true ∧ role s = 2 :=
  ⟨pairAt 3 [(Reg.CNJ_STAT_ROLE, 2), (Reg.CNJ_CFG_REH_EN, 1), (Reg.CNJ_REH_REH_H, 1), (Reg.CNJ_REH_REH_TOD, 1), (Reg.CNJ_REH1_REH_NS, 0)] id,
    by decide +kernel⟩
theorem wit_PairRole_12 : ∃ s : State, pairRuns s = true ∧ s.cnj.reh = some ⟨1, 0, 0⟩ ∧ (⟨1, 0, 0⟩ : Rehearse).phase = 1 ∧
    (⟨1, 0, 0⟩ : Rehearse).since + s.get Reg.CNJ_REH2_REH_DWELL * 1000000000 ≤ s.freeNs :=
  ⟨pairAt 3 [(Reg.CNJ_REH2_REH_DWELL, 1)] (fun c => { c with reh := some ⟨1, 0, 0⟩ }), by decide +kernel⟩
theorem wit_PairRole_13 : ∃ s u : State, pairRuns s = true ∧ s.cnj.yielding.isSome = true ∧ s.cnj.take = none ∧ role s = 0 ∧
    s.cnj.released + s.get Reg.CNJ_REH2_REH_LIM * 1000 ≤ s.freeNs ∧
    u = endHand (s.setCnj (fun c => { c with yielding := none })) 0 St.busy [] ∧ u.cnj.reh = none :=
  ⟨pairAt 3 [] (fun c => { c with yielding := some 1 }), _, by decide +kernel, by decide +kernel, by decide +kernel, by decide +kernel,
    by decide +kernel, rfl, by decide +kernel⟩
theorem wit_PairRole_13b : ∃ s u : State, pairRuns s = true ∧ s.cnj.yielding.isSome = true ∧ s.cnj.take = none ∧ role s = 0 ∧
    s.cnj.released + s.get Reg.CNJ_REH2_REH_LIM * 1000 ≤ s.freeNs ∧
    u = endHand (s.setCnj (fun c => { c with yielding := none })) 0 St.busy [] ∧ u.cnj.reh = some ⟨0, 0, 0⟩ ∧
    (⟨0, 0, 0⟩ : Rehearse).phase = 0 :=
  ⟨pairAt 3 [] (fun c => { c with yielding := some 1, reh := some ⟨0, 0, 0⟩ }), _, by decide +kernel, by decide +kernel, by decide +kernel,
    by decide +kernel, by decide +kernel, rfl, by decide +kernel⟩
theorem wit_PairRole_14 : ∃ (d : Desc) (u : State) (q : Nat), Accepts cnjSetOp (st []) d ∧ q = (taken (st []) d).get Reg.CNJ_CFG_Q58 ∧
    u = normReh ((storeMasked (taken (st []) d) d (d.u16 18) cnjAddrs).put Reg.CNJ_CFG_Q58 q) ∧
    u.get Reg.CNJ_CFG_DETECT = (taken (st []) d).get Reg.CNJ_CFG_DETECT ∧
    ∀ l < 2, u.get (Reg.CNJ_ASYM_A l) = (taken (st []) d).get (Reg.CNJ_ASYM_A l) :=
  ⟨dsc [], _, _, accepts_of (by decide +kernel), rfl, rfl, by decide +kernel⟩
theorem wit_PairRole_15 : ∃ (s : State) (d : Desc), Accepts handoverOp s d ∧ (taken s d).bit Reg.CNJ_CFG_DETECT = false ∧ pstate (taken s d) = 3 ∧
    peerFlag (taken s d) 0 = true ∧ handoverRuns (taken s d) = false ∧ d.u8 16 = 0 ∧ role (taken s d) = 2 :=
  ⟨pairAt 3 [(Reg.CNJ_STAT_ROLE, 2)] (fun c => { c with hb := some ⟨1, 2, 0, 3, 1, 2⟩ }), dsc [], accepts_of (by decide +kernel), by decide +kernel⟩
theorem wit_PairRole_15b : ∃ (s : State) (d : Desc), Accepts handoverOp s d ∧ (taken s d).bit Reg.CNJ_CFG_DETECT = false ∧ pstate (taken s d) = 3 ∧
    peerFlag (taken s d) 0 = true ∧ handoverRuns (taken s d) = false ∧ d.u8 16 = 1 ∧ role (taken s d) = 0 :=
  ⟨pairAt 3 [] (fun c => { c with hb := some ⟨1, 2, 2, 3, 1, 2⟩ }), dsc [(16, 1)], accepts_of (by decide +kernel), by decide +kernel⟩

/-- The first 252 bytes of a boot header: slot A active, none pending, 10 MHz by 0x6B, 750 mV, images at multiples of 64 KiB. -/
def hdrBytes : List Byte := leBytes 4 0x31484251 ++ [1, 0, 0xFF, 0x6B] ++ leBytes 4 10000000 ++ leBytes 2 750 ++ leBytes 2 2 ++
  List.replicate 236 0

/-- A good boot header. -/
def goodHdr : List Byte := hdrBytes ++ leBytes 4 (crc32 hdrBytes)

/-- BOOT at a boot step, with the given register fields and the sequencer's own state. -/
def bootAt (k : Nat) (l : List (Field × Nat)) (f : Sys → Sys) : State :=
  (atC 1000000000 l).setSys (fun y => f { y with step := k })

/-- A set whose images all verify. -/
def goodSet : ImageSet := ⟨⟨1, 0⟩, ⟨1, 0⟩, ⟨1, 0⟩⟩

/-- A set whose SUP image has a bad digest. -/
def badSet : ImageSet := ⟨⟨1, 2⟩, ⟨1, 0⟩, ⟨1, 0⟩⟩

/-- A header with slot A active and slot B pending. -/
def slots : BootHdr := ⟨0, 1, 10000000, 750, 1, 0⟩

theorem wit_Startup_3 : State.reset.sys.inReset = true ∧ (64 : BitVec 7).toNat / 64 = 1 ∧ (12 : BitVec 7).toNat / 64 = 0 ∧
    (12 : BitVec 7).toNat / 4 % 4 = 3 ∧ (8 : BitVec 7).toNat / 4 % 4 = 2 ∧ (4 : BitVec 7).toNat / 4 % 4 = 1 := by decide +kernel
theorem wit_Startup_4 : ∃ s : State, s.mode = .boot ∧ s.sys.step = 1 ∧ s.get Reg.GEN_STRAP_BOOT_SRC ≠ 1 ∧
    (hdrOk goodHdr = true ∧ hdrOf goodHdr = hdrOf goodHdr ∨ hdrOk goodHdr = false ∧ hdrOk goodHdr = true ∧ hdrOf goodHdr = hdrOf goodHdr) :=
  ⟨bootAt 1 [] id, by decide +kernel⟩
theorem wit_Startup_4b : ∃ s : State, s.mode = .boot ∧ s.sys.step = 1 ∧ s.get Reg.GEN_STRAP_BOOT_SRC ≠ 1 ∧
    (hdrOk [] = true ∧ hdrOf goodHdr = hdrOf [] ∨ hdrOk [] = false ∧ hdrOk goodHdr = true ∧ hdrOf goodHdr = hdrOf goodHdr) :=
  ⟨bootAt 1 [] id, by decide +kernel⟩
theorem wit_Startup_4c : ∃ s : State, s.mode = .boot ∧ s.sys.step = 1 ∧ s.get Reg.GEN_STRAP_BOOT_SRC ≠ 1 ∧ hdrOk hdrBytes = false :=
  ⟨bootAt 1 [] id, by decide +kernel⟩
theorem wit_Startup_5 : ∃ s u : State, s.bit Reg.BOOT_STAT_WAIT_HOST = true ∧ (s.sys.step ≠ 1 ∧ u = s ∨ s.sys.step = 1 ∧
    ∃ v, v = s.put Reg.PWR_AVS_CFG_VFAB_BOOT (s.get Reg.BOOT_PCI_VFAB_VFAB) ∧ u = loadOsc v (s.get Reg.BOOT_PCI_OSC_FREQ)) :=
  ⟨bootAt 1 [(Reg.BOOT_STAT_WAIT_HOST, 1)] id, _, by decide +kernel, .inr ⟨by decide +kernel, _, rfl, rfl⟩⟩
theorem wit_Startup_5b : (bootAt 2 [(Reg.BOOT_STAT_WAIT_HOST, 1)] id).bit Reg.BOOT_STAT_WAIT_HOST = true ∧
    (bootAt 2 [(Reg.BOOT_STAT_WAIT_HOST, 1)] id).sys.step ≠ 1 := by decide +kernel
theorem wit_Startup_6 : ∃ s : State, s.mode = .boot ∧ s.sys.step = 3 ∧ s.bit Reg.BOOT_STAT_WAIT_HOST = false ∧ s.get Reg.BOOT_STAT_SLOT = 2 ∧
    setOk goodSet = true ∧ setOk badSet = false :=
  ⟨bootAt 3 [(Reg.BOOT_STAT_WAIT_HOST, 0), (Reg.BOOT_STAT_SLOT, 2)] id, by decide +kernel⟩
theorem wit_Startup_6b : ∃ s u : State, s.mode = .boot ∧ s.sys.step = 3 ∧ s.bit Reg.BOOT_STAT_WAIT_HOST = false ∧ s.get Reg.BOOT_STAT_SLOT ≠ 2 ∧
    s.sys.hdr = some slots ∧ u = s.setSys (fun y => { y with hdr := some { slots with pending := 0xFF } }) ∧
    (trySlots u (fun k => if k = 0 then goodSet else if k = 1 then badSet else goodSet) (slotOrder slots)).2 = some 0 :=
  ⟨bootAt 3 [(Reg.BOOT_STAT_WAIT_HOST, 0), (Reg.BOOT_STAT_SLOT, 0)] (fun y => { y with hdr := some slots }), _, by decide +kernel,
    by decide +kernel, by decide +kernel, by decide +kernel, by decide +kernel, rfl, by decide +kernel⟩
theorem wit_Startup_6c : ∃ (s u : State) (x : State × Option Nat), s.mode = .boot ∧ s.sys.step = 3 ∧ s.bit Reg.BOOT_STAT_WAIT_HOST = false ∧
    s.get Reg.BOOT_STAT_SLOT ≠ 2 ∧ s.sys.hdr = some slots ∧ u = s.setSys (fun y => { y with hdr := some { slots with pending := 0xFF } }) ∧
    x = trySlots u (fun _ => badSet) (slotOrder slots) ∧ x.2 = none ∧ x.1.get Reg.GEN_STRAP_BOOT_SRC ≠ 2 :=
  ⟨bootAt 3 [(Reg.BOOT_STAT_WAIT_HOST, 0), (Reg.BOOT_STAT_SLOT, 0)] (fun y => { y with hdr := some slots }), _, _, by decide +kernel,
    by decide +kernel, by decide +kernel, by decide +kernel, by decide +kernel, rfl, rfl, by decide +kernel⟩
theorem wit_Startup_6d : ∃ (s u : State) (x : State × Option Nat), s.mode = .boot ∧ s.sys.step = 3 ∧ s.bit Reg.BOOT_STAT_WAIT_HOST = false ∧
    s.get Reg.BOOT_STAT_SLOT ≠ 2 ∧ s.sys.hdr = some slots ∧ u = s.setSys (fun y => { y with hdr := some { slots with pending := 0xFF } }) ∧
    x = trySlots u (fun _ => badSet) (slotOrder slots) ∧ x.2 = none ∧ x.1.get Reg.GEN_STRAP_BOOT_SRC = 2 :=
  ⟨bootAt 3 [(Reg.BOOT_STAT_WAIT_HOST, 0), (Reg.BOOT_STAT_SLOT, 0), (Reg.GEN_STRAP_BOOT_SRC, 2)] (fun y => { y with hdr := some slots }), _, _,
    by decide +kernel, by decide +kernel, by decide +kernel, by decide +kernel, by decide +kernel, rfl, rfl, by decide +kernel⟩
theorem wit_Startup_7 : (su []).mode = .setup := by decide +kernel
theorem wit_Startup_8 : ∃ s u : State, s.bit Reg.GEN_MODE_REQ_GO = true ∧ s.atMs = true ∧ u = s.putB Reg.GEN_MODE_REQ_GO false ∧
    u.mode = .setup ∧ u.get Reg.GEN_MODE_REQ_TARGET = 2 ∧ refuseBits u = 0 :=
  ⟨su [(Reg.GEN_MODE_REQ_GO, 1), (Reg.GEN_MODE_REQ_TARGET, 2), (Reg.FAB_SMEAS_VALID, 1), (Reg.FAB_SMEAS_S_MEAS, 65535),
    (Reg.SAT_STAT_KAT_OK, 1), (Reg.SYN_APLL_STAT_LOCK, 7), (Reg.SAT_STAT_DRBG_OK, 1)], _, by decide +kernel, by decide +kernel, rfl,
    by decide +kernel⟩
theorem wit_Startup_8b : ∃ s u : State, s.bit Reg.GEN_MODE_REQ_GO = true ∧ s.atMs = true ∧ u = s.putB Reg.GEN_MODE_REQ_GO false ∧
    u.mode = .setup ∧ u.get Reg.GEN_MODE_REQ_TARGET = 2 ∧ refuseBits u ≠ 0 :=
  ⟨su [(Reg.GEN_MODE_REQ_GO, 1), (Reg.GEN_MODE_REQ_TARGET, 2)], _, by decide +kernel, by decide +kernel, rfl, by decide +kernel⟩
theorem wit_Startup_8c : ∃ s u : State, s.bit Reg.GEN_MODE_REQ_GO = true ∧ s.atMs = true ∧ u = s.putB Reg.GEN_MODE_REQ_GO false ∧
    u.mode = .setup ∧ u.get Reg.GEN_MODE_REQ_TARGET = 7 ∧ 7 ≠ 2 :=
  ⟨su [(Reg.GEN_MODE_REQ_GO, 1), (Reg.GEN_MODE_REQ_TARGET, 7)], _, by decide +kernel, by decide +kernel, rfl, by decide +kernel⟩
theorem wit_Startup_9 : ∃ s : State, s.atSec = true ∧ s.sys.trendDue = true ∧ s.mode = .service ∧ s.bit Reg.GEN_MODE_ROM_REC = false ∧
    bitOf s.sys.engReset 19 = false ∧ s.get Reg.GEN_STRAP_BOOT_SRC ≠ 1 ∧ s.sys.stageSlot = none :=
  ⟨(st []).setSys (fun y => { y with trendDue := true }), by decide +kernel⟩
theorem wit_Startup_9b : ∃ s : State, s.atSec = true ∧ s.sys.trendDue = true ∧ s.mode = .service ∧ s.bit Reg.GEN_MODE_ROM_REC = false ∧
    bitOf s.sys.engReset 19 = false ∧ s.get Reg.GEN_STRAP_BOOT_SRC ≠ 1 ∧ s.sys.stageSlot = some 1 :=
  ⟨(st []).setSys (fun y => { y with trendDue := true, stageSlot := some 1 }), by decide +kernel⟩
theorem wit_Firmware_1 : ∃ d, Accepts stageOp (st []) d ∧ longOp (taken (st []) d) 0x0010 0 = none :=
  ⟨dsc [(25, 16)], accepts_of (by decide +kernel), by decide +kernel⟩
theorem wit_Firmware_2 : ∃ (s : State) (l : LongOp), longOp s 0x0010 0 = some l ∧ verifyOnly l.d = true :=
  ⟨st1 [] (long 0x0010 0 (dsc [(28, 2)])), long 0x0010 0 (dsc [(28, 2)]), by decide +kernel⟩
theorem wit_Firmware_3 : ∃ (s : State) (l : LongOp), longOp s 0x0010 0 = some l ∧ verifyOnly l.d = false ∧ 2 ≤ (2 : Fin 8).val ∧
    (5 : Fin 8).val ≤ 5 ∧ 6 ≤ (7 : Fin 8).val := ⟨st1 [] (long 0x0010 0 (dsc [(28, 1)])), long 0x0010 0 (dsc [(28, 1)]), by decide +kernel⟩

theorem reset_canon : State.reset.Canon := ⟨by decide, by decide, by decide, by decide, by decide⟩

theorem wit_StepRunsFrontCommand : (waiting [.nop desc, .unalignedAccess]).pending = .nop desc :: [.unalignedAccess] := rfl
theorem wit_EmptyQueue : (st []).pending = [] ∧ (st []).tbLive = true ∧ (State.reset).pending = [] ∧ State.reset.tbLive = false := by decide +kernel
theorem wit_EveryStepKeepsCanonicalForm : State.reset.Canon ∧ ∃ t, step State.reset = .next t := ⟨reset_canon, _, rfl⟩
theorem wit_EveryCommandKeepsItsFrame : ∃ t, exec .unalignedAccess (st []) = .next t ∧ Machine.Part.regs ∉ mayChange .unalignedAccess :=
  ⟨_, rfl, by decide +kernel⟩
theorem wit_CommandsLeaveTheQueue : ∃ t, exec (.nop desc) (waiting [.unalignedAccess]) = .next t := ⟨_, rfl⟩
theorem wit_FreeValuesAreNeverReused : ∃ t, step (waiting [.unalignedAccess]) = .next t := ⟨_, rfl⟩
theorem wit_EmptyQueue_2 : (st []).pending = [] ∧ pairRuns (st []) = false ∧ (st []).obs.staged = [] ∧ (st []).obs.lostRun = 0 ∧
    (st []).get Reg.OBS_TRC_LEVEL_WORDS = 0 := by decide +kernel
theorem wit_OnlyResetsStopTheTimeBase : ∃ c t, c ≠ .aoPowerOn ∧ c ≠ .vddAoLow ∧ c ≠ .resetAssert ∧ exec c (st []) = .next t ∧
    (st []).tb.running = true := ⟨.tbClockStop, _, by decide, by decide, by decide, rfl, rfl⟩
theorem wit_OnlyResetsStopTheTimeBase_2 : ∃ t, (st []).pending = [] ∧ step (st []) = .next t ∧ (st []).tb.running = true := ⟨_, rfl, rfl, rfl⟩
theorem wit_Unaligned : pcieRuns (st []) = true := by decide +kernel
theorem wit_SetWins_1 : Flag.GEN_MODE_CHG.bit.w = 1 ∧ Flag.GEN_MODE_CHG.cnt.w = 16 ∧ Flag.GEN_MODE_CHG.bit.key ≠ Flag.GEN_MODE_CHG.cnt.key := by
  decide +kernel
theorem wit_SetWins_2 : ∃ s t : State, Flag.GEN_MODE_CHG.bit.addr = 4 * BitVec.toNat (8 : BitVec 22) ∧
    Flag.GEN_MODE_CHG.cnt.addr ≠ Flag.GEN_MODE_CHG.bit.addr ∧ Flag.GEN_MODE_CHG.cnt.lo < 32 ∧ Flag.GEN_MODE_CHG.bit.key ∈ s.hot ∧
    exec (.w1cFlagWrite 8 1) s = .next t :=
  ⟨(st []).setFlag Flag.GEN_MODE_CHG, _, by decide +kernel, by decide +kernel, by decide +kernel, by decide +kernel, rfl⟩
theorem wit_SetWins_3 : pcieRuns (st []) = true ∧ Flag.GEN_MODE_CHG.bit.key ∉ (st []).hot := by decide +kernel
theorem wit_SetWins_4 : ∃ t, (st []).pending = [] ∧ step (st []) = .next t := ⟨_, rfl, rfl⟩
theorem wit_FaultRecords_1 : ∃ s t : State, exec .resetAssert s = .next t ∧ s.bit Reg.FLT_FF_STAT_VALID = true :=
  ⟨st [(Reg.FLT_FF_STAT_VALID, 1)], _, rfl, by decide +kernel⟩
theorem wit_FaultRecords_2 : ∃ t, exec .aoPowerOn (st []) = .next t := ⟨_, rfl⟩
theorem wit_FixedFatal : fixedFatal 0x01 = true ∧ vote.src = 0x00 := by decide +kernel
theorem wit_JournalWindow : ∃ s : State, s.mode ≠ .test ∧
    ((0 : Word).toNat + 2 ^ 32 - s.get Reg.OBS_JRNL_TAIL_JIDX) % 2 ^ 32 <
      (s.get Reg.OBS_JRNL_HEAD_JIDX + 2 ^ 32 - s.get Reg.OBS_JRNL_TAIL_JIDX) % 2 ^ 32 :=
  ⟨st [(Reg.OBS_JRNL_HEAD_JIDX, 1)], by decide +kernel⟩
theorem wit_JournalWindow_2 : ∃ s : State, s.mode ≠ .test ∧
    (s.get Reg.OBS_JRNL_HEAD_JIDX + 2 ^ 32 - s.get Reg.OBS_JRNL_TAIL_JIDX) % 2 ^ 32 ≤
      ((1 : Word).toNat + 2 ^ 32 - s.get Reg.OBS_JRNL_TAIL_JIDX) % 2 ^ 32 :=
  ⟨st [(Reg.OBS_JRNL_HEAD_JIDX, 1)], by decide +kernel⟩
theorem wit_EyeResults : ∃ s : State, s.get (Reg.LN_EYE_CFG_EYE_INT (17 : Fin 18)) ≠ 0 ∧ s.tbLive = true ∧ s.mode ≠ .boot ∧ s.mode ≠ .test ∧
    (s.lane (17 : Fin 18)).eyeAt = 0 ∧ ((17 : Fin 18).val < 16 ∨ s.bit Reg.GEN_STRAP_PAIR_EN = true) ∧ (0 : BitVec 16).toNat < s.get (Reg.LN_EYE_CFG_EYE_MIN_H (17 : Fin 18)) :=
  ⟨st [(Reg.GEN_STRAP_PAIR_EN, 1), (Reg.LN_EYE_CFG_EYE_INT 17, 1), (Reg.LN_EYE_CFG_EYE_MIN_H 17, 1)], by decide +kernel⟩
theorem wit_EyeResults_2 : ∃ s : State, s.get (Reg.LN_EYE_CFG_EYE_INT (0 : Fin 18)) ≠ 0 ∧ s.tbLive = true ∧ s.mode ≠ .boot ∧ s.mode ≠ .test ∧
    (s.lane (0 : Fin 18)).eyeAt = 0 ∧ ((0 : Fin 18).val < 16 ∨ s.bit Reg.GEN_STRAP_PAIR_EN = true) ∧ s.get (Reg.LN_EYE_CFG_EYE_MIN_H (0 : Fin 18)) ≤ (65535 : BitVec 16).toNat ∧
    4 * s.get (Reg.LN_EYE_CFG_EYE_MIN_V (0 : Fin 18)) ≤ (65535 : BitVec 16).toNat ∧ (s.lane (0 : Fin 18)).eyeLow = true :=
  ⟨{ st [(Reg.LN_EYE_CFG_EYE_INT 0, 1)] with lan := { State.reset.lan with lanes := [(0, { LaneSt.zero with eyeLow := true })] } },
    by decide +kernel⟩

/-! ### The spec's worked examples -/

/-- 00_scope.md, the example of R14: a set and a write of 1 in one TB cycle leave 1 and 42. -/
theorem test_w1c_set_wins : next (exec (.w1cFlagWrite 8 1) ((st [(Flag.GEN_MODE_CHG.bit, 1), (Flag.GEN_MODE_CHG.cnt, 41)]).setFlag Flag.GEN_MODE_CHG))
    (fun t => t.get Flag.GEN_MODE_CHG.bit = 1 && t.get Flag.GEN_MODE_CHG.cnt = 42) = true := by decide +kernel
/-- The same example: the second write of 1, with no new set, leaves 0 and 42. -/
theorem test_w1c_clears : next (exec (.w1cFlagWrite 8 1) (st [(Flag.GEN_MODE_CHG.bit, 1), (Flag.GEN_MODE_CHG.cnt, 42)]))
    (fun t => t.get Flag.GEN_MODE_CHG.bit = 0 && t.get Flag.GEN_MODE_CHG.cnt = 42) = true := by decide +kernel
/-- 01_time_and_gloss.md, the short stamp of R21's example. -/
theorem test_short_stamp : shortOf (1958617412 * secU + 345678901 * 65536 + 0x6E80) = 0x74BE2144149AA435 := by decide +kernel
/-- 01_time_and_gloss.md, step 1 of GNSS lock into holdover: 17,602 ps from reference 16, LOCKED, TRACE 1, AGE 12. -/
theorem test_gloss_word : glossWord (some 17602) 16 2 1 false false false false 12 = 0x162782100000000C := by decide +kernel
/-- The same step: the encoded bound is 17,632 ps. -/
theorem test_gloss_bound : encodedBound 0x162782100000000C = some 17632 := by decide +kernel
/-- The same example, step 4: 697,052 ps at AGE 1,382,400. -/
theorem test_gloss_word_holdover : glossWord (some 697052) 16 3 1 false false false false 1382400 = 0x2AA9831000151800 := by decide +kernel
/-- 06_synthesis_outputs.md, the example of REFMUL: AUTO selects ×1 at 10 MHz and ÷2 at 12.8 MHz. -/
theorem test_auto_multiplier : mulOf (autoMul 10000000) = (1, 1) ∧ mulOf (autoMul 12800000) = (1, 2) := by decide +kernel
/-- 10_service_engines.md, the reference case of the bound: 12 NTS engines, q_lim 32, S_floor 0.80 and 100G. -/
theorem test_bound_reference : ∃ s : State, wClsOf s 1 = 5048 ∧ lbOf (s.put (Reg.CLS_W_W 1) 5048) 1 3 = 5598 :=
  ⟨st [(Reg.CLA_ENG_MAP_ROLE 0, 0x11111111), (Reg.CLA_ENG_MAP_ROLE 1, 0xFFFF1111), (Reg.CLS_CFG_Q_LIM 1, 32), (Reg.CLA_ADM_CFG_S_FLOOR, 80)],
    by decide +kernel⟩
/-- The same example in service: S_meas 12,779 and m 5 % give q_spd 28. -/
theorem test_admission_speed : qSpdOf ((st [(Reg.CLA_ENG_MAP_ROLE 0, 0x11111111), (Reg.CLA_ENG_MAP_ROLE 1, 0xFFFF1111), (Reg.CLS_CFG_Q_LIM 1, 32),
    (Reg.FAB_SMEAS_S_MEAS, 12779), (Reg.CLA_ADM_CFG_MARGIN, 50), (Reg.CLS_W_W 1, 5048)]).setSys (fun y => { y with engReset := 0 })) 1 = 28 := by
  decide +kernel
/-- 14_faults.md, the example of R471: the third of three events within 60 s is SEVERE, with PAIR_ESC 1. -/
theorem test_escalation : (classEvent (stFlt [(Reg.FLT_STAT_PAIR_ESC, 1), (Reg.FLT_SRC_CFG_N 0x23, 3), (Reg.FLT_SRC_CFG_W 0x23, 600)]
    (fun f => { f with hist := [(0x23, [21000000000, 0])] })) { vote with src := 0x23, ao := 58400000000 }).2.cls = 3 := by decide +kernel
/-- The same example: a third event at t + 61 s stays CONTAINED. -/
theorem test_no_escalation : (classEvent (stFlt [(Reg.FLT_STAT_PAIR_ESC, 1), (Reg.FLT_SRC_CFG_N 0x23, 3), (Reg.FLT_SRC_CFG_W 0x23, 600)]
    (fun f => { f with hist := [(0x23, [21000000000, 0])] })) { vote with src := 0x23, ao := 61000000000 }).2.cls = 1 := by decide +kernel
/-- 03_gnss_baseband.md, step 5 of the solution bound: σ_pos 40 mm and K 6 give 801 ps. -/
theorem test_position_uncertainty : uPos (st [(Reg.GNSS_POSSIG_FIXED, 1), (Reg.GNSS_POSSIG_SIG, 40), (Reg.GNSS_BND_K_G, 6)]) ⟨0, 0, 0, [], 0, [], []⟩ = 801 := by decide +kernel
/-- 19_register_index.md, the four registers located. -/
theorem test_register_addresses : (Reg.ENT_STAT_STATE 22).addr = 0x71B40 ∧ (Reg.MAC_CNT_LO_CNT 5 27).addr = 0xCB0D8 ∧
    (Reg.MAC_CNT_HI_CNT 5 27).addr = 0xCB0DC := by decide +kernel
/-- IEEE 802.3 CRC-32 and CRC-16/CCITT-FALSE of the catalogue's check string "123456789". -/
theorem test_crc_check_values : crc32 [0x31, 0x32, 0x33, 0x34, 0x35, 0x36, 0x37, 0x38, 0x39] = 0xCBF43926 ∧
    crc16 [0x31, 0x32, 0x33, 0x34, 0x35, 0x36, 0x37, 0x38, 0x39] = 0x29B1 := by decide +kernel

end

end Sys2Proof.Tests
end

section
/-!
SUPPORT. What the rows of register accesses, doorbells and the fetch of descriptors do when they act, and the step as the meaning of the
command at the front of the queue.
-/

namespace Sys2Proof.Machine

/-! ### Register accesses (R6, R12–R15, R474) -/

section
variable {s t : State} {a v : Nat}

/-- A write that carries out a command does that and nothing else (R6). -/
theorem writeReg_of_command (hp : pcieRuns s = true) (hc : commandWrite s a v = some t) : writeReg s a v = t := by
  simp [writeReg, hp, hc]

/-- Any other write but one to FLT_FF_STAT clears its flags, and stores settings in SETUP (R6, R12, R14). -/
theorem writeReg_of_no_command (hp : pcieRuns s = true) (hc : commandWrite s a v = none) (ha : a ≠ 0x140040) :
    writeReg s a v = if (clearFlags s a v).mode = .setup then setupStore (clearFlags s a v) a v else clearFlags s a v := by
  simp [writeReg, hp, hc, ha]

end

/-- A misaligned access completes as an unsupported request (R15). -/
theorem exec_unalignedAccess {s : State} (hp : pcieRuns s = true) :
    exec .unalignedAccess s = .next { s with hif := { s.hif with response := some (false, 0) } } :=
  congrArg Host.Outcome.next (if_neg (by simp [hp]))

/-- HELD is released unless a capture took it in this AO cycle (R474). -/
theorem exec_ffHeldRelease {s : State} (hp : pcieRuns s = true) (hh : s.flt.heldAo ≠ some (s.tb.ao / 20)) :
    exec .ffHeldRelease s = .next (s.putB Reg.FLT_FF_STAT_HELD false) :=
  congrArg Host.Outcome.next ((if_pos hp).trans (if_neg hh))

/-! ### Doorbells (R400) -/

/-- The doorbell of a ring that is DISABLED or in ERROR is an error. -/
theorem exec_doorbell_of_down {r : Fin 64} {v : Word} {s : State} (hp : pcieRuns s = true)
    (hr : ringState s r = 0 ∨ ringState s r = 3) : exec (.doorbell r v) s = .next (doorbellError s) := by
  show Host.Outcome.next _ = _
  simp [hp, hr]

/-- The doorbell of a running ring that the host produces moves its position when there is room, and is an error when there is not. -/
theorem exec_doorbell_of_running {r : Fin 64} {v : Word} {s : State} (hp : pcieRuns s = true) (hr : ringState s r = 1)
    (hh : hostProduced s r = true) (hi : v.toNat % 65536 < ringSize s r) :
    exec (.doorbell r v) s = .next
      (if ringSize s r - ringUsed s r <
          (posOf (ringSize s r) (v.toNat / 65536 % 256) (v.toNat % 65536) + 256 * ringSize s r - prodPos s r) % (256 * ringSize s r) then
        doorbellError s
      else setProd s r (posOf (ringSize s r) (v.toNat / 65536 % 256) (v.toNat % 65536))) := by
  show Host.Outcome.next _ = _
  simp [hp, hr, hh, Nat.not_le.mpr hi]

/-! ### The fetch of descriptors (R402, R403) -/

/-- The fetch unit can read the next entry of the descriptor's COMMAND ring: the device answers, the ring runs and has an entry, and its
completion ring is valid and has room. -/
structure Fetches (s : State) (r : Nat) : Prop where
  boot : s.mode ≠ .boot
  test : s.mode ≠ .test
  runs : ringState s r = 1
  type : s.get (Reg.HR_CFG_TYPE r) = 0
  used : ringUsed s r ≠ 0
  valid : cqValid s r = true
  room : canReserve s (cqOf s r) 1 = true

section
variable {s : State} {d : Desc} {op : Nat} {ph again : Bool}

/-- An entry with a wrong PHASE is counted (R402). -/
theorem fetchDesc_of_wrong_phase (h : Fetches s d.ring) (hr : (s.hif.retries.get (fun _ => 0) d.ring != 0) = again)
    (hph : ph ≠ phaseOf (s.get (Reg.HR_CONS_GEN d.ring))) : fetchDesc s op ph again d = phaseFailed s d.ring := by
  obtain ⟨hboot, htest, hruns, htype, hused, hvalid, hroom⟩ := h
  subst hr
  simp [fetchDesc, hboot, htest, hruns, htype, hused, hvalid, hroom, hph]

/-- An entry with the right PHASE, neither fenced nor timed, is accepted when its completion has room (R403). -/
theorem fetchDesc_of_right_phase (h : Fetches s d.ring) (hr : (s.hif.retries.get (fun _ => 0) d.ring != 0) = again)
    (hph : ph = phaseOf (s.get (Reg.HR_CONS_GEN d.ring))) (hf : d.fence = false) (ht : d.timed = false)
    (hroom : roomFor { s with hif := { s.hif with retries := s.hif.retries.set (fun _ => 0) d.ring 0 } } op d = true) :
    fetchDesc s op ph again d =
      acceptFetched { s with hif := { s.hif with retries := s.hif.retries.set (fun _ => 0) d.ring 0 } } op d := by
  obtain ⟨hboot, htest, hruns, htype, hused, hvalid, hcan⟩ := h
  subst hr hph
  simp [fetchDesc, hboot, htest, hruns, htype, hused, hvalid, hcan, hf, ht, hroom]

end

/-! ### Instants of descriptors and rings (R395, R405) -/

/-- The waiting descriptor that is due first is applied (R405). -/
theorem exec_effectiveTimeReached {s : State} {w : Waiting} {sp : OpSpec} (h : firstDue s = some (w, sp)) :
    exec .effectiveTimeReached s = .next (sp.apply (removeWaiting s w.aseq) w) := by
  show Host.Outcome.next _ = _
  rw [h]

/-- A running ring whose oldest entry has waited COAL_US is notified (R395). -/
theorem exec_coalTimeout {r : Fin 64} {s : State} (hn : s.hif.notif.get (fun _ => 0) r ≠ 0) (hu : s.get (Reg.HR_COAL_US r) ≠ 0)
    (hr : ringState s r = 1) (ht : s.hif.oldest.get (fun _ => 0) r + s.get (Reg.HR_COAL_US r) * 1000 ≤ s.tb.ao) :
    exec (.coalTimeout r) s = .next (notifyRing s r) := by
  show Host.Outcome.next _ = _
  simp [hn, hu, hr, ht]

/-- Settles O26: each clause is what its row's meaning answers under the clause's hypotheses. -/
theorem hostAccessActs : Obligations.HostAccessActs := by
  refine ⟨fun r v s hp hc ha => ⟨fun hm hk => ?_, fun hm => ?_⟩, fun r v t s hp hc => ?_, fun r v s hp => ?_, fun s => exec_ffHeldRelease,
    fun s => exec_unalignedAccess, fun r v s => exec_doorbell_of_down, fun r v s hp hr hh hi => ⟨_, _, rfl, rfl, fun hle => ?_, fun hlt => ?_⟩,
    fun op ph d s hb ht hr hty hu hn hv hc => ⟨fun hph => ?_, fun hph hf htm => ⟨_, rfl, fun hroom => ?_⟩⟩,
    fun op ph d s hb ht hr hty hu hn hv hc => ⟨fun hph => ?_, fun hph hf htm => ⟨_, rfl, fun hroom => ?_⟩⟩,
    fun w sp s => exec_effectiveTimeReached, fun r s => exec_coalTimeout⟩
  · exact congrArg _ ((writeReg_of_no_command hp hc ha).trans (if_neg (hk ▸ hm)))
  · exact congrArg _ ((writeReg_of_no_command hp hc ha).trans (if_pos hm))
  · exact congrArg _ (writeReg_of_command hp hc)
  · exact congrArg _ (if_pos hp)
  · exact (exec_doorbell_of_running hp hr hh hi).trans (congrArg _ (if_neg (Nat.not_lt.mpr hle)))
  · exact (exec_doorbell_of_running hp hr hh hi).trans (congrArg _ (if_pos hlt))
  · exact congrArg _ (fetchDesc_of_wrong_phase ⟨hb, ht, hr, hty, hu, hv, hc⟩ (by simp [hn]) hph)
  · exact congrArg _ (fetchDesc_of_right_phase ⟨hb, ht, hr, hty, hu, hv, hc⟩ (by simp [hn]) hph hf htm hroom)
  · exact congrArg _ (fetchDesc_of_wrong_phase ⟨hb, ht, hr, hty, hu, hv, hc⟩ (by simp [hn]) hph)
  · exact congrArg _ (fetchDesc_of_right_phase ⟨hb, ht, hr, hty, hu, hv, hc⟩ (by simp [hn]) hph hf htm hroom)

/-- Settles O51: the meaning of UNALIGNED_ACCESS changes the answered word alone. -/
theorem unalignedAccessIsUnsupported : Obligations.UnalignedAccessIsUnsupported :=
  fun _ hp => ⟨_, exec_unalignedAccess hp, rfl, rfl⟩

/-! ### The step and its completeness -/

/-- Settles O41: the step looks at the front of the queue alone. -/
theorem stepRunsFrontCommand : Obligations.StepRunsFrontCommand := by
  intro c q s hq
  unfold step
  rw [hq]

/-- Settles O43: the meaning of every row is a next state. -/
theorem everyCommandCompletes : Obligations.EveryCommandCompletes := by
  intro c s
  cases c <;> exact ⟨_, rfl⟩

end Sys2Proof.Machine
end

section
/-!
SUPPORT. Frames: `Kept` says what stays, for a set of parts that may change. Here it is put so that `simp` follows the operations that a
command is made of, from the outside in.
-/

namespace Sys2Proof.Machine

/-! ### Rewriting with an implication

A command's meaning is a nest of operations on the state, so that it stays within its frame is shown from the outside in: if `f` stays
within its parts, then `Kept A s0 (f s)` follows from `Kept A s0 s`. For `simp` to follow the nest, each such implication p → q is put as
the equation q = Via p q', where q' is q under a name that no rule rewrites: `simp` goes on with p, and is done once p is True. -/

/-- p holds, or else q does. `simp` looks at p alone. -/
def Via (p q : Prop) : Prop := p ∨ q

@[congr] theorem via_congr {p p' q : Prop} (h : p = p') : Via p q = Via p' q := by rw [h]

@[simp] theorem via_true (q : Prop) : Via True q = True := by simp [Via]

theorem eq_via {p q : Prop} (h : p → q) : q = Via p q :=
  propext ⟨.inr, fun o => o.elim h id⟩

theorem via_of {p q : Prop} (h : p) : Via p q := .inl h

/-- What a conditional asks for. `simp` looks at the two cases, not at the condition. -/
def Either (c : Prop) [Decidable c] (p q : Prop) : Prop := if c then p else q

@[congr] theorem either_congr {c : Prop} [Decidable c] {p p' q q' : Prop} (hp : p = p') (hq : q = q') :
    Either c p q = Either c p' q' := by rw [hp, hq]

@[simp] theorem either_self (c : Prop) [Decidable c] (p : Prop) : Either c p p = p := ite_self _

theorem either_of {c : Prop} [Decidable c] {p q : Prop} (hp : p) (hq : q) : Either c p q := by
  unfold Either; split <;> assumption

/-- The set A has the part p. -/
def Allows (A : Nat) (p : Part) : Prop := A.testBit p.bit = true

/-- The set A has every part of a list. -/
def Covers (A : Nat) (T : List Part) : Prop := ∀ p ∈ T, Allows A p

@[simp ↓] theorem covers_nil (A : Nat) : Covers A [] = True := by simp [Covers]

@[simp ↓] theorem covers_cons (A : Nat) (p : Part) (T : List Part) : Covers A (p :: T) = (Allows A p ∧ Covers A T) := by
  simp [Covers]

/-- Kept under a name that no rule rewrites. -/
def Kept.anyway (A : Nat) (s t : State) : Prop := Kept A s t

/-- From s to t only parts of T change, and what Kept names beside the parts is kept: for every set A that covers T, what is kept up to s
is kept up to t. Written as the equation that `simp` uses. -/
@[reducible] def Within (T : List Part) (s t : State) : Prop :=
  ∀ A s0, Kept A s0 t = Via (Covers A T ∧ Kept A s0 s) (Kept.anyway A s0 t)

theorem Within.of {T : List Part} {s t : State} (h : ∀ A, (∀ p ∈ T, Allows A p) → Kept A s t) : Within T s t :=
  fun A _ => eq_via fun ⟨hA, hs⟩ => hs.trans (h A hA)

theorem Within.kept {T : List Part} {A : Nat} {s t : State} (h : Within T s t) (hA : Covers A T) : Kept A s t := by
  rw [h A s]
  exact via_of ⟨hA, .refl A s⟩

/-! ### Conditionals and folds -/

section
variable {A : Nat} {s0 s : State}

@[simp ↓] theorem kept_refl : Kept A s s = True := by simp [Kept.refl]

@[simp ↓] theorem kept_ite (c : Prop) [Decidable c] (a b : State) :
    Kept A s0 (if c then a else b) = Either c (Kept A s0 a) (Kept A s0 b) := by
  unfold Either; split <;> rfl

@[simp ↓] theorem kept_ite_fst {β : Type} (c : Prop) [Decidable c] (a b : State × β) :
    Kept A s0 (if c then a else b).1 = Either c (Kept A s0 a.1) (Kept A s0 b.1) := by
  unfold Either; split <;> rfl

@[simp ↓] theorem kept_ite_snd {β : Type} (c : Prop) [Decidable c] (a b : β × State) :
    Kept A s0 (if c then a else b).2 = Either c (Kept A s0 a.2) (Kept A s0 b.2) := by
  unfold Either; split <;> rfl

theorem Kept.fold {α : Type} {f : State → α → State} {l : List α} (hf : ∀ t a, Kept A t (f t a)) : Kept A s (l.foldl f s) :=
  (Kept.refl A s).foldl fun t a h => h.trans (hf t a)

@[simp ↓] theorem kept_foldl {α : Type} {f : State → α → State} {l : List α} :
    Kept A s0 (l.foldl f s) = Via (Kept A s0 s ∧ ∀ t a, Kept A t (f t a)) (Kept.anyway A s0 (l.foldl f s)) :=
  eq_via fun ⟨hs, hf⟩ => hs.trans (.fold hf)

@[simp ↓] theorem kept_foldl_fst {α β : Type} {f : State × β → α → State × β} {l : List α} {p : State × β} :
    Kept A s0 (l.foldl f p).1 = Via (Kept A s0 p.1 ∧ ∀ t a, Kept A t.1 (f t a).1) (Kept.anyway A s0 (l.foldl f p).1) :=
  eq_via fun ⟨hs, hf⟩ => hs.foldl_fst fun t a h => h.trans (hf t a)

end

/-! ### A state that may be there -/

/-- If there is a state, it is kept from s0. -/
def SomeKept (A : Nat) (s0 : State) (o : Option State) : Prop := ∀ t, o = some t → Kept A s0 t

/-- SomeKept under a name that no rule rewrites. -/
def SomeKept.anyway (A : Nat) (s0 : State) (o : Option State) : Prop := SomeKept A s0 o

section
variable {A : Nat} {s0 : State}

@[simp ↓] theorem someKept_some (t : State) : SomeKept A s0 (some t) = Kept A s0 t := by simp [SomeKept]

@[simp ↓] theorem someKept_none : SomeKept A s0 none = True := by simp [SomeKept]

@[simp ↓] theorem someKept_ite (c : Prop) [Decidable c] (a b : Option State) :
    SomeKept A s0 (if c then a else b) = Either c (SomeKept A s0 a) (SomeKept A s0 b) := by
  unfold Either; split <;> rfl

@[simp ↓] theorem kept_getD (o : Option State) (s : State) :
    Kept A s0 (o.getD s) = Via (SomeKept A s0 o ∧ Kept A s0 s) (Kept.anyway A s0 (o.getD s)) :=
  eq_via fun ⟨ho, hs⟩ => Kept.getD ho hs

end

/-! ### Record updates

What a record update asks for, part by part: a part is in the set or is what it was; a memory is written by the operations that keep its
canonical form; free values are only taken. -/

/-- The part p may change from y to x. -/
def Changes {α : Type} (A : Nat) (p : Part) (x y : α) : Prop := A.testBit p.bit = true ∨ x = y

/-- Changes under a name that no rule rewrites. -/
def Changes.anyway {α : Type} (A : Nat) (p : Part) (x y : α) : Prop := Changes A p x y

@[simp ↓ 1100] theorem changes_self {α : Type} (A : Nat) (p : Part) (x : α) : Changes A p x x = True := by simp [Changes]

@[simp ↓] theorem changes_allowed {α : Type} (A : Nat) (p : Part) (x y : α) :
    Changes A p x y = Via (Allows A p) (Changes.anyway A p x y) := eq_via .inl

/-- The memory x is in canonical form if y is. -/
def Tame {α : Type} [DecidableEq α] (d : Nat → α) (x y : SMap α) : Prop := SMap.wf d y = true → SMap.wf d x = true

/-- Tame under a name that no rule rewrites. -/
def Tame.anyway {α : Type} [DecidableEq α] (d : Nat → α) (x y : SMap α) : Prop := Tame d x y

section
variable {α : Type} [DecidableEq α] (d : Nat → α) (x y : SMap α)

@[simp ↓] theorem tame_self : Tame d x x = True := by simp [Tame]

@[simp ↓] theorem tame_set (k : Nat) (v : α) : Tame d (x.set d k v) y = Via (Tame d x y) (Tame.anyway d (x.set d k v) y) :=
  eq_via fun h hy => wf_set k v (h hy)

@[simp ↓] theorem tame_filter (f : Nat × α → Bool) : Tame d (List.filter f x) y = Via (Tame d x y) (Tame.anyway d (List.filter f x) y) :=
  eq_via fun h hy => wf_filter f (h hy)

end

/-- The count of free values goes from y to x. -/
def Grows (x y : Nat) : Prop := y ≤ x

@[simp ↓] theorem grows_self (x : Nat) : Grows x x = True := by simp [Grows]

@[simp ↓] theorem grows_add (x n : Nat) : Grows (x + n) x = True := by simp [Grows]

/-- An update of the record s, known by the queue that it leaves. -/
@[simp ↓] theorem kept_mk {A : Nat} {s0 s : State} {rg tb jr hif fab obs rf utc gns sel tns syn pls lan tsu cla au flt cnj sys fr hot} :
    Kept A s0 ⟨rg, tb, jr, hif, fab, obs, rf, utc, gns, sel, tns, syn, pls, lan, tsu, cla, au, flt, cnj, sys, fr, hot, s.pending⟩ =
    Via (Kept A s0 s ∧ Changes A .regs rg s.regs ∧ Tame resetOf rg s.regs ∧ Changes A .tb tb s.tb ∧ Changes A .jr jr s.jr ∧
        Tame (fun _ => JSlot.zero) jr.ring s.jr.ring ∧ Changes A .hif hif s.hif ∧ Tame (fun _ => Entry.empty) hif.mem s.hif.mem ∧
        Tame (fun _ => []) hif.host s.hif.host ∧ Changes A .fab fab s.fab ∧ Tame (fun _ => 0) fab.sram s.fab.sram ∧
        Changes A .obs obs s.obs ∧ Changes A .refin rf s.refin ∧ Changes A .utc utc s.utc ∧ Changes A .gns gns s.gns ∧
        Changes A .sel sel s.sel ∧ Changes A .tns tns s.tns ∧ Changes A .syn syn s.syn ∧ Changes A .pls pls s.pls ∧
        Changes A .lan lan s.lan ∧ Changes A .tsu tsu s.tsu ∧ Changes A .cla cla s.cla ∧ Changes A .auth au s.auth ∧
        Changes A .flt flt s.flt ∧ Changes A .cnj cnj s.cnj ∧ Changes A .sys sys s.sys ∧ Changes A .hot hot s.hot ∧ Grows fr s.free)
      (Kept.anyway A s0
        ⟨rg, tb, jr, hif, fab, obs, rf, utc, gns, sel, tns, syn, pls, lan, tsu, cla, au, flt, cnj, sys, fr, hot, s.pending⟩) :=
  eq_via fun ⟨h, hregs, kregs, htb, hjr, kring, hhif, kmem, khost, hfab, ksram, hobs, hrefin, hutc, hgns, hsel, htns, hsyn, hpls, hlan,
      htsu, hcla, hauth, hflt, hcnj, hsys, hhot, hfree⟩ =>
    .upd rfl hfree h hregs htb hjr hhif hfab hobs hrefin hutc hgns hsel htns hsyn hpls hlan htsu hcla hauth hflt hcnj hsys hhot
      (fun c => kregs c.regs) (fun c => kmem c.mem) (fun c => khost c.host) (fun c => kring c.ring) (fun c => ksram c.sram)

/-! ### Descriptors -/

/-- Applying a descriptor of the opcode changes only parts of A. -/
def OpSpec.Keeps (sp : OpSpec) (A : Nat) : Prop := ∀ s w, Kept A s (sp.apply s w)

/-- OpSpec.Keeps under a name that no rule rewrites. -/
def OpSpec.Keeps.anyway (sp : OpSpec) (A : Nat) : Prop := sp.Keeps A

@[simp ↓] theorem kept_apply {A : Nat} {s0 : State} (sp : OpSpec) (s : State) (w : Waiting) :
    Kept A s0 (sp.apply s w) = Via (sp.Keeps A ∧ Kept A s0 s) (Kept.anyway A s0 (sp.apply s w)) :=
  eq_via fun ⟨h, hs⟩ => hs.trans (h s w)

/-- Applying a descriptor of the opcode changes only parts of T, as `simp` uses it. -/
@[reducible] def OpSpec.Within (T : List Part) (sp : OpSpec) : Prop := ∀ A, sp.Keeps A = Via (Covers A T) (OpSpec.Keeps.anyway sp A)

theorem OpSpec.Within.of {T : List Part} {sp : OpSpec} (h : ∀ A, (∀ p ∈ T, Allows A p) → ∀ s w, Kept A s (sp.apply s w)) :
    sp.Within T := fun A => eq_via (h A)

/-! ### The rows of the table -/

/-- The command keeps its frame: only the parts that its row names change. -/
def KeepsFrame (c : Instr) : Prop := ∀ A s t, Covers A (mayChange c) → exec c s = .next t → Kept A s t

theorem KeepsFrame.of {c : Instr} {f : State → State} (he : ∀ s, exec c s = .next (f s))
    (h : ∀ A, (∀ p ∈ mayChange c, Allows A p) → ∀ s, Kept A s (f s)) : KeepsFrame c := by
  intro A s t hA ht
  rw [he] at ht
  cases ht
  exact h A hA s

end Sys2Proof.Machine
end

section
/-!
SUPPORT. Frames: what each shared operation may change: registers, flags, the journal, faults, host rings, descriptors, UTC.
-/

namespace Sys2Proof.Machine

section
variable (s : State)

/-! ### Registers, flags, the journal, results and fault events -/

@[simp ↓] theorem within_put (f v) : Within [.regs] s (s.put f v) := .of fun A hA => by
  dsimp only [State.put]
  simp [hA]

@[simp ↓] theorem within_putB (f b) : Within [.regs] s (s.putB f b) := .of fun A hA => by
  dsimp only [State.putB]
  simp [hA]

@[simp ↓] theorem within_putS (f x) : Within [.regs] s (s.putS f x) := .of fun A hA => by
  dsimp only [State.putS]
  simp [hA]

@[simp ↓] theorem within_putSat (f x) : Within [.regs] s (s.putSat f x) := .of fun A hA => by
  dsimp only [State.putSat]
  simp [hA]

@[simp ↓] theorem within_putSatU (f v) : Within [.regs] s (s.putSatU f v) := .of fun A hA => by
  dsimp only [State.putSatU]
  simp [hA]

@[simp ↓] theorem within_putPair (lo hi v) : Within [.regs] s (s.putPair lo hi v) := .of fun A hA => by
  dsimp only [State.putPair]
  simp [hA]

@[simp ↓] theorem within_putPairSat (lo hi x) : Within [.regs] s (s.putPairSat lo hi x) := .of fun A hA => by
  dsimp only [State.putPairSat]
  simp [hA]

@[simp ↓] theorem within_bump (lo hi n) : Within [.regs] s (s.bump lo hi n) := .of fun A hA => by
  dsimp only [State.bump]
  simp [hA]

@[simp ↓] theorem within_bumpSat (f n) : Within [.regs] s (s.bumpSat f n) := .of fun A hA => by
  dsimp only [State.bumpSat]
  simp [hA]

@[simp ↓] theorem within_putMapBit (f k b) : Within [.regs] s (s.putMapBit f k b) := .of fun A hA => by
  dsimp only [State.putMapBit]
  simp [hA]

@[simp ↓] theorem within_publish (valid seq) : Within [.regs] s (s.publish valid seq) := .of fun A hA => by
  dsimp only [State.publish]
  simp [hA]

@[simp ↓] theorem within_nextSeq (seq) : Within [.regs] s (s.nextSeq seq) := .of fun A hA => by
  dsimp only [State.nextSeq]
  simp [hA]

@[simp ↓] theorem within_storeWord (a v) : Within [.regs] s (s.storeWord a v) := .of fun A hA => by
  unfold State.storeWord
  refine .fold fun t p => ?_
  split <;> simp [hA]

@[simp ↓] theorem within_setFlag (f) : Within [.regs, .hot] s (s.setFlag f) := .of fun A hA => by
  dsimp only [State.setFlag]
  simp [hA]

@[simp ↓] theorem within_flagIf (b f) : Within [.regs, .hot] s (s.flagIf b f) := .of fun A hA => by
  dsimp only [State.flagIf]
  simp [hA]

@[simp ↓] theorem within_fire (v) : Within [.regs, .hif] s (s.fire v) := .of fun A hA => by
  dsimp only [State.fire]
  simp [hA]

@[simp ↓] theorem within_perf (e i n) : Within [.obs] s (s.perf e i n) := .of fun A hA => by
  dsimp only [State.perf]
  simp [hA]

@[simp ↓] theorem within_setObs (f) : Within [.obs] s (s.setObs f) := .of fun A hA => by
  dsimp only [State.setObs]
  simp [hA]

@[simp ↓] theorem within_commitMark : Within [.jr] s (s.commitMark) := .of fun A hA => by
  dsimp only [State.commitMark]
  simp [hA]

@[simp ↓] theorem within_stage (t stamp pay) : Within [.regs, .jr, .obs, .hot] s (s.stage t stamp pay) := .of fun A hA => by
  dsimp only [State.stage]
  simp [hA]

@[simp ↓] theorem within_journalRoom : Within [.regs, .hot] s (s.journalRoom) := .of fun A hA => by
  dsimp only [State.journalRoom]
  simp [hA]

@[simp ↓] theorem within_journalSlot (r) : Within [.jr] s (s.journalSlot r) := .of fun A hA => by
  dsimp only [State.journalSlot]
  simp [hA]

@[simp ↓] theorem within_journalAt (stamp sev src code pay) :
    Within [.regs, .jr, .obs, .hot] s (s.journalAt stamp sev src code pay) := .of fun A hA => by
  dsimp only [State.journalAt]
  simp [hA]

@[simp ↓] theorem within_journal (sev src code pay) : Within [.regs, .jr, .obs, .hot] s (s.journal sev src code pay) := .of fun A hA => by
  dsimp only [State.journal]
  simp [hA]

@[simp ↓] theorem within_freeVal : Within [] s (s.freeVal).2 := .of fun A hA => by
  dsimp only [State.freeVal]
  simp

@[simp ↓] theorem within_skipFree (n) : Within [] s (s.skipFree n) := .of fun A hA => by
  dsimp only [State.skipFree]
  simp

@[simp ↓] theorem within_publishFlt : Within [.regs] s (s.publishFlt) := .of fun A hA => by
  dsimp only [State.publishFlt]
  simp [hA]

@[simp ↓] theorem within_deliver (src addr master access info inj react) :
    Within [.regs, .flt] s (s.deliver src addr master access info inj react) := .of fun A hA => by
  dsimp only [State.deliver]
  simp [hA]

@[simp ↓] theorem within_reportAt (src addr master access info) :
    Within [.regs, .flt] s (s.reportAt src addr master access info) := .of fun A hA => by
  dsimp only [State.reportAt]
  simp [hA]

@[simp ↓] theorem within_report (src) : Within [.regs, .flt] s (s.report src) := .of fun A hA => by
  dsimp only [State.report]
  simp [hA]

@[simp ↓] theorem within_reportIf (b src) : Within [.regs, .flt] s (s.reportIf b src) := .of fun A hA => by
  dsimp only [State.reportIf]
  simp [hA]

@[simp ↓] theorem within_feed (i m) : Within [.sel] s (s.feed i m) := .of fun A hA => by
  dsimp only [State.feed]
  simp [hA]

@[simp ↓] theorem within_windowEvent (kind inst delay) : Within [.flt] s (windowEvent s kind inst delay) := .of fun A hA => by
  dsimp only [windowEvent]
  simp [hA]

@[simp ↓] theorem within_alertOn (k) : Within [.sys] s (alertOn s k) := .of fun A hA => by
  dsimp only [alertOn]
  simp [hA]

@[simp ↓] theorem within_setCnj (f) : Within [.cnj] s (s.setCnj f) := .of fun A hA => by
  dsimp only [State.setCnj]
  simp [hA]

@[simp ↓] theorem within_setSys (f) : Within [.sys] s (s.setSys f) := .of fun A hA => by
  dsimp only [State.setSys]
  simp [hA]

/-! ### Host rings and the descriptor framework (R396–R410) -/

@[simp ↓] theorem within_setRingState (r st) : Within [.regs] s (setRingState s r st) := .of fun A hA => by
  dsimp only [setRingState]
  simp [hA]

@[simp ↓] theorem within_setProd (r pos) : Within [.regs] s (setProd s r pos) := .of fun A hA => by
  dsimp only [setProd]
  simp [hA]

@[simp ↓] theorem within_setCons (r pos) : Within [.regs] s (setCons s r pos) := .of fun A hA => by
  dsimp only [setCons]
  simp [hA]

@[simp ↓] theorem within_notifyRing (r) : Within [.regs, .hif] s (notifyRing s r) := .of fun A hA => by
  dsimp only [notifyRing]
  simp [hA]

@[simp ↓] theorem within_noteEntry (r atOnce) : Within [.regs, .hif] s (noteEntry s r atOnce) := .of fun A hA => by
  dsimp only [noteEntry]
  simp [hA]

@[simp ↓] theorem within_writeEntry (r e atOnce) : Within [.regs, .hif] s (writeEntry s r e atOnce) := .of fun A hA => by
  dsimp only [writeEntry]
  simp [hA]

@[simp ↓] theorem within_ringError (r cause slot) : Within [.regs, .jr, .hif, .obs, .hot] s (ringError s r cause slot) := .of fun A hA => by
  dsimp only [ringError]
  simp [hA]

@[simp ↓] theorem within_dropEntry (r) : Within [.regs] s (dropEntry s r) := .of fun A hA => by
  dsimp only [dropEntry]
  simp [hA]

@[simp ↓] theorem within_postEvent (r type source stampU pay) :
    Within [.regs, .hif, .hot] s (postEvent s r type source stampU pay) := .of fun A hA => by
  dsimp only [postEvent]
  simp [hA]

@[simp ↓] theorem within_postEvLost (r) : Within [.regs, .jr, .hif, .obs, .hot] s (postEvLost s r) := .of fun A hA => by
  dsimp only [postEvLost]
  simp [hA]

@[simp ↓] theorem within_reserve (cq) : Within [.regs] s (reserve s cq) := .of fun A hA => by
  dsimp only [reserve]
  simp [hA]

@[simp ↓] theorem within_unreserve (cq) : Within [.regs] s (unreserve s cq) := .of fun A hA => by
  dsimp only [unreserve]
  simp [hA]

@[simp ↓] theorem within_postCompletion (cq c atOnce) :
    Within [.regs, .jr, .hif, .obs, .hot] s (postCompletion s cq c atOnce) := .of fun A hA => by
  dsimp only [postCompletion]
  simp [hA]

@[simp ↓] theorem within_drainIq20 (cq) : Within [.regs, .jr, .hif, .obs, .hot] s (drainIq20 s cq) := .of fun A hA => by
  dsimp only [drainIq20]
  simp [hA]

@[simp ↓] theorem within_descApplied (w status stamp) :
    Within [.regs, .jr, .obs, .hot] s (descApplied s w status stamp) := .of fun A hA => by
  dsimp only [descApplied]
  simp [hA]

@[simp ↓] theorem within_completeDesc (d status more applied result) :
    Within [.regs, .jr, .hif, .obs, .hot] s (completeDesc s d status more applied result) := .of fun A hA => by
  dsimp only [completeDesc]
  simp [hA]

@[simp ↓] theorem within_returnExtra (aseq) : Within [.regs, .hif] s (returnExtra s aseq) := .of fun A hA => by
  unfold returnExtra
  split <;> simp [hA]

@[simp ↓] theorem within_refuseDesc (w status) : Within [.regs, .jr, .hif, .obs, .hot] s (refuseDesc s w status) := .of fun A hA => by
  dsimp only [refuseDesc]
  simp [hA]

@[simp ↓] theorem within_finishDesc (w status result) :
    Within [.regs, .jr, .hif, .obs, .hot] s (finishDesc s w status result) := .of fun A hA => by
  dsimp only [finishDesc]
  simp [hA]

@[simp ↓] theorem within_endDesc (w status) : Within [.regs, .jr, .hif, .obs, .hot] s (endDesc s w status) := .of fun A hA => by
  dsimp only [endDesc]
  simp [hA]

@[simp ↓] theorem within_updatePend : Within [.regs] s (updatePend s) := .of fun A hA => by
  dsimp only [updatePend]
  simp [hA]

@[simp ↓] theorem kept_acceptDesc {A : Nat} {s0 : State} (sp : OpSpec) (opcode d) : Kept A s0 (acceptDesc (some sp) opcode s d) =
    Via (Covers A [.regs, .jr, .hif, .obs, .hot] ∧ sp.Keeps A ∧ Kept A s0 s) (Kept.anyway A s0 (acceptDesc (some sp) opcode s d)) :=
  eq_via fun ⟨(hA : ∀ p ∈ _, Allows A p), hsp, hs⟩ => hs.trans <| by
    dsimp only [acceptDesc]
    simp [hA, hsp]

@[simp ↓] theorem within_removeWaiting (aseq) : Within [.regs, .hif] s (removeWaiting s aseq) := .of fun A hA => by
  dsimp only [removeWaiting]
  simp [hA]

@[simp ↓] theorem within_endWaiting (p status) : Within [.regs, .jr, .hif, .obs, .hot] s (endWaiting s p status) := .of fun A hA => by
  dsimp only [endWaiting]
  simp [hA]

@[simp ↓] theorem kept_submit {A : Nat} {s0 : State} (sp d) : Kept A s0 (submit sp s d) =
    Via (Covers A [.regs, .jr, .hif, .obs, .hot] ∧ sp.Keeps A ∧ Kept A s0 s) (Kept.anyway A s0 (submit sp s d)) :=
  eq_via fun ⟨(hA : ∀ p ∈ _, Allows A p), hsp, hs⟩ => hs.trans <| by
    unfold submit
    simp [hA, hsp]

@[simp ↓] theorem within_startLong (w port) : Within [.regs, .jr, .hif, .obs, .hot] s (startLong s w port) := .of fun A hA => by
  dsimp only [startLong]
  simp [hA]

@[simp ↓] theorem within_endLong (l status result) :
    Within [.regs, .jr, .hif, .obs, .hot] s (endLong s l status result) := .of fun A hA => by
  dsimp only [endLong]
  simp [hA]

@[simp ↓] theorem within_updateLong (l) : Within [.hif] s (updateLong s l) := .of fun A hA => by
  dsimp only [updateLong]
  simp [hA]

@[simp ↓] theorem within_suspendLong (l) : Within [.regs, .jr, .hif, .obs, .hot] s (suspendLong s l) := .of fun A hA => by
  dsimp only [suspendLong]
  simp [hA]

@[simp ↓] theorem someKept_longPoint {A : Nat} {s0 : State} (l r) : SomeKept A s0 (longPoint s l r) =
    Via (Covers A [.regs, .jr, .hif, .obs, .hot] ∧ Kept A s0 s) (SomeKept.anyway A s0 (longPoint s l r)) :=
  eq_via fun ⟨(hA : ∀ p ∈ _, Allows A p), hs⟩ => by
    unfold longPoint
    simp [hA, hs]

@[simp ↓] theorem within_openDesc (w key) : Within [.regs, .jr, .hif, .obs, .hot] s (openDesc s w key) := .of fun A hA => by
  dsimp only [openDesc]
  simp [hA]

@[simp ↓] theorem within_closeOpens (op key status result) :
    Within [.regs, .jr, .hif, .obs, .hot] s (closeOpens s op key status result) := .of fun A hA => by
  dsimp only [closeOpens]
  simp [hA]

@[simp ↓] theorem within_checkAt (src fails addr master access info) :
    Within [.regs, .jr, .hif, .obs, .flt, .hot] s (checkAt s src fails addr master access info) := .of fun A hA => by
  unfold checkAt
  split <;> simp [hA]

@[simp ↓] theorem within_check (src fails) : Within [.regs, .jr, .hif, .obs, .flt, .hot] s (check s src fails) := .of fun A hA => by
  dsimp only [check]
  simp [hA]

/-! ### TAI and UTC (R28–R31, R189–R191) -/

@[simp ↓] theorem within_setTai (v) : Within [.utc] s (setTai s v) := .of fun A hA => by
  dsimp only [setTai]
  simp [hA]

@[simp ↓] theorem within_showUtc : Within [.regs] s (showUtc s) := .of fun A hA => by
  dsimp only [showUtc]
  simp [hA]

@[simp ↓] theorem within_armLeap (tl ins trace) : Within [.regs, .jr, .obs, .utc, .hot] s (armLeap s tl ins trace) := .of fun A hA => by
  dsimp only [armLeap]
  simp [hA]

@[simp ↓] theorem within_clearLeap : Within [.utc] s (clearLeap s) := .of fun A hA => by
  dsimp only [clearLeap]
  simp [hA]

@[simp ↓] theorem within_leapConflict (src tl ins) :
    Within [.regs, .jr, .obs, .utc, .hot] s (leapConflict s src tl ins) := .of fun A hA => by
  dsimp only [leapConflict]
  simp [hA]

@[simp ↓] theorem within_announceLeap (src tl ins trace) :
    Within [.regs, .jr, .obs, .utc, .hot] s (announceLeap s src tl ins trace) := .of fun A hA => by
  unfold announceLeap
  split <;> simp [hA]

@[simp ↓] theorem within_sourceLeap (src tl ins) : Within [.regs, .jr, .obs, .utc, .hot] s (sourceLeap s src tl ins) := .of fun A hA => by
  dsimp only [sourceLeap]
  simp [hA]

@[simp ↓] theorem within_deliverOffset (src v bearing) :
    Within [.regs, .jr, .obs, .utc, .hot] s (deliverOffset s src v bearing) := .of fun A hA => by
  dsimp only [deliverOffset]
  simp [hA]

@[simp ↓] theorem within_leapApplied : Within [.regs, .jr, .obs, .utc, .hot] s (leapApplied s) := .of fun A hA => by
  dsimp only [leapApplied]
  split <;> split <;> simp [hA]

@[simp ↓] theorem within_leapDue : Within [.regs, .jr, .obs, .utc, .hot] s (leapDue s) := .of fun A hA => by
  unfold leapDue
  split <;> simp [hA]

end

end Sys2Proof.Machine
end

section
/-!
SUPPORT. Frames: what each operation of the ports' core, the selection, the pulse and egress cores, the time base and the Tense unit may change.
-/

namespace Sys2Proof.Machine

section
variable (s : State)

/-! ### Ports: counters, lanes and links -/

@[simp ↓] theorem within_macBump (p k n) : Within [.regs, .hif, .lan, .hot] s (macBump s p k n) := .of fun A hA => by
  dsimp only [macBump]
  simp [hA]

@[simp ↓] theorem within_macIf (b p k) : Within [.regs, .hif, .lan, .hot] s (macIf s b p k) := .of fun A hA => by
  dsimp only [macIf]
  simp [hA]

@[simp ↓] theorem within_enqueue (u) : Within [.lan] s (enqueue s u) := .of fun A hA => by
  dsimp only [enqueue]
  simp [hA]

/-! ### The security association table (R368–R372) -/

@[simp ↓] theorem within_setSat (i e) : Within [.regs, .auth] s (s.setSat i e) := .of fun A hA => by
  dsimp only [State.setSat]
  simp [hA]

@[simp ↓] theorem within_satBump (k n) : Within [.regs] s (satBump s k n) := .of fun A hA => by
  dsimp only [satBump]
  simp [hA]

@[simp ↓] theorem within_aesBlocks (core n) : Within [.regs, .obs] s (aesBlocks s core n) := .of fun A hA => by
  dsimp only [aesBlocks]
  simp [hA]

/-! ### Steering, the oscillator model and its predictions -/

@[simp ↓] theorem within_setSteer (yst ysl) : Within [.regs, .tns, .hot] s (setSteer s yst ysl) := .of fun A hA => by
  dsimp only [setSteer]
  simp [hA]

/-! ### Reference qualification and selection -/

@[simp ↓] theorem within_setRef (i r) : Within [.sel] s (s.setRef i r) := .of fun A hA => by
  dsimp only [State.setRef]
  simp [hA]

@[simp ↓] theorem within_setClient (p c) : Within [.sel] s (s.setClient p c) := .of fun A hA => by
  dsimp only [State.setClient]
  simp [hA]

@[simp ↓] theorem within_showClient (p) : Within [.regs] s (showClient s p) := .of fun A hA => by
  dsimp only [showClient]
  simp [hA]

@[simp ↓] theorem within_ageClient (p) : Within [.regs, .sel] s (ageClient s p) := .of fun A hA => by
  dsimp only [ageClient]
  simp [hA]

@[simp ↓] theorem within_consume (i) : Within [.regs, .sel] s (consume s i) := .of fun A hA => by
  dsimp only [consume]
  split
  · simp
  · split <;> simp [hA]

@[simp ↓] theorem within_netComponents (i) : Within [.regs, .sel] s (netComponents s i) := .of fun A hA => by
  dsimp only [netComponents]
  simp [hA]

@[simp ↓] theorem within_setMon (i k bad badClr sampled) : Within [.regs, .sel] s (setMon s i k bad badClr sampled) := .of fun A hA => by
  dsimp only [setMon]
  simp [hA]

@[simp ↓] theorem within_evalMonitors (i) : Within [.regs, .sel] s (evalMonitors s i) := .of fun A hA => by
  unfold evalMonitors
  extract_lets r s1 ms s2 q c
  have h1 : Kept A s s1 := by unfold s1; split <;> simp [hA]
  have h2 : Kept A s1 s2 := by unfold s2; split <;> simp [hA]
  exact h1.trans (h2.trans (by simp [hA]))

@[simp ↓] theorem within_driftSample (i) : Within [.regs, .sel] s (driftSample s i) := .of fun A hA => by
  unfold driftSample
  split
  next smp r _ =>
  extract_lets lw s1 s2 alone s3 ready s4
  have h2 : Kept A s s2 := by simp [s2, s1, hA]
  have h3 : Kept A s2 s3 := by unfold s3; split <;> simp [hA]
  have h4 : Kept A s3 s4 := by simp [s4, hA]
  refine h2.trans (h3.trans (h4.trans ?_))
  split
  · simp [hA]
  · split <;> simp [hA]

@[simp] theorem keepsFrame_driftSample : KeepsFrame .driftSample := .of (fun _ => rfl) fun A hA s => by
  dsimp only [mayChange] at hA
  simp [hA]

@[simp ↓] theorem within_setRefState (i st cause) : Within [.regs, .jr, .obs, .hot] s (setRefState s i st cause) := .of fun A hA => by
  dsimp only [setRefState]
  simp [hA]

@[simp ↓] theorem within_disqualify (i cause) : Within [.regs, .jr, .obs, .sel, .hot] s (disqualify s i cause) := .of fun A hA => by
  dsimp only [disqualify]
  simp [hA]

@[simp ↓] theorem within_becomeQualified (i) : Within [.regs, .jr, .obs, .sel, .hot] s (becomeQualified s i) := .of fun A hA => by
  dsimp only [becomeQualified]
  simp [hA]

@[simp ↓] theorem within_startQualifying (i) : Within [.regs, .jr, .obs, .sel, .hot] s (startQualifying s i) := .of fun A hA => by
  dsimp only [startQualifying]
  simp [hA]

@[simp ↓] theorem within_showTimer (i) : Within [.regs] s (showTimer s i) := .of fun A hA => by
  dsimp only [showTimer]
  simp [hA]

@[simp ↓] theorem within_evalState (i) : Within [.regs, .jr, .obs, .sel, .hot] s (evalState s i) := .of fun A hA => by
  unfold evalState
  extract_lets st cls was los s1 s2 s3 s4 cause r fresh
  have h4 : Kept A s s4 := by simp [s4, s3, s2, s1, hA]
  refine h4.trans ?_
  clear_value s4
  repeat' split
  all_goals simp [hA]

@[simp ↓] theorem within_nameRef (tgt new reason) : Within [.regs, .jr, .obs, .hot] s (nameRef s tgt new reason) := .of fun A hA => by
  dsimp only [nameRef]
  repeat' split
  all_goals simp [hA]

@[simp ↓] theorem within_setForced (tgt r) : Within [.regs, .sel] s (setForced s tgt r) := .of fun A hA => by
  dsimp only [setForced]
  simp [hA]

@[simp ↓] theorem within_journalPair (tgt a b begins) :
    Within [.regs, .jr, .obs, .hot] s (journalPair s tgt a b begins) := .of fun A hA => by
  dsimp only [journalPair]
  simp [hA]

@[simp ↓] theorem within_setPairs (tgt ps) : Within [.regs, .jr, .obs, .sel, .hot] s (setPairs s tgt ps) := .of fun A hA => by
  dsimp only [setPairs]
  simp [hA]

@[simp ↓] theorem within_outvote (l) : Within [.regs, .jr, .obs, .sel, .hot] s (outvote s l) := .of fun A hA => by
  dsimp only [outvote]
  simp [hA]

@[simp ↓] theorem within_choose (tgt) : Within [.regs, .jr, .obs, .sel, .hot] s (choose s tgt).1 := .of fun A hA => by
  unfold choose
  split <;> simp [hA]

@[simp ↓] theorem within_holdSwitch (cur cand) : Within [.regs, .jr, .obs, .sel, .hot] s (holdSwitch s cur cand) := .of fun A hA => by
  dsimp only [holdSwitch]
  simp [hA]

@[simp ↓] theorem within_selectFreq : Within [.regs, .jr, .obs, .sel, .hot] s (selectFreq s) := .of fun A hA => by
  dsimp only [selectFreq]
  simp [hA]

@[simp ↓] theorem within_selectLocked : Within [.regs, .jr, .obs, .sel, .hot] s (selectLocked s) := .of fun A hA => by
  dsimp only [selectLocked]
  split <;> simp [hA]

@[simp ↓] theorem within_setQl (i q) : Within [.regs, .jr, .obs, .hot] s (setQl s i q) := .of fun A hA => by
  dsimp only [setQl]
  simp [hA]

@[simp ↓] theorem within_esmcExpire (p) : Within [.regs, .jr, .obs, .sel, .hot] s (esmcExpire s p) := .of fun A hA => by
  unfold esmcExpire
  split <;> simp [hA]

@[simp] theorem keepsFrame_esmcTimeout (p) : KeepsFrame (.esmcTimeout p) := .of (fun _ => rfl) fun A hA s => by
  dsimp only [mayChange] at hA
  simp [hA]

@[simp ↓] theorem within_esmcPdu (p ssm essm) : Within [.regs, .jr, .obs, .sel, .hot] s (esmcPdu s p ssm essm) := .of fun A hA => by
  dsimp only [esmcPdu]
  simp [hA]

/-! ### The core of the pulse unit -/

@[simp ↓] theorem within_setGen (n g) : Within [.pls] s (s.setGen n g) := .of fun A hA => by
  dsimp only [State.setGen]
  simp [hA]

@[simp ↓] theorem within_setHeld (n h) : Within [.regs] s (setHeld s n h) := .of fun A hA => by
  dsimp only [setHeld]
  simp [hA]

@[simp ↓] theorem within_setEntry (i e) : Within [.regs, .pls] s (s.setEntry i e) := .of fun A hA => by
  dsimp only [State.setEntry]
  simp [hA]

@[simp ↓] theorem within_notePast (i e cause t) : Within [.regs, .jr, .obs, .hot] s (notePast s i e cause t) := .of fun A hA => by
  dsimp only [notePast]
  simp [hA]

@[simp ↓] theorem within_addComm (c) : Within [.pls] s (addComm s c) := .of fun A hA => by
  dsimp only [addComm]
  simp [hA]

@[simp ↓] theorem within_dropComms (i) : Within [.pls] s (dropComms s i) := .of fun A hA => by
  dsimp only [dropComms]
  simp [hA]

@[simp ↓] theorem within_evalPast (i cause) : Within [.regs, .jr, .obs, .pls, .hot] s (evalPast s i cause) := .of fun A hA => by
  dsimp only [evalPast]
  simp [hA]

@[simp ↓] theorem within_uncommit (i) : Within [.regs, .pls] s (uncommit s i) := .of fun A hA => by
  dsimp only [uncommit]
  split <;> simp [hA]

@[simp ↓] theorem within_rewind (i) : Within [.regs, .pls] s (rewind s i) := .of fun A hA => by
  dsimp only [rewind]
  simp [hA]

@[simp ↓] theorem within_rebaseAlign (n h) : Within [.pls] s (rebaseAlign s n h) := .of fun A hA => by
  dsimp only [rebaseAlign]
  simp [hA]

@[simp ↓] theorem within_stepPulses (amount first) :
    Within [.regs, .jr, .obs, .pls, .hot] s (stepPulses s amount first) := .of fun A hA => by
  dsimp only [stepPulses]
  simp [hA]

/-! ### The latency bound and admission control -/

@[simp ↓] theorem within_normEngMap : Within [.regs] s (normEngMap s) := .of fun A hA => by
  dsimp only [normEngMap]
  simp [hA]

@[simp ↓] theorem within_showClass (c) : Within [.regs] s (showClass s c) := .of fun A hA => by
  dsimp only [showClass]
  simp [hA]

@[simp ↓] theorem within_showClasses : Within [.regs] s (showClasses s) := .of fun A hA => by
  dsimp only [showClasses]
  simp [hA]

@[simp ↓] theorem within_recomputeClass (c oldLim) : Within [.regs] s (recomputeClass s c oldLim) := .of fun A hA => by
  dsimp only [recomputeClass]
  simp [hA]

@[simp ↓] theorem within_setQEff (c) : Within [.regs, .cla] s (setQEff s c) := .of fun A hA => by
  dsimp only [setQEff]
  simp [hA]

@[simp ↓] theorem within_setStarved (c b) : Within [.regs, .jr, .hif, .obs, .flt, .hot] s (setStarved s c b) := .of fun A hA => by
  dsimp only [setStarved]
  simp [hA]

@[simp ↓] theorem within_refreshClass (c) : Within [.regs, .jr, .hif, .obs, .cla, .flt, .hot] s (refreshClass s c) := .of fun A hA => by
  dsimp only [refreshClass]
  simp [hA]

@[simp] theorem keepsFrame_admissionRefresh : KeepsFrame .admissionRefresh := .of (fun _ => rfl) fun A hA s => by
  dsimp only [mayChange] at hA
  simp [hA]

@[simp ↓] theorem within_tighten (c cause) : Within [.regs, .jr, .obs, .cla, .hot] s (tighten s c cause) := .of fun A hA => by
  dsimp only [tighten]
  simp [hA]

@[simp ↓] theorem within_showCla : Within [.regs] s (showCla s) := .of fun A hA => by
  dsimp only [showCla]
  simp [hA]

@[simp ↓] theorem within_storeService (regs) : Within [.regs] s (storeService s regs) := .of fun A hA => by
  dsimp only [storeService]
  simp [hA]

@[simp] theorem keepsFrame_reconfDrainEnd : KeepsFrame .reconfDrainEnd := .of (fun _ => rfl) fun A hA s => by
  dsimp only [mayChange] at hA
  simp [hA]

/-! ### The core of timestamping and scheduled egress -/

@[simp ↓] theorem within_setTsu (f) : Within [.tsu] s (s.setTsu f) := .of fun A hA => by
  dsimp only [State.setTsu]
  simp [hA]

@[simp ↓] theorem within_tsuBump (p k) : Within [.regs] s (tsuBump s p k) := .of fun A hA => by
  dsimp only [tsuBump]
  simp [hA]

@[simp ↓] theorem within_lateDiscard (p cause t c) :
    Within [.regs, .jr, .obs, .tsu, .cla, .hot] s (lateDiscard s p cause t c) := .of fun A hA => by
  dsimp only [lateDiscard]
  simp [hA]

@[simp ↓] theorem within_freeBook (b) : Within [.tsu] s (freeBook s b) := .of fun A hA => by
  dsimp only [freeBook]
  simp [hA]

@[simp ↓] theorem within_putBook (b) : Within [.tsu] s (putBook s b) := .of fun A hA => by
  dsimp only [putBook]
  simp [hA]

@[simp ↓] theorem within_dropTxn (e c) : Within [.cla] s (dropTxn s e c) := .of fun A hA => by
  dsimp only [dropTxn]
  simp [hA]

@[simp ↓] theorem within_discard (b cause) : Within [.regs, .jr, .obs, .tsu, .cla, .hot] s (discard s b cause) := .of fun A hA => by
  dsimp only [discard]
  simp [hA]

@[simp ↓] theorem within_stepBookings (old) : Within [.regs, .jr, .obs, .tsu, .cla, .hot] s (stepBookings s old) := .of fun A hA => by
  dsimp only [stepBookings]
  simp [hA]

/-! ### A step of the time base (R25–R27) -/

@[simp ↓] theorem within_stepRefs (ps u) : Within [.sel] s (stepRefs s ps u) := .of fun A hA => by
  dsimp only [stepRefs]
  simp [hA]

@[simp ↓] theorem within_stepOuts (amount) : Within [.syn] s (stepOuts s amount) := .of fun A hA => by
  dsimp only [stepOuts]
  simp [hA]

@[simp ↓] theorem within_stepBase (amount tag first) :
    Within [.regs, .tb, .jr, .obs, .sel, .tns, .syn, .pls, .tsu, .cla, .hot] s (stepBase s amount tag first) := .of fun A hA => by
  dsimp only [stepBase]
  simp [hA]

/-! ### The Tense unit: loop, holdover, return and the core Gloss -/

@[simp ↓] theorem within_setTns (f) : Within [.tns] s (s.setTns f) := .of fun A hA => by
  dsimp only [State.setTns]
  simp [hA]

@[simp ↓] theorem within_showLoop : Within [.regs] s (showLoop s) := .of fun A hA => by
  dsimp only [showLoop]
  simp [hA]

@[simp ↓] theorem within_setDrem (d) : Within [.regs, .tns] s (setDrem s d) := .of fun A hA => by
  dsimp only [setDrem]
  simp [hA]

@[simp ↓] theorem within_carryOver : Within [.regs, .tns] s (carryOver s) := .of fun A hA => by
  dsimp only [carryOver]
  simp [hA]

@[simp ↓] theorem within_loopUpdate (phi t) : Within [.regs, .tns] s (loopUpdate s phi t) := .of fun A hA => by
  dsimp only [loopUpdate]
  simp [hA]

@[simp ↓] theorem within_markValid (i) : Within [.tns] s (markValid s i) := .of fun A hA => by
  dsimp only [markValid]
  simp [hA]

@[simp ↓] theorem within_takeSrc (i) : Within [.tns] s (takeSrc s i) := .of fun A hA => by
  dsimp only [takeSrc]
  simp [hA]

@[simp ↓] theorem within_setTsState (st reason) : Within [.regs, .jr, .obs, .sys, .hot] s (setTsState s st reason) := .of fun A hA => by
  dsimp only [setTsState]
  simp [hA]

@[simp ↓] theorem within_clearJump (how) : Within [.regs, .jr, .obs, .tns, .hot] s (clearJump s how) := .of fun A hA => by
  unfold clearJump
  split <;> simp [hA]

@[simp ↓] theorem within_restartLoop : Within [.tns] s (restartLoop s) := .of fun A hA => by
  dsimp only [restartLoop]
  simp [hA]

@[simp ↓] theorem within_holdSteer : Within [.regs, .tns] s (holdSteer s) := .of fun A hA => by
  unfold holdSteer
  split <;> simp [hA]

@[simp ↓] theorem within_acceptReturn (i d why reason how) :
    Within [.regs, .jr, .obs, .tns, .sys, .hot] s (acceptReturn s i d why reason how) := .of fun A hA => by
  dsimp only [acceptReturn]
  simp [hA]

@[simp ↓] theorem within_refuseReturn (i) : Within [.regs, .jr, .obs, .tns, .hot] s (refuseReturn s i) := .of fun A hA => by
  dsimp only [refuseReturn]
  simp [hA]

@[simp ↓] theorem within_evalReturn : Within [.regs, .jr, .obs, .sel, .tns, .sys, .hot] s (evalReturn s) := .of fun A hA => by
  dsimp only [evalReturn]
  split
  · simp [hA]
  · split <;> simp [hA]

@[simp ↓] theorem within_followJump : Within [.regs, .jr, .obs, .tns, .sys, .hot] s (followJump s) := .of fun A hA => by
  unfold followJump
  split <;> simp [hA]

@[simp ↓] theorem within_slewArrive : Within [.regs, .tns] s (slewArrive s) := .of fun A hA => by
  dsimp only [slewArrive]
  simp [hA]

@[simp ↓] theorem within_slewStep : Within [.regs, .tns, .hot] s (slewStep s) := .of fun A hA => by
  dsimp only [slewStep]
  simp [hA]

@[simp ↓] theorem within_lostCheck : Within [.regs, .jr, .obs, .sys, .hot] s (lostCheck s) := .of fun A hA => by
  dsimp only [lostCheck]
  simp [hA]

@[simp ↓] theorem within_enterHoldover : Within [.regs, .jr, .obs, .tns, .sys, .hot] s (enterHoldover s) := .of fun A hA => by
  dsimp only [enterHoldover]
  simp [hA]

@[simp ↓] theorem within_publishWord (w b) : Within [.regs, .jr, .hif, .obs, .tns, .hot] s (publishWord s w b) := .of fun A hA => by
  dsimp only [publishWord]
  simp [hA]

@[simp ↓] theorem within_showTrace : Within [.tns] s (showTrace s) := .of fun A hA => by
  unfold showTrace
  split <;> simp [hA]

@[simp ↓] theorem within_publishChange : Within [.regs, .jr, .hif, .obs, .tns, .flt, .sys, .hot] s (publishChange s) := .of fun A hA => by
  dsimp only [publishChange]
  simp [hA]

@[simp ↓] theorem within_snapshotTb (w) : Within [.regs] s (snapshotTb s w) := .of fun A hA => by
  dsimp only [snapshotTb]
  simp [hA]

@[simp ↓] theorem within_stepFreeRun : Within [.regs, .jr, .obs, .sel, .tns, .sys, .hot] s (stepFreeRun s) := .of fun A hA => by
  dsimp only [stepFreeRun]
  split <;> simp [hA]

@[simp ↓] theorem within_acquireOn (i fresh) :
    Within [.regs, .tb, .jr, .obs, .sel, .tns, .syn, .pls, .tsu, .cla, .sys, .hot] s (acquireOn s i fresh) := .of fun A hA => by
  unfold acquireOn
  split <;> simp [hA]

@[simp ↓] theorem within_lockedOn (i fresh) : Within [.regs, .tns] s (lockedOn s i fresh) := .of fun A hA => by
  unfold lockedOn
  split <;> simp [hA]

@[simp ↓] theorem within_stepAcquiring (fresh) :
    Within [.regs, .tb, .jr, .obs, .sel, .tns, .syn, .pls, .tsu, .cla, .sys, .hot] s (stepAcquiring s fresh) := .of fun A hA => by
  dsimp only [stepAcquiring]
  split <;> simp [hA]

@[simp ↓] theorem within_stepLocked (fresh) : Within [.regs, .jr, .obs, .sel, .tns, .sys, .hot] s (stepLocked s fresh) := .of fun A hA => by
  dsimp only [stepLocked]
  split <;> simp [hA]

@[simp ↓] theorem within_holdOn : Within [.regs, .jr, .obs, .tns, .sys, .hot] s (holdOn s) := .of fun A hA => by
  dsimp only [holdOn]
  simp [hA]

@[simp ↓] theorem within_stepSelecting (fresh) :
    Within [.regs, .tb, .jr, .obs, .sel, .tns, .syn, .pls, .tsu, .cla, .sys, .hot] s (stepSelecting s fresh) := .of fun A hA => by
  dsimp only [stepSelecting]
  simp [hA]

@[simp ↓] theorem within_stepKeeping (fresh) :
    Within [.regs, .tb, .jr, .obs, .sel, .tns, .syn, .pls, .tsu, .cla, .sys, .hot] s (stepKeeping s fresh) := .of fun A hA => by
  unfold stepKeeping
  split <;> simp [hA]

@[simp ↓] theorem within_efcTick : Within [.tns] s (efcTick s) := .of fun A hA => by
  dsimp only [efcTick]
  simp [hA]

@[simp ↓] theorem within_applyEfc : Within [.tns] s (applyEfc s) := .of fun A hA => by
  dsimp only [applyEfc]
  simp [hA]

@[simp ↓] theorem within_noteSlew : Within [.tns] s (noteSlew s) := .of fun A hA => by
  dsimp only [noteSlew]
  simp [hA]

@[simp ↓] theorem within_evalRefs : Within [.regs, .jr, .obs, .sel, .hot] s (evalRefs s) := .of fun A hA => by
  dsimp only [evalRefs]
  simp [hA]

@[simp ↓] theorem within_concludeStep : Within [.regs, .sel, .tns, .hot] s (concludeStep s) := .of fun A hA => by
  dsimp only [concludeStep]
  simp [hA]

@[simp ↓] theorem within_secondTick : Within [.regs, .jr, .obs, .tns, .hot] s (secondTick s) := .of fun A hA => by
  dsimp only [secondTick]
  simp [hA]

@[simp ↓] theorem within_publication (tc1 steer other) :
    Within [.regs, .tb, .jr, .hif, .obs, .sel, .tns, .syn, .pls, .tsu, .cla, .flt, .sys, .hot]
      s (publication s tc1 steer other) := .of fun A hA => by
  dsimp only [publication]
  simp [hA]
  split <;> simp [hA]

@[simp ↓] theorem within_reselect :
    Within [.regs, .tb, .jr, .hif, .obs, .sel, .tns, .syn, .pls, .tsu, .cla, .flt, .sys, .hot] s (reselect s) := .of fun A hA => by
  dsimp only [reselect]
  simp [hA]

@[simp] theorem keepsFrame_glossStale : KeepsFrame .glossStale := .of (fun _ => rfl) fun A hA s => by
  dsimp only [mayChange] at hA
  split <;> simp [hA]

end

end Sys2Proof.Machine
end

section
/-!
SUPPORT. Frames: what each operation of the authentication unit, the Tense unit's commands and the GNSS baseband may change, and that their rows keep their frames.
-/

namespace Sys2Proof.Machine

section
variable (s : State)

/-! ### Commands of the authentication unit -/

@[simp ↓] theorem within_satPublish (old : State) : Within [.regs] s (satPublish old s) := .of fun A hA => by
  dsimp only [satPublish]
  simp [hA]

@[simp ↓] theorem within_satChange (i o e) : Within [.regs, .jr, .obs, .hot] s (satChange s i o e) := .of fun A hA => by
  dsimp only [satChange]
  simp [hA]

@[simp ↓] theorem within_reseed (healthy) : Within [.regs, .jr, .hif, .obs, .auth, .flt, .hot] s (reseed s healthy) := .of fun A hA => by
  dsimp only [reseed]
  simp [hA]

@[simp] theorem keepsFrame_drbgReseed (healthy) : KeepsFrame (.drbgReseed healthy) := .of (fun _ => rfl) fun A hA s => by
  dsimp only [mayChange] at hA
  simp [hA]

@[simp] theorem keepsFrame_satExpiry (i) : KeepsFrame (.satExpiry i) := .of (fun _ => rfl) fun A hA s => by
  dsimp only [mayChange] at hA
  simp [hA]

@[simp ↓] theorem within_satEntryFault (i) : Within [.regs, .jr, .hif, .obs, .auth, .flt, .hot] s (satEntryFault s i) := .of fun A hA => by
  dsimp only [satEntryFault]
  simp [hA]

@[simp ↓] theorem within_installImage (im) : Within [.regs, .jr, .obs, .auth, .hot] s (installImage s im) := .of fun A hA => by
  dsimp only [installImage]
  simp [hA]

@[simp ↓] theorem within_satInstallOp : satInstallOp.Within [.regs, .jr, .hif, .obs, .auth, .hot] := .of fun A hA s w => by
  dsimp only [satInstallOp]
  simp [hA]

@[simp] theorem keepsFrame_satInstall (d) : KeepsFrame (.satInstall d) := .of (fun _ => rfl) fun A hA s => by
  dsimp only [mayChange] at hA
  simp [hA]

@[simp] theorem keepsFrame_satInstGo : KeepsFrame .satInstGo := .of (fun _ => rfl) fun A hA s => by
  dsimp only [mayChange] at hA
  simp [hA]

@[simp] theorem keepsFrame_satQryGo (i) : KeepsFrame (.satQryGo i) := .of (fun _ => rfl) fun A hA s => by
  dsimp only [mayChange] at hA
  simp [hA]

@[simp ↓] theorem within_normCur : Within [.regs] s (normCur s) := .of fun A hA => by
  dsimp only [normCur]
  simp [hA]

@[simp ↓] theorem within_satRotateOp : satRotateOp.Within [.regs, .jr, .hif, .obs, .hot] := .of fun A hA s w => by
  dsimp only [satRotateOp]
  simp [hA]

@[simp] theorem keepsFrame_satRotate (d) : KeepsFrame (.satRotate d) := .of (fun _ => rfl) fun A hA s => by
  dsimp only [mayChange] at hA
  simp [hA]

@[simp ↓] theorem within_showRekey : Within [.regs] s (showRekey s) := .of fun A hA => by
  dsimp only [showRekey]
  split <;> simp [hA]

@[simp ↓] theorem within_satRekeyOp : satRekeyOp.Within [.regs, .jr, .hif, .obs, .auth, .hot] := .of fun A hA s w => by
  dsimp only [satRekeyOp]
  simp [hA]

@[simp] theorem keepsFrame_satRekey (d) : KeepsFrame (.satRekey d) := .of (fun _ => rfl) fun A hA s => by
  dsimp only [mayChange] at hA
  simp [hA]

@[simp ↓] theorem within_endRekey (l status) : Within [.regs, .jr, .hif, .obs, .auth, .hot] s (endRekey s l status) := .of fun A hA => by
  dsimp only [endRekey]
  simp [hA]

@[simp ↓] theorem within_suspendRekey (l) : Within [.regs, .jr, .hif, .obs, .hot] s (suspendRekey s l) := .of fun A hA => by
  dsimp only [suspendRekey]
  simp [hA]

@[simp ↓] theorem within_rekeyRecord (k r) : Within [.regs, .jr, .obs, .auth, .hot] s (rekeyRecord s k r) := .of fun A hA => by
  dsimp only [rekeyRecord]
  simp [hA]

@[simp] theorem keepsFrame_satRekeyRecord (r) : KeepsFrame (.satRekeyRecord r) := .of (fun _ => rfl) fun A hA s => by
  dsimp only [mayChange] at hA
  split <;> simp [hA]

@[simp ↓] theorem within_zeroise : Within [.regs, .cla, .auth] s (zeroise s) := .of fun A hA => by
  dsimp only [zeroise]
  simp [hA]

/-! ### Commands of the Tense unit -/

@[simp ↓] theorem within_settle : Within [.regs, .jr, .hif, .obs, .tns, .flt, .sys, .hot] s (settle s) := .of fun A hA => by
  dsimp only [settle]
  simp [hA]

@[simp] theorem keepsFrame_leapApplied : KeepsFrame .leapApplied := .of (fun _ => rfl) fun A hA s => by
  dsimp only [mayChange] at hA
  simp [hA]

@[simp] theorem keepsFrame_leapArmed : KeepsFrame .leapArmed := .of (fun _ => rfl) fun A hA s => by
  dsimp only [mayChange] at hA
  simp [hA]

@[simp ↓] theorem within_evalOne (i) :
    Within [.regs, .tb, .jr, .hif, .obs, .sel, .tns, .syn, .pls, .tsu, .cla, .flt, .sys, .hot] s (evalOne s i) := .of fun A hA => by
  dsimp only [evalOne]
  simp [hA]

@[simp] theorem keepsFrame_qualHoldoffExpiry (i) : KeepsFrame (.qualHoldoffExpiry i) := .of (fun _ => rfl) fun A hA s => by
  dsimp only [mayChange] at hA
  simp [hA]

@[simp] theorem keepsFrame_dqHoldoffExpiry (i) : KeepsFrame (.dqHoldoffExpiry i) := .of (fun _ => rfl) fun A hA s => by
  dsimp only [mayChange] at hA
  simp [hA]

@[simp] theorem keepsFrame_refLosTimeout (i) : KeepsFrame (.refLosTimeout i) := .of (fun _ => rfl) fun A hA s => by
  dsimp only [mayChange] at hA
  simp [hA]

@[simp] theorem keepsFrame_waitToRestore : KeepsFrame .waitToRestore := .of (fun _ => rfl) fun A hA s => by
  dsimp only [mayChange] at hA
  repeat' split
  all_goals simp [hA]

@[simp ↓] theorem within_storeMasked (d mask l) : Within [.regs] s (storeMasked s d mask l) := .of fun A hA => by
  dsimp only [storeMasked]
  simp [hA]

@[simp ↓] theorem within_selStore (d) : Within [.regs] s (selStore s d) := .of fun A hA => by
  dsimp only [selStore]
  simp [hA]

@[simp ↓] theorem within_selSetOp : selSetOp.Within [.regs, .jr, .hif, .obs, .sel, .hot] := .of fun A hA s w => by
  dsimp only [selSetOp]
  simp [hA]

@[simp] theorem keepsFrame_selSet (d) : KeepsFrame (.selSet d) := .of (fun _ => rfl) fun A hA s => by
  dsimp only [mayChange] at hA
  simp [hA]

@[simp ↓] theorem within_selForceOp : selForceOp.Within [.regs, .jr, .hif, .obs, .sel, .hot] := .of fun A hA s w => by
  dsimp only [selForceOp]
  simp [hA]

@[simp] theorem keepsFrame_selForce (d) : KeepsFrame (.selForce d) := .of (fun _ => rfl) fun A hA s => by
  dsimp only [mayChange] at hA
  simp [hA]

@[simp ↓] theorem within_setLearn (f) : Within [.tns] s (setLearn s f) := .of fun A hA => by
  dsimp only [setLearn]
  simp [hA]

@[simp ↓] theorem within_installModel (model span) : Within [.regs, .jr, .obs, .hot] s (installModel s model span) := .of fun A hA => by
  dsimp only [installModel]
  simp [hA]

@[simp ↓] theorem within_learnSecond : Within [.tns] s (learnSecond s) := .of fun A hA => by
  dsimp only [learnSecond]
  simp [hA]

@[simp ↓] theorem within_learnPoint : Within [.regs, .jr, .hif, .obs, .tns, .hot] s (learnPoint s) := .of fun A hA => by
  unfold learnPoint
  split <;> simp [hA]

@[simp] theorem keepsFrame_learnSample : KeepsFrame .learnSample := .of (fun _ => rfl) fun A hA s => by
  dsimp only [mayChange] at hA
  simp [hA]

@[simp ↓] theorem within_storeFit (t0 a k1 k2 um ua ut) : Within [.regs] s (storeFit s t0 a k1 k2 um ua ut) := .of fun A hA => by
  dsimp only [storeFit]
  simp [hA]

@[simp ↓] theorem within_freeFields (fs) : Within [.regs] s (freeFields s fs) := .of fun A hA => by
  dsimp only [freeFields]
  simp [hA]

@[simp ↓] theorem within_freeFloors (fs) : Within [.regs] s (freeFloors s fs) := .of fun A hA => by
  dsimp only [freeFloors]
  simp [hA]

@[simp ↓] theorem within_fitModel : Within [.regs] s (fitModel s).1 := .of fun A hA => by
  dsimp only [fitModel]
  split <;> simp [hA]

@[simp] theorem keepsFrame_rollingFit : KeepsFrame .rollingFit := .of (fun _ => rfl) fun A hA s => by
  dsimp only [mayChange] at hA
  simp [hA]

@[simp ↓] theorem within_startEfc (code n) : Within [.regs, .tns] s (startEfc s code n) := .of fun A hA => by
  dsimp only [startEfc]
  simp [hA]

@[simp] theorem keepsFrame_efcCentring : KeepsFrame .efcCentring := .of (fun _ => rfl) fun A hA s => by
  dsimp only [mayChange] at hA
  simp [hA]

@[simp] theorem keepsFrame_efcFrameEnd : KeepsFrame .efcFrameEnd := .of (fun _ => rfl) fun A hA s => by
  dsimp only [mayChange] at hA
  split <;> simp [hA]

@[simp ↓] theorem within_efcInit : Within [.regs, .tns] s (efcInit s) := .of fun A hA => by
  dsimp only [efcInit]
  simp [hA]

@[simp] theorem keepsFrame_tempRead : KeepsFrame .tempRead := .of (fun _ => rfl) fun A hA s => by
  dsimp only [mayChange] at hA
  simp [hA]

@[simp ↓] theorem within_noteTemp : Within [.tns] s (noteTemp s) := .of fun A hA => by
  dsimp only [noteTemp]
  simp [hA]

@[simp] theorem keepsFrame_tempReadDone (raw) : KeepsFrame (.tempReadDone raw) := .of (fun _ => rfl) fun A hA s => by
  dsimp only [mayChange] at hA
  dsimp only
  split
  · simp
  · split <;> simp [hA]

@[simp ↓] theorem within_endStep (w amount) :
    Within [.regs, .jr, .hif, .obs, .tns, .flt, .sys, .hot] s (endStep s w amount) := .of fun A hA => by
  dsimp only [endStep]
  simp [hA]

@[simp ↓] theorem within_tnsStepOp :
    tnsStepOp.Within [.regs, .tb, .jr, .hif, .obs, .sel, .tns, .syn, .pls, .tsu, .cla, .flt, .sys, .hot] := .of fun A hA s w => by
  dsimp only [tnsStepOp]
  split
  · simp [hA]
  · split <;> simp [hA]

@[simp] theorem keepsFrame_tnsStep (d) : KeepsFrame (.tnsStep d) := .of (fun _ => rfl) fun A hA s => by
  dsimp only [mayChange] at hA
  simp [hA]

@[simp ↓] theorem within_hostTimeOp : hostTimeOp.Within [.regs, .jr, .hif, .obs, .tns, .hot] := .of fun A hA s w => by
  dsimp only [hostTimeOp]
  simp [hA]

@[simp] theorem keepsFrame_tnsHostTime (d) : KeepsFrame (.tnsHostTime d) := .of (fun _ => rfl) fun A hA s => by
  dsimp only [mayChange] at hA
  simp [hA]

@[simp ↓] theorem within_tnsUtcOp : tnsUtcOp.Within [.regs, .jr, .hif, .obs, .utc, .tns, .flt, .sys, .hot] := .of fun A hA s w => by
  dsimp only [tnsUtcOp]
  simp [hA]

@[simp] theorem keepsFrame_tnsUtc (d) : KeepsFrame (.tnsUtc d) := .of (fun _ => rfl) fun A hA s => by
  dsimp only [mayChange] at hA
  simp [hA]

@[simp ↓] theorem within_normHo : Within [.regs] s (normHo s) := .of fun A hA => by
  dsimp only [normHo]
  simp [hA]

@[simp ↓] theorem within_normModel : Within [.regs] s (normModel s) := .of fun A hA => by
  dsimp only [normModel]
  simp [hA]

@[simp ↓] theorem within_tnsSetOp : tnsSetOp.Within [.regs, .jr, .hif, .obs, .tns, .flt, .sys, .hot] := .of fun A hA s w => by
  dsimp only [tnsSetOp]
  simp [hA]

@[simp] theorem keepsFrame_tnsSet (d) : KeepsFrame (.tnsSet d) := .of (fun _ => rfl) fun A hA s => by
  dsimp only [mayChange] at hA
  simp [hA]

@[simp ↓] theorem within_learnOpSpec : learnOpSpec.Within [.regs, .jr, .hif, .obs, .tns, .hot] := .of fun A hA s w => by
  dsimp only [learnOpSpec]
  simp [hA]

@[simp] theorem keepsFrame_holdoverLearn (d) : KeepsFrame (.holdoverLearn d) := .of (fun _ => rfl) fun A hA s => by
  dsimp only [mayChange] at hA
  simp [hA]

@[simp] theorem keepsFrame_holdoverLearnDone : KeepsFrame .holdoverLearnDone := .of (fun _ => rfl) fun A hA s => by
  dsimp only [mayChange] at hA
  split <;> simp [hA]

@[simp ↓] theorem within_modelLoadOp : modelLoadOp.Within [.regs, .jr, .hif, .obs, .hot] := .of fun A hA s w => by
  dsimp only [modelLoadOp]
  simp [hA]

@[simp] theorem keepsFrame_hoModelLoad (d) : KeepsFrame (.hoModelLoad d) := .of (fun _ => rfl) fun A hA s => by
  dsimp only [mayChange] at hA
  simp [hA]

@[simp ↓] theorem within_applyTenseDue :
    Within [.regs, .tb, .jr, .hif, .obs, .utc, .sel, .tns, .syn, .pls, .tsu, .cla, .flt, .sys, .hot]
      s (applyTenseDue s) := .of fun A hA => by
  have key : ∀ sp ∈ tenseSpecs, sp.Keeps A := by
    simp [tenseSpecs, hA]
  unfold applyTenseDue
  refine .fold fun t w => ?_
  split
  next sp h => simp [hA, key sp (List.mem_of_find?_eq_some h)]
  next => simp

@[simp] theorem keepsFrame_glossPublication (tc1 steer other) :
    KeepsFrame (.glossPublication tc1 steer other) := .of (fun _ => rfl) fun A hA s => by
  dsimp only [mayChange] at hA
  simp [hA]

@[simp ↓] theorem within_showSolo : Within [.regs] s (showSolo s) := .of fun A hA => by
  dsimp only [showSolo]
  simp [hA]

@[simp ↓] theorem within_pauseSel : Within [.sel, .tns] s (pauseSel s) := .of fun A hA => by
  dsimp only [pauseSel]
  simp [hA]

@[simp ↓] theorem within_resumeSel : Within [.sel] s (resumeSel s) := .of fun A hA => by
  unfold resumeSel
  split <;> simp [hA]

@[simp] theorem keepsFrame_tcRejoin (k) : KeepsFrame (.tcRejoin k) := .of (fun _ => rfl) fun A hA s => by
  dsimp only [mayChange] at hA
  simp [hA]

/-! ### GNSS: tracking and the time solution -/

@[simp ↓] theorem within_setGns (f) : Within [.gns] s (s.setGns f) := .of fun A hA => by
  dsimp only [State.setGns]
  simp [hA]

@[simp ↓] theorem within_setChan (n x) : Within [.gns] s (setChan s n x) := .of fun A hA => by
  dsimp only [setChan]
  simp [hA]

@[simp ↓] theorem within_latchChan (freeAt c) : Within [.regs, .gns] s (latchChan freeAt s c) := .of fun A hA => by
  dsimp only [latchChan]
  simp [hA]

@[simp ↓] theorem within_idleChan (n) : Within [.regs, .gns] s (idleChan s n) := .of fun A hA => by
  dsimp only [idleChan]
  simp [hA]

@[simp ↓] theorem within_assignSignal (x b) : Within [.regs, .gns] s (assignSignal x s b) := .of fun A hA => by
  dsimp only [assignSignal]
  split
  · simp
  · split <;> simp [hA]

@[simp ↓] theorem within_assignChans (sky sick) : Within [.regs, .gns] s (assignChans s sky sick) := .of fun A hA => by
  dsimp only [assignChans]
  simp [hA]

/-! ### GNSS: positions, checks and snapshots -/

@[simp] theorem keepsFrame_bandStuck (b bits) : KeepsFrame (.bandStuck b bits) := .of (fun _ => rfl) fun A hA s => by
  dsimp only [mayChange] at hA
  simp [hA]

@[simp] theorem keepsFrame_stuckClear (b) : KeepsFrame (.stuckClear b) := .of (fun _ => rfl) fun A hA s => by
  dsimp only [mayChange] at hA
  simp [hA]

@[simp] theorem keepsFrame_sidePeakSlip (n run) : KeepsFrame (.sidePeakSlip n run) := .of (fun _ => rfl) fun A hA s => by
  dsimp only [mayChange] at hA
  dsimp only
  split <;> simp [hA]

@[simp] theorem keepsFrame_channelAcquired (sky sick n st cn0 peak) :
    KeepsFrame (.channelAcquired sky sick n st cn0 peak) := .of (fun _ => rfl) fun A hA s => by
  dsimp only [mayChange] at hA
  simp [hA]

@[simp ↓] theorem within_showBand (e b) : Within [.regs] s (showBand e s b) := .of fun A hA => by
  dsimp only [showBand]
  simp [hA]

@[simp ↓] theorem within_setSlot (k x) : Within [.gns] s (setSlot s k x) := .of fun A hA => by
  dsimp only [setSlot]
  simp [hA]

@[simp ↓] theorem within_goLive (k) : Within [.regs, .gns] s (goLive s k) := .of fun A hA => by
  dsimp only [goLive]
  simp [hA]

@[simp ↓] theorem within_pickLive : Within [.regs, .gns] s (pickLive s) := .of fun A hA => by
  dsimp only [pickLive]
  split
  · simp
  · split <;> simp [hA]

@[simp ↓] theorem within_freeSlot (k) : Within [.regs, .gns] s (freeSlot s k) := .of fun A hA => by
  dsimp only [freeSlot]
  simp [hA]

@[simp ↓] theorem within_triggerSnap (cause pre tag) :
    Within [.regs, .jr, .obs, .gns, .hot] s (triggerSnap s cause pre tag).1 := .of fun A hA => by
  dsimp only [triggerSnap]
  split
  · simp [hA]
  · split <;> simp [hA]

@[simp] theorem keepsFrame_snapCaptured (l1 l5) : KeepsFrame (.snapCaptured l1 l5) := .of (fun _ => rfl) fun A hA s => by
  dsimp only [mayChange] at hA
  split
  · simp
  · split
    · simp
    · extract_lets held _ x s1 s2 s3 s4 s5
      have h5 : Kept A s s5 := by simp [s5, s4, s3, s2, s1, hA]
      clear_value s5
      split
      · split <;> simp [hA, h5]
      · exact h5

@[simp ↓] theorem within_snapshotOp : snapshotOp.Within [.regs, .jr, .hif, .obs, .gns, .hot] := .of fun A hA s w => by
  have h := (within_triggerSnap s 0x80 (w.d.u8 16) (some w.d.tag.toNat)).kept (A := A) (by simp [hA])
  dsimp only [snapshotOp]
  split
  all_goals
    next e =>
      rw [e] at h
      simp [hA, h]

@[simp] theorem keepsFrame_gnssSnapshot (d) : KeepsFrame (.gnssSnapshot d) := .of (fun _ => rfl) fun A hA s => by
  dsimp only [mayChange] at hA
  simp [hA]

@[simp ↓] theorem within_snapExportOp : snapExportOp.Within [.regs, .jr, .hif, .obs, .hot] := .of fun A hA s w => by
  dsimp only [snapExportOp]
  simp [hA]

@[simp] theorem keepsFrame_snapExport (d) : KeepsFrame (.snapExport d) := .of (fun _ => rfl) fun A hA s => by
  dsimp only [mayChange] at hA
  simp [hA]

@[simp ↓] theorem within_hostWrite (addr bytes) : Within [.hif] s (hostWrite s addr bytes) := .of fun A hA => by
  dsimp only [hostWrite]
  simp [hA]

@[simp] theorem keepsFrame_snapExportDone (k) : KeepsFrame (.snapExportDone k) := .of (fun _ => rfl) fun A hA s => by
  dsimp only [mayChange] at hA
  simp [hA]

@[simp ↓] theorem within_snapReleaseOp : snapReleaseOp.Within [.regs, .jr, .hif, .obs, .gns, .hot] := .of fun A hA s w => by
  dsimp only [snapReleaseOp]
  simp [hA]

@[simp] theorem keepsFrame_snapRelease (d) : KeepsFrame (.snapRelease d) := .of (fun _ => rfl) fun A hA s => by
  dsimp only [mayChange] at hA
  simp [hA]

@[simp ↓] theorem within_journalCheck (c trip) : Within [.regs, .jr, .obs, .hot] s (journalCheck s c trip) := .of fun A hA => by
  dsimp only [journalCheck]
  simp [hA]

@[simp ↓] theorem within_tripCheck (c) : Within [.regs, .jr, .obs, .gns, .hot] s (tripCheck s c) := .of fun A hA => by
  dsimp only [tripCheck]
  simp [hA]

@[simp ↓] theorem within_powerMs (b power) : Within [.regs, .jr, .obs, .gns, .hot] s (powerMs b s power) := .of fun A hA => by
  dsimp only [powerMs]
  simp [hA]

@[simp] theorem keepsFrame_jamTrip (b powers) : KeepsFrame (.jamTrip b powers) := .of (fun _ => rfl) fun A hA s => by
  dsimp only [mayChange] at hA
  simp [hA]

@[simp] theorem keepsFrame_gnssCheckClear (c) : KeepsFrame (.gnssCheckClear c) := .of (fun _ => rfl) fun A hA s => by
  dsimp only [mayChange] at hA
  simp [hA]

@[simp ↓] theorem within_publishSol (epoch freeAt shift utc p) :
    Within [.regs, .jr, .obs, .utc, .sel, .hot] s (publishSol epoch freeAt shift utc s p) := .of fun A hA => by
  dsimp only [publishSol]
  repeat' split
  all_goals simp [hA]

@[simp ↓] theorem within_dqRefs (l cause) : Within [.sel] s (dqRefs s l cause) := .of fun A hA => by
  dsimp only [dqRefs]
  simp [hA]

@[simp ↓] theorem within_fixPosition (x y z sig) : Within [.gns] s (fixPosition s x y z sig) := .of fun A hA => by
  dsimp only [fixPosition]
  simp [hA]

@[simp ↓] theorem within_adoptPosition (e epoch freeAt) :
    Within [.regs, .jr, .obs, .gns, .sel, .hot] s (adoptPosition s e epoch freeAt) := .of fun A hA => by
  unfold adoptPosition
  split <;> simp [hA]

@[simp ↓] theorem within_setSurvey (v) : Within [.regs, .gns] s (setSurvey s v) := .of fun A hA => by
  dsimp only [setSurvey]
  simp [hA]

@[simp ↓] theorem within_surveyResume : Within [.regs, .gns] s (surveyResume s) := .of fun A hA => by
  unfold surveyResume
  split <;> simp [hA]

@[simp ↓] theorem within_endSurvey (l v status) :
    Within [.regs, .jr, .hif, .obs, .gns, .hot] s (endSurvey s l v status) := .of fun A hA => by
  dsimp only [endSurvey]
  simp [hA]

@[simp ↓] theorem within_surveyEpoch (e epoch) : Within [.regs, .jr, .hif, .obs, .gns, .hot] s (surveyEpoch s e epoch) := .of fun A hA => by
  dsimp only [surveyEpoch]
  repeat' split
  all_goals simp [hA]

@[simp] theorem keepsFrame_surveyDone : KeepsFrame .surveyDone := .of (fun _ => rfl) fun A hA s => by
  dsimp only [mayChange] at hA
  split <;> simp [hA]

@[simp] theorem keepsFrame_surveySuspendExpiry : KeepsFrame .surveySuspendExpiry := .of (fun _ => rfl) fun A hA s => by
  dsimp only [mayChange] at hA
  repeat' split
  all_goals simp [hA]

@[simp ↓] theorem within_surveyInOp : surveyInOp.Within [.regs, .jr, .hif, .obs, .gns, .hot] := .of fun A hA s w => by
  dsimp only [surveyInOp]
  simp [hA]

@[simp] theorem keepsFrame_surveyIn (d) : KeepsFrame (.surveyIn d) := .of (fun _ => rfl) fun A hA s => by
  dsimp only [mayChange] at hA
  simp [hA]

@[simp ↓] theorem within_posSetOp : posSetOp.Within [.regs, .jr, .hif, .obs, .gns, .hot] := .of fun A hA s w => by
  dsimp only [posSetOp]
  simp [hA]

@[simp] theorem keepsFrame_gnssPosSet (d) : KeepsFrame (.gnssPosSet d) := .of (fun _ => rfl) fun A hA s => by
  dsimp only [mayChange] at hA
  simp [hA]

@[simp ↓] theorem within_gnssStart : Within [.regs, .gns] s (gnssStart s) := .of fun A hA => by
  dsimp only [gnssStart]
  simp [hA]

@[simp ↓] theorem within_gnssService : Within [.regs, .hif, .gns] s (gnssService s) := .of fun A hA => by
  dsimp only [gnssService]
  simp [hA]

@[simp ↓] theorem within_bandChecks (e b) : Within [.regs, .jr, .obs, .gns, .hot] s (bandChecks e s b) := .of fun A hA => by
  dsimp only [bandChecks]
  simp [hA]

@[simp ↓] theorem within_xrefCheck (e sol) : Within [.regs, .jr, .obs, .gns, .hot] s (xrefCheck s e sol) := .of fun A hA => by
  unfold xrefCheck
  split <;> simp [hA]

@[simp ↓] theorem within_showUse (e sols) : Within [.regs] s (showUse e sols s) := .of fun A hA => by
  dsimp only [showUse]
  simp [hA]

@[simp ↓] theorem within_showPos (e sols) : Within [.regs] s (showPos s e sols) := .of fun A hA => by
  unfold showPos
  split <;> simp [hA]

@[simp ↓] theorem within_runEpoch (e epoch freeAt shift) :
    Within [.regs, .jr, .hif, .obs, .utc, .gns, .sel, .hot] s (runEpoch s e epoch freeAt shift) := .of fun A hA => by
  dsimp only [runEpoch]
  simp [hA]

@[simp] theorem keepsFrame_gnssSolution (e) : KeepsFrame (.gnssSolution e) := .of (fun _ => rfl) fun A hA s => by
  dsimp only [mayChange] at hA
  simp [hA]

@[simp ↓] theorem within_gnssSetOp : gnssSetOp.Within [.regs, .jr, .hif, .obs, .sel, .hot] := .of fun A hA s w => by
  dsimp only [gnssSetOp]
  simp [hA]

@[simp] theorem keepsFrame_gnssSet (d) : KeepsFrame (.gnssSet d) := .of (fun _ => rfl) fun A hA s => by
  dsimp only [mayChange] at hA
  simp [hA]

end

end Sys2Proof.Machine
end

section
/-!
SUPPORT. Frames: what each operation of the reference inputs, the pulses and the outputs may change, and that their rows keep their frames.
-/

namespace Sys2Proof.Machine

section
variable (s : State)

/-! ### Trim of the TDC channels -/

@[simp ↓] theorem within_noteTrim (c spread) : Within [.regs, .jr, .fab, .obs, .hot] s (noteTrim s c spread) := .of fun A hA => by
  dsimp only [noteTrim]
  simp [hA]

@[simp ↓] theorem within_resetTrim (c) : Within [.regs, .fab] s (resetTrim s c) := .of fun A hA => by
  dsimp only [resetTrim]
  simp [hA]

/-! ### Reference inputs -/

@[simp ↓] theorem within_setCh (c x) : Within [.refin] s (s.setCh c x) := .of fun A hA => by
  dsimp only [State.setCh]
  simp [hA]

@[simp ↓] theorem within_reportCal (c c1 c2) : Within [.regs, .jr, .hif, .obs, .flt, .hot] s (reportCal s c c1 c2) := .of fun A hA => by
  dsimp only [reportCal]
  simp [hA]

@[simp ↓] theorem within_putStops (c e stops) : Within [.regs] s (putStops s c e stops) := .of fun A hA => by
  dsimp only [putStops]
  simp [hA]

@[simp ↓] theorem within_setTod (f) : Within [.refin] s (s.setTod f) := .of fun A hA => by
  dsimp only [State.setTod]
  simp [hA]

@[simp ↓] theorem within_pairLabel (l) : Within [.regs, .refin, .hot] s (pairLabel s l) := .of fun A hA => by
  dsimp only [pairLabel]
  simp [hA]

@[simp ↓] theorem within_todUtc (l) : Within [.regs, .jr, .obs, .utc, .hot] s (todUtc s l) := .of fun A hA => by
  dsimp only [todUtc]
  simp [hA]

@[simp ↓] theorem within_publishTod (c) : Within [.regs, .jr, .obs, .refin, .utc, .sel, .hot] s (publishTod s c) := .of fun A hA => by
  dsimp only [publishTod]
  split <;> simp [hA]

@[simp ↓] theorem within_countTdcWindows (c) : Within [.flt] s (countTdcWindows s c) := .of fun A hA => by
  dsimp only [countTdcWindows]
  simp [hA]

@[simp ↓] theorem within_publishWindow (c) :
    Within [.regs, .jr, .hif, .obs, .refin, .utc, .sel, .hot] s (publishWindow s c) := .of fun A hA => by
  dsimp only [publishWindow]
  simp [hA]

@[simp ↓] theorem within_openWindow (c set) : Within [.refin] s (openWindow s c set) := .of fun A hA => by
  dsimp only [openWindow]
  simp [hA]

@[simp ↓] theorem within_takeIn (c) : Within [.regs, .refin, .hot] s (takeIn s c) := .of fun A hA => by
  dsimp only [takeIn]
  simp [hA]

@[simp ↓] theorem within_endWindow (c) :
    Within [.regs, .jr, .hif, .obs, .refin, .utc, .sel, .flt, .hot] s (endWindow s c) := .of fun A hA => by
  dsimp only [endWindow]
  simp [hA]

@[simp ↓] theorem within_closeWindow (c) :
    Within [.regs, .jr, .hif, .obs, .refin, .utc, .sel, .flt, .hot] s (closeWindow s c) := .of fun A hA => by
  dsimp only [closeWindow]
  simp [hA]

@[simp ↓] theorem within_windowClose (c) :
    Within [.regs, .jr, .hif, .obs, .refin, .utc, .sel, .flt, .hot] s (windowClose s c) := .of fun A hA => by
  dsimp only [windowClose]
  simp [hA]

@[simp ↓] theorem within_pulseStop (x t) : Within [.regs, .refin, .hot] s (pulseStop s x t) := .of fun A hA => by
  dsimp only [pulseStop]
  repeat' split
  all_goals simp [hA]

@[simp ↓] theorem within_countEdge (c code isGlitch) : Within [.regs, .refin, .hot] s (countEdge s c code isGlitch) := .of fun A hA => by
  dsimp only [countEdge]
  simp [hA]

@[simp ↓] theorem within_inputEdge (c code isGlitch) :
    Within [.regs, .jr, .hif, .obs, .refin, .utc, .sel, .flt, .hot] s (inputEdge s c code isGlitch) := .of fun A hA => by
  dsimp only [inputEdge]
  simp [hA]

@[simp] theorem keepsFrame_inputEdge (c code isGlitch) : KeepsFrame (.inputEdge c code isGlitch) := .of (fun _ => rfl) fun A hA s => by
  dsimp only [mayChange] at hA
  simp [hA]

@[simp ↓] theorem within_takeCalibration (c c1 c2) :
    Within [.regs, .jr, .hif, .fab, .obs, .refin, .flt, .hot] s (takeCalibration s c c1 c2) := .of fun A hA => by
  dsimp only [takeCalibration]
  simp [hA]

@[simp] theorem keepsFrame_tdcCalibration (c c1 c2) : KeepsFrame (.tdcCalibration c c1 c2) := .of (fun _ => rfl) fun A hA s => by
  dsimp only [mayChange] at hA
  simp [hA]

@[simp] theorem keepsFrame_evtCalibration (e c1 c2) : KeepsFrame (.evtCalibration e c1 c2) := .of (fun _ => rfl) fun A hA s => by
  dsimp only [mayChange] at hA
  simp [hA]

@[simp ↓] theorem within_stampEvt (c code isGlitch) :
    Within [.regs, .hif, .refin, .hot] s (stampEvt s c code isGlitch).1 := .of fun A hA => by
  dsimp only [stampEvt]
  simp [hA]

@[simp ↓] theorem within_normCh (c) : Within [.regs] s (normCh s c) := .of fun A hA => by
  dsimp only [normCh]
  simp [hA]

@[simp ↓] theorem within_storeChSetting (c k v) : Within [.regs, .refin] s (storeChSetting s c k v) := .of fun A hA => by
  dsimp only [storeChSetting]
  simp [hA]

@[simp] theorem keepsFrame_refinChWrite (c k v) : KeepsFrame (.refinChWrite c k v) := .of (fun _ => rfl) fun A hA s => by
  dsimp only [mayChange] at hA
  simp [hA]

@[simp ↓] theorem within_refinStore (d) : Within [.regs] s (refinStore s d) := .of fun A hA => by
  dsimp only [refinStore]
  simp [hA]

@[simp ↓] theorem within_refinSetOp : refinSetOp.Within [.regs, .jr, .hif, .obs, .refin, .utc, .sel, .flt, .hot] := .of fun A hA s w => by
  dsimp only [refinSetOp]
  simp [hA]

@[simp] theorem keepsFrame_refinSet (d) : KeepsFrame (.refinSet d) := .of (fun _ => rfl) fun A hA s => by
  dsimp only [mayChange] at hA
  simp [hA]

@[simp ↓] theorem within_todMessage (framed good known l) :
    Within [.regs, .jr, .obs, .refin, .utc, .sel, .hot] s (todMessage s framed good known l) := .of fun A hA => by
  dsimp only [todMessage]
  simp [hA]

@[simp] theorem keepsFrame_todMessage (framed good known sec utcOfs l61 l59 utcv qual) :
    KeepsFrame (.todMessage framed good known sec utcOfs l61 l59 utcv qual) := .of (fun _ => rfl) fun A hA s => by
  dsimp only [mayChange] at hA
  simp [hA]

@[simp] theorem keepsFrame_todIntervalEnd : KeepsFrame .todIntervalEnd := .of (fun _ => rfl) fun A hA s => by
  dsimp only [mayChange] at hA
  dsimp only
  split <;> simp [hA]

/-! ### Dividers and output edges -/

@[simp ↓] theorem within_setDpll (k d) : Within [.syn] s (s.setDpll k d) := .of fun A hA => by
  dsimp only [State.setDpll]
  simp [hA]

@[simp ↓] theorem within_setOut (n o) : Within [.syn] s (s.setOut n o) := .of fun A hA => by
  dsimp only [State.setOut]
  simp [hA]

@[simp ↓] theorem within_seedOut (n) : Within [.syn] s (seedOut s n) := .of fun A hA => by
  dsimp only [seedOut]
  simp [hA]

/-! ### Pulses, timecodes and the schedule table -/

@[simp ↓] theorem within_setPls (f) : Within [.pls] s (s.setPls f) := .of fun A hA => by
  dsimp only [State.setPls]
  simp [hA]

@[simp ↓] theorem within_showGen (n) : Within [.regs] s (showGen s n) := .of fun A hA => by
  dsimp only [showGen]
  simp [hA]

@[simp ↓] theorem within_showTod : Within [.regs] s (showTod s) := .of fun A hA => by
  dsimp only [showTod]
  simp [hA]

@[simp ↓] theorem within_journalEdge (n u held) : Within [.regs, .jr, .obs, .pls, .hot] s (journalEdge s n u held) := .of fun A hA => by
  dsimp only [journalEdge]
  simp [hA]

@[simp ↓] theorem within_driveEdge (n lv u held jr) :
    Within [.regs, .jr, .obs, .pls, .hot] s (driveEdge s n lv u held jr) := .of fun A hA => by
  dsimp only [driveEdge]
  simp [hA]

@[simp ↓] theorem within_labelPulse (n u) : Within [.pls] s (labelPulse s n u) := .of fun A hA => by
  dsimp only [labelPulse]
  simp [hA]

@[simp ↓] theorem within_passEntry (i) : Within [.regs, .jr, .obs, .pls, .hot] s (passEntry s i) := .of fun A hA => by
  dsimp only [passEntry]
  simp [hA]

@[simp ↓] theorem within_endHold : Within [.regs, .jr, .obs, .pls, .hot] s (endHold s) := .of fun A hA => by
  dsimp only [endHold]
  simp [hA]

@[simp] theorem keepsFrame_schedCommit (i) : KeepsFrame (.schedCommit i) := .of (fun _ => rfl) fun A hA s => by
  dsimp only [mayChange] at hA
  simp [hA]

@[simp ↓] theorem within_act (e t) : Within [.regs, .jr, .obs, .pls, .hot] s (act s e t) := .of fun A hA => by
  dsimp only [act]
  repeat' split
  all_goals simp [hA]

@[simp ↓] theorem within_fireComm (c) : Within [.regs, .jr, .obs, .pls, .hot] s (fireComm s c) := .of fun A hA => by
  dsimp only [fireComm]
  simp [hA]

@[simp] theorem keepsFrame_schedOccurrence (i) : KeepsFrame (.schedOccurrence i) := .of (fun _ => rfl) fun A hA s => by
  dsimp only [mayChange] at hA
  split <;> simp [hA]

@[simp] theorem keepsFrame_pulseEnd (n) : KeepsFrame (.pulseEnd n) := .of (fun _ => rfl) fun A hA s => by
  dsimp only [mayChange] at hA
  dsimp only
  split <;> simp [hA]

@[simp ↓] theorem within_lastFrameEdge (n) : Within [.regs] s (lastFrameEdge s n) := .of fun A hA => by
  unfold lastFrameEdge
  split <;> simp [hA]

@[simp] theorem keepsFrame_irigFrame (n) : KeepsFrame (.irigFrame n) := .of (fun _ => rfl) fun A hA s => by
  dsimp only [mayChange] at hA
  simp [hA]

@[simp] theorem keepsFrame_todTxMessage : KeepsFrame .todTxMessage := .of (fun _ => rfl) fun A hA s => by
  dsimp only [mayChange] at hA
  split <;> simp [hA]

@[simp ↓] theorem within_matchEdge (n t) : Within [.regs, .jr, .hif, .obs, .pls, .flt, .hot] s (matchEdge s n t) := .of fun A hA => by
  dsimp only [matchEdge]
  split <;> simp [hA]

@[simp] theorem keepsFrame_evtEdge (k code glitch) : KeepsFrame (.evtEdge k code glitch) := .of (fun _ => rfl) fun A hA s => by
  dsimp only [mayChange] at hA
  have h := (within_stampEvt s (16 + k.val) code glitch).kept (A := A) (by simp [hA])
  dsimp only
  split
  · simp
  · split
    all_goals
      next e =>
        rw [e] at h
        simp [hA, h]

@[simp ↓] theorem within_schedEntryFault (i) :
    Within [.regs, .jr, .hif, .obs, .pls, .flt, .hot] s (schedEntryFault s i) := .of fun A hA => by
  dsimp only [schedEntryFault]
  simp [hA]

@[simp ↓] theorem within_journalAlign (n slew begins) :
    Within [.regs, .jr, .obs, .hot] s (journalAlign s n slew begins) := .of fun A hA => by
  dsimp only [journalAlign]
  simp [hA]

@[simp ↓] theorem within_jobEnds (job n removed) :
    Within [.regs, .jr, .hif, .obs, .pls, .hot] s (jobEnds s job n removed) := .of fun A hA => by
  unfold jobEnds
  split <;> simp [hA]

@[simp ↓] theorem within_startAlign (w targets slew) :
    Within [.regs, .jr, .hif, .obs, .pls, .hot] s (startAlign s w targets slew) := .of fun A hA => by
  dsimp only [startAlign]
  simp [hA]

@[simp ↓] theorem within_endAlign (n a removed) :
    Within [.regs, .jr, .hif, .obs, .pls, .hot] s (endAlign s n a removed) := .of fun A hA => by
  dsimp only [endAlign]
  simp [hA]

@[simp] theorem keepsFrame_alignQuietInstant (n) : KeepsFrame (.alignQuietInstant n) := .of (fun _ => rfl) fun A hA s => by
  dsimp only [mayChange] at hA
  dsimp only
  repeat' split
  all_goals simp [hA]

@[simp] theorem keepsFrame_alignSlewEnd (n) : KeepsFrame (.alignSlewEnd n) := .of (fun _ => rfl) fun A hA s => by
  dsimp only [mayChange] at hA
  split <;> simp [hA]

@[simp] theorem keepsFrame_alignTimeout (n) : KeepsFrame (.alignTimeout n) := .of (fun _ => rfl) fun A hA s => by
  dsimp only [mayChange] at hA
  split <;> simp [hA]

@[simp ↓] theorem within_plsAlignOp : plsAlignOp.Within [.regs, .jr, .hif, .obs, .pls, .hot] := .of fun A hA s w => by
  dsimp only [plsAlignOp]
  simp [hA]

@[simp] theorem keepsFrame_plsAlign (d) : KeepsFrame (.plsAlign d) := .of (fun _ => rfl) fun A hA s => by
  dsimp only [mayChange] at hA
  simp [hA]

@[simp ↓] theorem within_replaceEntry (i e) : Within [.regs, .pls] s (replaceEntry s i e) := .of fun A hA => by
  dsimp only [replaceEntry]
  simp [hA]

@[simp ↓] theorem within_plsSchedOp : plsSchedOp.Within [.regs, .jr, .hif, .obs, .pls, .hot] := .of fun A hA s w => by
  dsimp only [plsSchedOp]
  simp [hA]

@[simp] theorem keepsFrame_plsSched (d) : KeepsFrame (.plsSched d) := .of (fun _ => rfl) fun A hA s => by
  dsimp only [mayChange] at hA
  simp [hA]

@[simp ↓] theorem within_plsStore (d) : Within [.regs] s (plsStore s d) := .of fun A hA => by
  dsimp only [plsStore]
  simp [hA]

@[simp ↓] theorem within_rebaseSlews : Within [.pls] s (rebaseSlews s) := .of fun A hA => by
  dsimp only [rebaseSlews]
  simp [hA]

@[simp ↓] theorem within_liveGen (n) : Within [.regs] s (liveGen s n) := .of fun A hA => by
  dsimp only [liveGen]
  simp [hA]

@[simp ↓] theorem within_liveGens : Within [.regs] s (liveGens s) := .of fun A hA => by
  dsimp only [liveGens]
  simp [hA]

@[simp ↓] theorem within_holdEdge (before : State) : Within [.regs, .jr, .obs, .pls, .hot] s (holdEdge before s) := .of fun A hA => by
  dsimp only [holdEdge]
  simp [hA]

@[simp ↓] theorem within_plsSetOp : plsSetOp.Within [.regs, .jr, .hif, .obs, .pls, .flt, .hot] := .of fun A hA s w => by
  dsimp only [plsSetOp]
  simp [hA]

@[simp] theorem keepsFrame_plsSet (d) : KeepsFrame (.plsSet d) := .of (fun _ => rfl) fun A hA s => by
  dsimp only [mayChange] at hA
  simp [hA]

@[simp] theorem keepsFrame_plsSchRead (i) : KeepsFrame (.plsSchRead i) := .of (fun _ => rfl) fun A hA s => by
  dsimp only [mayChange] at hA
  simp [hA]

@[simp] theorem keepsFrame_plsSchWrite (i) : KeepsFrame (.plsSchWrite i) := .of (fun _ => rfl) fun A hA s => by
  dsimp only [mayChange] at hA
  simp [hA]

@[simp ↓] theorem within_plsRecovery : Within [.regs, .jr, .obs, .pls, .hot] s (plsRecovery s) := .of fun A hA => by
  dsimp only [plsRecovery]
  simp [hA]

@[simp ↓] theorem within_plsSafe : Within [.regs, .pls] s (plsSafe s) := .of fun A hA => by
  dsimp only [plsSafe]
  simp [hA]

/-! ### Synthesis and clock outputs -/

@[simp ↓] theorem within_normOut (n) : Within [.regs] s (normOut s n) := .of fun A hA => by
  dsimp only [normOut]
  simp [hA]

@[simp ↓] theorem within_showOut (n) : Within [.regs, .hot] s (showOut s n) := .of fun A hA => by
  dsimp only [showOut]
  simp [hA]

@[simp ↓] theorem within_showOuts : Within [.regs, .hot] s (showOuts s) := .of fun A hA => by
  dsimp only [showOuts]
  simp [hA]

@[simp ↓] theorem within_setOutState (n st cause tag) :
    Within [.regs, .jr, .obs, .hot] s (setOutState s n st cause tag) := .of fun A hA => by
  dsimp only [setOutState]
  simp [hA]

@[simp ↓] theorem within_cancelStarts (n) : Within [.regs, .jr, .hif, .obs, .syn, .hot] s (cancelStarts s n) := .of fun A hA => by
  dsimp only [cancelStarts]
  simp [hA]

@[simp ↓] theorem within_requestStart (n cause tag) :
    Within [.regs, .jr, .obs, .syn, .hot] s (requestStart s n cause tag) := .of fun A hA => by
  dsimp only [requestStart]
  simp [hA]

@[simp ↓] theorem within_requestStop (n cause tag squelch again halt) :
    Within [.regs, .jr, .hif, .obs, .syn, .hot] s (requestStop s n cause tag squelch again halt) := .of fun A hA => by
  dsimp only [requestStop]
  simp [hA]

@[simp ↓] theorem within_restartFor (k) : Within [.regs, .jr, .obs, .syn, .hot] s (restartFor s k) := .of fun A hA => by
  dsimp only [restartFor]
  simp [hA]

@[simp ↓] theorem within_squelchOut (n) : Within [.regs, .jr, .hif, .obs, .syn, .hot] s (squelchOut s n) := .of fun A hA => by
  dsimp only [squelchOut]
  simp [hA]

@[simp ↓] theorem within_squelchFor (p) : Within [.regs, .jr, .hif, .obs, .syn, .hot] s (squelchFor s p) := .of fun A hA => by
  dsimp only [squelchFor]
  simp [hA]

@[simp] theorem keepsFrame_outputStart (n) : KeepsFrame (.outputStart n) := .of (fun _ => rfl) fun A hA s => by
  dsimp only [mayChange] at hA
  dsimp only
  split <;> simp [hA]

@[simp] theorem keepsFrame_outputStop (n) : KeepsFrame (.outputStop n) := .of (fun _ => rfl) fun A hA s => by
  dsimp only [mayChange] at hA
  simp [hA]

@[simp ↓] theorem within_slewed (n) : Within [.regs, .syn] s (slewed s n) := .of fun A hA => by
  dsimp only [slewed]
  simp [hA]

@[simp] theorem keepsFrame_outputSlewEnd (n) : KeepsFrame (.outputSlewEnd n) := .of (fun _ => rfl) fun A hA s => by
  dsimp only [mayChange] at hA
  simp [hA]

@[simp ↓] theorem within_outWritten (n cfg) : Within [.regs, .jr, .hif, .obs, .syn, .hot] s (outWritten s n cfg) := .of fun A hA => by
  dsimp only [outWritten]
  simp [hA]

@[simp] theorem keepsFrame_outEnWrite (n v) : KeepsFrame (.outEnWrite n v) := .of (fun _ => rfl) fun A hA s => by
  dsimp only [mayChange] at hA
  simp [hA]

@[simp ↓] theorem within_setDpllState (k st r) : Within [.regs, .jr, .obs, .hot] s (setDpllState s k st r) := .of fun A hA => by
  dsimp only [setDpllState]
  simp [hA]

@[simp ↓] theorem within_enterAcquire (k r slew) : Within [.regs, .jr, .obs, .syn, .hot] s (enterAcquire s k r slew) := .of fun A hA => by
  dsimp only [enterAcquire]
  simp [hA]

@[simp ↓] theorem within_disableDpll (k r) : Within [.regs, .jr, .hif, .obs, .syn, .hot] s (disableDpll s k r) := .of fun A hA => by
  dsimp only [disableDpll]
  simp [hA]

@[simp ↓] theorem within_moveY (k dem) : Within [.regs, .syn, .hot] s (moveY s k dem) := .of fun A hA => by
  dsimp only [moveY]
  simp [hA]

@[simp ↓] theorem within_alignOuts (k) : Within [.regs] s (alignOuts s k) := .of fun A hA => by
  dsimp only [alignOuts]
  simp [hA]

@[simp ↓] theorem within_lockDpll (k r) : Within [.regs, .jr, .obs, .syn, .hot] s (lockDpll s k r) := .of fun A hA => by
  dsimp only [lockDpll]
  simp [hA]

@[simp ↓] theorem within_trackDpll (k r e) : Within [.regs, .jr, .obs, .syn, .hot] s (trackDpll s k r e) := .of fun A hA => by
  dsimp only [trackDpll]
  simp [hA]

@[simp ↓] theorem within_dpllStep (k e dem) : Within [.regs, .jr, .hif, .obs, .syn, .hot] s (dpllStep s k e dem) := .of fun A hA => by
  dsimp only [dpllStep]
  simp [hA]

@[simp ↓] theorem within_laneClock (p y) : Within [.regs, .sel, .syn] s (laneClock s p y) := .of fun A hA => by
  dsimp only [laneClock]
  simp [hA]

@[simp ↓] theorem within_sendEsmc (p event) : Within [.lan] s (sendEsmc s p event) := .of fun A hA => by
  dsimp only [sendEsmc]
  simp [hA]

@[simp ↓] theorem within_esmcLevel (p) : Within [.regs, .jr, .obs, .syn, .lan, .hot] s (esmcLevel s p) := .of fun A hA => by
  dsimp only [esmcLevel]
  simp [hA]

@[simp ↓] theorem within_esmcLevels : Within [.regs, .jr, .obs, .syn, .lan, .hot] s (esmcLevels s) := .of fun A hA => by
  dsimp only [esmcLevels]
  simp [hA]

@[simp] theorem keepsFrame_dpllUpdate (k e dem clocks) : KeepsFrame (.dpllUpdate k e dem clocks) := .of (fun _ => rfl) fun A hA s => by
  dsimp only [mayChange] at hA
  simp [hA]

@[simp] theorem keepsFrame_esmcInfoTx (p) : KeepsFrame (.esmcInfoTx p) := .of (fun _ => rfl) fun A hA s => by
  dsimp only [mayChange] at hA
  simp [hA]

@[simp ↓] theorem within_storeFreq (n fn fd) : Within [.regs] s (storeFreq s n fn fd) := .of fun A hA => by
  dsimp only [storeFreq]
  simp [hA]

@[simp ↓] theorem within_outStart (w n tag) : Within [.regs, .jr, .hif, .obs, .syn, .hot] s (outStart s w n tag) := .of fun A hA => by
  dsimp only [outStart]
  simp [hA]

@[simp ↓] theorem within_outStop (w n tag) : Within [.regs, .jr, .hif, .obs, .syn, .hot] s (outStop s w n tag) := .of fun A hA => by
  dsimp only [outStop]
  simp [hA]

@[simp ↓] theorem within_alignErr (n) : Within [] s (alignErr s n).2 := .of fun A hA => by
  dsimp only [alignErr]
  simp

@[simp ↓] theorem within_outAlign (w n tag slew) :
    Within [.regs, .jr, .hif, .obs, .syn, .pls, .hot] s (outAlign s w n tag slew) := .of fun A hA => by
  dsimp only [outAlign]
  simp [hA]

@[simp ↓] theorem within_outSetFreq (w n tag fn fd) :
    Within [.regs, .jr, .hif, .obs, .syn, .hot] s (outSetFreq s w n tag fn fd) := .of fun A hA => by
  dsimp only [outSetFreq]
  simp [hA]

@[simp ↓] theorem within_outCtlOp : outCtlOp.Within [.regs, .jr, .hif, .obs, .syn, .pls, .hot] := .of fun A hA s w => by
  dsimp only [outCtlOp]
  simp [hA]

@[simp] theorem keepsFrame_outCtl (d) : KeepsFrame (.outCtl d) := .of (fun _ => rfl) fun A hA s => by
  dsimp only [mayChange] at hA
  simp [hA]

@[simp ↓] theorem within_outsRecovery : Within [.regs, .jr, .hif, .obs, .syn, .hot] s (outsRecovery s) := .of fun A hA => by
  dsimp only [outsRecovery]
  simp [hA]

@[simp ↓] theorem within_outsSafe : Within [.regs, .jr, .hif, .obs, .syn, .hot] s (outsSafe s) := .of fun A hA => by
  dsimp only [outsSafe]
  simp [hA]

@[simp ↓] theorem within_undoStop (n) : Within [.regs, .jr, .hif, .obs, .syn, .hot] s (undoStop s n) := .of fun A hA => by
  dsimp only [undoStop]
  simp [hA]

end

end Sys2Proof.Machine
end

section
/-!
SUPPORT. Frames: what each operation of the lanes, the ports, scheduled egress and reception may change, and that their rows keep their frames.
-/

namespace Sys2Proof.Machine

section
variable (s : State)

/-! ### Lanes and ports -/

@[simp ↓] theorem within_setPort (p x) : Within [.lan] s (s.setPort p x) := .of fun A hA => by
  dsimp only [State.setPort]
  simp [hA]

@[simp ↓] theorem within_setLane (l x) : Within [.lan] s (s.setLane l x) := .of fun A hA => by
  dsimp only [State.setLane]
  simp [hA]

@[simp ↓] theorem within_showPorts : Within [.regs, .hot] s (showPorts s) := .of fun A hA => by
  dsimp only [showPorts]
  simp [hA]

@[simp ↓] theorem within_setLaneState (l st) : Within [.regs] s (setLaneState s l st) := .of fun A hA => by
  dsimp only [setLaneState]
  simp [hA]

@[simp ↓] theorem within_setLink (p st cause) :
    Within [.regs, .jr, .hif, .obs, .lan, .flt, .hot] s (setLink s p st cause) := .of fun A hA => by
  dsimp only [setLink]
  simp [hA]

@[simp ↓] theorem within_lanesDown (p signal) : Within [.regs, .hot] s (lanesDown s p signal) := .of fun A hA => by
  dsimp only [lanesDown]
  simp [hA]

@[simp ↓] theorem within_portDown (p cause signal) :
    Within [.regs, .jr, .hif, .obs, .lan, .flt, .hot] s (portDown s p cause signal) := .of fun A hA => by
  dsimp only [portDown]
  simp [hA]

@[simp ↓] theorem within_startLane (l) : Within [.lan] s (startLane s l) := .of fun A hA => by
  dsimp only [startLane]
  simp [hA]

@[simp] theorem keepsFrame_signalDetect (p) : KeepsFrame (.signalDetect p) := .of (fun _ => rfl) fun A hA s => by
  dsimp only [mayChange] at hA
  simp [hA]

@[simp] theorem keepsFrame_polarityTimeout (l) : KeepsFrame (.polarityTimeout l) := .of (fun _ => rfl) fun A hA s => by
  dsimp only [mayChange] at hA
  split <;> simp [hA]

@[simp ↓] theorem within_laneUp (l fec) : Within [.regs, .lan, .hot] s (laneUp s l fec) := .of fun A hA => by
  dsimp only [laneUp]
  simp [hA]

@[simp] theorem keepsFrame_bringupComplete (p map skew anDone) :
    KeepsFrame (.bringupComplete p map skew anDone) := .of (fun _ => rfl) fun A hA s => by
  dsimp only [mayChange] at hA
  simp [hA]

@[simp] theorem keepsFrame_bringupFail (p lost) : KeepsFrame (.bringupFail p lost) := .of (fun _ => rfl) fun A hA s => by
  dsimp only [mayChange] at hA
  simp [hA]

@[simp] theorem keepsFrame_bringupRetry (p) : KeepsFrame (.bringupRetry p) := .of (fun _ => rfl) fun A hA s => by
  dsimp only [mayChange] at hA
  split <;> simp [hA]

@[simp] theorem keepsFrame_linkLoss (p cause) : KeepsFrame (.linkLoss p cause) := .of (fun _ => rfl) fun A hA s => by
  dsimp only [mayChange] at hA
  simp [hA]

@[simp] theorem keepsFrame_linkFaultRx (p k) : KeepsFrame (.linkFaultRx p k) := .of (fun _ => rfl) fun A hA s => by
  dsimp only [mayChange] at hA
  simp [hA]

@[simp ↓] theorem within_setPause (p c x) : Within [.lan] s (setPause s p c x) := .of fun A hA => by
  dsimp only [setPause]
  simp [hA]

@[simp ↓] theorem within_receivePause (p c q) : Within [.regs, .lan] s (receivePause s p c q) := .of fun A hA => by
  dsimp only [receivePause]
  simp [hA]

@[simp] theorem keepsFrame_pauseRx (p quanta) : KeepsFrame (.pauseRx p quanta) := .of (fun _ => rfl) fun A hA s => by
  dsimp only [mayChange] at hA
  simp [hA]

@[simp] theorem keepsFrame_pauseExpiry (p c) : KeepsFrame (.pauseExpiry p c) := .of (fun _ => rfl) fun A hA s => by
  dsimp only [mayChange] at hA
  simp [hA]

@[simp] theorem keepsFrame_pauseWatchdog (p c) : KeepsFrame (.pauseWatchdog p c) := .of (fun _ => rfl) fun A hA s => by
  dsimp only [mayChange] at hA
  dsimp only
  split <;> simp [hA]

@[simp] theorem keepsFrame_pwdHoldExpiry (p c) : KeepsFrame (.pwdHoldExpiry p c) := .of (fun _ => rfl) fun A hA s => by
  dsimp only [mayChange] at hA
  simp [hA]

@[simp ↓] theorem within_pauseTick : Within [.regs, .hif, .lan, .hot] s (pauseTick s) := .of fun A hA => by
  dsimp only [pauseTick]
  simp [hA]

@[simp] theorem keepsFrame_eyeMeasure (l h v) : KeepsFrame (.eyeMeasure l h v) := .of (fun _ => rfl) fun A hA s => by
  dsimp only [mayChange] at hA
  simp [hA]

@[simp] theorem keepsFrame_prbsLock (l errs) : KeepsFrame (.prbsLock l errs) := .of (fun _ => rfl) fun A hA s => by
  dsimp only [mayChange] at hA
  simp [hA]

@[simp] theorem keepsFrame_supervisionTx (g) : KeepsFrame (.supervisionTx g) := .of (fun _ => rfl) fun A hA s => by
  dsimp only [mayChange] at hA
  simp [hA]

@[simp ↓] theorem within_idleLanes (p) : Within [.regs] s (idleLanes s p) := .of fun A hA => by
  dsimp only [idleLanes]
  simp [hA]

@[simp ↓] theorem within_settlePort (p cause) :
    Within [.regs, .jr, .hif, .obs, .lan, .flt, .hot] s (settlePort s p cause) := .of fun A hA => by
  dsimp only [settlePort]
  simp [hA]

@[simp ↓] theorem within_disturbActs (p d) : Within [.regs, .jr, .hif, .obs, .lan, .flt, .hot] s (disturbActs s p d) := .of fun A hA => by
  unfold disturbActs
  split <;> simp [hA]

@[simp] theorem keepsFrame_portDisturb (p) : KeepsFrame (.portDisturb p) := .of (fun _ => rfl) fun A hA s => by
  dsimp only [mayChange] at hA
  split <;> simp [hA]

@[simp ↓] theorem within_disturb (p d) : Within [.lan] s (disturb s p d) := .of fun A hA => by
  dsimp only [disturb]
  simp [hA]

@[simp ↓] theorem within_portSetOp : portSetOp.Within [.regs, .jr, .hif, .obs, .lan, .hot] := .of fun A hA s w => by
  dsimp only [portSetOp]
  simp [hA]

@[simp] theorem keepsFrame_portSet (d) : KeepsFrame (.portSet d) := .of (fun _ => rfl) fun A hA s => by
  dsimp only [mayChange] at hA
  simp [hA]

@[simp ↓] theorem within_laneStored (l) : Within [.regs] s (laneStored s l) := .of fun A hA => by
  dsimp only [laneStored]
  simp [hA]

@[simp ↓] theorem within_laneSetOp : laneSetOp.Within [.regs, .jr, .hif, .obs, .lan, .hot] := .of fun A hA s w => by
  dsimp only [laneSetOp]
  split
  · simp [hA]
  · split <;> simp [hA]

@[simp] theorem keepsFrame_laneSet (d) : KeepsFrame (.laneSet d) := .of (fun _ => rfl) fun A hA s => by
  dsimp only [mayChange] at hA
  simp [hA]

@[simp ↓] theorem within_portLoopbackOp : portLoopbackOp.Within [.regs, .jr, .hif, .obs, .lan, .hot] := .of fun A hA s w => by
  dsimp only [portLoopbackOp]
  simp [hA]

@[simp] theorem keepsFrame_portLoopback (d) : KeepsFrame (.portLoopback d) := .of (fun _ => rfl) fun A hA s => by
  dsimp only [mayChange] at hA
  simp [hA]

@[simp ↓] theorem within_rgSetOp : rgSetOp.Within [.regs, .jr, .hif, .obs, .lan, .hot] := .of fun A hA s w => by
  dsimp only [rgSetOp]
  simp [hA]

@[simp] theorem keepsFrame_rgSet (d) : KeepsFrame (.rgSet d) := .of (fun _ => rfl) fun A hA s => by
  dsimp only [mayChange] at hA
  simp [hA]

@[simp ↓] theorem within_portsSetup : Within [.regs, .jr, .hif, .obs, .lan, .flt, .hot] s (portsSetup s) := .of fun A hA => by
  dsimp only [portsSetup]
  simp [hA]

@[simp ↓] theorem within_portsLeave : Within [.regs, .jr, .hif, .obs, .lan, .flt, .hot] s (portsLeave s) := .of fun A hA => by
  dsimp only [portsLeave]
  simp [hA]

@[simp ↓] theorem within_portsClock : Within [.regs, .jr, .hif, .obs, .lan, .flt, .hot] s (portsClock s) := .of fun A hA => by
  dsimp only [portsClock]
  simp [hA]

@[simp ↓] theorem within_portsOff : Within [.regs, .jr, .hif, .obs, .lan, .flt, .hot] s (portsOff s) := .of fun A hA => by
  dsimp only [portsOff]
  simp [hA]

/-! ### Scheduled egress -/

@[simp] theorem keepsFrame_frameArm (p) : KeepsFrame (.frameArm p) := .of (fun _ => rfl) fun A hA s => by
  dsimp only [mayChange] at hA
  split <;> simp [hA]

@[simp] theorem keepsFrame_frameLaunch (p) : KeepsFrame (.frameLaunch p) := .of (fun _ => rfl) fun A hA s => by
  dsimp only [mayChange] at hA
  repeat' split
  all_goals simp [hA]

@[simp ↓] theorem within_lineSent (p f) : Within [.regs, .hif, .obs, .lan, .hot] s (lineSent s p f) := .of fun A hA => by
  dsimp only [lineSent]
  simp [hA]

@[simp ↓] theorem within_lineTick : Within [.regs, .hif, .obs, .lan, .hot] s (lineTick s) := .of fun A hA => by
  unfold lineTick
  refine .fold fun t x => ?_
  split <;> simp [hA]

@[simp ↓] theorem within_departs (p m red len stamp booked) : Within [.lan] s (departs s p m red len stamp booked) := .of fun A hA => by
  dsimp only [departs]
  simp [hA]

@[simp ↓] theorem within_cutOff (p m red len stamp) : Within [.regs, .hif, .lan, .hot] s (cutOff s p m red len stamp) := .of fun A hA => by
  dsimp only [cutOff]
  simp [hA]

@[simp ↓] theorem within_cutLines : Within [.regs, .hif, .obs, .lan, .hot] s (cutLines s) := .of fun A hA => by
  unfold cutLines
  refine .trans (t := lineTick s) (by simp [hA]) (.fold fun t p => ?_)
  split <;> simp [hA]

@[simp ↓] theorem within_stampReturns (b stamp) : Within [.sel, .cla] s (stampReturns s b stamp) := .of fun A hA => by
  unfold stampReturns
  split <;> simp [hA]

@[simp] theorem keepsFrame_egressVerify (p edge) : KeepsFrame (.egressVerify p edge) := .of (fun _ => rfl) fun A hA s => by
  dsimp only [mayChange] at hA
  split <;> simp [hA]

@[simp] theorem keepsFrame_unbookedTx (p edge) : KeepsFrame (.unbookedTx p edge) := .of (fun _ => rfl) fun A hA s => by
  dsimp only [mayChange] at hA
  dsimp only
  repeat' split
  all_goals simp [hA]

@[simp] theorem keepsFrame_tsuPdCalibration (x) : KeepsFrame (.tsuPdCalibration x) := .of (fun _ => rfl) fun A hA s => by
  dsimp only [mayChange] at hA
  simp

@[simp ↓] theorem within_tsuLeave (cause) :
    Within [.regs, .jr, .hif, .obs, .lan, .tsu, .cla, .hot] s (tsuLeave s cause) := .of fun A hA => by
  dsimp only [tsuLeave]
  simp [hA]

@[simp ↓] theorem within_cutFrames : Within [.regs, .hif, .obs, .lan, .tsu, .hot] s (cutFrames s) := .of fun A hA => by
  dsimp only [cutFrames]
  simp [hA]

@[simp ↓] theorem within_showCal (p) : Within [.regs] s (showCal s p) := .of fun A hA => by
  unfold showCal
  split <;> simp [hA]

@[simp ↓] theorem within_setCal (p c) : Within [.tsu] s (s.setCal p c) := .of fun A hA => by
  dsimp only [State.setCal]
  simp [hA]

@[simp ↓] theorem within_calDisturb (p method) : Within [.lan] s (calDisturb s p method) := .of fun A hA => by
  dsimp only [calDisturb]
  simp [hA]

@[simp ↓] theorem within_calRestore (p method) : Within [.lan] s (calRestore s p method) := .of fun A hA => by
  dsimp only [calRestore]
  simp [hA]

@[simp ↓] theorem within_portCalibrateOp : portCalibrateOp.Within [.regs, .jr, .hif, .obs, .lan, .tsu, .hot] := .of fun A hA s w => by
  dsimp only [portCalibrateOp]
  simp [hA]

@[simp] theorem keepsFrame_portCalibrate (d) : KeepsFrame (.portCalibrate d) := .of (fun _ => rfl) fun A hA s => by
  dsimp only [mayChange] at hA
  simp [hA]

@[simp ↓] theorem within_calSample (p x) : Within [.tsu] s (calSample s p x) := .of fun A hA => by
  dsimp only [calSample]
  simp [hA]

@[simp] theorem keepsFrame_calProbe (p tx rx) : KeepsFrame (.calProbe p tx rx) := .of (fun _ => rfl) fun A hA s => by
  dsimp only [mayChange] at hA
  simp [hA]

@[simp ↓] theorem within_calApply (p d r u) : Within [.regs, .tsu] s (calApply s p d r u) := .of fun A hA => by
  dsimp only [calApply]
  simp [hA]

@[simp ↓] theorem within_endCal (l status) : Within [.regs, .jr, .hif, .obs, .lan, .tsu, .hot] s (endCal s l status) := .of fun A hA => by
  dsimp only [endCal]
  simp [hA]

@[simp] theorem keepsFrame_portCalibrateDone (p) : KeepsFrame (.portCalibrateDone p) := .of (fun _ => rfl) fun A hA s => by
  dsimp only [mayChange] at hA
  split <;> simp [hA]

@[simp ↓] theorem within_calResume (p) : Within [.regs, .lan] s (calResume s p) := .of fun A hA => by
  unfold calResume
  split <;> simp [hA]

@[simp ↓] theorem within_tsuSetOp : tsuSetOp.Within [.regs, .jr, .hif, .obs, .sel, .hot] := .of fun A hA s w => by
  dsimp only [tsuSetOp]
  simp [hA]

@[simp] theorem keepsFrame_tsuSet (d) : KeepsFrame (.tsuSet d) := .of (fun _ => rfl) fun A hA s => by
  dsimp only [mayChange] at hA
  simp [hA]

/-! ### A received frame -/

@[simp ↓] theorem within_setCla (f) : Within [.cla] s (s.setCla f) := .of fun A hA => by
  dsimp only [State.setCla]
  simp [hA]

@[simp ↓] theorem within_countRx (p f) : Within [.regs, .hif, .obs, .lan, .hot] s (countRx s p f) := .of fun A hA => by
  dsimp only [countRx]
  split <;> simp [hA]

@[simp ↓] theorem within_dedup (p f) : Within [.regs, .hif, .lan, .hot] s (dedup s p f).1 := .of fun A hA => by
  unfold dedup
  split <;> simp [hA]

@[simp ↓] theorem within_violation (p k) : Within [.regs, .cla, .hot] s (violation s p k) := .of fun A hA => by
  dsimp only [violation]
  simp [hA]

@[simp ↓] theorem within_sendUnbooked (t m len red inj) :
    Within [.regs, .jr, .obs, .lan, .tsu, .cla, .hot] s (sendUnbooked s t m len red inj) := .of fun A hA => by
  dsimp only [sendUnbooked]
  simp [hA]

@[simp ↓] theorem within_kiss (p m code len x) :
    Within [.regs, .jr, .obs, .lan, .tsu, .cla, .hot] s (kiss s p m code len x) := .of fun A hA => by
  dsimp only [kiss]
  simp [hA]

@[simp ↓] theorem within_punt (p f reason flags rule trx) :
    Within [.regs, .hif, .cla, .hot] s (punt s p f reason flags rule trx) := .of fun A hA => by
  dsimp only [punt]
  simp [hA]

@[simp ↓] theorem within_rateOk (r) : Within [.regs, .cla] s (rateOk s r).1 := .of fun A hA => by
  dsimp only [rateOk]
  split
  · simp
  · split <;> simp [hA]

@[simp ↓] theorem someKept_capsOk {A : Nat} {s0 : State} (c) : SomeKept A s0 (capsOk s c) =
    Via (Covers A [.cla] ∧ Kept A s0 s) (SomeKept.anyway A s0 (capsOk s c)) :=
  eq_via fun ⟨(hA : ∀ p ∈ _, Allows A p), hs⟩ => by
    unfold capsOk
    repeat' split
    all_goals simp [hA, hs]

@[simp ↓] theorem within_refuseReq (p c k) : Within [.regs, .obs, .cla, .hot] s (refuseReq s p c k) := .of fun A hA => by
  dsimp only [refuseReq]
  simp [hA]

@[simp ↓] theorem within_queueTxn (t) : Within [.regs, .cla] s (queueTxn s t) := .of fun A hA => by
  dsimp only [queueTxn]
  simp [hA]

@[simp ↓] theorem within_letIn (p c t) : Within [.regs, .obs, .cla, .hot] s (letIn s p c t) := .of fun A hA => by
  have h : SomeKept A s (capsOk s c) := by simp [hA]
  unfold letIn
  extract_lets q
  refine .ite (by simp [hA]) (.ite (by simp [hA]) (.ite (by simp [hA]) ?_))
  split
  · simp [hA]
  · split
    · simp [hA]
    · next u hu => simp [hA, h u hu]

@[simp ↓] theorem within_serveRequest (p rate kod t) :
    Within [.regs, .jr, .obs, .lan, .tsu, .cla, .hot] s (serveRequest s p rate kod t) := .of fun A hA => by
  dsimp only [serveRequest]
  repeat' split
  all_goals simp [hA]

@[simp ↓] theorem within_serveFrame (p f flags rule bind rate trx kod) :
    Within [.regs, .jr, .hif, .obs, .lan, .tsu, .cla, .hot] s (serveFrame s p f flags rule bind rate trx kod) := .of fun A hA => by
  dsimp only [serveFrame]
  repeat' split
  all_goals simp [hA]

@[simp ↓] theorem within_classify (p f flags trx) :
    Within [.regs, .jr, .hif, .obs, .lan, .tsu, .cla, .hot] s (classify s p f flags trx) := .of fun A hA => by
  unfold classify
  split <;> simp [hA]

@[simp ↓] theorem within_storeFrame (p f) :
    Within [.regs, .jr, .hif, .obs, .lan, .tsu, .cla, .hot] s (storeFrame s p f) := .of fun A hA => by
  dsimp only [storeFrame]
  simp [hA]

@[simp] theorem keepsFrame_frameRx (p f) : KeepsFrame (.frameRx p f) := .of (fun _ => rfl) fun A hA s => by
  dsimp only [mayChange] at hA
  simp [hA]

/-! ### The engines' messages -/

@[simp ↓] theorem within_withheld (b) : Within [.regs, .hot] s (withheld s b) := .of fun A hA => by
  dsimp only [withheld]
  simp [hA]

end

end Sys2Proof.Machine
end

section
/-!
SUPPORT. Frames: what each operation of the service engines may change, and that their rows keep their frames.
-/

namespace Sys2Proof.Machine

section
variable (s : State)

/-! ### The Clause engines -/

@[simp ↓] theorem within_putTxn (x) : Within [.cla] s (putTxn s x) := .of fun A hA => by
  dsimp only [putTxn]
  simp [hA]

@[simp ↓] theorem within_abandon (x cause) : Within [.regs, .jr, .obs, .tsu, .cla, .hot] s (abandon s x cause) := .of fun A hA => by
  dsimp only [abandon]
  simp [hA]

@[simp ↓] theorem within_release (x) : Within [.regs, .cla] s (release s x) := .of fun A hA => by
  dsimp only [release]
  simp [hA]

@[simp ↓] theorem within_submitOp (x) : Within [.regs, .jr, .obs, .tsu, .cla, .hot] s (submitOp s x) := .of fun A hA => by
  dsimp only [submitOp]
  simp [hA]

@[simp ↓] theorem within_ntsNak (x m) : Within [.regs, .jr, .obs, .lan, .tsu, .cla, .hot] s (ntsNak s x m) := .of fun A hA => by
  dsimp only [ntsNak]
  simp [hA]

@[simp ↓] theorem within_beginTxn (x) : Within [.regs, .jr, .obs, .lan, .tsu, .cla, .hot] s (beginTxn s x) := .of fun A hA => by
  dsimp only [beginTxn]
  repeat' split
  all_goals simp [hA]

@[simp] theorem keepsFrame_requestDispatch (e) : KeepsFrame (.requestDispatch e) := .of (fun _ => rfl) fun A hA s => by
  dsimp only [mayChange] at hA
  dsimp only
  split
  · simp
  · split <;> simp [hA]

@[simp ↓] theorem within_sealCheckFails (x) : Within [.regs, .jr, .obs, .tsu, .cla, .hot] s (sealCheckFails s x) := .of fun A hA => by
  dsimp only [sealCheckFails]
  simp [hA]

@[simp ↓] theorem within_ntsOpDone (x m k good) :
    Within [.regs, .jr, .obs, .lan, .tsu, .cla, .hot] s (ntsOpDone s x m k good) := .of fun A hA => by
  dsimp only [ntsOpDone]
  simp [hA]

@[simp ↓] theorem within_ptpVerified (x good) : Within [.regs, .cla, .hot] s (ptpVerified s x good) := .of fun A hA => by
  dsimp only [ptpVerified]
  simp [hA]

@[simp ↓] theorem within_sealBooks (x) : Within [.tsu] s (sealBooks s x) := .of fun A hA => by
  dsimp only [sealBooks]
  simp [hA]

@[simp] theorem keepsFrame_aeadComplete (e c ok intact) : KeepsFrame (.aeadComplete e c ok intact) := .of (fun _ => rfl) fun A hA s => by
  dsimp only [mayChange] at hA
  repeat' split
  all_goals simp [hA]

@[simp ↓] theorem within_book (x p pos len sealed) : Within [.tsu] s (book s x p pos len sealed) := .of fun A hA => by
  dsimp only [book]
  simp [hA]

@[simp ↓] theorem within_slotDiscard (x ports) : Within [.regs, .jr, .obs, .tsu, .cla, .hot] s (slotDiscard s x ports) := .of fun A hA => by
  dsimp only [slotDiscard]
  simp [hA]

@[simp ↓] theorem within_afterGrant (x sealed ttx) :
    Within [.regs, .jr, .obs, .tsu, .cla, .hot] s (afterGrant s x sealed ttx) := .of fun A hA => by
  dsimp only [afterGrant]
  simp [hA]

@[simp] theorem keepsFrame_ttxGrant (e c len grid gridB) : KeepsFrame (.ttxGrant e c len grid gridB) := .of (fun _ => rfl) fun A hA s => by
  dsimp only [mayChange] at hA
  dsimp only
  repeat' split
  all_goals simp [hA]

@[simp] theorem keepsFrame_frameCommit (e c len) : KeepsFrame (.frameCommit e c len) := .of (fun _ => rfl) fun A hA s => by
  dsimp only [mayChange] at hA
  split <;> simp [hA]

@[simp ↓] theorem within_originate (x miss) : Within [.regs, .cla, .hot] s (originate s x miss) := .of fun A hA => by
  dsimp only [originate]
  split
  · simp [hA]
  · split <;> simp [hA]

@[simp] theorem keepsFrame_streamPrepare (i ann) : KeepsFrame (.streamPrepare i ann) := .of (fun _ => rfl) fun A hA s => by
  dsimp only [mayChange] at hA
  simp [hA]

@[simp ↓] theorem within_streamsStart : Within [.cla] s (streamsStart s) := .of fun A hA => by
  dsimp only [streamsStart]
  simp [hA]

@[simp] theorem keepsFrame_followUpPrepare : KeepsFrame .followUpPrepare := .of (fun _ => rfl) fun A hA s => by
  dsimp only [mayChange] at hA
  split <;> simp [hA]

@[simp] theorem keepsFrame_delayReqTx (p) : KeepsFrame (.delayReqTx p) := .of (fun _ => rfl) fun A hA s => by
  dsimp only [mayChange] at hA
  dsimp only
  split <;> simp [hA]

@[simp ↓] theorem within_putToken (i t) : Within [.cla] s (putToken s i t) := .of fun A hA => by
  dsimp only [putToken]
  simp [hA]

@[simp ↓] theorem within_countGrant (g r c e) : Within [.cla] s (countGrant s g r c e) := .of fun A hA => by
  dsimp only [countGrant]
  simp [hA]

@[simp ↓] theorem within_negotiate (q g) : Within [.regs, .cla, .hot] s (negotiate s q g).1 := .of fun A hA => by
  dsimp only [negotiate]
  repeat' split
  all_goals simp [hA]

@[simp ↓] theorem within_takeGrant (q g) : Within [.sel] s (takeGrant s q g) := .of fun A hA => by
  dsimp only [takeGrant]
  simp [hA]

@[simp] theorem keepsFrame_signalingRx (ok len) : KeepsFrame (.signalingRx ok len) := .of (fun _ => rfl) fun A hA s => by
  dsimp only [mayChange] at hA
  split
  · extract_lets s1 good s2
    have h1 : Kept A s s1 := by simp [s1, hA]
    have h2 : Kept A s1 s2 := by unfold s2; split <;> simp [hA]
    clear_value s1 s2
    refine h1.trans (.ite (by simp [hA]) (h2.trans (.ite (by simp [hA]) (.ite (by simp [hA]) (.ite (by simp) ?_)))))
    split
    next u tlvs e =>
    have hu : Kept A s2 u := .of_fst e (by simp [hA])
    refine hu.trans (.ite (by simp) ?_)
    split <;> simp [hA]
  · simp

@[simp ↓] theorem within_walkSlot (late bad p) : Within [.regs, .cla, .hot] s (walkSlot late bad s p) := .of fun A hA => by
  dsimp only [walkSlot]
  repeat' split
  all_goals simp [hA]

@[simp] theorem keepsFrame_grantWalk (late bad) : KeepsFrame (.grantWalk late bad) := .of (fun _ => rfl) fun A hA s => by
  dsimp only [mayChange] at hA
  simp [hA]

@[simp ↓] theorem within_vioRecord (k) : Within [.regs, .jr, .obs, .cla, .hot] s (vioRecord s k) := .of fun A hA => by
  dsimp only [vioRecord]
  simp [hA]

@[simp] theorem keepsFrame_svcViolation : KeepsFrame .svcViolation := .of (fun _ => rfl) fun A hA s => by
  dsimp only [mayChange] at hA
  simp [hA]

@[simp] theorem keepsFrame_grantSummary : KeepsFrame .grantSummary := .of (fun _ => rfl) fun A hA s => by
  dsimp only [mayChange] at hA
  simp [hA]

@[simp ↓] theorem within_resetEngine (e) : Within [.regs, .jr, .obs, .tsu, .cla, .sys, .hot] s (resetEngine s e).1 := .of fun A hA => by
  dsimp only [resetEngine]
  simp [hA]

@[simp] theorem keepsFrame_engineRejoin (e) : KeepsFrame (.engineRejoin e) := .of (fun _ => rfl) fun A hA s => by
  dsimp only [mayChange] at hA
  simp [hA]

@[simp ↓] theorem within_claLeave : Within [.regs, .cla] s (claLeave s) := .of fun A hA => by
  dsimp only [claLeave]
  simp [hA]

@[simp ↓] theorem within_haltOps : Within [.regs, .jr, .obs, .tsu, .cla, .hot] s (haltOps s) := .of fun A hA => by
  dsimp only [haltOps]
  simp [hA]

@[simp] theorem keepsFrame_injectEntry (r header frame) : KeepsFrame (.injectEntry r header frame) := .of (fun _ => rfl) fun A hA s => by
  dsimp only [mayChange] at hA
  simp [hA]

/-! ### Commands of the service engines -/

@[simp ↓] theorem within_claSetOp : claSetOp.Within [.regs, .jr, .hif, .obs, .sel, .cla, .hot] := .of fun A hA s w => by
  dsimp only [claSetOp]
  simp [hA]

@[simp] theorem keepsFrame_claSet (d) : KeepsFrame (.claSet d) := .of (fun _ => rfl) fun A hA s => by
  dsimp only [mayChange] at hA
  simp [hA]

@[simp ↓] theorem within_putRule (i r) : Within [.cla] s (putRule s i r) := .of fun A hA => by
  dsimp only [putRule]
  simp [hA]

@[simp ↓] theorem within_claRuleOp : claRuleOp.Within [.regs, .jr, .hif, .obs, .cla, .hot] := .of fun A hA s w => by
  dsimp only [claRuleOp]
  simp [hA]

@[simp] theorem keepsFrame_claRule (d) : KeepsFrame (.claRule d) := .of (fun _ => rfl) fun A hA s => by
  dsimp only [mayChange] at hA
  simp [hA]

@[simp ↓] theorem within_putStream (i r) : Within [.regs, .cla] s (putStream s i r) := .of fun A hA => by
  dsimp only [putStream]
  simp [hA]

@[simp ↓] theorem within_streamSetOp : streamSetOp.Within [.regs, .jr, .hif, .obs, .cla, .hot] := .of fun A hA s w => by
  dsimp only [streamSetOp]
  simp [hA]

@[simp] theorem keepsFrame_streamSet (d) : KeepsFrame (.streamSet d) := .of (fun _ => rfl) fun A hA s => by
  dsimp only [mayChange] at hA
  simp [hA]

@[simp ↓] theorem within_installKey (k) : Within [.regs, .cla] s (installKey s k) := .of fun A hA => by
  dsimp only [installKey]
  simp [hA]

@[simp ↓] theorem within_latchImage (f r) : Within [.regs] s (latchImage s f r) := .of fun A hA => by
  dsimp only [latchImage]
  simp [hA]

@[simp] theorem keepsFrame_claStrRead (i) : KeepsFrame (.claStrRead i) := .of (fun _ => rfl) fun A hA s => by
  dsimp only [mayChange] at hA
  simp [hA]

@[simp] theorem keepsFrame_claStrWrite (i) : KeepsFrame (.claStrWrite i) := .of (fun _ => rfl) fun A hA s => by
  dsimp only [mayChange] at hA
  simp [hA]

@[simp] theorem keepsFrame_claRuleRead (i) : KeepsFrame (.claRuleRead i) := .of (fun _ => rfl) fun A hA s => by
  dsimp only [mayChange] at hA
  simp [hA]

@[simp] theorem keepsFrame_claRuleWrite (i) : KeepsFrame (.claRuleWrite i) := .of (fun _ => rfl) fun A hA s => by
  dsimp only [mayChange] at hA
  simp [hA]

end

end Sys2Proof.Machine
end

section
/-!
SUPPORT. Frames: what each operation of the pair unit and the clocks may change, and that their rows keep their frames.
-/

namespace Sys2Proof.Machine

section
variable (s : State)

/-! ### The core of the pair unit -/

@[simp ↓] theorem within_setCl (l x) : Within [.cnj] s (s.setCl l x) := .of fun A hA => by
  dsimp only [State.setCl]
  simp [hA]

@[simp ↓] theorem within_showPair : Within [.regs] s (showPair s) := .of fun A hA => by
  dsimp only [showPair]
  simp [hA]

@[simp ↓] theorem within_putStat (f v) : Within [.regs] s (putStat s f v) := .of fun A hA => by
  dsimp only [putStat]
  simp [hA]

@[simp ↓] theorem within_sendFrame (p) : Within [.cnj] s (sendFrame s p) := .of fun A hA => by
  dsimp only [sendFrame]
  simp [hA]

@[simp ↓] theorem within_sendOn (l p) : Within [.cnj] s (sendOn s l p) := .of fun A hA => by
  dsimp only [sendOn]
  simp [hA]

@[simp ↓] theorem within_takeCseq (c) : Within [.jr] s (takeCseq s c) := .of fun A hA => by
  dsimp only [takeCseq]
  simp [hA]

@[simp ↓] theorem within_firstCopy (q) : Within [.cnj] s (firstCopy s q).1 := .of fun A hA => by
  dsimp only [firstCopy]
  simp [hA]

@[simp ↓] theorem within_journalLane (l event) : Within [.regs, .jr, .obs, .hot] s (journalLane s l event) := .of fun A hA => by
  dsimp only [journalLane]
  simp [hA]

@[simp ↓] theorem within_showEsc : Within [.regs] s (showEsc s) := .of fun A hA => by
  dsimp only [showEsc]
  simp [hA]

@[simp ↓] theorem within_setPstate (new cause) : Within [.regs, .jr, .hif, .obs, .hot] s (setPstate s new cause) := .of fun A hA => by
  dsimp only [setPstate]
  simp [hA]

@[simp ↓] theorem within_setPresent (b lost) : Within [.regs, .jr, .hif, .obs, .cnj, .hot] s (setPresent s b lost) := .of fun A hA => by
  dsimp only [setPresent]
  simp [hA]

@[simp ↓] theorem within_enterSearch (cause) : Within [.regs, .jr, .hif, .obs, .cnj, .hot] s (enterSearch s cause) := .of fun A hA => by
  dsimp only [enterSearch]
  simp [hA]

@[simp ↓] theorem within_showLink : Within [.regs, .jr, .hif, .obs, .cnj, .hot] s (showLink s) := .of fun A hA => by
  dsimp only [showLink]
  simp [hA]

@[simp ↓] theorem within_showLane (l) : Within [.regs, .jr, .hif, .obs, .cnj, .hot] s (showLane s l) := .of fun A hA => by
  dsimp only [showLane]
  simp [hA]

@[simp ↓] theorem within_setDrv (m) : Within [.regs, .cnj, .hot] s (setDrv s m) := .of fun A hA => by
  dsimp only [setDrv]
  simp [hA]

@[simp ↓] theorem within_dropDrivers (all) : Within [.regs, .cnj, .hot] s (dropDrivers s all) := .of fun A hA => by
  dsimp only [dropDrivers]
  simp [hA]

@[simp ↓] theorem within_raiseDrivers : Within [.regs, .cnj, .hot] s (raiseDrivers s) := .of fun A hA => by
  dsimp only [raiseDrivers]
  simp [hA]

@[simp ↓] theorem within_setRole (new cause undriven) :
    Within [.regs, .jr, .hif, .obs, .sys, .hot] s (setRole s new cause undriven) := .of fun A hA => by
  dsimp only [setRole]
  simp [hA]

@[simp ↓] theorem within_becomeObject (cause) :
    Within [.regs, .jr, .hif, .obs, .cnj, .sys, .hot] s (becomeObject s cause) := .of fun A hA => by
  dsimp only [becomeObject]
  simp [hA]

@[simp ↓] theorem within_roleEval : Within [.regs, .jr, .hif, .obs, .cnj, .sys, .hot] s (roleEval s) := .of fun A hA => by
  dsimp only [roleEval]
  simp [hA]

@[simp ↓] theorem within_urgentRelease : Within [.regs, .jr, .hif, .obs, .cnj, .sys, .hot] s (urgentRelease s) := .of fun A hA => by
  dsimp only [urgentRelease]
  simp [hA]

@[simp ↓] theorem within_pairSafe : Within [.regs, .jr, .hif, .obs, .cnj, .sys, .hot] s (pairSafe s) := .of fun A hA => by
  dsimp only [pairSafe]
  simp [hA]

@[simp ↓] theorem within_pairLeave : Within [.regs, .jr, .hif, .obs, .cnj, .sys, .hot] s (pairLeave s) := .of fun A hA => by
  dsimp only [pairLeave]
  simp [hA]

@[simp ↓] theorem within_pairStart : Within [.regs, .jr, .hif, .obs, .cnj, .hot] s (pairStart s) := .of fun A hA => by
  dsimp only [pairStart]
  simp [hA]

@[simp ↓] theorem within_endHand (action status result) :
    Within [.regs, .jr, .hif, .obs, .cnj, .hot] s (endHand s action status result) := .of fun A hA => by
  unfold endHand
  split <;> simp [hA]

@[simp ↓] theorem within_endRehearsal (outcome cause take1 take2) :
    Within [.regs, .jr, .hif, .obs, .cnj, .hot] s (endRehearsal s outcome cause take1 take2) := .of fun A hA => by
  dsimp only [endRehearsal]
  simp [hA]

@[simp ↓] theorem within_startYield (cause) : Within [.regs, .jr, .hif, .obs, .cnj, .sys, .hot] s (startYield s cause) := .of fun A hA => by
  dsimp only [startYield]
  simp [hA]

@[simp ↓] theorem within_startRehearsal : Within [.regs, .jr, .hif, .obs, .cnj, .sys, .hot] s (startRehearsal s) := .of fun A hA => by
  dsimp only [startRehearsal]
  simp [hA]

/-! ### The rows of the pair unit -/

@[simp] theorem keepsFrame_heartbeatTx : KeepsFrame .heartbeatTx := .of (fun _ => rfl) fun A hA s => by
  dsimp only [mayChange] at hA
  simp [hA]

@[simp ↓] theorem within_showDigest : Within [.regs] s (showDigest s) := .of fun A hA => by
  dsimp only [showDigest]
  simp [hA]

@[simp] theorem keepsFrame_identTx : KeepsFrame .identTx := .of (fun _ => rfl) fun A hA s => by
  dsimp only [mayChange] at hA
  simp [hA]

@[simp ↓] theorem within_journalCompare (begins outcome) :
    Within [.regs, .jr, .hif, .obs, .hot] s (journalCompare s begins outcome) := .of fun A hA => by
  dsimp only [journalCompare]
  simp [hA]

@[simp ↓] theorem within_beginDisagree : Within [.regs, .jr, .hif, .obs, .flt, .hot] s (beginDisagree s) := .of fun A hA => by
  dsimp only [beginDisagree]
  simp [hA]

@[simp ↓] theorem within_compareEpoch (phi) : Within [.regs, .jr, .hif, .obs, .flt, .cnj, .hot] s (compareEpoch s phi) := .of fun A hA => by
  dsimp only [compareEpoch]
  simp [hA]

@[simp ↓] theorem within_comparePch (c) : Within [.regs, .jr, .hif, .obs, .flt, .cnj, .hot] s (comparePch s c) := .of fun A hA => by
  dsimp only [comparePch]
  simp [hA]

@[simp] theorem keepsFrame_windowClose (c) : KeepsFrame (.windowClose c) := .of (fun _ => rfl) fun A hA s => by
  dsimp only [mayChange] at hA
  simp [hA]

@[simp ↓] theorem within_formPeer (epoch) :
    Within [.regs, .jr, .hif, .obs, .sel, .flt, .cnj, .hot] s (formPeer s epoch) := .of fun A hA => by
  dsimp only [formPeer]
  simp [hA]

@[simp] theorem keepsFrame_epochMarkerTx (x0 x1) : KeepsFrame (.epochMarkerTx x0 x1) := .of (fun _ => rfl) fun A hA s => by
  dsimp only [mayChange] at hA
  dsimp only
  split
  · simp
  · split <;> simp [hA]

@[simp] theorem keepsFrame_epochMarkerRx (l x) : KeepsFrame (.epochMarkerRx l x) := .of (fun _ => rfl) fun A hA s => by
  dsimp only [mayChange] at hA
  simp [hA]

@[simp ↓] theorem within_notePeer (p) : Within [.regs, .cnj] s (notePeer s p) := .of fun A hA => by
  dsimp only [notePeer]
  simp [hA]

@[simp ↓] theorem within_exchanged (l epoch phi) :
    Within [.regs, .jr, .hif, .obs, .sel, .flt, .cnj, .hot] s (exchanged s l epoch phi) := .of fun A hA => by
  dsimp only [exchanged]
  simp [hA]

@[simp] theorem keepsFrame_stateFrameRx (l h t3 t2 p) : KeepsFrame (.stateFrameRx l h t3 t2 p) := .of (fun _ => rfl) fun A hA s => by
  dsimp only [mayChange] at hA
  dsimp only
  repeat' split
  all_goals simp [hA]

@[simp ↓] theorem within_takeHeartbeat (p) : Within [.regs, .jr, .hif, .obs, .cnj, .hot] s (takeHeartbeat s p) := .of fun A hA => by
  dsimp only [takeHeartbeat]
  simp [hA]

@[simp] theorem keepsFrame_heartbeatRx (l h p) : KeepsFrame (.heartbeatRx l h p) := .of (fun _ => rfl) fun A hA s => by
  dsimp only [mayChange] at hA
  simp [hA]

@[simp] theorem keepsFrame_hbInEdge : KeepsFrame .hbInEdge := .of (fun _ => rfl) fun A hA s => by
  dsimp only [mayChange] at hA
  simp [hA]

@[simp] theorem keepsFrame_peerAbsenceTimeout : KeepsFrame .peerAbsenceTimeout := .of (fun _ => rfl) fun A hA s => by
  dsimp only [mayChange] at hA
  simp [hA]

@[simp ↓] theorem within_leaveMismatch : Within [.regs, .jr, .hif, .obs, .cnj, .hot] s (leaveMismatch s) := .of fun A hA => by
  dsimp only [leaveMismatch]
  simp [hA]

@[simp] theorem keepsFrame_linkHeartbeatTimeout (l) : KeepsFrame (.linkHeartbeatTimeout l) := .of (fun _ => rfl) fun A hA s => by
  dsimp only [mayChange] at hA
  simp [hA]

@[simp] theorem keepsFrame_laneSyncChange (l sync) : KeepsFrame (.laneSyncChange l sync) := .of (fun _ => rfl) fun A hA s => by
  dsimp only [mayChange] at hA
  simp [hA]

@[simp] theorem keepsFrame_linkViolation (l) : KeepsFrame (.linkViolation l) := .of (fun _ => rfl) fun A hA s => by
  dsimp only [mayChange] at hA
  simp [hA]

@[simp ↓] theorem within_linkTick : Within [.regs, .jr, .hif, .obs, .cnj, .hot] s (linkTick s) := .of fun A hA => by
  dsimp only [linkTick]
  simp [hA]

@[simp] theorem keepsFrame_laneRestart (l) : KeepsFrame (.laneRestart l) := .of (fun _ => rfl) fun A hA s => by
  dsimp only [mayChange] at hA
  simp [hA]

@[simp ↓] theorem within_enterPaired (cseq) : Within [.regs, .jr, .hif, .obs, .cnj, .hot] s (enterPaired s cseq) := .of fun A hA => by
  dsimp only [enterPaired]
  simp [hA]

@[simp ↓] theorem within_compareDigest (d) : Within [.regs, .jr, .hif, .obs, .cnj, .hot] s (compareDigest s d) := .of fun A hA => by
  dsimp only [compareDigest]
  simp [hA]

@[simp ↓] theorem within_joinPeer (p cseq) : Within [.regs, .jr, .hif, .obs, .cnj, .hot] s (joinPeer s p cseq) := .of fun A hA => by
  dsimp only [joinPeer]
  split <;> simp [hA]

@[simp] theorem keepsFrame_identRx (l h p) : KeepsFrame (.identRx l h p) := .of (fun _ => rfl) fun A hA s => by
  dsimp only [mayChange] at hA
  simp [hA]

@[simp ↓] theorem within_journalKey (k inst) : Within [.regs, .jr, .obs, .hot] s (journalKey s k inst) := .of fun A hA => by
  dsimp only [journalKey]
  simp [hA]

@[simp] theorem keepsFrame_keyTx : KeepsFrame .keyTx := .of (fun _ => rfl) fun A hA s => by
  dsimp only [mayChange] at hA
  dsimp only
  split
  · simp
  · split <;> simp [hA]

@[simp] theorem keepsFrame_keyRx (l h k adopt) : KeepsFrame (.keyRx l h k adopt) := .of (fun _ => rfl) fun A hA s => by
  dsimp only [mayChange] at hA
  simp [hA]

@[simp] theorem keepsFrame_keyAckRx (l h adopt) : KeepsFrame (.keyAckRx l h adopt) := .of (fun _ => rfl) fun A hA s => by
  dsimp only [mayChange] at hA
  simp [hA]

@[simp] theorem keepsFrame_keyAdoption : KeepsFrame .keyAdoption := .of (fun _ => rfl) fun A hA s => by
  dsimp only [mayChange] at hA
  repeat' split
  all_goals simp [hA]

@[simp ↓] theorem within_seqKeyOp : seqKeyOp.Within [.regs, .jr, .hif, .obs, .cla, .cnj, .hot] := .of fun A hA s w => by
  dsimp only [seqKeyOp]
  repeat' split
  all_goals simp [hA]

@[simp ↓] theorem within_shareKey (before) : Within [.cnj] s (shareKey s before) := .of fun A hA => by
  unfold shareKey
  split <;> simp [hA]

@[simp] theorem keepsFrame_claSeqkey (d) : KeepsFrame (.claSeqkey d) := .of (fun _ => rfl) fun A hA s => by
  dsimp only [mayChange] at hA
  simp [hA]

@[simp] theorem keepsFrame_noticeTx : KeepsFrame .noticeTx := .of (fun _ => rfl) fun A hA s => by
  dsimp only [mayChange] at hA
  split <;> simp [hA]

@[simp] theorem keepsFrame_noticeRx (l h src cls flags stamp) :
    KeepsFrame (.noticeRx l h src cls flags stamp) := .of (fun _ => rfl) fun A hA s => by
  dsimp only [mayChange] at hA
  simp [hA]

@[simp] theorem keepsFrame_subjInChange (level) : KeepsFrame (.subjInChange level) := .of (fun _ => rfl) fun A hA s => by
  dsimp only [mayChange] at hA
  simp [hA]

@[simp] theorem keepsFrame_arbValidChange (sel) : KeepsFrame (.arbValidChange sel) := .of (fun _ => rfl) fun A hA s => by
  dsimp only [mayChange] at hA
  simp [hA]

@[simp] theorem keepsFrame_roleDecisionChange : KeepsFrame .roleDecisionChange := .of (fun _ => rfl) fun A hA s => by
  dsimp only [mayChange] at hA
  simp [hA]

@[simp] theorem keepsFrame_guardExpiry (undriven) : KeepsFrame (.guardExpiry undriven) := .of (fun _ => rfl) fun A hA s => by
  dsimp only [mayChange] at hA
  dsimp only
  split
  · simp
  · split <;> simp [hA]

@[simp] theorem keepsFrame_takeHoldExpiry : KeepsFrame .takeHoldExpiry := .of (fun _ => rfl) fun A hA s => by
  dsimp only [mayChange] at hA
  simp [hA]

@[simp] theorem keepsFrame_driverInactiveInstant (n) : KeepsFrame (.driverInactiveInstant n) := .of (fun _ => rfl) fun A hA s => by
  dsimp only [mayChange] at hA
  simp [hA]

@[simp] theorem keepsFrame_urgentRelease : KeepsFrame .urgentRelease := .of (fun _ => rfl) fun A hA s => by
  dsimp only [mayChange] at hA
  simp [hA]

@[simp] theorem keepsFrame_releaseDeadline : KeepsFrame .releaseDeadline := .of (fun _ => rfl) fun A hA s => by
  dsimp only [mayChange] at hA
  simp [hA]

@[simp] theorem keepsFrame_rehearsalStart : KeepsFrame .rehearsalStart := .of (fun _ => rfl) fun A hA s => by
  dsimp only [mayChange] at hA
  simp [hA]

@[simp] theorem keepsFrame_rehDwellExpiry : KeepsFrame .rehDwellExpiry := .of (fun _ => rfl) fun A hA s => by
  dsimp only [mayChange] at hA
  split <;> simp [hA]

@[simp] theorem keepsFrame_rehLimExpiry : KeepsFrame .rehLimExpiry := .of (fun _ => rfl) fun A hA s => by
  dsimp only [mayChange] at hA
  dsimp only
  split
  · simp
  · split <;> simp [hA]

@[simp ↓] theorem within_normReh : Within [.regs] s (normReh s) := .of fun A hA => by
  dsimp only [normReh]
  simp [hA]

@[simp ↓] theorem within_cnjSetOp : cnjSetOp.Within [.regs, .jr, .hif, .obs, .sel, .hot] := .of fun A hA s w => by
  dsimp only [cnjSetOp]
  simp [hA]

@[simp] theorem keepsFrame_cnjSet (d) : KeepsFrame (.cnjSet d) := .of (fun _ => rfl) fun A hA s => by
  dsimp only [mayChange] at hA
  simp [hA]

@[simp ↓] theorem within_handoverOp : handoverOp.Within [.regs, .jr, .hif, .obs, .cnj, .sys, .hot] := .of fun A hA s w => by
  dsimp only [handoverOp]
  simp [hA]

@[simp] theorem keepsFrame_cnjHandover (d) : KeepsFrame (.cnjHandover d) := .of (fun _ => rfl) fun A hA s => by
  dsimp only [mayChange] at hA
  simp [hA]

/-! ### The clocks -/

@[simp ↓] theorem within_cyHalt : Within [.regs, .jr, .hif, .obs, .tsu, .cla, .flt, .hot] s (cyHalt s) := .of fun A hA => by
  dsimp only [cyHalt]
  simp [hA]

@[simp ↓] theorem within_startRelock (k cause) :
    Within [.regs, .jr, .hif, .obs, .syn, .lan, .tsu, .cla, .flt, .hot] s (startRelock s k cause) := .of fun A hA => by
  dsimp only [startRelock]
  simp [hA]

@[simp] theorem keepsFrame_tbClockStop : KeepsFrame .tbClockStop := .of (fun _ => rfl) fun A hA s => by
  dsimp only [mayChange] at hA
  simp [hA]

@[simp] theorem keepsFrame_oscinLoss : KeepsFrame .oscinLoss := .of (fun _ => rfl) fun A hA s => by
  dsimp only [mayChange] at hA
  simp [hA]

@[simp] theorem keepsFrame_apllLossOfLock (k) : KeepsFrame (.apllLossOfLock k) := .of (fun _ => rfl) fun A hA s => by
  dsimp only [mayChange] at hA
  simp [hA]

@[simp] theorem keepsFrame_oscinReturn : KeepsFrame .oscinReturn := .of (fun _ => rfl) fun A hA s => by
  dsimp only [mayChange] at hA
  simp [hA]

@[simp ↓] theorem within_startTb : Within [.regs, .tb, .sys] s (startTb s) := .of fun A hA => by
  dsimp only [startTb]
  simp [hA]

@[simp] theorem keepsFrame_apllLock (k) : KeepsFrame (.apllLock k) := .of (fun _ => rfl) fun A hA s => by
  dsimp only [mayChange] at hA
  simp [hA]

@[simp ↓] theorem within_refmulStored (old) :
    Within [.regs, .jr, .hif, .obs, .syn, .lan, .tsu, .cla, .flt, .hot] s (refmulStored s old) := .of fun A hA => by
  dsimp only [refmulStored]
  simp [hA]

@[simp ↓] theorem within_dpllStored (s0 : State) (k) :
    Within [.regs, .jr, .hif, .obs, .syn, .hot] s (dpllStored s0 s k) := .of fun A hA => by
  dsimp only [dpllStored]
  simp [hA]

@[simp ↓] theorem within_outPreview (d n) : Within [.regs] s (outPreview s d n) := .of fun A hA => by
  dsimp only [outPreview]
  simp [hA]

@[simp ↓] theorem within_synSetUdist (w n) : Within [.regs, .jr, .hif, .obs, .syn, .hot] s (synSetUdist s w n) := .of fun A hA => by
  dsimp only [synSetUdist]
  simp [hA]

@[simp ↓] theorem within_synSetOut (w n) : Within [.regs, .jr, .hif, .obs, .syn, .hot] s (synSetOut s w n) := .of fun A hA => by
  dsimp only [synSetOut]
  simp [hA]

@[simp ↓] theorem within_synSetOp : synSetOp.Within [.regs, .jr, .hif, .obs, .syn, .lan, .tsu, .cla, .flt, .hot] := .of fun A hA s w => by
  dsimp only [synSetOp]
  simp [hA]

@[simp] theorem keepsFrame_synSet (d) : KeepsFrame (.synSet d) := .of (fun _ => rfl) fun A hA s => by
  dsimp only [mayChange] at hA
  simp [hA]

end

end Sys2Proof.Machine
end

section
/-!
SUPPORT. Frames: what each operation of observation, the fabric, the modes, the faults, start-up and the SMBus view may change, and that their rows keep their frames.
-/

namespace Sys2Proof.Machine

section
variable (s : State)

/-! ### Observation -/

@[simp ↓] theorem within_setPc (i v) : Within [.obs] s (setPc s i v) := .of fun A hA => by
  dsimp only [setPc]
  simp [hA]

@[simp ↓] theorem within_normPcSel (i) : Within [.regs] s (normPcSel s i) := .of fun A hA => by
  dsimp only [normPcSel]
  simp [hA]

@[simp ↓] theorem within_pcHalf (i old new) : Within [.regs, .hif, .hot] s (pcHalf s i old new) := .of fun A hA => by
  dsimp only [pcHalf]
  simp [hA]

@[simp ↓] theorem kept_changePc {A : Nat} {s0 : State} (i) (store : State → State) :
    Kept A s0 (changePc s i store) =
      Via (Covers A [.regs, .hif, .obs, .hot] ∧ Kept A s0 (store s)) (Kept.anyway A s0 (changePc s i store)) :=
  eq_via fun ⟨(hA : ∀ p ∈ _, Allows A p), hf⟩ => by
    unfold changePc
    simp [hA, hf]

@[simp ↓] theorem within_pcTick : Within [.regs, .hif, .obs, .hot] s (pcTick s) := .of fun A hA => by
  dsimp only [pcTick]
  simp [hA]

@[simp ↓] theorem within_setFreeze (b) : Within [.regs] s (setFreeze s b) := .of fun A hA => by
  dsimp only [setFreeze]
  simp [hA]

@[simp ↓] theorem within_takeSnapshot : Within [.regs, .jr, .hif, .obs, .hot] s (takeSnapshot s) := .of fun A hA => by
  dsimp only [takeSnapshot]
  simp [hA]

@[simp] theorem keepsFrame_obsPcSnap : KeepsFrame .obsPcSnap := .of (fun _ => rfl) fun A hA s => by
  dsimp only [mayChange] at hA
  simp [hA]

@[simp] theorem keepsFrame_obsPcFreeze (b) : KeepsFrame (.obsPcFreeze b) := .of (fun _ => rfl) fun A hA s => by
  dsimp only [mayChange] at hA
  simp [hA]

@[simp ↓] theorem within_obsSnapOp : obsSnapOp.Within [.regs, .jr, .hif, .obs, .hot] := .of fun A hA s w => by
  dsimp only [obsSnapOp]
  simp [hA]

@[simp] theorem keepsFrame_obsSnap (d) : KeepsFrame (.obsSnap d) := .of (fun _ => rfl) fun A hA s => by
  dsimp only [mayChange] at hA
  simp [hA]

@[simp ↓] theorem within_loadCountdown (e) : Within [.obs] s (loadCountdown s e) := .of fun A hA => by
  dsimp only [loadCountdown]
  simp [hA]

@[simp ↓] theorem within_samplerEdge (was) : Within [.regs, .obs] s (samplerEdge s was) := .of fun A hA => by
  dsimp only [samplerEdge]
  simp [hA]

@[simp ↓] theorem within_obsSetOp : obsSetOp.Within [.regs, .jr, .hif, .obs, .hot] := .of fun A hA s w => by
  dsimp only [obsSetOp]
  simp [hA]

@[simp] theorem keepsFrame_obsSet (d) : KeepsFrame (.obsSet d) := .of (fun _ => rfl) fun A hA s => by
  dsimp only [mayChange] at hA
  simp [hA]

@[simp ↓] theorem within_noteGrants : Within [.obs] s (noteGrants s) := .of fun A hA => by
  dsimp only [noteGrants]
  simp [hA]

@[simp ↓] theorem within_storeGrant (k v) : Within [.regs, .jr, .obs, .hot] s (storeGrant s k v) := .of fun A hA => by
  dsimp only [storeGrant]
  simp [hA]

@[simp ↓] theorem within_obsGrantOp : obsGrantOp.Within [.regs, .jr, .hif, .obs, .hot] := .of fun A hA s w => by
  dsimp only [obsGrantOp]
  simp [hA]

@[simp] theorem keepsFrame_obsGrant (d) : KeepsFrame (.obsGrant d) := .of (fun _ => rfl) fun A hA s => by
  dsimp only [mayChange] at hA
  simp [hA]

@[simp] theorem keepsFrame_bandwidthWindow (p) : KeepsFrame (.bandwidthWindow p) := .of (fun _ => rfl) fun A hA s => by
  dsimp only [mayChange] at hA
  simp [hA]

@[simp ↓] theorem within_answerRead (v) : Within [.hif] s (answerRead s v) := .of fun A hA => by
  dsimp only [answerRead]
  simp [hA]

@[simp] theorem keepsFrame_pf1PageRead (page word) : KeepsFrame (.pf1PageRead page word) := .of (fun _ => rfl) fun A hA s => by
  dsimp only [mayChange] at hA
  simp [hA]

@[simp ↓] theorem within_enterSample (x) : Within [.regs, .jr, .obs, .hot] s (enterSample s x) := .of fun A hA => by
  dsimp only [enterSample]
  simp [hA]

@[simp] theorem keepsFrame_sampleCapture (e n ctx wait addr insn lat target) :
    KeepsFrame (.sampleCapture e n ctx wait addr insn lat target) := .of (fun _ => rfl) fun A hA s => by
  dsimp only [mayChange] at hA
  simp [hA]

@[simp] theorem keepsFrame_obsSmpWaddr (i) : KeepsFrame (.obsSmpWaddr i) := .of (fun _ => rfl) fun A hA s => by
  dsimp only [mayChange] at hA
  simp [hA]

@[simp] theorem keepsFrame_obsJrnlWaddr (j) : KeepsFrame (.obsJrnlWaddr j) := .of (fun _ => rfl) fun A hA s => by
  dsimp only [mayChange] at hA
  simp [hA]

@[simp ↓] theorem within_journalExportOp : journalExportOp.Within [.regs, .jr, .hif, .obs, .hot] := .of fun A hA s w => by
  dsimp only [journalExportOp]
  simp [hA]

@[simp] theorem keepsFrame_journalExport (d) : KeepsFrame (.journalExport d) := .of (fun _ => rfl) fun A hA s => by
  dsimp only [mayChange] at hA
  simp [hA]

@[simp ↓] theorem within_exportOne (e) : Within [.jr, .hif] s (exportOne s e).1 := .of fun A hA => by
  dsimp only [exportOne]
  simp [hA]

@[simp ↓] theorem within_exportBurst (n e) : Within [.jr, .hif] s (exportBurst n s e).1 := .of fun A hA => by
  induction n generalizing s e with
  | zero => simp [exportBurst]
  | succ n ih =>
    unfold exportBurst
    split
    · simp
    · exact .trans (by simp [hA]) (ih _ _)

@[simp] theorem keepsFrame_journalExportBurst (n) : KeepsFrame (.journalExportBurst n) := .of (fun _ => rfl) fun A hA s => by
  dsimp only [mayChange] at hA
  split
  next l e _ _ =>
    have h := (within_exportBurst s (n + 1) e).kept (A := A) (by simp [hA])
    split
    · simp
    · generalize exportBurst (n + 1) s e = p at h ⊢
      obtain ⟨u, e⟩ := p
      simp [hA, h]
  next => simp

@[simp ↓] theorem within_freeStaged : Within [.regs, .jr, .obs, .hot] s (freeStaged s) := .of fun A hA => by
  dsimp only [freeStaged]
  simp [hA]

@[simp ↓] theorem within_traceTick : Within [.regs, .jr, .obs, .hot] s (traceTick s) := .of fun A hA => by
  dsimp only [traceTick]
  simp [hA]

@[simp] theorem keepsFrame_traceFrameTx : KeepsFrame .traceFrameTx := .of (fun _ => rfl) fun A hA s => by
  dsimp only [mayChange] at hA
  simp [hA]

@[simp] theorem keepsFrame_traceDma : KeepsFrame .traceDma := .of (fun _ => rfl) fun A hA s => by
  dsimp only [mayChange] at hA
  split <;> simp [hA]

@[simp] theorem keepsFrame_obsTrcFifoRead : KeepsFrame .obsTrcFifoRead := .of (fun _ => rfl) fun A hA s => by
  dsimp only [mayChange] at hA
  repeat' split
  all_goals simp [hA]

/-! ### Fabric, speed index and margins -/

@[simp ↓] theorem within_ownerFault (mem idx) :
    Within [.regs, .jr, .hif, .obs, .pls, .auth, .flt, .hot] s (ownerFault s mem idx) := .of fun A hA => by
  dsimp only [ownerFault]
  simp [hA]

@[simp ↓] theorem within_eccRead (mem a sym master acc) :
    Within [.regs, .jr, .hif, .fab, .obs, .pls, .auth, .flt, .hot] s (eccRead s mem a sym master acc) := .of fun A hA => by
  dsimp only [eccRead]
  simp [hA]

@[simp ↓] theorem within_unlock (t) : Within [.fab] s (unlock s t) := .of fun A hA => by
  dsimp only [unlock]
  simp [hA]

@[simp ↓] theorem within_respond (m code data) : Within [.fab] s (respond s m code data) := .of fun A hA => by
  dsimp only [respond]
  simp [hA]

@[simp ↓] theorem within_clearAnswers : Within [.fab] s (clearAnswers s) := .of fun A hA => by
  dsimp only [clearAnswers]
  simp [hA]

@[simp ↓] theorem within_writeBeat (m t a data en) :
    Within [.regs, .jr, .hif, .fab, .obs, .pls, .auth, .flt, .hot] s (writeBeat s m t a data en).1 := .of fun A hA => by
  unfold writeBeat
  split <;> simp [hA]

@[simp ↓] theorem within_writeBeats (m t a bs) :
    Within [.regs, .jr, .hif, .fab, .obs, .pls, .auth, .flt, .hot] s (writeBeats s m t a bs).1 := .of fun A hA => by
  induction bs generalizing s a with
  | nil => simp [writeBeats]
  | cons b bs ih =>
    have h := (within_writeBeat s m t a b.1 b.2).kept (A := A) (by simp [hA])
    unfold writeBeats
    split
    next e => rw [e] at h; exact h.trans (ih _ _)
    next e => rw [e] at h; exact h

@[simp ↓] theorem within_readWords (mem a m acc sym n) :
    Within [.regs, .jr, .hif, .fab, .obs, .pls, .auth, .flt, .hot] s (readWords s mem a m acc sym n).1 := .of fun A hA => by
  induction n with
  | zero => simp [readWords]
  | succ n ih =>
    unfold readWords
    exact ih.trans (by simp [hA])

@[simp ↓] theorem within_grantBurst (t q done) :
    Within [.regs, .jr, .hif, .fab, .obs, .pls, .auth, .flt, .hot] s (grantBurst s t q done) := .of fun A hA => by
  dsimp only [grantBurst]
  repeat' split
  all_goals simp [hA]

@[simp ↓] theorem within_serveWaiting (t n) :
    Within [.regs, .jr, .hif, .fab, .obs, .pls, .auth, .flt, .hot] s (serveWaiting s t n) := .of fun A hA => by
  induction n generalizing s with
  | zero => simp [serveWaiting]
  | succ n ih =>
    unfold serveWaiting
    split
    · simp
    · split
      · simp
      · refine .trans ?_ (ih _)
        split <;> simp [hA]

@[simp ↓] theorem within_freeTarget (t) :
    Within [.regs, .jr, .hif, .fab, .obs, .pls, .auth, .flt, .hot] s (freeTarget s t) := .of fun A hA => by
  dsimp only [freeTarget]
  simp [hA]

@[simp ↓] theorem within_transfer (q done) :
    Within [.regs, .jr, .hif, .fab, .obs, .pls, .auth, .flt, .hot] s (transfer s q done) := .of fun A hA => by
  dsimp only [transfer]
  repeat' split
  all_goals simp [hA]

@[simp] theorem keepsFrame_fabricTransfer (m a acc n beats ext sym done) :
    KeepsFrame (.fabricTransfer m a acc n beats ext sym done) := .of (fun _ => rfl) fun A hA s => by
  dsimp only [mayChange] at hA
  simp [hA]

@[simp] theorem keepsFrame_lockTimeout (t) : KeepsFrame (.lockTimeout t) := .of (fun _ => rfl) fun A hA s => by
  dsimp only [mayChange] at hA
  split <;> simp [hA]

@[simp ↓] theorem within_masterReset (m) :
    Within [.regs, .jr, .hif, .fab, .obs, .pls, .auth, .flt, .hot] s (masterReset s m) := .of fun A hA => by
  dsimp only [masterReset]
  simp [hA]

@[simp ↓] theorem within_settleLanding : Within [.fab] s (settleLanding s) := .of fun A hA => by
  dsimp only [settleLanding]
  simp [hA]

@[simp] theorem keepsFrame_resultLanding (land) : KeepsFrame (.resultLanding land) := .of (fun _ => rfl) fun A hA s => by
  dsimp only [mayChange] at hA
  split <;> simp [hA]

@[simp] theorem keepsFrame_scrubRead (mem a sym) : KeepsFrame (.scrubRead mem a sym) := .of (fun _ => rfl) fun A hA s => by
  dsimp only [mayChange] at hA
  simp [hA]

@[simp ↓] theorem within_setExcl (k b) : Within [.regs] s (setExcl s k b) := .of fun A hA => by
  dsimp only [setExcl]
  simp [hA]

@[simp ↓] theorem within_updateExcl (k good reason) :
    Within [.regs, .jr, .hif, .fab, .obs, .flt, .hot] s (updateExcl s k good reason) := .of fun A hA => by
  dsimp only [updateExcl]
  simp [hA]

@[simp ↓] theorem within_showVmax : Within [.regs, .hot] s (showVmax s) := .of fun A hA => by
  dsimp only [showVmax]
  simp [hA]

@[simp ↓] theorem within_avsStep (v) : Within [.regs, .jr, .fab, .obs, .hot] s (avsStep s v) := .of fun A hA => by
  dsimp only [avsStep]
  simp [hA]

@[simp ↓] theorem within_noteVmax : Within [.fab] s (noteVmax s) := .of fun A hA => by
  dsimp only [noteVmax]
  simp [hA]

@[simp] theorem keepsFrame_speedWindow (n ro tj power) : KeepsFrame (.speedWindow n ro tj power) := .of (fun _ => rfl) fun A hA s => by
  dsimp only [mayChange] at hA
  simp [hA]

@[simp] theorem keepsFrame_plannerEvaluate : KeepsFrame .plannerEvaluate := .of (fun _ => rfl) fun A hA s => by
  dsimp only [mayChange] at hA
  simp [hA]

@[simp] theorem keepsFrame_avsReadback (vread iread alert answered) :
    KeepsFrame (.avsReadback vread iread alert answered) := .of (fun _ => rfl) fun A hA s => by
  dsimp only [mayChange] at hA
  simp [hA]

@[simp ↓] theorem within_replanClass (c) : Within [.regs, .jr, .hif, .obs, .hot] s (replanClass s c) := .of fun A hA => by
  dsimp only [replanClass]
  simp [hA]

@[simp] theorem keepsFrame_marginReplan : KeepsFrame .marginReplan := .of (fun _ => rfl) fun A hA s => by
  dsimp only [mayChange] at hA
  simp [hA]

@[simp ↓] theorem within_noteEye (day l) : Within [.fab] s (noteEye day s l) := .of fun A hA => by
  dsimp only [noteEye]
  simp [hA]

@[simp] theorem keepsFrame_trendUpdate : KeepsFrame .trendUpdate := .of (fun _ => rfl) fun A hA s => by
  dsimp only [mayChange] at hA
  dsimp only
  repeat' split
  all_goals simp [hA]

@[simp ↓] theorem within_sweepOne (k mu) : Within [.regs, .fab] s (sweepOne s k mu) := .of fun A hA => by
  dsimp only [sweepOne]
  simp [hA]

@[simp ↓] theorem within_journalSweep (status) : Within [.regs, .jr, .obs, .hot] s (journalSweep s status) := .of fun A hA => by
  dsimp only [journalSweep]
  simp [hA]

@[simp ↓] theorem within_marginSweepOp : marginSweepOp.Within [.regs, .jr, .hif, .fab, .obs, .hot] := .of fun A hA s w => by
  dsimp only [marginSweepOp]
  simp [hA]

@[simp] theorem keepsFrame_marginSweep (d) : KeepsFrame (.marginSweep d) := .of (fun _ => rfl) fun A hA s => by
  dsimp only [mayChange] at hA
  simp [hA]

@[simp] theorem keepsFrame_sweepDone (mus) : KeepsFrame (.sweepDone mus) := .of (fun _ => rfl) fun A hA s => by
  dsimp only [mayChange] at hA
  split <;> simp [hA]

@[simp ↓] theorem within_normVlim : Within [.regs] s (normVlim s) := .of fun A hA => by
  dsimp only [normVlim]
  simp [hA]

@[simp ↓] theorem within_fabSetOp : fabSetOp.Within [.regs, .jr, .hif, .fab, .obs, .hot] := .of fun A hA s w => by
  dsimp only [fabSetOp]
  simp [hA]

@[simp] theorem keepsFrame_fabSet (d) : KeepsFrame (.fabSet d) := .of (fun _ => rfl) fun A hA s => by
  dsimp only [mayChange] at hA
  simp [hA]

@[simp ↓] theorem within_marginReportOp : marginReportOp.Within [.regs, .jr, .hif, .obs, .hot] := .of fun A hA s w => by
  dsimp only [marginReportOp]
  simp [hA]

@[simp] theorem keepsFrame_marginReport (d) : KeepsFrame (.marginReport d) := .of (fun _ => rfl) fun A hA s => by
  dsimp only [mayChange] at hA
  simp [hA]

/-! ### Modes and engine resets -/

@[simp ↓] theorem within_spoilSlot : Within [.sys] s (spoilSlot s) := .of fun A hA => by
  unfold spoilSlot
  split <;> simp [hA]

@[simp ↓] theorem within_endStage (l status release cause) :
    Within [.regs, .jr, .hif, .obs, .sys, .hot] s (endStage s l status release cause) := .of fun A hA => by
  dsimp only [endStage]
  simp [hA]

@[simp ↓] theorem within_endOp (l status) :
    Within [.regs, .jr, .hif, .obs, .gns, .tns, .lan, .tsu, .auth, .sys, .hot] s (endOp s l status) := .of fun A hA => by
  dsimp only [endOp]
  split
  · split <;> simp [hA]
  · simp [hA]

@[simp ↓] theorem within_endOps (p status) :
    Within [.regs, .jr, .hif, .obs, .gns, .tns, .lan, .tsu, .auth, .sys, .hot] s (endOps s p status) := .of fun A hA => by
  dsimp only [endOps]
  simp [hA]

@[simp ↓] theorem within_engineReset (e) :
    Within [.regs, .jr, .hif, .fab, .obs, .gns, .sel, .tns, .pls, .lan, .tsu, .cla, .auth, .flt, .sys, .hot]
      s (engineReset s e).1 := .of fun A hA => by
  dsimp only [engineReset]
  simp [hA]

@[simp ↓] theorem within_journalMode (new old cause tag stamp) :
    Within [.regs, .jr, .obs, .hot] s (journalMode s new old cause tag stamp) := .of fun A hA => by
  dsimp only [journalMode]
  simp [hA]

@[simp ↓] theorem within_putMode (new cause tag stamp) :
    Within [.regs, .jr, .hif, .obs, .hot] s (putMode s new cause tag stamp) := .of fun A hA => by
  dsimp only [putMode]
  simp [hA]

@[simp ↓] theorem within_dropKeys : Within [.cnj] s (dropKeys s) := .of fun A hA => by
  dsimp only [dropKeys]
  simp [hA]

@[simp ↓] theorem within_denyWaiting : Within [.regs, .jr, .hif, .obs, .cnj, .hot] s (denyWaiting s) := .of fun A hA => by
  dsimp only [denyWaiting]
  simp [hA]

@[simp ↓] theorem within_dropDisturbs : Within [.regs, .jr, .hif, .obs, .lan, .hot] s (dropDisturbs s) := .of fun A hA => by
  unfold dropDisturbs
  refine .fold fun t p => ?_
  split
  · split <;> simp [hA]
  · simp

@[simp ↓] theorem within_leaveService :
    Within [.regs, .jr, .hif, .obs, .lan, .tsu, .cla, .flt, .hot] s (leaveService s) := .of fun A hA => by
  dsimp only [leaveService]
  simp [hA]

@[simp ↓] theorem within_writeTrend (bad) : Within [.regs, .jr, .obs, .sys, .hot] s (writeTrend s bad) := .of fun A hA => by
  dsimp only [writeTrend]
  simp [hA]

@[simp ↓] theorem within_refuseMode (target bits tag) :
    Within [.regs, .jr, .obs, .hot] s (refuseMode s target bits tag) := .of fun A hA => by
  dsimp only [refuseMode]
  simp [hA]

@[simp ↓] theorem within_activateSlot : Within [.sys] s (activateSlot s) := .of fun A hA => by
  unfold activateSlot
  split <;> simp [hA]

@[simp ↓] theorem within_firstEntry : Within [.regs, .jr, .fab, .obs, .sys, .hot] s (firstEntry s) := .of fun A hA => by
  dsimp only [firstEntry]
  simp [hA]

@[simp ↓] theorem within_enterService (cause tag) :
    Within [.regs, .jr, .hif, .fab, .obs, .gns, .cla, .auth, .flt, .cnj, .sys, .hot] s (enterService s cause tag) := .of fun A hA => by
  dsimp only [enterService]
  simp [hA]

@[simp ↓] theorem within_enterSetup (cause tag) :
    Within [.regs, .jr, .hif, .obs, .gns, .tns, .lan, .tsu, .cla, .auth, .flt, .cnj, .sys, .hot]
      s (enterSetup s cause tag) := .of fun A hA => by
  dsimp only [enterSetup]
  simp [hA]

@[simp ↓] theorem within_enterRecovery (cause tag) :
    Within [.regs, .jr, .hif, .obs, .gns, .tns, .syn, .pls, .lan, .tsu, .cla, .auth, .flt, .cnj, .sys, .hot]
      s (enterRecovery s cause tag) := .of fun A hA => by
  dsimp only [enterRecovery]
  simp [hA]

@[simp ↓] theorem within_firstSetup :
    Within [.regs, .jr, .hif, .obs, .gns, .tns, .lan, .flt, .cnj, .hot] s (firstSetup s) := .of fun A hA => by
  dsimp only [firstSetup]
  simp [hA]

/-! ### The fault collector -/

@[simp ↓] theorem within_showWins (l) : Within [.regs] s (showWins s l) := .of fun A hA => by
  dsimp only [showWins]
  simp [hA]

@[simp ↓] theorem within_openWin (kind inst cause life) : Within [.regs, .flt] s (openWin s kind inst cause life) := .of fun A hA => by
  dsimp only [openWin]
  simp [hA]

@[simp] theorem keepsFrame_suppressionWindowClose : KeepsFrame .suppressionWindowClose := .of (fun _ => rfl) fun A hA s => by
  dsimp only [mayChange] at hA
  simp [hA]

@[simp ↓] theorem within_containReset (m cause) :
    Within [.regs, .jr, .hif, .fab, .obs, .gns, .sel, .tns, .pls, .lan, .tsu, .cla, .auth, .flt, .sys, .hot]
      s (containReset s m cause) := .of fun A hA => by
  dsimp only [containReset]
  simp [hA]

@[simp ↓] theorem within_coreReset (k cause) :
    Within [.regs, .jr, .obs, .tsu, .cla, .flt, .hot] s (coreReset s k cause) := .of fun A hA => by
  dsimp only [coreReset]
  simp [hA]

@[simp ↓] theorem within_bandRestart (b cause) : Within [.regs, .gns, .flt] s (bandRestart s b cause) := .of fun A hA => by
  dsimp only [bandRestart]
  simp [hA]

@[simp ↓] theorem within_genStop (n cause) : Within [.regs, .pls, .flt] s (genStop s n cause) := .of fun A hA => by
  dsimp only [genStop]
  simp [hA]

@[simp ↓] theorem within_contain (src master) :
    Within [.regs, .jr, .hif, .fab, .obs, .gns, .sel, .tns, .syn, .pls, .lan, .tsu, .cla, .auth, .flt, .sys, .hot]
      s (contain s src master) := .of fun A hA => by
  dsimp only [contain]
  simp [hA]

@[simp ↓] theorem within_showHist (src) : Within [.regs] s (showHist s src) := .of fun A hA => by
  dsimp only [showHist]
  simp [hA]

@[simp ↓] theorem within_histTick : Within [.regs] s (histTick s) := .of fun A hA => by
  dsimp only [histTick]
  simp [hA]

@[simp ↓] theorem within_classEvent (e) : Within [.regs, .flt] s (classEvent s e).1 := .of fun A hA => by
  dsimp only [classEvent]
  simp [hA]

@[simp ↓] theorem within_capture (f co) : Within [.regs, .jr, .flt] s (capture s f co) := .of fun A hA => by
  dsimp only [capture]
  simp [hA]

@[simp ↓] theorem within_journalFault (d first co) :
    Within [.regs, .jr, .obs, .flt, .hot] s (journalFault s d first co) := .of fun A hA => by
  dsimp only [journalFault]
  simp [hA]

@[simp ↓] theorem within_notice (src cls flags stamp) : Within [.cnj] s (notice s src cls flags stamp) := .of fun A hA => by
  dsimp only [notice]
  simp [hA]

@[simp ↓] theorem within_assertNet (d) : Within [.flt] s (assertNet s d) := .of fun A hA => by
  dsimp only [assertNet]
  simp [hA]

@[simp ↓] theorem within_takeEvent (d first co) :
    Within [.regs, .jr, .hif, .fab, .obs, .gns, .sel, .tns, .syn, .pls, .lan, .tsu, .cla, .auth, .flt, .cnj, .sys, .hot]
      s (takeEvent s d first co) := .of fun A hA => by
  dsimp only [takeEvent]
  simp [hA]
  split <;> simp [hA]

@[simp ↓] theorem within_safeWindow : Within [.regs, .flt] s (safeWindow s) := .of fun A hA => by
  unfold safeWindow
  split <;> simp [hA]

@[simp ↓] theorem within_classifyAll (es) : Within [.regs, .flt] s (classifyAll s es).1 := .of fun A hA => by
  induction es generalizing s with
  | nil => simp [classifyAll]
  | cons e es ih =>
    unfold classifyAll
    exact .trans (by simp [hA]) (ih _)

@[simp ↓] theorem within_decideGroup (es) :
    Within [.regs, .jr, .hif, .fab, .obs, .gns, .sel, .tns, .syn, .pls, .lan, .tsu, .cla, .auth, .flt, .cnj, .sys, .hot]
      s (decideGroup s es) := .of fun A hA => by
  dsimp only [decideGroup]
  split <;> simp [hA]

@[simp ↓] theorem within_decideAll (n es) :
    Within [.regs, .jr, .hif, .fab, .obs, .gns, .sel, .tns, .syn, .pls, .lan, .tsu, .cla, .auth, .flt, .cnj, .sys, .hot]
      s (decideAll n s es) := .of fun A hA => by
  induction n generalizing s es with
  | zero => simp [decideAll]
  | succ n ih =>
    unfold decideAll
    split
    · simp
    · exact .trans (by simp [hA]) (ih _ _)

@[simp] theorem keepsFrame_faultDecision : KeepsFrame .faultDecision := .of (fun _ => rfl) fun A hA s => by
  dsimp only [mayChange] at hA
  simp [hA]

@[simp] theorem keepsFrame_faultEvent (src addr master access info) :
    KeepsFrame (.faultEvent src addr master access info) := .of (fun _ => rfl) fun A hA s => by
  dsimp only [mayChange] at hA
  simp [hA]

@[simp] theorem keepsFrame_safeStateAssert : KeepsFrame .safeStateAssert := .of (fun _ => rfl) fun A hA s => by
  dsimp only [mayChange] at hA
  split <;> simp [hA]

@[simp] theorem keepsFrame_engWdog (e pc) : KeepsFrame (.engWdog e pc) := .of (fun _ => rfl) fun A hA s => by
  dsimp only [mayChange] at hA
  simp [hA]

@[simp] theorem keepsFrame_supplyExcursion (r mv) : KeepsFrame (.supplyExcursion r mv) := .of (fun _ => rfl) fun A hA s => by
  dsimp only [mayChange] at hA
  simp [hA]

@[simp] theorem keepsFrame_tjCrit : KeepsFrame .tjCrit := .of (fun _ => rfl) fun A hA s => by
  dsimp only [mayChange] at hA
  simp [hA]

@[simp] theorem keepsFrame_xoSafeLoss : KeepsFrame .xoSafeLoss := .of (fun _ => rfl) fun A hA s => by
  dsimp only [mayChange] at hA
  simp [hA]

@[simp ↓] theorem within_fltSetOp : fltSetOp.Within [.regs, .jr, .hif, .obs, .hot] := .of fun A hA s w => by
  dsimp only [fltSetOp]
  simp [hA]

@[simp] theorem keepsFrame_fltSet (d) : KeepsFrame (.fltSet d) := .of (fun _ => rfl) fun A hA s => by
  dsimp only [mayChange] at hA
  simp [hA]

@[simp ↓] theorem within_fltInjectOp : fltInjectOp.Within [.regs, .jr, .hif, .fab, .obs, .flt, .hot] := .of fun A hA s w => by
  dsimp only [fltInjectOp]
  simp [hA]

@[simp] theorem keepsFrame_fltInject (d) : KeepsFrame (.fltInject d) := .of (fun _ => rfl) fun A hA s => by
  dsimp only [mayChange] at hA
  simp [hA]

@[simp] theorem keepsFrame_injectTimeout : KeepsFrame .injectTimeout := .of (fun _ => rfl) fun A hA s => by
  dsimp only [mayChange] at hA
  split <;> simp [hA]

@[simp ↓] theorem within_fltSafeOp : fltSafeOp.Within [.regs, .jr, .hif, .obs, .flt, .hot] := .of fun A hA s w => by
  dsimp only [fltSafeOp]
  simp [hA]

@[simp] theorem keepsFrame_fltSafe (d) : KeepsFrame (.fltSafe d) := .of (fun _ => rfl) fun A hA s => by
  dsimp only [mayChange] at hA
  simp [hA]

/-! ### Power-up, resets, boot and firmware -/

/-- The reset state's memories are in canonical form. -/
theorem canon_reset : State.reset.Canon := ⟨by decide, by decide, by decide, by decide, by decide⟩

@[simp ↓] theorem within_powerOn :
    Within [.regs, .tb, .jr, .hif, .fab, .obs, .refin, .utc, .gns, .sel, .tns, .syn, .pls, .lan, .tsu, .cla, .auth, .flt, .cnj, .sys, .hot]
      s (powerOn s) := .of fun A hA => by
  unfold powerOn
  extract_lets s1 r
  have h : Kept A s s1 := by unfold s1; split <;> simp [hA]
  exact ⟨fun p hp => absurd (hA p (by cases p <;> simp)) (by simp [Allows, hp]), h.queue, h.free,
    fun hc => ⟨canon_reset.regs, canon_reset.mem, (h.canon hc).host, canon_reset.ring, canon_reset.sram⟩⟩

@[simp ↓] theorem within_deviceReset :
    Within [.regs, .tb, .jr, .hif, .fab, .obs, .refin, .utc, .gns, .sel, .tns, .syn, .pls, .lan, .tsu, .cla, .auth, .flt, .cnj, .sys, .hot]
      s (deviceReset s) := .of fun A hA => by
  have h := (within_powerOn s).kept (A := A) (by simp [hA])
  unfold deviceReset
  extract_lets r0 _ _ _ r
  have hr : Kept A s r := ⟨fun p hp => absurd (hA p (by cases p <;> simp)) (by simp [Allows, hp]), h.queue, h.free,
    fun hc => ⟨wf_filter _ hc.regs, (h.canon hc).mem, (h.canon hc).host, (h.canon hc).ring, (h.canon hc).sram⟩⟩
  clear_value r
  simp [hA, hr]

@[simp] theorem keepsFrame_aoPowerOn : KeepsFrame .aoPowerOn := .of (fun _ => rfl) fun A hA s => by
  dsimp only [mayChange] at hA
  simp [hA]

@[simp] theorem keepsFrame_vddAoLow : KeepsFrame .vddAoLow := .of (fun _ => rfl) fun A hA s => by
  dsimp only [mayChange] at hA
  simp [hA]

@[simp] theorem keepsFrame_resetAssert : KeepsFrame .resetAssert := .of (fun _ => rfl) fun A hA s => by
  dsimp only [mayChange] at hA
  simp [hA]

@[simp ↓] theorem kept_bootStat {A : Nat} {s0 : State} (f : State → State) :
    Kept A s0 (bootStat s f) = Via (Covers A [.regs] ∧ Kept A s0 (f s)) (Kept.anyway A s0 (bootStat s f)) :=
  eq_via fun ⟨(hA : ∀ p ∈ _, Allows A p), hf⟩ => by
    unfold bootStat
    simp [hA, hf]

@[simp ↓] theorem within_romRecovery (cause) : Within [.regs, .jr, .hif, .obs, .hot] s (romRecovery s cause) := .of fun A hA => by
  dsimp only [romRecovery]
  simp [hA]

@[simp ↓] theorem within_modeFromReset (m) : Within [.regs, .jr, .obs, .hot] s (modeFromReset s m) := .of fun A hA => by
  dsimp only [modeFromReset]
  simp [hA]

@[simp] theorem keepsFrame_resetRelease (v) : KeepsFrame (.resetRelease v) := .of (fun _ => rfl) fun A hA s => by
  dsimp only [mayChange] at hA
  simp [hA]

@[simp ↓] theorem within_loadOsc (hz) : Within [.regs, .sys] s (loadOsc s hz) := .of fun A hA => by
  dsimp only [loadOsc]
  simp [hA]

@[simp] theorem keepsFrame_bootHeaderRead (primary copy osc) :
    KeepsFrame (.bootHeaderRead primary copy osc) := .of (fun _ => rfl) fun A hA s => by
  dsimp only [mayChange] at hA
  dsimp only
  split
  · simp
  · split <;> simp [hA]

@[simp] theorem keepsFrame_bootPciGo : KeepsFrame .bootPciGo := .of (fun _ => rfl) fun A hA s => by
  dsimp only [mayChange] at hA
  simp [hA]

@[simp ↓] theorem within_journalSet (slot x) : Within [.regs, .jr, .obs, .hot] s (journalSet s slot x) := .of fun A hA => by
  dsimp only [journalSet]
  simp [hA]

@[simp ↓] theorem within_trySlots (img ks) : Within [.regs, .jr, .obs, .hot] s (trySlots s img ks).1 := .of fun A hA => by
  induction ks generalizing s with
  | nil => simp [trySlots]
  | cons k ks ih =>
    have h : Kept A s (journalSet s k (img k)) := by simp [hA]
    rw [trySlots, kept_ite_fst]
    refine either_of ?_ (h.trans (ih _))
    dsimp only
    exact h

@[simp ↓] theorem within_restoreTrend : Within [.fab] s (restoreTrend s) := .of fun A hA => by
  dsimp only [restoreTrend]
  split <;> simp [hA]

@[simp ↓] theorem within_knownAnswer (ok) : Within [.regs, .jr, .hif, .obs, .flt, .hot] s (knownAnswer s ok) := .of fun A hA => by
  dsimp only [knownAnswer]
  simp [hA]

@[simp ↓] theorem within_runImages (k release fallback kat) :
    Within [.regs, .jr, .hif, .fab, .obs, .gns, .tns, .lan, .cla, .auth, .flt, .cnj, .sys, .hot]
      s (runImages s k release fallback kat) := .of fun A hA => by
  dsimp only [runImages]
  simp [hA]

@[simp] theorem keepsFrame_imageVerified (a b p kat) : KeepsFrame (.imageVerified a b p kat) := .of (fun _ => rfl) fun A hA s => by
  dsimp only [mayChange] at hA
  dsimp only
  repeat' split
  all_goals simp [hA]

@[simp] theorem keepsFrame_genModeReqGo (target) : KeepsFrame (.genModeReqGo target) := .of (fun _ => rfl) fun A hA s => by
  dsimp only [mayChange] at hA
  simp [hA]

@[simp] theorem keepsFrame_modeGoEvaluate : KeepsFrame .modeGoEvaluate := .of (fun _ => rfl) fun A hA s => by
  dsimp only [mayChange] at hA
  simp [hA]

@[simp ↓] theorem within_stageOp : stageOp.Within [.regs, .jr, .hif, .obs, .sys, .hot] := .of fun A hA s w => by
  dsimp only [stageOp]
  simp [hA]

@[simp] theorem keepsFrame_firmwareStage (d) : KeepsFrame (.firmwareStage d) := .of (fun _ => rfl) fun A hA s => by
  dsimp only [mayChange] at hA
  simp [hA]

@[simp ↓] theorem within_stagedSlot (pend) : Within [.sys] s (stagedSlot s pend) := .of fun A hA => by
  unfold stagedSlot
  split <;> simp [hA]

@[simp] theorem keepsFrame_firmwareStageDone (cause release) :
    KeepsFrame (.firmwareStageDone cause release) := .of (fun _ => rfl) fun A hA s => by
  dsimp only [mayChange] at hA
  split <;> simp [hA]

@[simp] theorem keepsFrame_trendSave (bad) : KeepsFrame (.trendSave bad) := .of (fun _ => rfl) fun A hA s => by
  dsimp only [mayChange] at hA
  simp [hA]

/-! ### The SMBus view -/

@[simp ↓] theorem within_smbRefresh : Within [.sys] s (smbRefresh s) := .of fun A hA => by
  dsimp only [smbRefresh]
  simp [hA]

@[simp ↓] theorem within_smbAnswer (l) : Within [.sys] s (smbAnswer s l) := .of fun A hA => by
  dsimp only [smbAnswer]
  simp [hA]

@[simp ↓] theorem within_smbRead (c) : Within [.sys] s (smbRead s c) := .of fun A hA => by
  dsimp only [smbRead]
  simp [hA]

@[simp] theorem keepsFrame_smbIdent : KeepsFrame .smbIdent := .of (fun _ => rfl) fun A hA s => by
  dsimp only [mayChange] at hA
  simp [hA]

@[simp] theorem keepsFrame_smbStatus : KeepsFrame .smbStatus := .of (fun _ => rfl) fun A hA s => by
  dsimp only [mayChange] at hA
  simp [hA]

@[simp] theorem keepsFrame_smbGloss : KeepsFrame .smbGloss := .of (fun _ => rfl) fun A hA s => by
  dsimp only [mayChange] at hA
  simp [hA]

@[simp] theorem keepsFrame_smbTime : KeepsFrame .smbTime := .of (fun _ => rfl) fun A hA s => by
  dsimp only [mayChange] at hA
  simp [hA]

@[simp] theorem keepsFrame_smbTemp : KeepsFrame .smbTemp := .of (fun _ => rfl) fun A hA s => by
  dsimp only [mayChange] at hA
  simp [hA]

@[simp] theorem keepsFrame_smbPower : KeepsFrame .smbPower := .of (fun _ => rfl) fun A hA s => by
  dsimp only [mayChange] at hA
  simp [hA]

@[simp] theorem keepsFrame_smbFirstFault : KeepsFrame .smbFirstFault := .of (fun _ => rfl) fun A hA s => by
  dsimp only [mayChange] at hA
  simp [hA]

@[simp] theorem keepsFrame_smbMargin : KeepsFrame .smbMargin := .of (fun _ => rfl) fun A hA s => by
  dsimp only [mayChange] at hA
  simp [hA]

@[simp] theorem keepsFrame_smbPorts : KeepsFrame .smbPorts := .of (fun _ => rfl) fun A hA s => by
  dsimp only [mayChange] at hA
  simp [hA]

@[simp] theorem keepsFrame_smbPair : KeepsFrame .smbPair := .of (fun _ => rfl) fun A hA s => by
  dsimp only [mayChange] at hA
  simp [hA]

@[simp] theorem keepsFrame_smbArbiter (v) : KeepsFrame (.smbArbiter v) := .of (fun _ => rfl) fun A hA s => by
  dsimp only [mayChange] at hA
  simp [hA]

@[simp] theorem keepsFrame_smbAlertMaskRead : KeepsFrame .smbAlertMaskRead := .of (fun _ => rfl) fun A hA s => by
  dsimp only [mayChange] at hA
  simp [hA]

@[simp] theorem keepsFrame_smbAlertMaskWrite (v) : KeepsFrame (.smbAlertMaskWrite v) := .of (fun _ => rfl) fun A hA s => by
  dsimp only [mayChange] at hA
  simp [hA]

@[simp] theorem keepsFrame_smbAlertResponse : KeepsFrame .smbAlertResponse := .of (fun _ => rfl) fun A hA s => by
  dsimp only [mayChange] at hA
  simp [hA]

end

end Sys2Proof.Machine
end

section
/-!
SUPPORT. Frames: what each operation of the host interface, the register writes and the port clients may change, and that their rows keep their frames.
-/

namespace Sys2Proof.Machine

section
variable (s : State)

/-! ### The host interface: rings, aborts and waiting descriptors -/

@[simp ↓] theorem kept_hifShow {A : Nat} {s0 : State} (f : State → State) :
    Kept A s0 (hifShow s f) = Via (Covers A [.regs] ∧ Kept A s0 (f s)) (Kept.anyway A s0 (hifShow s f)) :=
  eq_via fun ⟨(hA : ∀ p ∈ _, Allows A p), hf⟩ => by
    unfold hifShow
    simp [hA, hf]

@[simp ↓] theorem within_pcieEvent (kind) : Within [.regs, .jr, .hif, .obs, .hot] s (pcieEvent s kind) := .of fun A hA => by
  dsimp only [pcieEvent]
  simp [hA]

@[simp ↓] theorem within_stallRing (r) : Within [.regs, .hif] s (stallRing s r) := .of fun A hA => by
  dsimp only [stallRing]
  simp [hA]

@[simp ↓] theorem within_stallRings : Within [.regs, .hif] s (stallRings s) := .of fun A hA => by
  dsimp only [stallRings]
  simp [hA]

@[simp ↓] theorem within_msixReset : Within [.regs] s (msixReset s) := .of fun A hA => by
  dsimp only [msixReset]
  simp [hA]

@[simp ↓] theorem within_releaseVector (v) : Within [.regs, .hif] s (releaseVector s v) := .of fun A hA => by
  dsimp only [releaseVector]
  simp [hA]

@[simp ↓] theorem within_configReset : Within [.regs, .hif] s (configReset s) := .of fun A hA => by
  dsimp only [configReset]
  simp [hA]

@[simp ↓] theorem within_linkDown : Within [.regs, .jr, .hif, .obs, .hot] s (linkDown s) := .of fun A hA => by
  dsimp only [linkDown]
  simp [hA]

@[simp] theorem keepsFrame_pcieFlr : KeepsFrame .pcieFlr := .of (fun _ => rfl) fun A hA s => by
  dsimp only [mayChange] at hA
  simp [hA]

@[simp] theorem keepsFrame_pcieBmeClear : KeepsFrame .pcieBmeClear := .of (fun _ => rfl) fun A hA s => by
  dsimp only [mayChange] at hA
  simp [hA]

@[simp] theorem keepsFrame_pcieD3hot : KeepsFrame .pcieD3hot := .of (fun _ => rfl) fun A hA s => by
  dsimp only [mayChange] at hA
  simp [hA]

@[simp] theorem keepsFrame_pcieLinkDown : KeepsFrame .pcieLinkDown := .of (fun _ => rfl) fun A hA s => by
  dsimp only [mayChange] at hA
  simp [hA]

@[simp] theorem keepsFrame_pcieLinkUp (speed width) : KeepsFrame (.pcieLinkUp speed width) := .of (fun _ => rfl) fun A hA s => by
  dsimp only [mayChange] at hA
  simp [hA]

@[simp] theorem keepsFrame_perst : KeepsFrame .perst := .of (fun _ => rfl) fun A hA s => by
  dsimp only [mayChange] at hA
  simp [hA]

@[simp] theorem keepsFrame_pf1Flr : KeepsFrame .pf1Flr := .of (fun _ => rfl) fun A hA s => by
  dsimp only [mayChange] at hA
  simp

@[simp] theorem keepsFrame_dmaPermitted : KeepsFrame .dmaPermitted := .of (fun _ => rfl) fun A hA s => by
  dsimp only [mayChange] at hA
  simp [hA]

@[simp] theorem keepsFrame_dmaError (r) : KeepsFrame (.dmaError r) := .of (fun _ => rfl) fun A hA s => by
  dsimp only [mayChange] at hA
  simp [hA]

@[simp] theorem keepsFrame_unalignedAccess : KeepsFrame .unalignedAccess := .of (fun _ => rfl) fun A hA s => by
  dsimp only [mayChange] at hA
  simp [hA]

@[simp ↓] theorem within_enableRing (r) : Within [.regs, .hif] s (enableRing s r) := .of fun A hA => by
  dsimp only [enableRing]
  simp [hA]

@[simp ↓] theorem within_ringStored (r) : Within [.regs, .hif] s (ringStored s r) := .of fun A hA => by
  dsimp only [ringStored]
  simp [hA]

@[simp ↓] theorem within_doorbellError : Within [.regs, .hif, .hot] s (doorbellError s) := .of fun A hA => by
  dsimp only [doorbellError]
  simp [hA]

@[simp] theorem keepsFrame_doorbell (r v) : KeepsFrame (.doorbell r v) := .of (fun _ => rfl) fun A hA s => by
  dsimp only [mayChange] at hA
  simp [hA]

@[simp] theorem keepsFrame_coalTimeout (r) : KeepsFrame (.coalTimeout r) := .of (fun _ => rfl) fun A hA s => by
  dsimp only [mayChange] at hA
  simp [hA]

@[simp ↓] theorem within_nopOp : nopOp.Within [.regs, .jr, .hif, .obs, .hot] := .of fun A hA s w => by
  dsimp only [nopOp]
  simp [hA]

@[simp] theorem keepsFrame_nop (d) : KeepsFrame (.nop d) := .of (fun _ => rfl) fun A hA s => by
  dsimp only [mayChange] at hA
  simp [hA]

@[simp ↓] theorem within_modeSetOp :
    modeSetOp.Within [.regs, .jr, .hif, .fab, .obs, .gns, .tns, .syn, .pls, .lan, .tsu, .cla, .auth, .flt, .cnj, .sys, .hot]
      := .of fun A hA s w => by
  dsimp only [modeSetOp]
  simp [hA]

@[simp] theorem keepsFrame_modeSet (d) : KeepsFrame (.modeSet d) := .of (fun _ => rfl) fun A hA s => by
  dsimp only [mayChange] at hA
  simp [hA]

@[simp ↓] theorem within_ringSetOp : ringSetOp.Within [.regs, .jr, .hif, .obs, .hot] := .of fun A hA s w => by
  dsimp only [ringSetOp]
  simp [hA]

@[simp] theorem keepsFrame_ringSet (d) : KeepsFrame (.ringSet d) := .of (fun _ => rfl) fun A hA s => by
  dsimp only [mayChange] at hA
  simp [hA]

@[simp ↓] theorem within_resumeOp (l) : Within [.regs, .hif, .gns, .lan] s (resumeOp s l) := .of fun A hA => by
  dsimp only [resumeOp]
  simp [hA]

@[simp ↓] theorem within_longCtlOp :
    longCtlOp.Within [.regs, .jr, .hif, .obs, .gns, .tns, .lan, .tsu, .auth, .sys, .hot] := .of fun A hA s w => by
  dsimp only [longCtlOp]
  split <;> simp [hA]

@[simp ↓] theorem within_reserveResume (opcode d) : Within [.regs, .hif] s (reserveResume s opcode d) := .of fun A hA => by
  unfold reserveResume
  split <;> simp [hA]

@[simp] theorem keepsFrame_longCtl (d) : KeepsFrame (.longCtl d) := .of (fun _ => rfl) fun A hA s => by
  dsimp only [mayChange] at hA
  simp [hA]

@[simp ↓] theorem within_dropOut (p n) : Within [.regs, .jr, .hif, .obs, .syn, .hot] s (dropOut s p n) := .of fun A hA => by
  dsimp only [dropOut]
  simp [hA]

@[simp ↓] theorem within_dropDisturb (p) : Within [.lan] s (dropDisturb s p) := .of fun A hA => by
  unfold dropDisturb
  refine .fold fun t x => ?_
  split <;> simp [hA]

@[simp ↓] theorem within_dropHand (p) : Within [.cnj] s (dropHand s p) := .of fun A hA => by
  unfold dropHand
  split <;> simp [hA]

@[simp ↓] theorem within_abortExport (o) : Within [.regs, .jr, .hif, .obs, .hot] s (abortExport s o) := .of fun A hA => by
  dsimp only [abortExport]
  simp [hA]

@[simp ↓] theorem within_abortDescs (p) : Within [.regs, .jr, .hif, .obs, .syn, .lan, .cnj, .hot] s (abortDescs s p).1 := .of fun A hA => by
  dsimp only [abortDescs]
  simp [hA]

@[simp ↓] theorem within_abortInjects (r) : Within [.regs, .jr, .hif, .obs, .lan, .hot] s (abortInjects s r).1 := .of fun A hA => by
  dsimp only [abortInjects]
  simp [hA]

/-- A fold over the outcome of an abort that keeps the outcome's state. -/
theorem Kept.foldl_st {A : Nat} {s0 : State} {f : AbortDone → Nat → AbortDone} {l : List Nat} {a : AbortDone} (h : Kept A s0 a.st)
    (hf : ∀ a e, Kept A a.st (f a e).st) : Kept A s0 (l.foldl f a).st := by
  induction l generalizing a with
  | nil => exact h
  | cons e l ih => exact ih (h.trans (hf a e))

/-- An abort, of an engine, of a tag or of a ring, keeps the parts that no engine's reset and no descriptor's end touches. -/
theorem kept_runAbort {A : Nat} {kind engine ring tag : Nat} {a : AbortDone}
    (hA : ∀ p ∈ [Part.regs, .jr, .hif, .fab, .obs, .gns, .sel, .tns, .syn, .pls, .lan, .tsu, .cla, .auth, .flt, .cnj, .sys, .hot],
      Allows A p)
    (h : runAbort s kind engine ring tag = some a) : Kept A s a.st := by
  have hd (p) : Kept A s (abortDescs s p).1 := (within_abortDescs s p).kept (by simp [hA])
  unfold runAbort at h
  split at h
  · cases h
    simp [hA]
  · split at h
    · extract_lets p cs at h
      split at h
      next u n e =>
      have hu : Kept A s u := .of_fst e (hd _)
      dsimp only at h
      split at h
      · cases h
      · cases h
        exact hu.foldl_st fun a e => by simp [hA]
    · split at h
      next u n e =>
      split at h
      next v m e' =>
      cases h
      have hv : Kept A u v := .of_fst e' (by simp [hA])
      refine .trans (.of_fst e (hd _)) (hv.trans ?_)
      simp [hA]

@[simp ↓] theorem kept_abortDone {A : Nat} {s0 : State} (a : AbortDone) (kind ring path) : Kept A s0 (abortDone a kind ring path) =
    Via (Covers A [.regs, .jr, .obs, .hot] ∧ Kept A s0 a.st) (Kept.anyway A s0 (abortDone a kind ring path)) :=
  eq_via fun ⟨(hA : ∀ p ∈ _, Allows A p), ha⟩ => by
    unfold abortDone
    simp [hA, ha]

@[simp ↓] theorem within_acceptAbort (d) :
    Within [.regs, .jr, .hif, .fab, .obs, .gns, .sel, .tns, .syn, .pls, .lan, .tsu, .cla, .auth, .flt, .cnj, .sys, .hot]
      s (acceptAbort s d) := .of fun A hA => by
  unfold acceptAbort
  extract_lets s1 s2 w
  have h : Kept A s s2 := by simp [s2, s1, hA]
  refine h.trans ?_
  clear_value w s2
  refine .ite (by simp [hA]) (.ite (by simp [hA]) (.ite (by simp [hA]) ?_))
  split
  · simp [hA]
  · next a ha => simp [hA, kept_runAbort s2 hA ha]

@[simp] theorem keepsFrame_abort (d) : KeepsFrame (.abort d) := .of (fun _ => rfl) fun A hA s => by
  dsimp only [mayChange] at hA
  simp [hA]

@[simp ↓] theorem within_regAbort (kind engine ring) :
    Within [.regs, .jr, .hif, .fab, .obs, .gns, .sel, .tns, .syn, .pls, .lan, .tsu, .cla, .auth, .flt, .cnj, .sys, .hot]
      s (regAbort s kind engine ring) := .of fun A hA => by
  unfold regAbort
  refine .ite (by simp) (.ite (by simp [hA]) ?_)
  split
  · simp
  · next a ha => simp [hA, kept_runAbort s hA ha]

@[simp] theorem keepsFrame_hifAbortEngine (e) : KeepsFrame (.hifAbortEngine e) := .of (fun _ => rfl) fun A hA s => by
  dsimp only [mayChange] at hA
  simp [hA]

@[simp] theorem keepsFrame_hifAbortRing (r) : KeepsFrame (.hifAbortRing r) := .of (fun _ => rfl) fun A hA s => by
  dsimp only [mayChange] at hA
  simp [hA]

/-- The meaning of every opcode stays within these parts. -/
theorem keeps_opSpecs {A : Nat}
    (hA : ∀ p ∈ [Part.regs, .tb, .jr, .hif, .fab, .obs, .refin, .utc, .gns, .sel, .tns, .syn, .pls, .lan, .tsu, .cla, .auth, .flt, .cnj,
      .sys, .hot], Allows A p) :
    ∀ sp ∈ opSpecs, sp.Keeps A := by
  simp [opSpecs, hA]

@[simp ↓] theorem within_acceptFetched (opcode d) :
    Within [.regs, .tb, .jr, .hif, .fab, .obs, .refin, .utc, .gns, .sel, .tns, .syn, .pls, .lan, .tsu, .cla, .auth, .flt, .cnj, .sys, .hot]
      s (acceptFetched s opcode d) := .of fun A hA => by
  have h : ∀ t, Kept A t (acceptDesc (specOf opcode) opcode t d) := by
    intro t
    cases hs : specOf opcode with
    | none => dsimp only [acceptDesc]; simp [hA]
    | some sp => simp [hA, keeps_opSpecs hA sp (List.mem_of_find?_eq_some hs)]
  have h1 : Kept A s (acceptDesc (specOf opcode) opcode (reserveResume (setCons s d.ring (consPos s d.ring + 1)) opcode d) d) :=
    .trans (by simp [hA]) (h _)
  unfold acceptFetched
  refine .ite (by simp [hA]) ?_
  simp [hA, h1]

@[simp ↓] theorem within_phaseFailed (r) : Within [.regs, .jr, .hif, .obs, .hot] s (phaseFailed s r) := .of fun A hA => by
  dsimp only [phaseFailed]
  simp [hA]

@[simp ↓] theorem within_fetchDesc (opcode phase again d) :
    Within [.regs, .tb, .jr, .hif, .fab, .obs, .refin, .utc, .gns, .sel, .tns, .syn, .pls, .lan, .tsu, .cla, .auth, .flt, .cnj, .sys, .hot]
      s (fetchDesc s opcode phase again d) := .of fun A hA => by
  dsimp only [fetchDesc]
  simp [hA]

@[simp] theorem keepsFrame_descriptorAccept (opcode phase d) :
    KeepsFrame (.descriptorAccept opcode phase d) := .of (fun _ => rfl) fun A hA s => by
  dsimp only [mayChange] at hA
  simp [hA]

@[simp] theorem keepsFrame_phaseRetry (opcode phase d) : KeepsFrame (.phaseRetry opcode phase d) := .of (fun _ => rfl) fun A hA s => by
  dsimp only [mayChange] at hA
  simp [hA]

@[simp] theorem keepsFrame_effectiveTimeReached : KeepsFrame .effectiveTimeReached := .of (fun _ => rfl) fun A hA s => by
  dsimp only [mayChange] at hA
  split
  · next w sp h =>
    have hsp : sp.Keeps A := by
      obtain ⟨x, -, hx⟩ := List.exists_of_findSome?_eq_some h
      split at hx
      · next sp' e =>
        split at hx
        · cases hx
          exact keeps_opSpecs hA sp (List.mem_of_find?_eq_some e)
        · cases hx
      · cases hx
    simp [hA, hsp]
  · simp

@[simp] theorem keepsFrame_supervisorRejoin (k) : KeepsFrame (.supervisorRejoin k) := .of (fun _ => rfl) fun A hA s => by
  dsimp only [mayChange] at hA
  simp [hA]

@[simp] theorem keepsFrame_cseqSlotEnd : KeepsFrame .cseqSlotEnd := .of (fun _ => rfl) fun A hA s => by
  dsimp only [mayChange] at hA
  simp [hA]

/-! ### Register writes -/

@[simp ↓] theorem within_clearFlags (a v) : Within [.regs] s (clearFlags s a v) := .of fun A hA => by
  unfold clearFlags
  refine .fold fun t x => ?_
  split <;> simp [hA]

@[simp ↓] theorem within_releaseHeld : Within [.regs] s (releaseHeld s) := .of fun A hA => by
  dsimp only [releaseHeld]
  simp [hA]

@[simp ↓] theorem within_tnsStored (s0 : State) : Within [.regs, .tns] s (tnsStored s0 s) := .of fun A hA => by
  dsimp only [tnsStored]
  simp [hA]

@[simp ↓] theorem within_synStored (s0 : State) (a) :
    Within [.regs, .jr, .hif, .obs, .syn, .lan, .tsu, .cla, .flt, .hot] s (synStored s0 s a) := .of fun A hA => by
  dsimp only [synStored]
  simp [hA]

@[simp ↓] theorem kept_plsStored {A : Nat} {c : State} (s0 s a) : Kept A c (plsStored s0 s a) =
    Via (Covers A [.regs, .jr, .obs, .pls, .hot] ∧ Kept A c s0 ∧ Kept A c s) (Kept.anyway A c (plsStored s0 s a)) :=
  eq_via fun ⟨(hA : ∀ p ∈ _, Allows A p), h0, h⟩ => by
    dsimp only [plsStored]
    simp [hA, h0, h]

@[simp ↓] theorem within_portStored (a) : Within [.regs, .jr, .hif, .obs, .lan, .flt, .hot] s (portStored s a) := .of fun A hA => by
  have h : ∀ l, Kept A s (match if l < 16 then portOfLane (laneStored s l) l else none with
      | some p => settlePort (laneStored s l) p 7 | none => laneStored s l) := by
    intro l
    split <;> simp [hA]
  unfold portStored
  refine .ite ?_ (.ite ?_ (.ite ?_ ?_))
  · split
    exact .ite (h _) (.refl A s)
  · split
    simp [hA]
  · simp [hA]
  · simp

@[simp ↓] theorem within_sysStored (a) : Within [.regs, .fab] s (sysStored s a) := .of fun A hA => by
  dsimp only [sysStored]
  simp [hA]

@[simp ↓] theorem within_claStore (a v) : Within [.regs, .cla] s (claStore s a v) := .of fun A hA => by
  dsimp only [claStore]
  simp [hA]

@[simp ↓] theorem within_satStore (a v) : Within [.regs] s (satStore s a v) := .of fun A hA => by
  dsimp only [satStore]
  simp [hA]

@[simp ↓] theorem within_obsStore (a v) : Within [.regs, .jr, .hif, .obs, .hot] s (obsStore s a v) := .of fun A hA => by
  dsimp only [obsStore]
  simp [hA]

@[simp ↓] theorem within_todStored (old : State) : Within [.refin] s (todStored old s) := .of fun A hA => by
  dsimp only [todStored]
  simp [hA]

/-- A command register carries out its row's meaning, so what the row keeps is kept. -/
theorem kept_nextOf {A : Nat} {c : Instr} (h : KeepsFrame c) (hA : Covers A (mayChange c)) : Kept A s (nextOf s (exec c s)) := by
  cases e : exec c s with
  | next t => exact h A s t hA e
  | _ => exact .refl A s

@[simp ↓] theorem within_setupStore (a v) :
    Within [.regs, .jr, .hif, .fab, .obs, .refin, .tns, .syn, .pls, .lan, .tsu, .cla, .flt, .hot] s (setupStore s a v) := .of fun A hA => by
  have hg := kept_nextOf s (keepsFrame_genModeReqGo ⟨v % 8, Nat.mod_lt _ (by decide)⟩) (A := A) (by simp [mayChange, hA])
  unfold setupStore
  extract_lets t
  have ht : Kept A s t := by simp [t, hA]
  clear_value t
  refine .ite (.ite hg ht) (.ite ?_ (.ite ?_ ?_))
  · split
    simp [hA, ht]
  · split
    simp [hA, ht]
  · simp [hA, ht]

@[simp ↓] theorem kept_window {A : Nat} {s0 : State} (index v cmd) (read write : State → State) :
    Kept A s0 (window s index v cmd read write) = Via (Covers A [.regs] ∧ Kept A s0 s ∧ Kept A s0 (read s) ∧ Kept A s0 (write s))
      (Kept.anyway A s0 (window s index v cmd read write)) :=
  eq_via fun ⟨(hA : ∀ p ∈ _, Allows A p), hs, hr, hw⟩ => by
    unfold window
    simp [hA, hs, hr, hw]

/-- A write to a command register keeps what the row that it carries out keeps (R6). -/
theorem someKept_commandWrite {A : Nat}
    (hA : ∀ p ∈ [Part.regs, .jr, .hif, .fab, .obs, .gns, .sel, .tns, .syn, .pls, .lan, .tsu, .cla, .auth, .flt, .cnj, .sys, .hot],
      Allows A p) (a v) : SomeKept A s (commandWrite s a v) := by
  have pci : Kept A s (nextOf s (execBootPciGo s)) := kept_nextOf s keepsFrame_bootPciGo (by simp [mayChange, hA])
  have schRead (i) : Kept A s (nextOf s (execPlsSchRead i s)) := kept_nextOf s (keepsFrame_plsSchRead i) (by simp [mayChange, hA])
  have schWrite (i) : Kept A s (nextOf s (execPlsSchWrite i s)) := kept_nextOf s (keepsFrame_plsSchWrite i) (by simp [mayChange, hA])
  have strRead (i) : Kept A s (nextOf s (execClaStrRead i s)) := kept_nextOf s (keepsFrame_claStrRead i) (by simp [mayChange, hA])
  have strWrite (i) : Kept A s (nextOf s (execClaStrWrite i s)) := kept_nextOf s (keepsFrame_claStrWrite i) (by simp [mayChange, hA])
  have ruleRead (i) : Kept A s (nextOf s (execClaRuleRead i s)) := kept_nextOf s (keepsFrame_claRuleRead i) (by simp [mayChange, hA])
  have ruleWrite (i) : Kept A s (nextOf s (execClaRuleWrite i s)) := kept_nextOf s (keepsFrame_claRuleWrite i) (by simp [mayChange, hA])
  have satInst : Kept A s (nextOf s (execSatInstGo s)) := kept_nextOf s keepsFrame_satInstGo (by simp [mayChange, hA])
  have satQry (i) : Kept A s (nextOf s (execSatQryGo i s)) := kept_nextOf s (keepsFrame_satQryGo i) (by simp [mayChange, hA])
  have jrnl (w) : Kept A s (nextOf s (execObsJrnlWaddr w s)) := kept_nextOf s (keepsFrame_obsJrnlWaddr w) (by simp [mayChange, hA])
  have smp (w) : Kept A s (nextOf s (execObsSmpWaddr w s)) := kept_nextOf s (keepsFrame_obsSmpWaddr w) (by simp [mayChange, hA])
  unfold commandWrite
  extract_lets
  simp [hA, pci, schRead, schWrite, strRead, strWrite, ruleRead, ruleWrite, satInst, satQry, jrnl, smp]

@[simp ↓] theorem within_writeReg (a v) :
    Within [.regs, .jr, .hif, .fab, .obs, .refin, .gns, .sel, .tns, .syn, .pls, .lan, .tsu, .cla, .auth, .flt, .cnj, .sys, .hot]
      s (writeReg s a v) := .of fun A hA => by
  unfold writeReg
  refine .ite (by simp) ?_
  split
  · next t ht => exact someKept_commandWrite s (by simp [hA]) a v t ht
  · simp [hA]

@[simp] theorem keepsFrame_registerWrite (r v) : KeepsFrame (.registerWrite r v) := .of (fun _ => rfl) fun A hA s => by
  dsimp only [mayChange] at hA
  simp [hA]

@[simp] theorem keepsFrame_w1cFlagWrite (r v) : KeepsFrame (.w1cFlagWrite r v) := .of (fun _ => rfl) fun A hA s => by
  dsimp only [mayChange] at hA
  simp [hA]

@[simp] theorem keepsFrame_ffHeldRelease : KeepsFrame .ffHeldRelease := .of (fun _ => rfl) fun A hA s => by
  dsimp only [mayChange] at hA
  simp [hA]

/-! ### The port PTP clients -/

@[simp ↓] theorem within_chooseMaster (p) : Within [.regs, .sel] s (chooseMaster s p) := .of fun A hA => by
  dsimp only [chooseMaster]
  simp [hA]

@[simp ↓] theorem within_clientAnnounce (p ann f m) :
    Within [.regs, .jr, .obs, .utc, .sel, .hot] s (clientAnnounce s p ann f m) := .of fun A hA => by
  dsimp only [clientAnnounce]
  simp [hA]

@[simp ↓] theorem within_syncTaken (p) : Within [.sel] s (syncTaken s p) := .of fun A hA => by
  dsimp only [syncTaken]
  simp [hA]

@[simp ↓] theorem within_publishExch (p) : Within [.regs, .sel] s (publishExch s p) := .of fun A hA => by
  dsimp only [publishExch]
  split <;> simp [hA]

@[simp ↓] theorem within_takeExchange (p t1 t2 t3 t4 gl) :
    Within [.regs, .sel, .tsu] s (takeExchange s p t1 t2 t3 t4 gl) := .of fun A hA => by
  dsimp only [takeExchange]
  simp [hA]

@[simp ↓] theorem within_clientTiming (p trx m) : Within [.regs, .sel, .tsu] s (clientTiming s p trx m) := .of fun A hA => by
  dsimp only [clientTiming]
  repeat' split
  all_goals simp [hA]

@[simp ↓] theorem within_clientAuth (p b m ok) : Within [.regs, .cla, .hot] s (clientAuth s p b m ok).1 := .of fun A hA => by
  unfold clientAuth
  split <;> simp [hA]

@[simp] theorem keepsFrame_ptpClientRx (p f ok) : KeepsFrame (.ptpClientRx p f ok) := .of (fun _ => rfl) fun A hA s => by
  dsimp only [mayChange] at hA
  repeat' split
  all_goals simp [hA]

@[simp] theorem keepsFrame_unicastGrantRequest (p len) : KeepsFrame (.unicastGrantRequest p len) := .of (fun _ => rfl) fun A hA s => by
  dsimp only [mayChange] at hA
  dsimp only
  split
  · simp
  · split <;> simp [hA]

@[simp] theorem keepsFrame_esmcPduRx (p ssm essm eeec eec) :
    KeepsFrame (.esmcPduRx p ssm essm eeec eec) := .of (fun _ => rfl) fun A hA s => by
  dsimp only [mayChange] at hA
  simp [hA]

end

end Sys2Proof.Machine
end

section
/-!
The frames of all commands (O47), and that none touches the queue (O48).
-/

namespace Sys2Proof.Machine

theorem partSet_append (l : List Part) (p : Part) : partSet (l ++ [p]) = partSet l ||| 2 ^ p.bit := by
  simp [partSet, List.foldl_append]

theorem Part.bit_injective {p q : Part} (h : p.bit = q.bit) : p = q := by
  have hb (r : Part) : r.bit = r.ctorIdx := by cases r <;> rfl
  rw [← Part.ofNat_ctorIdx p, ← hb, h, hb, Part.ofNat_ctorIdx]

/-- The set of a list of parts has exactly the parts of the list. -/
theorem testBit_partSet (l : List Part) (p : Part) : (partSet l).testBit p.bit = true ↔ p ∈ l := by
  induction l using List.reverseRecOn with
  | nil => simp [partSet]
  | append_singleton l q ih =>
    have hq : q.bit = p.bit ↔ p = q := ⟨fun h => (Part.bit_injective h).symm, fun h => by rw [h]⟩
    simp [partSet_append, Nat.testBit_or, Nat.testBit_two_pow, ih, hq]

theorem covers_partSet (l : List Part) : Covers (partSet l) l := fun p hp => (testBit_partSet l p).2 hp

theorem keepsFrame (c : Instr) : KeepsFrame c := by
  cases c <;> simp

/-- Every command keeps what `Kept` names, for the set of the parts that its row may change. -/
theorem kept_exec {c : Instr} {s t : State} (h : exec c s = .next t) : Kept (partSet (mayChange c)) s t :=
  keepsFrame c _ s t (covers_partSet _) h

/-- Settles O47: Kept for the set of the row's own parts says that every part outside the set is what it was. -/
theorem everyCommandKeepsItsFrame : Obligations.EveryCommandKeepsItsFrame := by
  intro c s t h p hp
  exact (kept_exec h).frame p (Bool.eq_false_iff.2 (mt (testBit_partSet (mayChange c) p).1 hp))

/-- Settles O48: Kept says of every command that the queue stays. -/
theorem commandsLeaveTheQueue : Obligations.CommandsLeaveTheQueue :=
  fun _ _ _ h => (kept_exec h).queue

end Sys2Proof.Machine
end

section
/-!
The time base's stamps (O52), the causal counter (O2, O57) and the state after power-on (O44).
-/

namespace Sys2Proof.Machine

/-! ### Little-endian bytes -/

@[simp] theorem length_leBytes (n v : Nat) : (leBytes n v).length = n := by
  induction n generalizing v with
  | zero => rfl
  | succ n ih => simp [leBytes, ih]

theorem leBytes_add (m n v : Nat) : leBytes (m + n) v = leBytes m v ++ leBytes n (v / 256 ^ m) := by
  induction m generalizing v with
  | zero => simp [leBytes]
  | succ m ih => rw [Nat.succ_add_eq_add_succ, Nat.add_succ]; simp [leBytes, ih, Nat.div_div_eq_div_mul, Nat.pow_succ']

theorem leBytes_mod (n v : Nat) : leBytes n (v % 256 ^ n) = leBytes n v := by
  induction n generalizing v with
  | zero => rfl
  | succ n ih =>
    have hb : BitVec.ofNat 8 (v % 256 ^ (n + 1)) = BitVec.ofNat 8 v := by
      refine BitVec.eq_of_toNat_eq ?_
      simp only [BitVec.toNat_ofNat]
      exact Nat.mod_mod_of_dvd v (Dvd.intro_left (256 ^ n) rfl)
    have hd : v % 256 ^ (n + 1) / 256 = v / 256 % 256 ^ n := by
      rw [Nat.pow_succ', Nat.mod_mul_right_div_self]
    rw [leBytes, hb, hd, ih, leBytes]

/-! ### The stamps (R16, R21, R23) -/

theorem tbNs_lt (u : Nat) : tbNs u < 1000000000 := Nat.mod_lt _ (by decide)

theorem tbFrac_lt (u : Nat) : tbFrac u < 65536 := Nat.mod_lt _ (by decide)

/-- The short stamp is TB[79:16] of SEC, NS and FRAC side by side. -/
theorem shortOf_eq (u : Nat) : shortOf u = (tbSec u * 2 ^ 48 + tbNs u * 2 ^ 16 + tbFrac u) / 2 ^ 16 % 2 ^ 64 := by
  have hn := tbNs_lt u
  have hf := tbFrac_lt u
  unfold shortOf
  omega

/-- NS stands in the low word of the short stamp's bytes, SEC in the high word. -/
theorem leBytes_shortOf (u : Nat) : leBytes 8 (shortOf u) = leBytes 4 (tbNs u) ++ leBytes 4 (tbSec u % 2 ^ 32) := by
  have hn := tbNs_lt u
  have hlo : shortOf u % 256 ^ 4 = tbNs u := by unfold shortOf; omega
  have hhi : shortOf u / 256 ^ 4 = tbSec u % 2 ^ 32 := by unfold shortOf; omega
  rw [leBytes_add 4 4, ← leBytes_mod 4 (shortOf u), hlo, hhi]

/-- Settles O52: the bytes of the stamps are those of their parts, one after the other. -/
theorem stampsAreLaidOutAsGiven : Obligations.StampsAreLaidOutAsGiven := by
  intro u
  refine ⟨tbNs_lt u, tbFrac_lt u, shortOf_eq u, ?_, ?_, ?_, ?_, ?_, ?_⟩
  · rw [leBytes_shortOf, List.take_left' (length_leBytes ..)]
  · rw [leBytes_shortOf, List.drop_left' (length_leBytes ..)]
  all_goals rw [fineBytes, List.append_assoc]
  · exact List.take_left' (length_leBytes ..)
  · rw [List.drop_left' (length_leBytes ..), List.take_left' (length_leBytes ..)]
  · rw [← List.append_assoc, List.drop_left' (by simp)]; rfl
  · simp

/-! ### The causal counter (R32–R34) -/

/-- The difference of two words, as `cseqAfter` forms it from their values, read as signed. -/
theorem signed_sub_toNat (c d : Word) : signed 32 ((c.toNat + 2 ^ 32 - d.toNat) % 2 ^ 32) = (c - d).toInt := by
  have hn : (c - d).toNat = (c.toNat + 2 ^ 32 - d.toNat) % 2 ^ 32 := by
    rw [BitVec.toNat_sub]; omega
  rw [← hn, BitVec.toInt_eq_toNat_cond]
  unfold signed
  dsimp only
  rw [Nat.mod_eq_of_lt (c - d).isLt]
  split <;> split <;> omega

/-- Settles O57: the comparison is that of the signed difference, and `takeCseq` keeps the later value. -/
theorem cseqIsComparedSigned : Obligations.CseqIsComparedSigned :=
  ⟨fun c d => by rw [cseqAfter, signed_sub_toNat], fun _ _ => rfl⟩

/-- Settles O2: the row counts at the end of a slot with a record committed, and does nothing without one. -/
theorem cseqSlotEndCounts : Obligations.CseqSlotEndCounts := by
  refine ⟨fun s hl hd hc => ?_, fun s hd => ?_⟩
  · exact congrArg _ (if_neg (by simp [hl, hd, hc]))
  · exact congrArg _ (if_pos (by simp [hd]))

/-! ### The state after the AO power-on reset -/

/-- Settles O44: the fields are read off the reset state, whose registers all stand at their reset values. -/
theorem resetLeavesSpecValues : Obligations.ResetLeavesSpecValues := by
  refine ⟨State.reset, rfl, rfl, rfl, rfl, rfl, rfl, rfl, ?_, ?_, ?_, ?_, ?_, ?_, ?_, ?_, fun i _ => rfl, rfl, rfl⟩
  all_goals decide +kernel

end Sys2Proof.Machine
end

section
/-!
The rows of the clocks (O1) and of leap seconds (O3).
-/

namespace Sys2Proof.Machine

/-! ### The clocks (R18, R19, R204, R212, R228) -/

section
variable {s : State} {k : Fin 3}

theorem exec_tbClockStop (h : s.tbLive = true) : exec .tbClockStop s = .next { s with tb := { s.tb with stopped := true } } :=
  congrArg Host.Outcome.next (if_pos h)

theorem exec_oscinLoss (h : s.bit Reg.SYN_OSC_OSCIN_OK = true) :
    exec .oscinLoss s = .next (check { (s.putB Reg.SYN_OSC_OSCIN_OK false).setFlag Flag.SYN_OSCIN_LOSS with
      tb := { s.tb with unbounded := true } } 0x03 true) :=
  congrArg Host.Outcome.next (if_neg (by simp [h]))

/-- An APLL that loses lock starts to relock; with APLL0 the bounds end too. -/
theorem exec_apllLossOfLock (h : apllLocked s k = true) :
    exec (.apllLossOfLock k) s =
      let t := startRelock s k (if s.bit Reg.SYN_OSC_OSCIN_OK then 0 else 1)
      .next (check ((if k.val = 0 then { t with tb := { t.tb with unbounded := true } } else t).setFlag Flag.SYN_APLL_LOL) (4 + k) true) :=
  congrArg Host.Outcome.next (if_neg (by simp [h]))

theorem exec_oscinReturn (h : s.bit Reg.SYN_OSC_OSCIN_OK = false) (hr : s.tb.running = true) :
    exec .oscinReturn s =
      .next (startRelock (startRelock (startRelock (s.putB Reg.SYN_OSC_OSCIN_OK true) 0 1) 1 1) 2 1) :=
  congrArg Host.Outcome.next (if_neg (by simp [h, hr]))

/-- The state `t` in which APLL k's lock is shown and journalled, with the cause of the relock that `s` remembers. -/
def lockShown (s t : State) (k : Nat) : State :=
  { (t.putMapBit Reg.SYN_APLL_STAT_LOCK k true).putMapBit Reg.SYN_APLL_STAT_RELOCK k false with
    syn := { s.syn with relock := s.syn.relock.set (fun _ => 0) k 0 } }.journal 0 0x0009 0x0902
      (leBytes 1 k ++ leBytes 1 1 ++ leBytes 1 (s.syn.relock.get (fun _ => 0) k))

/-- APLL0's first lock starts the time base. -/
theorem exec_apllLock_first (hk : apllLocked s 0 = false) (hs : 2 ≤ s.sys.step) (hr : s.tb.running = false) :
    exec (.apllLock 0) s = .next (setDpllState (lockShown s (startTb s) 0) 0 2 (dpllRef (lockShown s (startTb s) 0) 0)) := by
  show Host.Outcome.next _ = _
  simp [hk, hr, Nat.not_lt.mpr hs, lockShown]
  rfl

/-- Once the time base runs, a lock of any APLL is shown, and what it serves goes on. -/
theorem exec_apllLock_again (hk : apllLocked s k = false) (hs : 2 ≤ s.sys.step) (hr : s.tb.running = true) :
    exec (.apllLock k) s = .next (
      let u := lockShown s s k
      if k.val = 0 then setDpllState u 0 2 (dpllRef u 0)
      else if k.val = 1 then windowEvent (restartFor (u.put Reg.SYN_APLL1_CFG_REFMUL_USED (usedMul u)) 1) 4 0 250000000
      else
        let v := satPublish u (u.putB Reg.SAT_STAT_CY_RDY true)
        windowEvent (restartFor
          (if s.mapBit Reg.SYN_APLL_STAT_RELOCK k.val then v.journal 2 0x0012 0x1203 (leBytes 1 1 ++ leBytes 2 0) else v) 2) 5 0 1000000) := by
  show Host.Outcome.next _ = _
  simp [hk, hr, Nat.not_lt.mpr hs, lockShown]

end

/-- Settles O1: each clause is what its row's meaning answers under the clause's hypotheses. -/
theorem clockEventsAct : Obligations.ClockEventsAct := by
  refine ⟨fun s => exec_tbClockStop, fun s => exec_oscinLoss, fun s => exec_apllLossOfLock (k := 0), fun k s hk h => ?_,
    fun s => exec_oscinReturn, fun s hk hs hr => ⟨lockShown s (startTb s) 0, rfl, rfl, exec_apllLock_first hk hs hr⟩,
    fun k s hk hs hr => ⟨lockShown s s k, rfl, ?_, ?_, ?_⟩⟩
  · simp [exec_apllLossOfLock h, hk]
  · rintro rfl
    rw [exec_apllLock_again hk hs hr]
    rfl
  · rintro rfl
    rw [exec_apllLock_again hk hs hr]
    rfl
  · rintro rfl ha
    simp [exec_apllLock_again hk hs hr, ha]

/-! ### Leap seconds (R29, R190) -/

section
variable {s : State} {tl : Nat} {ins : Bool}

/-- While UTC_VALID is 0 the armed leap is removed at T_L. -/
theorem leapApplied_of_invalid (he : s.utc.inLeapEnd = none) (hl : s.utc.leap = some (tl, ins)) (ht : s.atOrPast (tl * secU) = true)
    (hv : utcValid s = false) : leapApplied s = clearLeap s := by
  simp [leapApplied, he, hl, ht, hv]

/-- With UTC_VALID 1 the armed leap changes TAI_UTC at T_L, and an inserted second begins. -/
theorem leapApplied_of_valid (he : s.utc.inLeapEnd = none) (hl : s.utc.leap = some (tl, ins)) (ht : s.atOrPast (tl * secU) = true)
    (hv : utcValid s = true) :
    leapApplied s =
      let v := if ins then taiUtc s + 1 else taiUtc s - 1
      { s with utc := { s.utc with
        leap := none, tai := v, past := some (tl, taiUtc s), inLeapEnd := if ins then some (tl + 1) else s.utc.inLeapEnd } }.journalAt
          (shortOf (tl * secU)) 0 0x0008 0x0204 (leBytes 2 (unsigned 16 v) ++ leBytes 1 (leapDir ins)) := by
  simp [leapApplied, he, hl, ht, hv]

theorem leapDue_of_announced {tr : Nat} (ha : s.utc.announced = some (tl, ins, tr)) (hr : s.tbLive = true) (hl : s.utc.leap = none)
    (ht : tl ≤ tbSec s.tbU + s.get Reg.TNS_LEAP_CFG_ARM_WIN) : leapDue s = armLeap s tl ins tr := by
  simp [leapDue, ha, hr, hl, ht]

end

theorem exec_leapApplied (s : State) : exec .leapApplied s = .next (settle (leapApplied s)) := rfl

theorem exec_leapArmed (s : State) : exec .leapArmed s = .next (settle (leapDue s)) := rfl

/-- Settles O3: what `leapApplied` and `leapDue` do under each clause's hypotheses is what is settled. -/
theorem leapSecondActs : Obligations.LeapSecondActs := by
  refine ⟨fun s tl he hl ht hv => ?_, fun s tl he hl ht hv => ?_, fun s tl ins he hl ht hv => ?_, fun s tl ins tr ha hr hl ht => ?_⟩
  · simp [exec_leapApplied, leapApplied_of_valid he hl ht hv, leapDir]
  · simp [exec_leapApplied, leapApplied_of_valid he hl ht hv, leapDir]
  · rw [exec_leapApplied, leapApplied_of_invalid he hl ht hv, clearLeap]
  · rw [exec_leapArmed, leapDue_of_announced ha hr hl ht, armLeap]

end Sys2Proof.Machine
end

section
/-!
SUPPORT. What a frame says of one part and of the queue.
-/

namespace Sys2Proof.Machine

/-- A part that a function of the state does not name is what it was. -/
theorem Within.same {T : List Part} {s t : State} (h : Within T s t) (p : Part) (hp : p ∉ T) : p.Same s t :=
  (h.kept (covers_partSet T)).frame p (Bool.eq_false_iff.2 (mt (testBit_partSet T p).1 hp))

theorem Within.pending {T : List Part} {s t : State} (h : Within T s t) : t.pending = s.pending :=
  (h.kept (covers_partSet T)).queue

end Sys2Proof.Machine
end

section
/-!
The rows of the Tense unit: publication, selection, learning and the cores' resets (O4).
-/

namespace Sys2Proof.Machine

/-! ### Publication and the snapshot (R44, R45, R56) -/

/-- The word published heads the publications retained. -/
theorem head_pubs_publishWord (s : State) (w : Nat) (b : Option Nat) :
    (publishWord s w b).tns.pubs.head? = some ⟨s.freeNs, s.tbU, w, b⟩ := by
  unfold publishWord
  extract_lets old cause p s1 s2 s3
  have h2 : s2.tns = s1.tns := by unfold s2; split <;> simp
  have h3 : s3.tns = s2.tns := by unfold s3; split <;> simp
  have h : s3.tns.pubs.head? = some p := by rw [h3, h2]; rfl
  split
  · exact h
  · rw [State.journal_tns, h]

theorem publishWord_tb (s : State) (w : Nat) (b : Option Nat) : (publishWord s w b).tb = s.tb :=
  (within_publishWord s w b).same .tb (by decide)

/-- The snapshot registers show the time base, CSEQ and the word, and SEQ is one higher (R56). -/
theorem snapshotTb_shows (s : State) (w : Nat) :
    (snapshotTb s w).bit Reg.TNS_TBS_STAT_VALID = true ∧
    (snapshotTb s w).get Reg.TNS_TBS_NS_NS = tbNs s.tbU % 2 ^ 32 ∧
    (snapshotTb s w).get Reg.TNS_TBS_SECL_SEC = tbSec s.tbU % 2 ^ 32 ∧
    (snapshotTb s w).get Reg.TNS_TBS_CSEQ_CSEQ = s.jr.cseq % 2 ^ 32 ∧
    (snapshotTb s w).get Reg.TNS_TBS_GLSL_GLOSS = w % 2 ^ 32 ∧
    (snapshotTb s w).get Reg.TNS_TBS_STAT_SEQ = (s.get Reg.TNS_TBS_STAT_SEQ + 1) % 256 := by
  refine ⟨bne_iff_ne.2 (?_ : (snapshotTb s w).get Reg.TNS_TBS_STAT_VALID ≠ 0), ?_, ?_, ?_, ?_, ?_⟩ <;>
    simp (disch := decide) only [snapshotTb, showUtc, State.publish, State.putB, State.putS, State.putPair, State.get_put_ne,
      State.get_put_same]
  · decide
  all_goals rfl

/-- A publication ends with a word published and the snapshot taken of it. -/
theorem publication_ends (s : State) (tc1 : Option Nat) (steer other : Bool) :
    ∃ t w b, publication s tc1 steer other = snapshotTb (publishWord t w b) w := ⟨_, _, _, rfl⟩

/-! ### The rows of the Tense unit -/

section
variable {s : State}

theorem exec_glossPublication {tc1 : Option Word64} {steer other : Bool} (hm : s.atMs = true) (ht : tenseMode s = true)
    (hr : bothTcReset s = false) (hd : s.tns.doneAt ≠ some s.freeNs) :
    exec (.glossPublication tc1 steer other) s = .next (publication (applyTenseDue s) (tc1.map (fun w => w.toNat)) steer other) :=
  congrArg Host.Outcome.next (if_pos (by simp [atPub, hm, ht, hr, hd]))

/-- Once the publication of the millisecond is over, a better candidate whose wait has run has selection run at once. -/
theorem exec_waitToRestore {c : Nat} (hm : s.atMs = true) (ht : tenseMode s = true) (hr : selRuns s = true) (hl : tsState s = 2)
    (hc : current s 0 = some c) (hw : restored s (cands s 0) c ≠ []) (hd : s.tns.doneAt = some s.freeNs) :
    exec .waitToRestore s = .next (publishChange (concludeStep (stepSelecting (slewArrive s) (fun _ => none)))) := by
  show Host.Outcome.next _ = _
  simp [hm, ht, hr, hl, hc, hw, reselect, hd]

theorem exec_glossStale {p : Pub} {l : List Pub} (hp : s.tns.pubs = p :: l) (hr : bothTcReset s = true) (ha : p.freeAt + hG ≤ s.freeNs)
    (hs : s.tns.stale = false) :
    exec .glossStale s = .next ((s.setFlag Flag.TNS_GLOSS_STALE).setTns (fun n => { n with
      pubs := ({ p.open with freeAt := p.freeAt + hG, stampU := p.stampU + hG * 65536 + 1 } :: n.pubs).take 16, stale := true })) := by
  show Host.Outcome.next _ = _
  simp [hp, hr, ha, hs]

theorem exec_tcRejoin {k : Fin 2} (hs : s.atSec = true) (hk : bitOf s.sys.engReset (16 + k) = true)
    (hd : ∀ t, s.tns.rejoin = some t → t < s.freeNs) :
    exec (.tcRejoin k) s = .next (resumeSel (showSolo (windowEvent { s with
      sys := { s.sys with engReset := setBit s.sys.engReset (16 + k) false } } 1 k 10000000))) := by
  show Host.Outcome.next _ = _
  cases h : s.tns.rejoin with
  | none => simp [hs, hk]
  | some t => simp [hs, hk, hd t h]

/-- LEARN_RUN is no part of what decides whether samples are taken. -/
theorem learnRuns_putB_learnRun (b : Bool) : learnRuns (s.putB Reg.TNS_STAT_LEARN_RUN b) = learnRuns s := by
  have hm : (s.putB Reg.TNS_STAT_LEARN_RUN b).mode = s.mode := congrArg Mode.ofCode (State.get_put_ne (by decide))
  have ht : tsState (s.putB Reg.TNS_STAT_LEARN_RUN b) = tsState s := State.get_put_ne (by decide)
  simp [learnRuns, learnMode, tenseMode, learnOp, longOp, hm, ht]

theorem exec_learnSample (ht : tenseMode s = true) (hs : s.atSec = true) (hr : bothTcReset s = false)
    (hl : learnRuns (learnPoint s) = true) :
    exec .learnSample s = .next (learnSecond ((learnPoint s).putB Reg.TNS_STAT_LEARN_RUN true)) := by
  show Host.Outcome.next _ = _
  simp [ht, hs, hr, hl, learnRuns_putB_learnRun]

theorem exec_rollingFit (hm : learnMode s = true) (ha : s.bit Reg.TNS_CFG_AUTO_LEARN = true) (ho : learnOp s = none) (hl : tsState s = 2)
    (hf : 3600 ≤ s.tns.learn.sinceFit) (hn : s.get Reg.TNS_HO_WIN_HO_MIN * 60 ≤ s.tns.learn.means.length) :
    exec .rollingFit s = .next (installModel (fitModel (setLearn s (fun l => { l with sinceFit := 0 }))).1 1
      (s.tns.learn.means.length * 60)) := by
  show Host.Outcome.next _ = _
  have hw (f : Learn → Learn) : (setLearn s f).get Reg.TNS_HO_WIN_HO_MIN = s.get Reg.TNS_HO_WIN_HO_MIN := rfl
  simp [hm, ha, ho, hl, hf, hw, hn]

end

/-- Settles O4: each clause is what its row's meaning answers under the clause's hypotheses; a publication ends in the snapshot. -/
theorem tensePublishesAndLearns : Obligations.TensePublishesAndLearns := by
  refine ⟨fun tc1 steer other s => exec_glossPublication, fun tc1 steer other s => ?_, fun s c => exec_waitToRestore,
    fun s p l => exec_glossStale, fun k s => exec_tcRejoin, fun s => exec_learnSample, fun s => exec_rollingFit⟩
  obtain ⟨t, w, b, h⟩ := publication_ends s tc1 steer other
  refine ⟨publishWord t w b, w, h, ?_, snapshotTb_shows _ w⟩
  rw [head_pubs_publishWord]
  simp [State.tbU, State.freeNs, publishWord_tb]

end Sys2Proof.Machine
end

section
/-!
The passing of a TB cycle on an empty queue (O42).
-/

namespace Sys2Proof.Machine

/-! ### CSEQ while the TB clock has not stopped

A commit moves CSEQ itself only after the time base has stopped (R19); before that it is CSEQ_SLOT_END that counts it (R32). -/

/-- From s to t the time base is the same, and CSEQ too unless the TB clock has stopped. -/
structure CseqStays (s t : State) : Prop where
  tb : t.tb = s.tb
  cseq : s.tb.stopped = false → t.jr.cseq = s.jr.cseq

namespace CseqStays
variable {s t u : State}

theorem refl (s : State) : CseqStays s s := ⟨rfl, fun _ => rfl⟩

theorem trans (h : CseqStays s t) (h' : CseqStays t u) : CseqStays s u :=
  ⟨h'.tb.trans h.tb, fun hs => (h'.cseq (h.tb ▸ hs)).trans (h.cseq hs)⟩

/-- What then changes neither the time base nor the journal. -/
theorem within {T : List Part} (h : CseqStays s t) (hu : Within T t u) (htb : Part.tb ∉ T := by decide) (hjr : Part.jr ∉ T := by decide) :
    CseqStays s u :=
  h.trans ⟨hu.same .tb htb, fun _ => congrArg Jrnl.cseq (hu.same .jr hjr)⟩

theorem ite {c : Prop} [Decidable c] (ht : CseqStays s t) (hu : CseqStays s u) : CseqStays s (if c then t else u) := by
  split <;> assumption

theorem commitMark (h : CseqStays s t) : CseqStays s t.commitMark :=
  h.trans ⟨rfl, fun hs => show (t.jr.commit _ _).cseq = _ by rw [hs]; rfl⟩

theorem journalSlot (h : CseqStays s t) (r : JRec) : CseqStays s (t.journalSlot r) :=
  h.trans ⟨rfl, fun hs => show (Jrnl.commit _ _ _).cseq = _ by rw [hs]; rfl⟩

theorem stage (h : CseqStays s t) (type stamp : Nat) (pay : List Byte) : CseqStays s (t.stage type stamp pay) := by
  unfold State.stage
  refine .ite h (.ite ?_ (h.within (within_setObs _ _)).commitMark)
  exact (((h.within (within_bump _ _ _ _)).within (within_setFlag _ _)).within (within_setObs _ _)).within (within_perf _ _ _ _)

theorem journalAt (h : CseqStays s t) (stamp sev src code : Nat) (pay : List Byte) :
    CseqStays s (t.journalAt stamp sev src code pay) := by
  unfold State.journalAt
  extract_lets r head u
  have hu : CseqStays s u :=
    (((h.within (within_journalRoom _)).journalSlot r).within (within_put _ _ _)).within (within_perf _ _ _ _)
  exact .ite (hu.stage ..) hu

theorem journal (h : CseqStays s t) (sev src code : Nat) (pay : List Byte) : CseqStays s (t.journal sev src code pay) := h.journalAt ..

theorem setPstate (h : CseqStays s t) (new cause : Nat) : CseqStays s (setPstate t new cause) := by
  unfold Machine.setPstate
  refine .ite h ?_
  exact (((h.within (within_putStat _ _ _)).within (within_showEsc _)).journal ..).within (within_fire _ _)

theorem setPresent (h : CseqStays s t) (b : Bool) (lost : Nat) : CseqStays s (setPresent t b lost) := by
  unfold Machine.setPresent
  refine .ite h ?_
  exact ((((h.within (within_putStat _ _ _)).within (within_setCnj _ _)).within (within_flagIf _ _ _)).journal ..).within (within_fire _ _)

theorem enterSearch (h : CseqStays s t) (cause : Nat) : CseqStays s (enterSearch t cause) := by
  unfold Machine.enterSearch
  exact ((h.setPstate ..).setPresent ..).within (within_setCnj _ _)

theorem leaveMismatch (h : CseqStays s t) : CseqStays s (leaveMismatch t) := .ite (h.enterSearch 0) h

theorem linkTick (h : CseqStays s t) : CseqStays s (linkTick t) := by
  unfold Machine.linkTick
  refine .ite h (within ?_ (within_showDigest _)).leaveMismatch
  exact .ite (.ite h (h.within (within_putSatU _ _ _))) (within (.ite h (h.within (within_putSatU _ _ _))) (within_putSatU _ _ _))

theorem freeStaged (h : CseqStays s t) : CseqStays s (freeStaged t) := by
  unfold Machine.freeStaged
  extract_lets taken o1 t1 n t2 o2 t3 due t4 o4 t5
  have h1 : CseqStays s t1 := h.within (within_setObs t fun o => { o with staged := o.staged.dropWhile taken })
  have h3 : CseqStays s t3 := (h1.stage ..).within (within_setObs t2 fun o => { o with lostRun := 0 })
  have h4 : CseqStays s t4 := h3.journal ..
  have h5 : CseqStays s (if due then { t4 with obs := { t4.obs with lostJrnl := some t4.freeNs } } else t3) :=
    .ite (h4.within (within_setObs t4 fun o => { o with lostJrnl := some t4.freeNs })) h3
  exact within (.ite h5 h1) (within_put _ _ _)

theorem traceTick (h : CseqStays s t) : CseqStays s (traceTick t) := .ite h h.freeStaged

end CseqStays

/-! ### A TB cycle passes (R16, R18) -/

/-- What the units do as a cycle passes, before the counters move on. -/
def cycleWork (s : State) : State :=
  traceTick (linkTick (lineTick (if s.tbLive then pcTick (pauseTick s) else s)))

/-- The counters move on, and what belonged to the cycle that ended is forgotten. -/
def cycleEnd (s : State) (live : Bool) : State :=
  { s with
    tb := { s.tb with cyc := if live then s.tb.cyc + 1 else s.tb.cyc, ao := s.tb.ao + 1 }, hot := [],
    lan := { s.lan with sent := [], fresh := [] }, cnj := { s.cnj with sent := [] } }

section
variable (s : State)

theorem within_cycleWork : Within [.regs, .jr, .hif, .obs, .lan, .cnj, .hot] s (cycleWork s) := .of fun A hA => by
  dsimp only [cycleWork]
  simp [hA]

/-- After the end of the cycle only registers and the SMBus snapshot follow. -/
theorem within_tick : Within [.regs, .sys] (cycleEnd (cycleWork s) s.tbLive) (tick s) := .of fun A hA => by
  unfold tick
  extract_lets live t1 b l c t2 t3
  have h1 : cycleWork s = t1 := rfl
  rw [h1]
  clear_value t1
  have h2 : cycleEnd t1 s.tbLive = t2 := rfl
  have h3 : Kept A t2 t3 := by simp [t3, hA]
  rw [h2]
  clear_value t3
  simp [hA, h3]

/-- A frame sent whole is counted, and the count of trace records lost stays. -/
theorem lineSent_lostRun (p : Nat) (f : LineFrame) : (lineSent s p f).obs.lostRun = s.obs.lostRun := by
  have hb (t : State) (k n : Nat) : (macBump t p k n).obs = t.obs := (within_macBump t p k n).same .obs (by decide)
  have hp (t : State) (e n : Nat) : (t.perf e p n).obs.lostRun = t.obs.lostRun := rfl
  have ht (t : State) (k : Nat) : (tsuBump t p k).obs = t.obs := (within_tsuBump t p k).same .obs (by decide)
  unfold lineSent
  split <;> simp [hb, hp, ht]

theorem lineTick_lostRun : (lineTick s).obs.lostRun = s.obs.lostRun := by
  unfold lineTick
  generalize List.range 8 = l
  induction l generalizing s with
  | nil => rfl
  | cons p l ih =>
    rw [List.foldl_cons, ih]
    split
    · split
      · exact lineSent_lostRun ..
      · rfl
    · rfl

/-- With no record lost, freeing what was staged commits nothing. -/
theorem traceTick_jr (h : s.obs.lostRun = 0) : (traceTick s).jr = s.jr := by
  unfold traceTick freeStaged
  split
  · rfl
  · simp [h]

end

/-- With the TB clock stopped nothing is at work that could commit. -/
theorem cycleWork_jr_of_stopped {s : State} (hs : s.tb.stopped = true) (hl : s.obs.lostRun = 0) : (cycleWork s).jr = s.jr := by
  have hd : s.tbLive = false := by simp [State.tbLive, hs]
  have ht : (lineTick s).tb = s.tb := (within_lineTick s).same .tb (by decide)
  have hk : linkTick (lineTick s) = lineTick s := if_pos (by simp [pairRuns, State.tbLive, ht, hs])
  have hj : (lineTick s).jr = s.jr := (within_lineTick s).same .jr (by decide)
  rw [cycleWork, hd, if_neg Bool.false_ne_true, hk, traceTick_jr _ ((lineTick_lostRun s).trans hl), hj]

/-- As a cycle passes CSEQ stays: a running time base has CSEQ_SLOT_END count it, and with a stopped one only a lost record that waits
to be counted would be committed. -/
theorem cycleWork_cseq (s : State) (hl : s.obs.lostRun = 0) : (cycleWork s).jr.cseq = s.jr.cseq := by
  cases hs : s.tb.stopped with
  | true => rw [cycleWork_jr_of_stopped hs hl]
  | false =>
    have h1 : CseqStays s (if s.tbLive then pcTick (pauseTick s) else s) :=
      .ite (((CseqStays.refl s).within (within_pauseTick s)).within (within_pcTick _)) (.refl s)
    have h : CseqStays s (cycleWork s) := by
      unfold cycleWork
      exact (h1.within (within_lineTick _)).linkTick.traceTick
    exact h.cseq hs

section
variable (s : State)

/-- Each counter of the time base that runs moves on by one. -/
theorem tick_tb : (tick s).tb = { s.tb with cyc := if s.tbLive then s.tb.cyc + 1 else s.tb.cyc, ao := s.tb.ao + 1 } := by
  have h : (tick s).tb = (cycleEnd (cycleWork s) s.tbLive).tb := (within_tick s).same .tb (by decide)
  have hw : (cycleWork s).tb = s.tb := (within_cycleWork s).same .tb (by decide)
  rw [h, cycleEnd, hw]

theorem tick_hot : (tick s).hot = [] := by
  have h : (tick s).hot = (cycleEnd (cycleWork s) s.tbLive).hot := (within_tick s).same .hot (by decide)
  rw [h, cycleEnd]

theorem tick_lan_sent : (tick s).lan.sent = [] := by
  have h : (tick s).lan = (cycleEnd (cycleWork s) s.tbLive).lan := (within_tick s).same .lan (by decide)
  rw [h, cycleEnd]

theorem tick_cnj_sent : (tick s).cnj.sent = [] := by
  have h : (tick s).cnj = (cycleEnd (cycleWork s) s.tbLive).cnj := (within_tick s).same .cnj (by decide)
  rw [h, cycleEnd]

theorem tick_pending : (tick s).pending = s.pending := by
  rw [(within_tick s).pending, cycleEnd, (within_cycleWork s).pending]

theorem tick_cseq (hl : s.obs.lostRun = 0) : (tick s).jr.cseq = s.jr.cseq := by
  have h : (tick s).jr = (cycleEnd (cycleWork s) s.tbLive).jr := (within_tick s).same .jr (by decide)
  rw [h, cycleEnd, cycleWork_cseq s hl]

end

theorem step_of_empty {s : State} (h : s.pending = []) : step s = .next (tick s) := by
  unfold step
  rw [h]

/-- Settles O42: the step is `tick`, whose parts are read off one by one. -/
theorem emptyQueuePassesOneCycle : Obligations.EmptyQueuePassesOneCycle := by
  intro s hq
  refine ⟨tick s, step_of_empty hq, ?_, ?_, ?_, ?_, ?_, tick_hot s, tick_lan_sent s, tick_cnj_sent s, (tick_pending s).trans hq,
    fun _ _ hl _ => tick_cseq s hl⟩
  all_goals rw [tick_tb]

end Sys2Proof.Machine
end

section
/-!
What ends the run of the time base (O50).
-/

namespace Sys2Proof.Machine

/-! ### The run of the time base (R18, R19) -/

/-- From s to t the time base has not been started or ended, and its counters stand. -/
structure RunStays (s t : State) : Prop where
  running : t.tb.running = s.tb.running
  cyc : t.tb.cyc = s.tb.cyc
  ao : t.tb.ao = s.tb.ao

/-- The set of the parts beside the time base. -/
def besideTb : Nat :=
  partSet [.regs, .jr, .hif, .fab, .obs, .refin, .utc, .gns, .sel, .tns, .syn, .pls, .lan, .tsu, .cla, .auth, .flt, .cnj, .sys, .hot]

@[simp] theorem allows_besideTb {p : Part} (h : p ≠ .tb) : Allows besideTb p :=
  covers_partSet _ p (by cases p <;> simp at h ⊢)

namespace RunStays
variable {s t u : State}

theorem refl (s : State) : RunStays s s := ⟨rfl, rfl, rfl⟩

theorem trans (h : RunStays s t) (h' : RunStays t u) : RunStays s u :=
  ⟨h'.running.trans h.running, h'.cyc.trans h.cyc, h'.ao.trans h.ao⟩

theorem of_tb (h : t.tb = s.tb) : RunStays s t := ⟨by rw [h], by rw [h], by rw [h]⟩

/-- What then changes parts beside the time base. -/
theorem kept (h : RunStays s t) (hu : Kept besideTb t u) : RunStays s u := h.trans (.of_tb (hu.frame .tb (by decide)))

theorem ite {c : Prop} [Decidable c] (ht : RunStays s t) (hu : RunStays s u) : RunStays s (if c then t else u) := by
  split <;> assumption

theorem foldl {α : Type} {f : State → α → State} (h : RunStays s t) (hf : ∀ u a, RunStays u (f u a)) (l : List α) :
    RunStays s (l.foldl f t) := by
  induction l generalizing t with
  | nil => exact h
  | cons a l ih => exact ih (h.trans (hf t a))

/-- What then changes only parts beside the time base, by a function whose frame is known. -/
theorem within {T : List Part} (h : RunStays s t) (hu : Within T t u) (htb : Part.tb ∉ T := by decide) : RunStays s u :=
  h.trans (.of_tb (hu.same .tb htb))

/-- The stop of its clock leaves the time base started (R19). -/
theorem stopClock (h : RunStays s t) : RunStays s { t with tb := { t.tb with stopped := true } } := h.trans ⟨rfl, rfl, rfl⟩

/-- The end of the bounds leaves it running. -/
theorem endBounds (h : RunStays s t) : RunStays s { t with tb := { t.tb with unbounded := true } } := h.trans ⟨rfl, rfl, rfl⟩

/-- A step of the time base moves its offset alone (R25). -/
theorem stepBase (h : RunStays s t) (amount : Int) (tag : Nat) (first : Bool) : RunStays s (stepBase t amount tag first) := by
  unfold Machine.stepBase
  extract_lets old ps b t1 t2 t3 n t4 t5 t6 t7
  have h1 : RunStays t t1 := ⟨rfl, rfl, rfl⟩
  clear_value t1
  exact (h.trans h1).kept (by simp [t7, t6, t5, t4, t3, t2])

theorem acquireOn (h : RunStays s t) (i : Nat) (fresh : Nat → Option (Rat × Nat)) : RunStays s (acquireOn t i fresh) := by
  unfold Machine.acquireOn
  split
  next => exact h
  next =>
    refine .ite (.within (.within (.within (.stepBase ?_ _ _ _) (within_setTns _ _)) (within_markValid _ _)) (within_setTsState _ _ _))
      (h.kept (by simp))
    exact h.within (within_setTns _ _)

theorem stepAcquiring (h : RunStays s t) (fresh : Nat → Option (Rat × Nat)) : RunStays s (stepAcquiring t fresh) := by
  dsimp only [Machine.stepAcquiring]
  split
  · exact h.kept (by simp)
  · exact .acquireOn (h.kept (by simp)) _ _

theorem stepSelecting (h : RunStays s t) (fresh : Nat → Option (Rat × Nat)) : RunStays s (stepSelecting t fresh) := by
  unfold Machine.stepSelecting
  refine .within ?_ (within_selectFreq _)
  exact .ite (h.within (within_stepFreeRun _)) <| .ite (h.stepAcquiring fresh) <| .ite (h.within (within_stepLocked _ _)) <|
    h.kept (by simp)

theorem stepKeeping (h : RunStays s t) (fresh : Nat → Option (Rat × Nat)) : RunStays s (stepKeeping t fresh) := by
  unfold Machine.stepKeeping
  refine .ite (h.kept (by simp)) ?_
  split
  · exact .ite (h.acquireOn ..) (.ite (h.within (within_lockedOn _ _ _)) h)
  · exact h

theorem reselect (h : RunStays s t) : RunStays s (reselect t) := by
  unfold Machine.reselect
  exact .ite ((((h.within (within_slewArrive _)).stepSelecting _).within (within_concludeStep _)).within (within_publishChange _)) h

theorem evalOne (h : RunStays s t) (i : Nat) : RunStays s (evalOne t i) := (h.within (within_evalState _ _)).reselect

theorem publication (h : RunStays s t) (tc1 : Option Nat) (steer other : Bool) : RunStays s (publication t tc1 steer other) := by
  unfold Machine.publication
  extract_lets run t1 t2 frs fresh t3 t4 t5 t6 t7 t8 w0 w1 w b t9
  have h1 : RunStays s t1 := h.kept (by simp [t1])
  have h2 : RunStays s t2 := by
    unfold t2
    split
    · exact h1.kept (by simp)
    · exact h1
  have h7 : RunStays s t7 := h2.kept (by simp [t7, t6, t5, t4, t3])
  have h8 : RunStays s t8 := .within (.ite (h7.stepSelecting fresh) (h7.stepKeeping fresh)) (within_concludeStep _)
  exact h8.kept (by simp [t9])

theorem tnsStep (h : RunStays s t) (w : Waiting) : RunStays s (tnsStepOp.apply t w) := by
  dsimp only [tnsStepOp]
  refine .ite (.ite (h.kept (by simp)) (.within ?_ (within_endStep _ _ _))) ?_
  · exact .ite (h.stepBase ..) (.within (h.stepBase ..) (within_setTns _ _))
  · split
    · exact h.kept (by simp)
    · exact .ite (.within (.within (h.stepBase ..) (within_acceptReturn _ _ _ _ _ _)) (within_endStep _ _ _)) (h.kept (by simp))

/-- Of all commands of descriptors TNS_STEP alone steps the time base. -/
theorem eq_tnsStepOp_or_keeps : ∀ sp ∈ opSpecs, sp = tnsStepOp ∨ sp.Keeps besideTb := by
  simp [opSpecs]

theorem opSpec {sp : OpSpec} (h : RunStays s t) (hsp : sp ∈ opSpecs) (w : Waiting) : RunStays s (sp.apply t w) := by
  obtain rfl | hk := eq_tnsStepOp_or_keeps sp hsp
  · exact h.tnsStep w
  · exact h.kept (hk t w)

theorem applyTenseDue (h : RunStays s t) : RunStays s (applyTenseDue t) := by
  have mem : ∀ sp ∈ tenseSpecs, sp ∈ opSpecs := by simp [tenseSpecs, opSpecs]
  unfold Machine.applyTenseDue
  refine h.foldl (fun u w => ?_) _
  split
  next sp hf => exact .ite (.opSpec ((refl u).kept (by simp)) (mem sp (List.mem_of_find?_eq_some hf)) w) (.refl u)
  next => exact .refl u

theorem acceptDesc {sp : OpSpec} (h : RunStays s t) (hsp : sp ∈ opSpecs) (opcode : Nat) (d : Desc) :
    RunStays s (acceptDesc (some sp) opcode t d) := by
  unfold Machine.acceptDesc
  extract_lets t1 t2 eff w past hif
  have h2 : RunStays s t2 := h.kept (by simp [t2, t1])
  have refused (status : Nat) : RunStays s (refuseDesc t2 w status) := h2.within (within_refuseDesc _ _ _)
  exact .ite (refused _) <| .ite (refused _) <| .ite (refused _) <| .ite (refused _) <| .ite (refused _) <| .ite (h2.opSpec hsp w) <|
    h2.kept (by simp [hif])

theorem acceptFetched (h : RunStays s t) (opcode : Nat) (d : Desc) : RunStays s (acceptFetched t opcode d) := by
  unfold Machine.acceptFetched
  extract_lets t1 t2
  have h1 : RunStays s t1 := h.kept (by simp [t1])
  have h2 : RunStays s t2 := by
    unfold t2
    cases hs : specOf opcode with
    | none => exact h1.kept (by simp [Machine.acceptDesc])
    | some sp => exact .acceptDesc (h1.within (within_reserveResume _ _ _)) (List.mem_of_find?_eq_some hs) _ _
  exact .ite (h1.kept (by simp)) (.ite (h2.kept (by simp)) h2)

theorem fetchDesc (h : RunStays s t) (opcode : Nat) (phase again : Bool) (d : Desc) : RunStays s (fetchDesc t opcode phase again d) := by
  unfold Machine.fetchDesc
  extract_lets r retrying hif t1
  have h1 : RunStays s t1 := h.kept (by simp [t1, hif])
  exact .ite h <| .ite (h.kept (by simp)) <| .ite h <| .ite (h.kept (by simp)) <| .ite h1 <| .ite h1 (h1.acceptFetched ..)

theorem submit {sp : OpSpec} (h : RunStays s t) (hsp : sp ∈ opSpecs) (d : Desc) : RunStays s (submit sp t d) := by
  unfold Machine.submit
  exact .ite h (h.acceptDesc hsp ..)

theorem firstDue {w : Waiting} {sp : OpSpec} (h : RunStays s t) (hd : firstDue u = some (w, sp)) :
    RunStays s (sp.apply (removeWaiting t w.aseq) w) := by
  obtain ⟨x, -, hx⟩ := List.exists_of_findSome?_eq_some hd
  split at hx
  next sp' hs =>
    split at hx
    · cases hx
      exact (h.within (within_removeWaiting _ _)).opSpec (List.mem_of_find?_eq_some hs) w
    · cases hx
  next => cases hx

theorem of_exec {c : Instr} (h : exec c s = .next t) (he : exec c s = .next u) (hu : RunStays s u) : RunStays s t := by
  cases he.symm.trans h
  exact hu

end RunStays

/-- No command but a reset or a power-on starts or ends the run of a time base that runs, or moves its counters. -/
theorem runStays_exec {c : Instr} {s t : State} (hp : c ≠ .aoPowerOn) (hv : c ≠ .vddAoLow) (hr : c ≠ .resetAssert)
    (hrun : s.tb.running = true) (h : exec c s = .next t) : RunStays s t := by
  have hs := RunStays.refl s
  by_cases hm : Part.tb ∈ mayChange c
  case neg => exact .of_tb ((kept_exec h).frame .tb (Bool.eq_false_iff.2 (mt (testBit_partSet _ _).1 hm)))
  cases c with
  | aoPowerOn => exact absurd rfl hp
  | vddAoLow => exact absurd rfl hv
  | resetAssert => exact absurd rfl hr
  | tbClockStop => exact .of_exec h rfl (.ite hs.stopClock hs)
  | oscinLoss =>
    refine .of_exec h rfl (.ite hs (.within (.endBounds ?_) (within_check _ _ _)))
    exact (hs.within (within_putB _ _ _)).within (within_setFlag _ _)
  | apllLossOfLock k =>
    have hk (cause : Nat) : RunStays s (startRelock s k cause) := hs.within (within_startRelock _ _ _)
    exact .of_exec h rfl (.ite hs (.within (.within (.ite (hk _).endBounds (hk _)) (within_setFlag _ _)) (within_check _ _ _)))
  | apllLock k =>
    refine .of_exec h rfl (.ite hs ?_)
    simp only [hrun, Bool.not_true, Bool.and_false, Bool.false_eq_true, if_false]
    exact hs.kept (by simp)
  | glossPublication tc1 steer other => exact .of_exec h rfl (.ite (hs.applyTenseDue.publication ..) hs)
  | qualHoldoffExpiry i => exact .of_exec h rfl (.ite (hs.evalOne i) hs)
  | dqHoldoffExpiry i => exact .of_exec h rfl (.ite (hs.evalOne i) hs)
  | refLosTimeout i => exact .of_exec h rfl (.ite (.evalOne (.ite (hs.within (within_netComponents _ _)) hs) i) hs)
  | waitToRestore =>
    refine .of_exec h rfl (.ite ?_ hs)
    split
    · exact .ite hs hs.reselect
    · exact hs
  | tnsStep d => exact .of_exec h rfl (hs.submit (by simp [opSpecs]) d)
  | effectiveTimeReached =>
    refine .of_exec h rfl ?_
    split
    next w sp hd => exact hs.firstDue hd
    next => exact hs
  | descriptorAccept op phase d => exact .of_exec h rfl (hs.fetchDesc ..)
  | phaseRetry op phase d => exact .of_exec h rfl (hs.fetchDesc ..)
  | _ => simp [mayChange] at hm

/-- Settles O50: no command but those named stops the run or moves the counters, and the passing of a cycle leaves it running. -/
theorem onlyResetsStopTheTimeBase : Obligations.OnlyResetsStopTheTimeBase := by
  refine ⟨fun c s t hp hv hr h hrun => ?_, fun s t hq h hrun => ?_⟩
  · obtain ⟨running, cyc, ao⟩ := runStays_exec hp hv hr hrun h
    exact ⟨running.trans hrun, cyc, ao⟩
  · cases (step_of_empty hq).symm.trans h
    rw [tick_tb]
    exact hrun

end Sys2Proof.Machine
end

section
/-!
The reference inputs: measurement channels (O7), REFIN_SET (O8) and the 1PPS+ToD input (O9).
-/

namespace Sys2Proof.Machine

@[simp] theorem State.flagIf_false (s : State) (f : FlagBit) : s.flagIf false f = s := rfl

@[simp] theorem State.get_setTod (s : State) (f : Tod → Tod) (g : Field) : (s.setTod f).get g = s.get g := rfl

@[simp] theorem tooSoon_of_no_stop {x : Ch} {t : Int} (h : x.lastStop = none) : tooSoon x t = false := by
  simp [tooSoon, h]

/-! ### Windows and their edges (R64–R68, R74, R87) -/

section
variable {s : State} {c : Nat}

theorem hasEpochs_of_atEpoch {x : ChSet} (h : atEpoch s x = true) : x.hasEpochs = true :=
  (Bool.and_eq_true_iff.1 h).1

/-- Between its epochs a window goes on. -/
theorem windowClose_between (hm : measuring s = true) (he : (s.ch c).set.hasEpochs = true) (ha : atEpoch s (s.ch c).set = false) :
    windowClose s c = s := by
  simp [windowClose, hm, he, ha]

theorem windowClose_at_epoch (hm : measuring s = true) (ha : atEpoch s (s.ch c).set = true) : windowClose s c = closeWindow s c := by
  simp [windowClose, hm, hasEpochs_of_atEpoch ha, ha]

theorem endWindow_of_open (ho : (s.ch c).isOpen = true) (ht : (s.ch c).openAt ≠ s.freeNs) :
    endWindow s c = publishWindow (countTdcWindows s c) c :=
  if_pos (by simp [ho, ht])

/-- A window with no write waiting is followed by one under the same settings. -/
theorem closeWindow_unchanged (ht : (s.ch c).openAt ≠ s.freeNs) (hc : (s.ch c).changed = false) :
    closeWindow s c = openWindow (endWindow s c) c ((endWindow s c).ch c).set := by
  simp [closeWindow, ht, hc]

/-- An edge that the divider selects, with room for its stop, on a calibrated TDC that is free, outside the calibration interval. -/
theorem countEdge_stamped {code : Nat} (hb : inCalInterval s (s.ch c).set = false) (hok : (s.ch c).calOk = true)
    (hd : (s.ch c).numbered % (s.ch c).set.div = 0) (hn : (s.ch c).numbered / (s.ch c).set.div < 32)
    (hl : (s.ch c).lastStop = none) (hp : (s.ch c).set.pps = false) :
    countEdge s c code false = s.setCh c { s.ch c with
      edges := (s.ch c).edges + 1, numbered := (s.ch c).numbered + 1,
      stops := (s.ch c).stops ++ [(stopStamp s c code (s.ch c).c1 (s.ch c).c2, (s.ch c).numbered)],
      lastStop := some (freeStop s c code (s.ch c).c1 (s.ch c).c2) } := by
  simp [countEdge, hb, hok, hd, Nat.not_le.2 hn, hl, hp]

theorem inputEdge_of_open {code : Nat} {g : Bool} (hm : measuring s = true) (he : (s.ch c).set.hasEpochs = true)
    (ha : atEpoch s (s.ch c).set = false) (ho : (s.ch c).isOpen = true) : inputEdge s c code g = countEdge s c code g := by
  simp [inputEdge, hm, windowClose_between hm he ha, ho]

end

/-! ### Calibration (R69–R71) -/

theorem takeCalibration_of_valid (s : State) (c : Nat) {c1 c2 : Nat} (hv : calValid c1 c2 = true) :
    takeCalibration s c c1 c2 =
      reportCal (noteTrim (s.setCh c { s.ch c with next := some (c1, c2), badNext := false }) c (c2 - c1)) c c1 c2 := by
  simp [takeCalibration, hv]

section
variable {s : State} {c1 c2 : BitVec 12}

theorem exec_tdcCalibration {c : Fin 16} (hm : measuring s = true) (hi : inCalInterval s (s.ch c).set = true) :
    exec (.tdcCalibration c c1 c2) s = .next (takeCalibration s c c1.toNat c2.toNat) := by
  show Host.Outcome.next _ = _
  simp [hm, hi]

theorem exec_evtCalibration_of_valid {e : Fin 8} (hm : measuring s = true) (hg : onGrid s (16 + e) = true)
    (hr : s.reached msU (500000 * 65536) = true) (hv : calValid c1.toNat c2.toNat = true) :
    exec (.evtCalibration e c1 c2) s = .next (reportCal (noteTrim (countTdcWindows (s.setCh (16 + e) { s.ch (16 + e) with
      c1 := c1.toNat, c2 := c2.toNat, calOk := true }) (16 + e)) (16 + e) (c2.toNat - c1.toNat)) (16 + e) c1.toNat c2.toNat) := by
  show Host.Outcome.next _ = _
  simp [hm, hg, hr, hv]

end

/-! ### EVENT channels (R71, R77) -/

section
variable {s : State} {c code : Nat}

/-- With POST 0 an edge of an input pin is counted alone. -/
theorem stampEvt_counted (hb : inGridInterval s = false) (hp : (s.ch c).set.post = false) (hd : (s.ch c).set.dir = false) :
    stampEvt s c code false = (s.setCh c { s.ch c with running := ((s.ch c).running + 1) % 2 ^ 32 }, none) := by
  simp [stampEvt, hb, hp, hd]

/-- With POST 1 an edge on a calibrated TDC that is free, its FIFO empty and no loss to report, is posted with its stamp. -/
theorem stampEvt_posted (hb : inGridInterval s = false) (hp : (s.ch c).set.post = true) (hok : (s.ch c).calOk = true)
    (hl : (s.ch c).lastStop = none) (hf : (s.ch c).fifo = []) (ho : (s.ch c).ovf = false) :
    stampEvt s c code false =
      let t := (stopStamp s c code (s.ch c).c1 (s.ch c).c2).toNat * 128
      let n := ((s.ch c).running + 1) % 2 ^ 32
      (postEvent (s.setCh c { s.ch c with
          running := n, fifo := [s.freeNs + fifoNs], lastStop := some (freeStop s c code (s.ch c).c1 (s.ch c).c2) })
        (s.ch c).set.evring 0x0001 c t (leBytes 4 n ++ leBytes 1 0), some t) := by
  simp [stampEvt, hb, hp, hok, hl, hf, ho, fifoAt, b2n]

/-- On an EVENT channel whose pin is an input, an edge does what `stampEvt` makes of it. -/
theorem exec_evtEdge_of_input {k : Fin 8} {g : Bool} (hm : measuring s = true) (hd : (s.ch (16 + k)).set.dir = false)
    (ht : (s.ch (16 + k)).set.type = 3) : exec (.evtEdge k code g) s = .next (stampEvt s (16 + k) code g).1 := by
  show Host.Outcome.next _ = _
  cases h : stampEvt s (16 + k) code g with
  | mk t st => cases st <;> simp [hm, hd, ht, h]

end

theorem exec_inputEdge (c : Fin 16) (code : BitVec 12) (g : Bool) (s : State) :
    exec (.inputEdge c code g) s = .next (settle (inputEdge s c code.toNat g)) := rfl

theorem exec_windowClose (c : Fin 24) (s : State) :
    exec (.windowClose c) s = .next (
      if (windowClose s c).get (Reg.RES_STAT_SEQ c) = s.get (Reg.RES_STAT_SEQ c) then windowClose s c
      else comparePch (windowClose s c) c) := rfl

theorem exec_refinChWrite {c : Fin 24} {k : Fin 7} {v : Word} {s : State} (h : s.mode = .setup) :
    exec (.refinChWrite c k v) s = .next (storeChSetting s c k v.toNat) :=
  congrArg Host.Outcome.next (if_pos h)

/-- Settles O7: each clause is what its row's meaning answers under the clause's hypotheses. -/
theorem measurementChannelsAct : Obligations.MeasurementChannelsAct := by
  refine ⟨fun c code s hm ho hb hok hd hn he ha hl hp => ?_, fun c c1 c2 s hm hi hv => ?_, fun e c1 c2 s => exec_evtCalibration_of_valid,
    fun c s hm ha ho ht hc => ⟨_, _, rfl, rfl, ?_⟩, fun k code s hm hd ht hp hb => ?_, fun k code s hm hd ht hp hb hok hl hf hv => ?_,
    fun c k v s hs => ⟨_, rfl, exec_refinChWrite hs⟩⟩
  · rw [exec_inputEdge, inputEdge_of_open hm he ha ho, countEdge_stamped hb hok hd hn hl hp]
  · rw [exec_tdcCalibration hm hi, takeCalibration_of_valid s c hv]
  · rw [exec_windowClose, windowClose_at_epoch hm ha, closeWindow_unchanged ht hc, endWindow_of_open ho ht]
  · rw [exec_evtEdge_of_input hm hd ht, stampEvt_counted hb hp hd]
  · rw [exec_evtEdge_of_input hm hd ht, stampEvt_posted hb hp hok hl hf hv]

/-! ### REFIN_SET (R86–R88) -/

theorem refOfCh_taken (s : State) (d : Desc) (c : Nat) : refOfCh (taken s d) c = refOfCh s c := by
  simp [refOfCh, isPpsCh, State.bit, get_taken (s := s) (d := d) (g := Reg.TOD_CFG_EN) (by decide) (by decide),
    get_taken (s := s) (d := d) (g := Reg.TOD_CFG_PPS_CH) (by decide) (by decide)]

theorem isSrc_taken (s : State) (d : Desc) (i : Nat) : isSrc (taken s d) i = isSrc s i := by
  simp [isSrc, State.bit, get_taken (s := s) (d := d) (g := Reg.SEL_STAT_SRC_V) (by decide) (by decide),
    get_taken (s := s) (d := d) (g := Reg.SEL_STAT_SRC) (by decide) (by decide)]

/-- Without FORCE, on a windowed channel whose reference is not SRC, REFIN_SET refuses nothing and disqualifies nothing. -/
theorem refinSet_apply {s : State} {w : Waiting} (hs : isSrc s (refOfCh s (w.d.u8 16)) = false) (hf : bitOf (w.d.u8 17) 0 = false)
    (hc : w.d.u8 16 < 16) :
    refinSetOp.apply s w =
      let u := takeIn (refinStore (endWindow s (w.d.u8 16)) w.d) (w.d.u8 16)
      finishDesc u w St.ok (leBytes 1 ((u.get (Reg.RES_STAT_SEQ (w.d.u8 16)) + 1) % 256)) := by
  simp [refinSetOp, hs, hf, hc, Nat.not_le.2 hc]

/-- Settles O8: an accepted REFIN_SET is applied at once, and acceptance leaves the registers that name SRC. -/
theorem refinSetApplies : Obligations.RefinSetApplies := by
  intro s d ha hs hf hc
  refine ⟨_, rfl, congrArg Host.Outcome.next (ha.submit.trans ?_)⟩
  exact refinSet_apply (w := takenAs s d refinSetOp.opcode) ((isSrc_taken ..).trans (refOfCh_taken s d _ ▸ hs)) hf hc

/-! ### The 1PPS+ToD input (R80–R82) -/

section
variable {s : State} {l : TodLabel} {p : Nat}

theorem todMessage_misframed {good known : Bool} (hm : measuring s = true) (he : s.bit Reg.TOD_CFG_EN = true) :
    todMessage s false good known l = s.setFlag Flag.TOD_FRAMING := by
  simp [todMessage, hm, he]

theorem todMessage_corrupt {known : Bool} (hm : measuring s = true) (he : s.bit Reg.TOD_CFG_EN = true) :
    todMessage s true false known l = s.setFlag Flag.TOD_CKSUM := by
  simp [todMessage, hm, he]

/-- The first label of all breaks no sequence of seconds. -/
theorem pairLabel_first (h : s.refin.tod.lastSec = none) :
    pairLabel s l = s.setTod (fun t => { t with lastSec := some l.sec, run := 1, paired := some l }) := by
  simp [pairLabel, h]

/-- With LABEL 0 the first message between 1 ms and 990 ms after a pulse whose window is still open names it. -/
theorem todMessage_labels (hm : measuring s = true) (he : s.bit Reg.TOD_CFG_EN = true) (hl : s.bit Reg.TOD_CFG_LABEL = false)
    (hp : s.refin.tod.pulse = some p) (hlo : 1000000 ≤ s.freeNs - p) (hhi : s.freeNs - p ≤ 990000000)
    (hn : s.refin.tod.paired = none) (hc : s.refin.tod.closed = false) : todMessage s true true true l = pairLabel s l := by
  simp [todMessage, hm, he, hl, hp, hlo, hhi, hn, hc]

/-- With LABEL 0 a pulse whose interval ends without a message gives its result without a label once its window has closed. -/
theorem exec_todIntervalEnd_of_closed (hm : measuring s = true) (he : s.bit Reg.TOD_CFG_EN = true)
    (hl : s.bit Reg.TOD_CFG_LABEL = false) (hp : s.refin.tod.pulse = some p) (hs : s.refin.tod.missed = false)
    (ht : p + 990000000 ≤ s.freeNs) (hn : s.refin.tod.paired = none) (hc : s.refin.tod.closed = true)
    (hd : s.refin.tod.ended = false) :
    exec .todIntervalEnd s = .next (publishTod ((s.setFlag Flag.TOD_NOTOD).setTod (fun d => { d with missed := true }))
      ((s.setFlag Flag.TOD_NOTOD).get Reg.TOD_CFG_PPS_CH)) := by
  show Host.Outcome.next _ = _
  simp [hm, he, hl, hp, hs, Nat.not_lt.2 ht, hn, hc, hd]

end

theorem exec_todMessage (framed good known : Bool) (sec : BitVec 48) (o : BitVec 16) (a b c : Bool) (q : Byte) (s : State) :
    exec (.todMessage framed good known sec o a b c q) s =
      .next (settle (todMessage s framed good known ⟨sec.toNat, q.toNat, o.toInt, a, b, c, s.freeNs⟩)) := rfl

/-- Settles O9: each clause is what its row's meaning answers under the clause's hypotheses. -/
theorem todInputActs : Obligations.TodInputActs := by
  refine ⟨fun sec o a b c q k g s hm he => ?_, fun sec o a b c q k s hm he => ?_,
    fun sec o a b c q s p hm he hl hp hlo hhi hn hs hc => ?_, fun s p => exec_todIntervalEnd_of_closed⟩
  · rw [exec_todMessage, todMessage_misframed hm he]
  · rw [exec_todMessage, todMessage_corrupt hm he]
  · rw [exec_todMessage, todMessage_labels hm he hl hp hlo hhi hn hc, pairLabel_first hs]

end Sys2Proof.Machine
end

section
/-!
The GNSS baseband: the rows of its events (O10) and its commands, accepted (O11).
-/

namespace Sys2Proof.Machine

/-! ### Solutions (R101) -/

section
variable {e : EpochIn} {s : State}

theorem exec_gnssSolution (e : EpochIn) (s : State) :
    exec (.gnssSolution e) s = .next (
      if !gnssRuns s || bitOf s.sys.engReset 19 || s.gns.epoch = some (latestEpoch s).2.1 then s
      else
        let u := e.chans.foldl (latchChan (latestEpoch s).2.1) (s.setGns (fun g => { g with epoch := some (latestEpoch s).2.1 }))
        settle (runEpoch (showBand e (showBand e u 0) 1) e (latestEpoch s).1 (latestEpoch s).2.1 (latestEpoch s).2.2)) := rfl

/-- An epoch not yet latched: its channels, its bands, then all that an epoch does. -/
theorem exec_gnssSolution_of_new (hr : gnssRuns s = true) (hg : bitOf s.sys.engReset 19 = false)
    (hn : s.gns.epoch ≠ some (latestEpoch s).2.1) :
    exec (.gnssSolution e) s =
      let u := e.chans.foldl (latchChan (latestEpoch s).2.1) (s.setGns (fun g => { g with epoch := some (latestEpoch s).2.1 }))
      .next (settle (runEpoch (showBand e (showBand e u 0) 1) e (latestEpoch s).1 (latestEpoch s).2.1 (latestEpoch s).2.2)) := by
  rw [exec_gnssSolution, if_neg (by simp [hr, hg, hn])]

theorem exec_gnssSolution_of_latched (hl : s.gns.epoch = some (latestEpoch s).2.1) : exec (.gnssSolution e) s = .next s := by
  rw [exec_gnssSolution, if_pos (by simp [hl])]

end

/-! ### Checks (R116, R117) -/

section
variable {b : Fin 2} {s : State}

theorem exec_jamTrip_of_on {powers : List Int} (hr : gnssRuns s = true) (hb : bandOn s b = true) :
    exec (.jamTrip b powers) s = .next (powers.foldl (powerMs b) s) :=
  congrArg Host.Outcome.next (if_neg (by simp [hr, hb]))

/-- The power shown changes no register at a lower address. -/
theorem get_shown_power {k : Nat} {power : Int} {g : Field} (h : g.key < 0x501a0 * 32) :
    (s.putSat (Reg.GNSS_BAND_POWER k) power).get g = s.get g :=
  State.get_put_ne (key_ne h (by simp only [Field.key, Reg.GNSS_BAND_POWER]; omega))

/-- A ms above JAM_THR that completes JAM_HOLD of them trips JAM. -/
theorem powerMs_trips {k : Nat} {power : Int} (hp : ((5 * s.get Reg.GNSS_JAM_CFG_JAM_THR : Nat) : Int) < power)
    (hh : s.get Reg.GNSS_JAM_CFG_JAM_HOLD ≤ s.gns.jamRun.get (fun _ => 0) k + 1) :
    powerMs k s power = tripCheck ((s.putSat (Reg.GNSS_BAND_POWER k) power).setGns (fun g => { g with
      jamRun := g.jamRun.set (fun _ => 0) k (s.gns.jamRun.get (fun _ => 0) k + 1) })) k := by
  have hthr := get_shown_power (s := s) (k := k) (power := power) (g := Reg.GNSS_JAM_CFG_JAM_THR) (by decide)
  have hhold := get_shown_power (s := s) (k := k) (power := power) (g := Reg.GNSS_JAM_CFG_JAM_HOLD) (by decide)
  unfold powerMs
  simp only [hthr, if_pos hp, State.get_setGns, hhold, State.putSat_gns]
  exact if_pos (by simp [hh])

theorem exec_gnssCheckClear_of_absent {c : Fin 7} (hr : gnssRuns s = true) (ha : chkActive s c = true)
    (ht : s.gns.seenAt.get (fun _ => 0) c + s.get Reg.GNSS_CHK_ACT_CLR_HOLD * 1000000000 ≤ s.freeNs) :
    exec (.gnssCheckClear c) s = .next (journalCheck (s.putMapBit Reg.GNSS_CHK_ACTIVE_ACTIVE c false) c false) :=
  congrArg Host.Outcome.next (if_pos (by simp [hr, ha, ht]))

end

/-! ### The end of a capture (R119, R120) -/

/-- A capture frozen in slot k: the samples of the bands that are on, FULL and no longer LIVE. -/
def freezeCapture (s : State) (k : Nat) (l1 l5 : List (Fin 16 × Fin 16)) : State :=
  (((setSlot s k { s.slot k with
    bands := b2n (bandOn s 0) + 2 * b2n (bandOn s 1),
    l1 := if bandOn s 0 then (l1.take 655360).map (sampleByte s 0) else [],
    l5 := if bandOn s 1 then (l5.take 655360).map (sampleByte s 1) else [] }).putB (Reg.SNAP_STAT_FULL k) true).putB
      (Reg.SNAP_STAT_LIVE k) false).setGns (fun g => { g with run := none, live := none, frozen := g.frozen ++ [k] })

/-- The capture of slot k, frozen, is journalled with FIRST, and a free slot becomes LIVE. -/
def replaceCapture (u : State) (k first : Nat) : State :=
  pickLive (u.journal 0 0x0005 0x0502 (leBytes 1 k ++ leBytes 1 0 ++ leBytes 2 (u.get (Reg.SNAP_STAT_CAUSE k)) ++
    leBytes 8 (shortOf first)))

/-- With POLICY 1 and no slot LIVE, the oldest frozen capture but slot k's that is not locked gives up its slot. -/
def giveUpSlot (v : State) (k : Nat) : State :=
  if v.gns.live.isNone && v.bit Reg.GNSS_SNAP_CFG_POLICY then
    match v.gns.frozen.find? (fun j => j != k && !v.bit (Reg.SNAP_STAT_LOCK j)) with
    | some j => freeSlot v j
    | none => v
  else v

section
variable {s v : State} {k e j : Nat} {l1 l5 : List (Fin 16 × Fin 16)}

theorem giveUpSlot_of_kept (h : v.gns.live.isSome = true ∨ v.bit Reg.GNSS_SNAP_CFG_POLICY = false) : giveUpSlot v k = v := by
  refine if_neg ?_
  rcases h with hl | hp
  · simp [Option.isSome_iff_ne_none.1 hl]
  · simp [hp]

theorem giveUpSlot_of_oldest (hl : v.gns.live = none) (hp : v.bit Reg.GNSS_SNAP_CFG_POLICY = true)
    (hj : v.gns.frozen.find? (fun j => j != k && !v.bit (Reg.SNAP_STAT_LOCK j)) = some j) : giveUpSlot v k = freeSlot v j := by
  simp [giveUpSlot, hl, hp, hj]

theorem exec_snapCaptured_of_ended (hr : s.gns.run = some (k, e)) (he : e ≤ s.freeNs) :
    exec (.snapCaptured l1 l5) s = .next (giveUpSlot (replaceCapture (freezeCapture s k l1 l5) k (s.slot k).first) k) := by
  show Host.Outcome.next _ = _
  simp only [hr, if_neg (Nat.not_lt.2 he)]
  rfl

end

/-! ### Survey-in (R110–R113) -/

section
variable {s : State} {l : LongOp} {v : Survey}

/-- At its minimum time and its target a survey fixes the mean of its positions. -/
theorem exec_surveyDone_of_met (ho : surveyOp s = some l) (hv : s.gns.survey = some v) (hs : l.suspended = false) (hn : 0 < v.n)
    (hm : v.minS * 1000000000 ≤ surveyNs s v) (ht : v.sig ≤ v.target) :
    exec .surveyDone s = .next (endSurvey (fixPosition s (roundQ (v.sx / (v.n : Rat))) (roundQ (v.sy / (v.n : Rat)))
      (roundQ (v.sz / (v.n : Rat))) v.sig) l v St.ok) := by
  show Host.Outcome.next _ = _
  simp [ho, hv, hs, hn, hm, ht, Nat.ne_of_gt hn]

/-- At its maximum time a survey that misses its target and adopts no partial result ends with PARTIAL. -/
theorem exec_surveyDone_of_missed (ho : surveyOp s = some l) (hv : s.gns.survey = some v) (hs : l.suspended = false)
    (ht : v.target < v.sig) (hm : v.maxS * 1000000000 ≤ surveyNs s v) (hp : v.adoptPartial = false) :
    exec .surveyDone s = .next (endSurvey s l v St.partialDone) := by
  show Host.Outcome.next _ = _
  simp [ho, hv, hs, Nat.not_le.2 ht, hm, hp]

theorem exec_surveySuspendExpiry_of_old {t : Nat} (hv : s.gns.survey = some v) (ht : v.susp = some t)
    (ho : t + 86400 * 1000000000 < s.freeNs) :
    exec .surveySuspendExpiry s = .next (setSurvey s (some { v with n := 0, sx := 0, sy := 0, sz := 0, sig := 0, acc := 0 })) := by
  show Host.Outcome.next _ = _
  simp only [hv, ht, if_pos ho]

end

/-! ### Bands and channels (R94–R100) -/

section
variable {b : Fin 2} {bits : Byte} {n : Fin 128} {s : State}

/-- A stuck bit of a band that is on is timed, and reported once. -/
theorem exec_bandStuck_of_seen (hr : gnssRuns s = true) (hb : bandOn s b = true) (hn : bits ≠ 0) :
    exec (.bandStuck b bits) s =
      let u := s.setGns (fun g => { g with stuckAt := g.stuckAt.set (fun _ => 0) b s.freeNs })
      .next (if s.bit (Reg.GNSS_BAND_STUCK b) then u
        else (check (u.putB (Reg.GNSS_BAND_STUCK b) true) (0x0A + b) true).journal 2 0x0005 0x0506
          (leBytes 1 (if b.val = 0 then 1 else 5) ++ [bits])) :=
  congrArg Host.Outcome.next (if_neg (by simpa [hr, hb] using hn))

theorem exec_stuckClear_of_absent (hs : s.bit (Reg.GNSS_BAND_STUCK b) = true)
    (ht : s.gns.stuckAt.get (fun _ => 0) b + 1000000000 ≤ s.freeNs) :
    exec (.stuckClear b) s = .next (s.putB (Reg.GNSS_BAND_STUCK b) false) :=
  congrArg Host.Outcome.next (if_pos (by simp [hs, ht]))

/-- Twenty ms of side peaks on a tracked BOC signal move its channel. -/
theorem exec_sidePeakSlip_of_peaks {run l : List Corr} {c : Corr} (hl : run.reverse = c :: l) (hn : 19 ≤ l.length)
    (hp : (c :: l.take 19).all sidePeak = true) (hr : gnssRuns s = true) (hb : isBoc s n = true) (ht : tracking s n = true) :
    exec (.sidePeakSlip n run) s = .next (setChan s n { s.chan n with
      moved := (s.chan n).moved + if corrPower c.ve < corrPower c.vl then 1 else -1 }) := by
  have hlast : run.reverse.take 20 = c :: l.take 19 := by rw [hl, List.take_succ_cons]
  have hlen : (c :: l.take 19).length = 20 := by simp [hn]
  show Host.Outcome.next _ = _
  simp only [hlast, hr, hb, ht, hlen, hp, decide_true, Bool.and_self, if_true]

/-- A channel that has a signal once the free ones are assigned goes idle or shows its state and C/N0. -/
theorem exec_channelAcquired {sky : List SkySat} {sick : List (Fin 4 × Byte)} {st : Fin 5} {cn0 : Byte} (hr : gnssRuns s = true)
    (hs : (assignChans s sky sick).get (Reg.CHN_STAT_STATE n) ≠ 0) :
    exec (.channelAcquired sky sick n st cn0 false) s = .next (
      if st.val = 0 then idleChan (assignChans s sky sick) n
      else ((assignChans s sky sick).put (Reg.CHN_STAT_STATE n) st).put (Reg.CHN_STAT_CN0 n) cn0.toNat) := by
  show Host.Outcome.next _ = _
  simp [hr, hs]

end

/-- Settles O10: each clause is what its row's meaning answers under the clause's hypotheses. -/
theorem gnssEventsAct : Obligations.GnssEventsAct := by
  refine ⟨fun e s hr hg hn => ⟨_, rfl, exec_gnssSolution_of_new hr hg hn⟩, fun e s => exec_gnssSolution_of_latched,
    fun b powers s => exec_jamTrip_of_on, fun b power s hp hr hb hh => ⟨_, rfl, ?_⟩, fun c s => exec_gnssCheckClear_of_absent,
    fun l1 l5 s k e hr he => ⟨freezeCapture s k l1 l5, _, rfl, rfl, fun hk => ?_, fun j hl hp hj => ?_⟩,
    fun s l v => exec_surveyDone_of_met, fun s l v => exec_surveyDone_of_missed, fun s v t => exec_surveySuspendExpiry_of_old,
    fun b bits s hr hb hn hs => ?_, fun b bits s hr hb hn hs => ?_, fun b s => exec_stuckClear_of_absent,
    fun n run c l s => exec_sidePeakSlip_of_peaks, fun sky sick n st cn0 s hr hs hst => ?_, fun sky sick n cn0 s => exec_channelAcquired⟩
  · rw [exec_jamTrip_of_on hr hb, List.foldl_cons, List.foldl_nil, powerMs_trips hp hh]
  · exact (exec_snapCaptured_of_ended hr he).trans (congrArg Host.Outcome.next (giveUpSlot_of_kept hk))
  · exact (exec_snapCaptured_of_ended hr he).trans (congrArg Host.Outcome.next (giveUpSlot_of_oldest hl hp hj))
  · simp only [exec_bandStuck_of_seen hr hb hn, hs, if_true]
  · simp only [exec_bandStuck_of_seen hr hb hn, hs, Bool.false_eq_true, if_false]
  · rw [exec_channelAcquired hr hs, if_neg (Fin.val_ne_zero_iff.2 hst)]

/-! ### The commands (R111, R114, R122–R125) -/

/-- Checks made one after the other: one that answers OK passed the second. -/
theorem second_check_passed {a b : Prop} [Decidable a] [Decidable b] {x y : Nat} (hx : x ≠ 0) (hy : y ≠ 0)
    (h : (if a then x else if b then y else 0) = 0) : ¬ b := by
  split at h
  · exact absurd h hx
  · exact fun hb => hy (by rwa [if_pos hb] at h)

section
variable {s : State} {w : Waiting} {d : Desc} {k : Nat}

theorem surveyIn_apply (h : ¬ (surveyOp s).isSome = true) :
    surveyInOp.apply s w =
      startLong (setSurvey s (some (newSurvey s (w.d.u32 16) (w.d.u32 20) (w.d.u16 24) (bitOf (w.d.u8 26) 0)))) w 0 :=
  if_neg h

theorem posSet_apply (h : ¬ (surveyOp s).isSome = true) :
    posSetOp.apply s w = finishDesc (fixPosition s (w.d.s32 16) (w.d.s32 20) (w.d.s32 24) (w.d.u16 28)) w St.ok [] :=
  if_neg h

/-- With no capture running a trigger starts one on the LIVE slot and answers it. -/
theorem triggerSnap_slot_of_live {cause pre c : Nat} {tag : Option Nat} (hr : s.gns.run = none) (hl : s.gns.live = some (k, c)) :
    (triggerSnap s cause pre tag).2 = some k := by
  simp [triggerSnap, hr, hl]

theorem snapshot_apply (h : (triggerSnap s 0x80 (w.d.u8 16) (some w.d.tag.toNat)).2 = some k) :
    snapshotOp.apply s w = finishDesc (triggerSnap s 0x80 (w.d.u8 16) (some w.d.tag.toNat)).1 w St.ok (leBytes 8 k) := by
  dsimp only [snapshotOp]
  generalize triggerSnap s 0x80 (w.d.u8 16) (some w.d.tag.toNat) = p at h
  obtain ⟨t, o⟩ := p
  cases h
  rfl

theorem snapExport_apply (h : ¬ (!s.bit (Reg.SNAP_STAT_FULL (w.d.u8 16))) = true) :
    snapExportOp.apply s w = openDesc (s.putB (Reg.SNAP_STAT_LOCK (w.d.u8 16)) true) w (w.d.u8 16) :=
  if_neg h

/-- A slot that SNAP_RELEASE accepts is FULL and not locked. -/
theorem snapRelease_slot (h : snapReleaseOp.check s d = 0) :
    s.bit (Reg.SNAP_STAT_FULL (d.u8 16)) = true ∧ s.bit (Reg.SNAP_STAT_LOCK (d.u8 16)) = false := by
  simp only [snapReleaseOp, ite_eq_right_iff, Bool.or_eq_true] at h
  have hno := mt h (by decide)
  simp only [not_or, Bool.not_eq_true, Bool.not_eq_false'] at hno
  obtain ⟨⟨-, hfull⟩, hlock⟩ := hno
  exact ⟨hfull, hlock⟩

theorem snapRelease_apply (hf : s.bit (Reg.SNAP_STAT_FULL (w.d.u8 16)) = true) (hl : s.bit (Reg.SNAP_STAT_LOCK (w.d.u8 16)) = false) :
    snapReleaseOp.apply s w = finishDesc (freeSlot s (w.d.u8 16)) w St.ok [] :=
  if_neg (by simp [hf, hl])

/-- Without FORCE, and with no GNSS reference as SRC, GNSS_SET refuses nothing and disqualifies nothing. -/
theorem gnssSet_apply (h16 : isSrc s 16 = false) (h17 : isSrc s 17 = false) (h18 : isSrc s 18 = false)
    (hf : bitOf (w.d.u8 16) 0 = false) :
    gnssSetOp.apply s w = finishDesc (gnssSetAddrs.zipIdx.foldl (fun s p => if bitOf (w.d.u16 18) p.2 then
      s.storeWord p.1 (w.d.u32 (20 + 4 * p.2)) else s) s) w St.ok [] := by
  simp [gnssSetOp, h16, h17, h18, hf]

/-- The copies of a slot end: the image stands at every address asked for, the slot is unlocked and, where a descriptor asked for it, freed. -/
theorem exec_snapExportDone {k : Fin 3} (hl : exportsOf s k ≠ []) (hd : s.dmaOk = true) :
    exec (.snapExportDone k) s =
      let t := ((exportsOf s k).foldl (fun t o => hostWrite t (o.d.u64 24) (snapImage s k)) s).putB (Reg.SNAP_STAT_LOCK k) false
      .next (closeOpens (if (exportsOf s k).any (fun o => bitOf (o.d.u8 17) 0) then freeSlot t k else t) 0x0224 k St.ok []) :=
  congrArg Host.Outcome.next (if_neg (by simp [hl, hd]))

end

/-- Settles O11: an accepted command is applied at once, and what its checks passed at acceptance its application finds. -/
theorem gnssCommandsAct : Obligations.GnssCommandsAct := by
  refine ⟨fun s d ha => congrArg Host.Outcome.next (ha.submit.trans ?_), fun s d ha => congrArg Host.Outcome.next (ha.submit.trans ?_),
    fun s d k c ha hr hl => congrArg Host.Outcome.next (ha.submit.trans ?_),
    fun s d ha => congrArg Host.Outcome.next (ha.submit.trans ?_), fun k s o ho hd hf => ?_, fun k s hl hd hf => ?_,
    fun s d ha => congrArg Host.Outcome.next (ha.submit.trans ?_),
    fun s d ha h16 h17 h18 hf => congrArg Host.Outcome.next (ha.submit.trans ?_)⟩
  · exact surveyIn_apply (second_check_passed (by decide) (by decide) ha.check)
  · exact posSet_apply (second_check_passed (by decide) (by decide) ha.check)
  · exact snapshot_apply (triggerSnap_slot_of_live hr hl)
  · exact snapExport_apply (second_check_passed (by decide) (by decide) ha.check)
  · have hl : exportsOf s k ≠ [] := by simp [ho]
    simp [exec_snapExportDone hl hd, ho, hf]
  · simp only [exec_snapExportDone hl hd, hf, if_true]
  · obtain ⟨hfull, hlock⟩ := snapRelease_slot ha.check
    exact snapRelease_apply hfull hlock
  · exact gnssSet_apply ((isSrc_taken ..).trans h16) ((isSrc_taken ..).trans h17) ((isSrc_taken ..).trans h18) hf

end Sys2Proof.Machine
end

section
/-!
Reference selection: the rows of references, ESMC and the port PTP clients (O12), and SEL_SET and SEL_FORCE, accepted (O13).
-/

namespace Sys2Proof.Machine

/-! ### Hold-offs, LOS and drift (R134–R136, R142) -/

section
variable {s : State} {i : Fin 32}

theorem exec_qualHoldoffExpiry_of_due (ht : tenseMode s = true) (ha : s.atMs = true) (hr : selRuns s = true)
    (hq : refState s i = 2) (hd : holdDue s i = true) : exec (.qualHoldoffExpiry i) s = .next (reselect (evalState s i)) :=
  congrArg Host.Outcome.next (if_pos (by simp [ht, ha, hr, hq, hd]))

theorem exec_dqHoldoffExpiry_of_due (ht : tenseMode s = true) (ha : s.atMs = true) (hr : selRuns s = true)
    (hq : isQual s i = true) {k : Nat} (hd : dqDue s i = some k) :
    exec (.dqHoldoffExpiry i) s = .next (reselect (evalState s i)) :=
  congrArg Host.Outcome.next (if_pos (by simp [ht, ha, hr, hq, hd]))

/-- Of the references whose measurements have stopped, a network reference shows its components before its state is evaluated. -/
theorem exec_refLosTimeout_of_due (ht : tenseMode s = true) (ha : s.atMs = true) (hr : selRuns s = true) (hd : losDue s i = true)
    (hi : 16 ≤ i.val ∧ i.val ≤ 18 ∨ 20 ≤ i.val ∧ i.val ≤ 27 ∨ i.val = 30) :
    exec (.refLosTimeout i) s = .next (reselect (evalState (if 20 ≤ i.val && i.val ≤ 27 then netComponents s i else s) i)) :=
  congrArg Host.Outcome.next (if_pos (by simp [ht, ha, hr, hd, or_assoc, hi]))

theorem exec_driftSample_at_second (ht : tenseMode s = true) (ha : s.atSec = true) (hr : selRuns s = true) :
    exec .driftSample s = .next (((List.range 32).filter (fun i => refState s i != 0)).foldl driftSample s) :=
  congrArg Host.Outcome.next (if_pos (by simp [ht, ha, hr]))

end

/-! ### ESMC (R156) -/

section
variable {s : State} {p : Fin 8}

theorem exec_esmcPduRx_of_read {ssm : BitVec 4} {essm : Option Byte} {eeec eec : Byte} (ht : tenseMode s = true)
    (hr : readsEsmc s p = true) (hl : link s p = 3) :
    exec (.esmcPduRx p ssm essm eeec eec) s =
      let u := esmcPdu s p ssm.toNat (essm.map (fun b => b.toNat))
      .next (settle (esmcLevels { u with syn := { u.syn with casc := u.syn.casc.set (fun _ => (0, 0)) p (eeec.toNat, eec.toNat) } })) :=
  congrArg Host.Outcome.next (if_neg (by simp [ht, hr, hl]))

/-- A port's last valid PDU stands in the table with its time plus 1: 5 s after that time the level is QL-FAILED. -/
theorem esmcExpire_of_old {n : Nat} {e : Nat × Nat} (hf : s.sel.esmc.find? (fun e => e.1 = n) = some e)
    (h0 : 0 < e.2) (ht : e.2 + 5000000000 ≤ s.freeNs + 1) :
    esmcExpire s n = setQl { s with sel := { s.sel with esmc := s.sel.esmc.set (fun _ => 0) n 0 } } (20 + n) 8 := by
  have hold : e.2 - 1 + 5000000000 ≤ s.freeNs := by omega
  unfold esmcExpire
  rw [hf]
  exact if_pos hold

theorem exec_esmcTimeout (ht : tenseMode s = true) : exec (.esmcTimeout p) s = .next (esmcExpire s p) :=
  congrArg Host.Outcome.next (if_pos ht)

end

/-! ### The port PTP clients (R155, R341) -/

/-- A message without an AUTHENTICATION TLV needs no verification. -/
theorem clientAuth_of_plain {s : State} {p b : Nat} {m : PtpIn} {ok : Bool} (h : m.auth = none) :
    clientAuth s p b m ok = (s, true) := by
  simp [clientAuth, h]

section
variable {s : State} {p : Fin 8} {f : FrameIn} {ok : Bool} {tr : Nat} {m : PtpIn}

theorem exec_ptpClientRx_of_timing (hf : f.pay = .ptp tr m) (hc : clientRuns s p = true) (hl : link s p = 3)
    (hv : ptpViolation s (clientBinding s p) tr m = none) (hm : mayMaster s p f.ip m.sender = true) (ht : m.type ∈ [0, 8, 9])
    (ha : m.auth = none) (hs : (s.client p).master = some m.sender) :
    exec (.ptpClientRx p f ok) s = .next (settle (clientTiming s p (ingressStamp s p f.edge f.ui) m)) := by
  have hann : m.type ≠ 0xB := fun h => by simp [h] at ht
  have htype : m.type ∈ [0, 8, 9, 0xB] := List.mem_append_left [0xB] ht
  show execPtpClientRx p f ok s = _
  simp [execPtpClientRx, hf, hc, hl, hv, hm, htype, clientAuth_of_plain ha, hann, hs]

theorem exec_ptpClientRx_of_announce {a : Ann} (hf : f.pay = .ptp tr m) (hc : clientRuns s p = true) (hl : link s p = 3)
    (hv : ptpViolation s (clientBinding s p) tr m = none) (hm : mayMaster s p f.ip m.sender = true) (ht : m.type = 0xB)
    (hn : m.ann = some a) (ha : m.auth = none) : exec (.ptpClientRx p f ok) s = .next (settle (clientAnnounce s p a f m)) := by
  show execPtpClientRx p f ok s = _
  simp [execPtpClientRx, hf, hc, hl, hv, hm, ht, clientAuth_of_plain ha, hn]

/-- A client none of whose grants lasts longer than 60 s asks for all of them, in one message to the master it holds. -/
theorem exec_unicastGrantRequest_of_all {len e t : Nat} {l : List Nat} {a : Ann} (hc : clientRuns s p = true)
    (he : s.bit (Reg.PB_CFG_EN (clientBinding s p)) = true) (ht : s.get (Reg.PB_CFG_TYPE (clientBinding s p)) = 3)
    (hl : link s p = 3) (hs : ownSeal s (clientBinding s p) = some false) (hg : enginesOf s 4 = e :: l)
    (hm : (s.client p).masters.find? (fun a => some a.1.ident = (s.client p).master) = some (a, t))
    (hu : isGroup (targetOf s p) = false)
    (ha : ∀ g ∈ grantAsks s p, (s.client p).grants.get (fun _ => 0) g.type ≤ s.freeNs + 60000000000) :
    exec (.unicastGrantRequest p len) s = .next (sendUnbooked (s.setClient p { s.client p with nsig := (s.client p).nsig + 1 })
      (targetOf s p) (.ptp { ptpBase s (clientBinding s p) (targetOf s p) 0xC (s.client p).nsig with
        env := ⟨a.mac, none, masterIp s p⟩, unicast := true, sigs := grantAsks s p }) len none none) := by
  have hasks : (grantAsks s p).filter (fun g => (s.client p).grants.get (fun _ => 0) g.type ≤ s.freeNs + 60000000000) =
      grantAsks s p := List.filter_eq_self.2 (by simpa using ha)
  have hsome : (grantAsks s p).isEmpty = false := rfl
  show execUnicastGrantRequest p len s = _
  simp [execUnicastGrantRequest, hasks, hsome, hc, he, ht, hl, hs, hg, hm, hu]

end

/-- Settles O12: each clause is what its row's meaning answers under the clause's hypotheses. -/
theorem referenceEventsAct : Obligations.ReferenceEventsAct := by
  refine ⟨fun i s => exec_qualHoldoffExpiry_of_due, fun i k s ht ha hr hq hd => exec_dqHoldoffExpiry_of_due ht ha hr hq hd,
    fun i s ht ha hr hi hd => ?_, fun i s ht ha hr hi hd => ?_, fun s => exec_driftSample_at_second,
    fun p ssm essm eeec eec s => exec_esmcPduRx_of_read, fun p e s ht hf he h0 => ?_, fun p f ok tr m s => exec_ptpClientRx_of_timing,
    fun p f ok tr m a s => exec_ptpClientRx_of_announce, fun p len e l a t s => exec_unicastGrantRequest_of_all⟩
  · have hnet : ¬ (20 ≤ i.val && i.val ≤ 27) = true := by simp only [Bool.and_eq_true, decide_eq_true_eq]; omega
    rw [exec_refLosTimeout_of_due ht ha hr hd (hi.imp_right .inr), if_neg hnet]
  · rw [exec_refLosTimeout_of_due ht ha hr hd (.inr (.inl hi)), if_pos (by simpa using hi)]
  · rw [exec_esmcTimeout ht, esmcExpire_of_old hf h0 he]

/-! ### SEL_SET and SEL_FORCE (R157–R159) -/

section
variable {s : State} {w : Waiting}

/-- SEL_SET refuses nothing and disqualifies nothing on a reference that no target names. -/
theorem selSet_apply (h : isNamed s (w.d.u8 16) = false) : selSetOp.apply s w = finishDesc (selStore s w.d) w St.ok [] := by
  simp [selSetOp, h]

theorem selForce_apply_end {t : Nat} (h : w.d.u8 16 = 0) (ht : w.d.u8 18 = t) :
    selForceOp.apply s w = finishDesc (setForced s t none) w St.ok [] :=
  ht ▸ if_pos h

/-- A candidate is forced for the frequency target always, for the time target where it is within the jump limit. -/
theorem selForce_apply_candidate (h : w.d.u8 16 = 1) (hc : isCand s (w.d.u8 18) (w.d.u8 17) = true)
    (hj : w.d.u8 18 = 1 ∨ withinJump s (w.d.u8 17) = true) :
    selForceOp.apply s w = finishDesc (setForced s (w.d.u8 18) (some (w.d.u8 17))) w St.ok [] := by
  rcases hj with ht | hj
  · rw [ht] at hc
    simp [selForceOp, h, hc, ht]
  · simp [selForceOp, h, hc, hj]

/-- The last two actions lock the reference out and let it in again. -/
theorem selForce_apply_lockout (h : w.d.u8 16 = 2 ∨ w.d.u8 16 = 3) :
    selForceOp.apply s w = finishDesc (s.putMapBit Reg.SEL_LOCK_LOCKOUT (w.d.u8 17) (w.d.u8 16 = 2)) w St.ok [] := by
  rcases h with h | h <;> simp [selForceOp, h]

end

/-- Settles O13: an accepted command is applied at once, and its application does what each clause says. -/
theorem selectionCommandsAct : Obligations.SelectionCommandsAct := by
  refine ⟨fun s d ha hn => congrArg Host.Outcome.next (ha.submit.trans ?_),
    fun s d ha h0 ht => congrArg Host.Outcome.next (ha.submit.trans ?_),
    fun s d ha h1 hc hj => congrArg Host.Outcome.next (ha.submit.trans ?_),
    fun s d ha h23 => congrArg Host.Outcome.next (ha.submit.trans ?_)⟩
  · exact selSet_apply (w := takenAs s d selSetOp.opcode) hn
  · exact selForce_apply_end (w := takenAs s d selForceOp.opcode) h0 ht
  · exact selForce_apply_candidate (w := takenAs s d selForceOp.opcode) h1 hc hj
  · exact selForce_apply_lockout (w := takenAs s d selForceOp.opcode) h23

end Sys2Proof.Machine
end

section
/-!
Oscillator control and the temperature sensor (O5).
-/

namespace Sys2Proof.Machine

/-! ### EFC centring and frames (R194, R195) -/

/-- Mean of the deviation over the centring interval. -/
def efcMean (s : State) : Rat := s.tns.efcSum * 1000000 / (s.tns.efcNs : Rat)

/-- The code that centring asks for: the code in force, moved by at most EFC_STEP. -/
def efcWanted (s : State) : Int :=
  (s.get Reg.TNS_EFC_STAT_CODE : Int) +
    clampI (-(s.get Reg.TNS_EFC_CTL_EFC_STEP : Int)) (s.get Reg.TNS_EFC_CTL_EFC_STEP) (roundQ (efcMean s / efcGain s))

/-- The code that centring writes: the code asked for, held within MIN–MAX. -/
def efcHeld (s : State) : Int := clampI (s.get Reg.TNS_EFC_MIN_MIN) (s.get Reg.TNS_EFC_MAX_MAX) (efcWanted s)

section
variable {s : State}

/-- At the end of an interval whose mean lies beyond the band, centring starts over and writes the code held, if it is a new one. -/
theorem exec_efcCentring_of_beyond_band (ht : tenseMode s = true) (hr : bothTcReset s = false) (hm : s.get Reg.TNS_CFG_EFC_MODE = 1)
    (hl : tsState s = 2) (hf : s.tns.efcFrame = none) (hi : s.get Reg.TNS_EFC_CTL_EFC_INT ≠ 0)
    (hn : s.get Reg.TNS_EFC_CTL_EFC_INT * 1000000000 ≤ s.tns.efcNs) (hg : efcGain s ≠ 0)
    (hb : unitF (s.get Reg.TNS_EFC_BAND_EFC_BAND) 15 < absQ (efcMean s)) :
    exec .efcCentring s =
      let u := (s.setTns (fun t => { t with efcNs := 0, efcSum := 0 })).flagIf (efcWanted s != efcHeld s) Flag.TNS_EFC_LIMIT
      .next (if efcHeld s = (s.get Reg.TNS_EFC_STAT_CODE : Int) then u
        else startEfc u (efcHeld s).toNat (efcHeld s - (s.get Reg.TNS_EFC_STAT_CODE : Int))) := by
  have hrun : ¬ (!tenseMode s || bothTcReset s || s.get Reg.TNS_CFG_EFC_MODE != 1 || tsState s != 2 || s.tns.efcFrame.isSome
      || s.get Reg.TNS_EFC_CTL_EFC_INT = 0 || s.tns.efcNs < s.get Reg.TNS_EFC_CTL_EFC_INT * 1000000000) = true := by
    simp [ht, hr, hm, hl, hf, hi, hn]
  have hact : ¬ (efcGain s = 0 || absQ (efcMean s) ≤ unitF (s.get Reg.TNS_EFC_BAND_EFC_BAND) 15) = true := by
    simp [hg, hb]
  exact congrArg Host.Outcome.next ((if_neg hrun).trans (if_neg hact))

theorem exec_efcFrameEnd_of_ended {n : Int} {e : Nat} (hf : s.tns.efcFrame = some (n, e)) (he : e ≤ s.freeNs) :
    exec .efcFrameEnd s = .next (s.setTns (fun t => { t with efcFrame := none, efcPend := t.efcPend + efcGain s * (n : Rat) })) := by
  show Host.Outcome.next _ = _
  simp [hf, Nat.not_lt.2 he]

end

/-! ### Temperature readings (R196) -/

/-- A value read is stored, and the readings go on without a failure. -/
def storeTemp (s : State) (t : Int) : State :=
  let u := (s.setTns (fun n => { n with tempAsk := none })).putSat Reg.TNS_TEMP_TEMP t
  u.setTns (fun n => { n with
    tempGood := n.tempGood + 1
    temps := ((u.freeNs, u.getS Reg.TNS_TEMP_TEMP) :: n.temps).takeWhile (fun p => u.freeNs < p.1 + keepSecs * 1000000000) })

/-- The third value in a row sets TEMP_OK and ends the count of failures; before it, a count below 3 ends alone. -/
def countGoodTemp (s : State) : State :=
  if s.tns.tempGood = 3 then
    let u := (s.putB Reg.TNS_STAT_TEMP_OK true).setTns (fun n => { n with tempBad := 0 })
    if 3 ≤ s.tns.tempBad then u.journal 2 0x0008 0x020D (leBytes 1 0) else u
  else if s.tns.tempBad < 3 then s.setTns (fun n => { n with tempBad := 0 }) else s

section
variable {s : State}

theorem exec_tempRead_at_second (ht : tenseMode s = true) (he : s.bit Reg.TNS_CFG_TEMP_EN = true) (ha : s.atSec = true) :
    exec .tempRead s = .next (s.setTns (fun n => { n with
      tempAsk := some (s.get Reg.TNS_TSENS_ADDR, s.get Reg.TNS_TSENS_POINTER) })) :=
  congrArg Host.Outcome.next (if_pos (by simp [ht, he, ha]))

theorem exec_tempReadDone_of_value (h : s.tns.tempAsk ≠ none) (r : BitVec 16) :
    exec (.tempReadDone (some r)) s = .next (noteTemp (countGoodTemp (storeTemp s (tempOf s r.toNat)))) :=
  congrArg Host.Outcome.next ((if_neg (by simpa using h)).trans (apply_ite noteTemp ..).symm)

/-- A failed reading is counted; the third in a row takes TEMP_OK away, with its flag and its record. -/
theorem exec_tempReadDone_of_failure (h : s.tns.tempAsk ≠ none) :
    exec (.tempReadDone none) s =
      let u := s.setTns (fun n => { n with tempAsk := none, tempGood := 0, tempBad := n.tempBad + 1 })
      .next (if s.tns.tempBad + 1 = 3 then
        ((setLearn (u.putB Reg.TNS_STAT_TEMP_OK false) (fun l => { l with skipT := true })).setFlag Flag.TNS_TEMP_FAIL).journal 2 0x0008
          0x020D (leBytes 1 1)
      else u) :=
  congrArg Host.Outcome.next (if_neg (by simpa using h))

theorem storeTemp_shows (s : State) (t : Int) :
    (storeTemp s t).get Reg.TNS_TEMP_TEMP = satS 16 t % 2 ^ 16 ∧ (storeTemp s t).tns.tempAsk = none ∧
      (storeTemp s t).tns.tempGood = s.tns.tempGood + 1 := by
  refine ⟨?_, rfl, rfl⟩
  rw [storeTemp, State.get_setTns, State.get_putSat, if_pos rfl]
  rfl

/-- Counting changes neither the value, nor the reading asked for, nor the number of values in a row. -/
theorem countGoodTemp_keeps (s : State) :
    (countGoodTemp s).get Reg.TNS_TEMP_TEMP = s.get Reg.TNS_TEMP_TEMP ∧ (countGoodTemp s).tns.tempAsk = s.tns.tempAsk ∧
      (countGoodTemp s).tns.tempGood = s.tns.tempGood := by
  have hok : (s.putB Reg.TNS_STAT_TEMP_OK true).get Reg.TNS_TEMP_TEMP = s.get Reg.TNS_TEMP_TEMP := State.get_put_ne (by decide)
  unfold countGoodTemp
  split
  · split
    · rw [State.get_journal (by decide), State.get_setTns, State.journal_tns]
      exact ⟨hok, rfl, rfl⟩
    · exact ⟨hok, rfl, rfl⟩
  · split <;> exact ⟨rfl, rfl, rfl⟩

/-- Keeping the last good temperature changes no register, nor the count of readings. -/
theorem noteTemp_keeps (s : State) (g : Field) :
    (noteTemp s).get g = s.get g ∧ (noteTemp s).tns.tempAsk = s.tns.tempAsk ∧ (noteTemp s).tns.tempGood = s.tns.tempGood := by
  unfold noteTemp
  split <;> exact ⟨rfl, rfl, rfl⟩

end

/-- Settles O5: each clause is what its row's meaning answers under the clause's hypotheses; a value read is stored, and what follows
keeps it. -/
theorem efcAndTemperatureAct : Obligations.EfcAndTemperatureAct := by
  refine ⟨fun s ht hr hm hl hf hi hn hg hb => ⟨_, _, efcHeld s, _, rfl, rfl, rfl, rfl,
      exec_efcCentring_of_beyond_band ht hr hm hl hf hi hn hg hb⟩,
    fun s n e => exec_efcFrameEnd_of_ended, fun s => exec_tempRead_at_second,
    fun s r h => ⟨_, exec_tempReadDone_of_value h r, ?_⟩, fun s h hb => ?_, fun s h hb => ?_⟩
  · obtain ⟨hv, ha, hg⟩ := storeTemp_shows s (tempOf s r.toNat)
    obtain ⟨hcv, hca, hcg⟩ := countGoodTemp_keeps (storeTemp s (tempOf s r.toNat))
    obtain ⟨hnv, hna, hng⟩ := noteTemp_keeps (countGoodTemp (storeTemp s (tempOf s r.toNat))) Reg.TNS_TEMP_TEMP
    exact ⟨hnv.trans (hcv.trans hv), hna.trans (hca.trans ha), hng.trans (hcg.trans hg)⟩
  · simp [exec_tempReadDone_of_failure h, hb]
  · simp [exec_tempReadDone_of_failure h, hb]

end Sys2Proof.Machine
end

section
/-!
The commands of the Tense unit, accepted, and the end of a learning run (O6).
-/

namespace Sys2Proof.Machine

theorem tsState_taken (s : State) (d : Desc) : tsState (taken s d) = tsState s := get_taken (by decide) (by decide)

section
variable {s : State} {w : Waiting} {i : Nat} {q : Rat}

/-! ### TNS_STEP (R185, R186) -/

/-- In FREE_RUN a host step adds nothing to a bound. -/
theorem tnsStep_apply_host (h : w.d.u8 16 = 0) (hj : s.tns.dj = none) (hf : tsState s = 0) :
    tnsStepOp.apply s w = endStep (stepBase s (w.d.s64 24) w.d.tag.toNat false) w (w.d.s64 24) := by
  have hfree : ¬ (s.tns.dj.isSome || tsState s = 1 || tsState s = 2) = true := by simp [hj, hf]
  dsimp only [tnsStepOp]
  rw [if_pos h, if_neg hfree, if_pos hf]

/-- An outstanding jump is answered by a step, a slew or a rejection. -/
theorem tnsStep_apply_answer (h : w.d.u8 16 ≠ 0) (hj : s.tns.dj = some (i, q)) :
    tnsStepOp.apply s w =
      if w.d.u8 16 = 1 then
        endStep (acceptReturn (stepBase s (-roundQ (q * 65536 / 1000)) w.d.tag.toNat false) i 0 0 7 1) w (-roundQ (q * 65536 / 1000))
      else if w.d.u8 16 = 2 then endStep (acceptReturn s i q 0 7 2) w 0
      else endStep ((clearJump s 3).putMapBit Reg.SEL_LOCK_LOCKOUT i true) w 0 := by
  dsimp only [tnsStepOp]
  rw [if_neg h, hj]

theorem tnsStep_apply_step (h : w.d.u8 16 = 1) (hj : s.tns.dj = some (i, q)) :
    tnsStepOp.apply s w =
      endStep (acceptReturn (stepBase s (-roundQ (q * 65536 / 1000)) w.d.tag.toNat false) i 0 0 7 1) w (-roundQ (q * 65536 / 1000)) := by
  rw [tnsStep_apply_answer (by omega) hj, if_pos h]

theorem tnsStep_apply_slew (h : w.d.u8 16 = 2) (hj : s.tns.dj = some (i, q)) :
    tnsStepOp.apply s w = endStep (acceptReturn s i q 0 7 2) w 0 := by
  rw [tnsStep_apply_answer (by omega) hj, if_neg (by omega), if_pos h]

theorem tnsStep_apply_reject (h : w.d.u8 16 = 3) (hj : s.tns.dj = some (i, q)) :
    tnsStepOp.apply s w = endStep ((clearJump s 3).putMapBit Reg.SEL_LOCK_LOCKOUT i true) w 0 := by
  rw [tnsStep_apply_answer (by omega) hj, if_neg (by omega), if_neg (by omega)]

/-! ### TNS_HOST_TIME (R187) -/

/-- The measurement of reference 30 is that of its instant in the time base, its age back in free time. -/
theorem tnsHostTime_apply (s : State) (w : Waiting) :
    hostTimeOp.apply s w =
      let m := s.expand (w.d.u64 16)
      finishDesc (s.setTns (fun n => { n with
        host := some ⟨true, s.freeNs - (s.tbU - m) / 65536, m, some (roundQ ((w.d.s64 24 : Rat) / 128)), 0, 0, true,
          some (some (satPs (w.d.u64 32 + 1))), 0⟩ })) w St.ok [] := rfl

/-! ### TNS_UTC (R188) -/

theorem tnsUtc_apply_offset (h : w.d.u8 16 = 0) :
    tnsUtcOp.apply s w = settle (finishDesc (setTai s (signed 16 (w.d.u16 20))) w St.ok []) :=
  if_pos h

/-- A leap is announced at the end of a UTC day at least 2 s away, while the offset holds and no leap is armed. -/
theorem tnsUtc_apply_arm {tl : Nat} (h : w.d.u8 16 = 1) (ht : tl = w.d.u32 24 + w.d.u16 28 * 2 ^ 32) (hv : utcValid s = true)
    (hl : s.utc.leap = none) (he : isEndOfDay s tl (w.d.u8 22 = 0x01) = true) (hb : s.tbU + 2 * secU ≤ tl * secU) :
    tnsUtcOp.apply s w = settle (finishDesc (announceLeap s 31 tl (w.d.u8 22 = 0x01) 0xFF) w St.ok []) := by
  subst ht
  have hok : ¬ (!utcValid s || !isEndOfDay s (w.d.u32 24 + w.d.u16 28 * 2 ^ 32) (w.d.u8 22 = 0x01)
      || (w.d.u32 24 + w.d.u16 28 * 2 ^ 32) * secU < s.tbU + 2 * secU || s.utc.leap.isSome) = true := by
    rw [hv, he, hl, decide_eq_false (Nat.not_lt.2 hb)]
    decide
  dsimp only [tnsUtcOp]
  rw [if_neg (by rw [h]; decide), if_pos h, if_neg hok]

theorem tnsUtc_apply_remove (h : w.d.u8 16 = 2) (hl : s.utc.leap ≠ none) :
    tnsUtcOp.apply s w = settle (finishDesc (clearLeap s) w St.ok []) := by
  simp [tnsUtcOp, h, hl]

/-! ### TNS_SET (R197) -/

theorem tnsSet_apply (s : State) (w : Waiting) :
    tnsSetOp.apply s w = settle (finishDesc (lostCheck (normHo (storeMasked s w.d (w.d.u16 16) tnsSetAddrs))) w St.ok []) := by
  dsimp only [tnsSetOp]

/-! ### HOLDOVER_LEARN (R176) -/

/-- A run that drops what was learned starts from nothing. -/
theorem holdoverLearn_apply (h : ¬ (learnOp s).isSome = true) (hk : bitOf (w.d.u8 20) 0 = false) :
    learnOpSpec.apply s w = startLong (setLearn s (fun _ => { Learn.zero with used := some 0 })) w 0 := by
  simp [learnOpSpec, h, hk]

/-- A run that is not suspended ends in LOCKED, when DURATION seconds are used, with the model fitted. -/
theorem exec_holdoverLearnDone_of_used {l : LongOp} {u : Nat} (ho : learnOp s = some l) (hu : s.tns.learn.used = some u)
    (hs : l.suspended = false) (hd : l.d.u32 16 ≤ u) (hl : tsState s = 2) :
    exec .holdoverLearnDone s =
      .next (endLong (setLearn (installModel (fitModel s).1 1 u) (fun l => { l with used := none, sinceFit := 0 }))
        l St.ok (leBytes 4 u ++ leBytes 4 (satU 32 (fitModel s).2))) := by
  show Host.Outcome.next _ = _
  simp [ho, hu, hs, hl, Nat.not_lt.2 hd]

/-! ### HO_MODEL_LOAD (R198) -/

/-- The registers of the model, each with the descriptor's term. -/
def loadModel (s : State) (d : Desc) : State :=
  let s := ((s.put Reg.TNS_MOD_A_A (d.u32 16)).put Reg.TNS_MOD_K1_K1 (d.u32 20)).put Reg.TNS_MOD_K2_K2 (d.u32 24)
  let s := ((s.put Reg.TNS_MOD_T0_T0 (d.u16 28)).put Reg.TNS_MOD_TRANGE_T_MIN (d.u16 32)).put Reg.TNS_MOD_TRANGE_T_MAX (d.u16 34)
  ((s.put Reg.TNS_MOD_UM_U_M (d.u32 36)).put Reg.TNS_MOD_UA_U_A (d.u32 40)).put Reg.TNS_MOD_UT_U_T (d.u32 44)

theorem hoModelLoad_apply (hf : tsState s = 0) (ho : learnOp s = none) :
    modelLoadOp.apply s w = finishDesc (installModel (loadModel s w.d) 2 (w.d.u32 48)) w St.ok [] := by
  simp [modelLoadOp, hf, ho, loadModel]

theorem loadModel_shows (s : State) (d : Desc) :
    (loadModel s d).get Reg.TNS_MOD_A_A = d.u32 16 % 2 ^ 32 ∧ (loadModel s d).get Reg.TNS_MOD_K1_K1 = d.u32 20 % 2 ^ 32 ∧
    (loadModel s d).get Reg.TNS_MOD_K2_K2 = d.u32 24 % 2 ^ 32 ∧ (loadModel s d).get Reg.TNS_MOD_T0_T0 = d.u16 28 % 2 ^ 16 ∧
    (loadModel s d).get Reg.TNS_MOD_UM_U_M = d.u32 36 % 2 ^ 32 ∧ (loadModel s d).get Reg.TNS_MOD_UA_U_A = d.u32 40 % 2 ^ 32 ∧
    (loadModel s d).get Reg.TNS_MOD_UT_U_T = d.u32 44 % 2 ^ 32 := by
  refine ⟨?_, ?_, ?_, ?_, ?_, ?_, ?_⟩ <;>
    simp (disch := decide) only [loadModel, State.get_put_ne, State.get_put_same] <;> rfl

end

/-- Settles O6: an accepted command is applied at once, and acceptance leaves the state of the Tense unit that its application reads. -/
theorem tenseCommandsAct : Obligations.TenseCommandsAct := by
  refine ⟨fun s d ha h0 hj hf => congrArg Host.Outcome.next (ha.submit.trans ?_),
    fun s d i q ha h1 hj => congrArg Host.Outcome.next (ha.submit.trans ?_),
    fun s d i q ha h2 hj => congrArg Host.Outcome.next (ha.submit.trans ?_),
    fun s d i q ha h3 hj => congrArg Host.Outcome.next (ha.submit.trans ?_),
    fun s d ha => ⟨_, _, rfl, rfl, congrArg Host.Outcome.next (ha.submit.trans ?_)⟩,
    fun s d ha h0 => congrArg Host.Outcome.next (ha.submit.trans ?_),
    fun s d tl ha h1 ht hv hl he hb => congrArg Host.Outcome.next (ha.submit.trans ?_),
    fun s d ha h2 hl => congrArg Host.Outcome.next (ha.submit.trans ?_),
    fun s d ha => congrArg Host.Outcome.next (ha.submit.trans ?_),
    fun s d ha hk => congrArg Host.Outcome.next (ha.submit.trans ?_),
    fun s l u => exec_holdoverLearnDone_of_used,
    fun s d ha hf ho => ⟨loadModel (taken s d) d, congrArg Host.Outcome.next (ha.submit.trans ?_), loadModel_shows _ d⟩⟩
  · exact tnsStep_apply_host (w := takenAs s d tnsStepOp.opcode) h0 hj ((tsState_taken s d).trans hf)
  · exact tnsStep_apply_step (w := takenAs s d tnsStepOp.opcode) h1 hj
  · exact tnsStep_apply_slew (w := takenAs s d tnsStepOp.opcode) h2 hj
  · exact tnsStep_apply_reject (w := takenAs s d tnsStepOp.opcode) h3 hj
  · exact tnsHostTime_apply (taken s d) (takenAs s d hostTimeOp.opcode)
  · exact tnsUtc_apply_offset (w := takenAs s d tnsUtcOp.opcode) h0
  · exact tnsUtc_apply_arm (w := takenAs s d tnsUtcOp.opcode) h1 ht hv hl he hb
  · exact tnsUtc_apply_remove (w := takenAs s d tnsUtcOp.opcode) h2 hl
  · exact tnsSet_apply (taken s d) (takenAs s d tnsSetOp.opcode)
  · exact holdoverLearn_apply (w := takenAs s d learnOpSpec.opcode) (second_check_passed (by decide) (by decide) ha.check) hk
  · exact hoModelLoad_apply (w := takenAs s d modelLoadOp.opcode) ((tsState_taken s d).trans hf) ho

end Sys2Proof.Machine
end

section
/-!
Frequency synthesis and clock outputs: the rows of the synthesis unit (O14) and OUT_CTL, accepted (O15).
-/

namespace Sys2Proof.Machine

/-! ### Digital PLLs and SyncE information (R206, R222) -/

/-- One update of DPLL k, with its frequency and its reference in use shown. -/
def dpllShown (s : State) (k : Nat) (e dem : Int) : State :=
  let w := dpllStep s k e dem
  let u := w.setDpll k { w.dpll k with updated := w.freeNs }
  (u.putSat (Reg.DPLL_FOFS_Y k) (yPico (u.dpll k).y)).put (Reg.DPLL_STAT_REF_USE k) (dpllRef u k)

/-- The update published where it changed a register. -/
def dpllPublished (s : State) (k : Nat) (e dem : Int) : State :=
  let v := dpllShown s k e dem
  if v.regs = s.regs then v else v.publish (Reg.DPLL_STAT_VALID k) (Reg.DPLL_STAT_SEQ k)

theorem exec_dpllUpdate_of_running {k : Fin 3} {e dem : Int} {clocks : List (Fin 8 × Int)} {s : State} (hb : s.mode ≠ .boot)
    (ht : s.mode ≠ .test) (hl : s.tbLive = true) :
    exec (.dpllUpdate k e dem clocks) s =
      let i := if k = 0 then clocks.foldl (fun s c => laneClock s c.1 c.2) s else s
      .next (if k = 0 then esmcLevels (dpllPublished i (k + 1) e dem) else dpllPublished i (k + 1) e dem) := by
  have hrun : ¬ (s.mode = .boot || s.mode = .test || !s.tbLive) = true := by simp [hb, ht, hl]
  have hk : (k.val + 1 = 1) = (k = 0) := propext (by omega)
  refine congrArg Host.Outcome.next ((if_neg hrun).trans ?_)
  simp only [hk]
  rfl

/-- A port that has sent no information PDU sends its first at once. -/
theorem exec_esmcInfoTx_first {p : Fin 8} {s : State} (hl : s.tbLive = true) (ho : esmcOn s p = true)
    (h0 : s.syn.esmcAt.get (fun _ => 0) p = 0) :
    exec (.esmcInfoTx p) s =
      .next (sendEsmc (esmcLevel { s with syn := { s.syn with esmcAt := s.syn.esmcAt.set (fun _ => 0) p (s.freeNs + 1) } } p) p false) :=
  congrArg Host.Outcome.next (if_neg (by simp [hl, ho, h0]))

/-! ### Start, stop and slew of an output (R208, R213, R216, R227) -/

section
variable {s : State} {n : Fin 12}

/-- Output n running, its first edge now. -/
def outputRunning (s : State) (n : Nat) : State :=
  setOutState ((s.setOut n (started s n)).putB (Reg.OUT_STAT_ALIGNED n) (srcLocked (s.setOut n (started s n)) n)) n 2 (s.out n).cause
    (s.out n).tag

theorem exec_outputStart_of_due {t : Nat} (ha : (s.out n).startAt = some t) (hs : outState s n = 1) (ht : t ≤ s.freeNs)
    (hc : outSrc s n = 5 ∨ outClocked s n = true) (he : startEdge s n = true) :
    exec (.outputStart n) s =
      let w := (s.out n).starts.foldl (fun s w => finishDesc s w St.ok (nowResult s)) (outputRunning s n)
      .next (closeOpens w 0x0251 n St.ok (nowResult w)) := by
  have hclk : (outSrc s n != 5 && !outClocked s n) = false := by rcases hc with h | h <;> simp [h]
  show execOutputStart n s = _
  unfold execOutputStart
  dsimp only
  rw [ha]
  exact congrArg Host.Outcome.next (if_neg (by simp [hs, Nat.not_lt.2 ht, hclk, he]))

/-- Output n at its falling edge, inactive: squelched, or else OFF. -/
def outputInactive (s : State) (n : Nat) : State :=
  setOutState ((s.setOut n { s.out n with
      stops := [], reload := [], squelch := false, halted := false, slewTo := none, prev := none, edge0 := none }).putB
    (Reg.OUT_STAT_ALIGNED n) false) n (if (s.out n).squelch then 5 else 0) (s.out n).cause (s.out n).tag

/-- An output with no settings to reload starts again where a start is asked for and its settings allow one; else what is open ends with
its stop. -/
theorem exec_outputStop_of_stopping (hs : outState s n = 4) (hc : outSrc s n ≠ 5) (hr : (s.out n).reload = []) :
    exec (.outputStop n) s =
      let w := (s.out n).stops.foldl (fun s w => finishDesc s w St.ok (nowResult s)) (outputInactive s n)
      .next (if (s.out n).again && !outCfgErr w n then requestStart w n (s.out n).cause (s.out n).tag
        else closeOpens (cancelStarts w n) 0x0251 n St.ok (nowResult w)) := by
  have hrun : ¬ (outState s n != 4 || (outSrc s n = 5 && (genActive s n || frameRunning s n))) = true := by simp [hs, hc]
  refine congrArg Host.Outcome.next ((if_neg hrun).trans ?_)
  rw [hr]
  rfl

theorem exec_outputSlewEnd_of_ended {t : Nat} (hs : outState s n = 3) (hw : (s.out n).slewTo = some t) (ht : t ≤ s.freeNs) :
    exec (.outputSlewEnd n) s =
      let v := setOutState (slewed s n) n 2 0 (s.out n).tag
      .next (closeOpens v 0x0251 n St.ok (nowResult v)) :=
  congrArg Host.Outcome.next (if_neg (by simp [hs, hw, Nat.not_lt.2 ht]))

theorem exec_outEnWrite_in_setup {v : Word} (h : s.mode = .setup) :
    exec (.outEnWrite n v) s = .next (outWritten (s.storeWord (0x091000 + 0x80 * n) v.toNat) n true) :=
  congrArg Host.Outcome.next (if_neg (by simp [h]))

end

/-- Settles O14: each clause is what its row's meaning answers under the clause's hypotheses. -/
theorem synthesisActs : Obligations.SynthesisActs := by
  refine ⟨fun k e dem clocks s hb ht hl => ⟨_, _, _, _, _, rfl, rfl, rfl, rfl, rfl, exec_dpllUpdate_of_running hb ht hl⟩,
    fun p s hl ho h0 => ⟨_, rfl, exec_esmcInfoTx_first hl ho h0⟩,
    fun n t s ha hs ht hc he => ⟨_, _, _, rfl, rfl, rfl, exec_outputStart_of_due ha hs ht hc he⟩,
    fun n s hs hc hr => ⟨_, _, rfl, rfl, fun ha => ?_, fun ha hcfg => ?_⟩,
    fun n t s hs hw ht => ⟨_, rfl, exec_outputSlewEnd_of_ended hs hw ht⟩, fun n v s => exec_outEnWrite_in_setup⟩
  · exact (exec_outputStop_of_stopping hs hc hr).trans (congrArg Host.Outcome.next (if_neg (by simp [ha])))
  · exact (exec_outputStop_of_stopping hs hc hr).trans
      (congrArg Host.Outcome.next (if_pos (Bool.and_eq_true_iff.2 ⟨ha, congrArg not hcfg⟩)))

/-! ### OUT_CTL (R211, R216, R225, R226) -/

section
variable {s : State} {w : Waiting}

/-- A running output has started. -/
theorem outCtl_apply_start_of_running (ha : w.d.u8 17 = 0) (hc : outCfgErr s (w.d.u8 16) = false)
    (hs : outState s (w.d.u8 16) = 2) : outCtlOp.apply s w = finishDesc s w St.ok (nowResult s) := by
  simp [outCtlOp, outStart, ha, hc, hs]

/-- An output that is OFF has stopped. -/
theorem outCtl_apply_stop_of_off (ha : w.d.u8 17 = 1) (hs : outState s (w.d.u8 16) = 0) :
    outCtlOp.apply s w = finishDesc s w St.ok (nowResult s) := by
  simp [outCtlOp, outStop, ha, hs]

theorem outCtl_apply_stop_of_running (ha : w.d.u8 17 = 1) (hs : outState s (w.d.u8 16) = 2) :
    outCtlOp.apply s w =
      requestStop (s.setOut (w.d.u8 16) { s.out (w.d.u8 16) with stops := (s.out (w.d.u8 16)).stops ++ [w] }) (w.d.u8 16) 0
        w.d.tag.toNat false false false := by
  simp [outCtlOp, outStop, ha, hs]

theorem outCtl_apply_slewed_align (ha : w.d.u8 17 = 2) (hm : w.d.u8 18 = 1) (hb : outBusy s (w.d.u8 16) = false)
    (hc : outSrc s (w.d.u8 16) ≠ 5) (hs : outState s (w.d.u8 16) = 2) :
    outCtlOp.apply s w =
      let r := alignErr s (w.d.u8 16)
      setOutState ((openDesc r.2 w (w.d.u8 16)).setOut (w.d.u8 16)
        { s.out (w.d.u8 16) with slewTo := some (alignEnd s r.1), tag := w.d.tag.toNat }) (w.d.u8 16) 3 0 w.d.tag.toNat := by
  simp [outCtlOp, outAlign, ha, hm, hb, hc, hs]

theorem outCtl_apply_setFreq_of_off (ha : w.d.u8 17 = 3) (hb : outBusy s (w.d.u8 16) = false) (hc : outSrc s (w.d.u8 16) ≠ 5)
    (he : outCfgErr (storeFreq s (w.d.u8 16) (w.d.u32 20) (w.d.u16 24)) (w.d.u8 16) = false) (hs : outState s (w.d.u8 16) = 0) :
    outCtlOp.apply s w =
      finishDesc (showOut (storeFreq s (w.d.u8 16) (w.d.u32 20) (w.d.u16 24)) (w.d.u8 16)) w St.ok (nowResult s) := by
  simp [outCtlOp, outSetFreq, ha, hb, hc, he, hs]

end

/-- Settles O15: an accepted OUT_CTL is applied at once, and its application does what each clause says. -/
theorem outCtlActs : Obligations.OutCtlActs := by
  refine ⟨fun s d ha h0 hc hs => congrArg Host.Outcome.next (ha.submit.trans ?_),
    fun s d ha h1 hs => congrArg Host.Outcome.next (ha.submit.trans ?_),
    fun s d ha h1 hs => congrArg Host.Outcome.next (ha.submit.trans ?_),
    fun s d ha h2 hm hb hc hs => ⟨_, rfl, congrArg Host.Outcome.next (ha.submit.trans ?_)⟩,
    fun s d ha h3 hb hc he hs => ⟨_, rfl, congrArg Host.Outcome.next (ha.submit.trans ?_)⟩⟩
  · exact outCtl_apply_start_of_running (w := takenAs s d outCtlOp.opcode) h0 hc hs
  · exact outCtl_apply_stop_of_off (w := takenAs s d outCtlOp.opcode) h1 hs
  · exact outCtl_apply_stop_of_running (w := takenAs s d outCtlOp.opcode) h1 hs
  · exact outCtl_apply_slewed_align (w := takenAs s d outCtlOp.opcode) h2 hm hb hc hs
  · exact outCtl_apply_setFreq_of_off (w := takenAs s d outCtlOp.opcode) h3 hb hc he hs

end Sys2Proof.Machine
end

section
/-!
Pulses, timecodes and the schedule table: the events of the pulse unit (O16) and its commands, accepted (O17).
-/

namespace Sys2Proof.Machine

/-! ### Occurrences (R235, R236, R605) -/

section
variable {s : State} {i : Fin 2048}

/-- Entry i with its next occurrence used up. -/
def nextTaken (s : State) (i : Nat) : State := s.setEntry i { s.entry i with lastIdx := some (s.entry i).nextIdx }

/-- An entry that fires for ever has its next occurrence committed, or else, beyond the lead and the scheduler's capacity, missed. -/
theorem exec_schedCommit_of_running (hl : s.tbLive = true) (hm : (s.entry i).more = true) (hc : (s.entry i).count = 0)
    (hh : schedHeld s = false) :
    exec (.schedCommit i) s =
      let e := s.entry i
      let u := nextTaken s i
      let t := e.occ e.nextIdx
      .next (if clkNow u e + leadU ≤ t || !overloaded u (toTb u e.target e.clk t) then addComm u ⟨i, e.nextIdx, t⟩
        else ((u.setEntry i { u.entry i with enabled := e.periodic }).setFlag Flag.PLS_MISSED).journal 1 0x000A 0x0A01
          (leBytes 2 i ++ leBytes 1 e.target ++ leBytes 1 0 ++ leBytes 8 (shortOf t))) :=
  congrArg Host.Outcome.next ((if_neg (by simp [hl, hm, hc])).trans (if_neg (by simp [hh])))

theorem exec_schedCommit_of_held (hl : s.tbLive = true) (hm : (s.entry i).more = true) (hc : (s.entry i).count = 0)
    (hh : schedHeld s = true) : exec (.schedCommit i) s = .next (passEntry s i) :=
  congrArg Host.Outcome.next ((if_neg (by simp [hl, hm, hc])).trans (if_pos hh))

/-- With none before it on its generator, the first committed occurrence that is due acts alone. -/
theorem exec_schedOccurrence_of_first {c : Comm}
    (hf : s.pls.comms.find? (fun c => c.entry = i.val && commDue s c) = some c)
    (hn : s.pls.comms.filter (fun d => (s.entry d.entry).target = (s.entry i).target && commDue s d &&
      keyLt (commKey s d) (commKey s c)) = []) :
    exec (.schedOccurrence i) s = .next (fireComm s c) := by
  have hmem : s.pls.comms.contains c = true := List.contains_iff_mem.2 (List.mem_of_find?_eq_some hf)
  show execSchedOccurrence i s = _
  unfold execSchedOccurrence
  simp only [hf, hn]
  exact congrArg Host.Outcome.next (if_pos hmem)

end

section
variable {s : State} {c : Comm}

/-- A committed occurrence taken off the list of those to come. -/
def commTaken (s : State) (c : Comm) : State :=
  s.setPls (fun p => { p with comms := p.comms.filter (fun x => !(x.entry = c.entry && x.idx = c.idx)) })

/-- Entry e when its occurrence k has fired: one more, k the last of them if none above it has fired; a one-shot entry, or one whose COUNT
is reached, is disabled. -/
def PlsEntry.afterFiring (e : PlsEntry) (k : Nat) : PlsEntry :=
  let ended : Bool := if e.periodic then e.count != 0 && e.count ≤ e.fired + 1 else true
  { e with
    fired := e.fired + 1, firedIdx := some (match e.firedIdx with | some j => max j k | none => k), enabled := e.enabled && !ended }

/-- The first firing of an entry that fires for ever leaves it enabled. -/
theorem PlsEntry.afterFiring_of_endless {e : PlsEntry} {k : Nat} (hp : e.periodic = true) (hc : e.count = 0) (hx : e.firedIdx = none) :
    e.afterFiring k = { e with fired := e.fired + 1, firedIdx := some k } := by
  simp [PlsEntry.afterFiring, hp, hc, hx]

/-- A generator in mode PULSE: the occurrence acts, and what is still to come of a periodic entry is evaluated. -/
theorem fireComm_of_pulse (hh : schedHeld (commTaken s c) = false)
    (hg : genMode (commTaken s c) ((commTaken s c).entry c.entry).target = 1) :
    fireComm s c =
      let u := commTaken s c
      let e := u.entry c.entry
      let v := act (u.setEntry c.entry (e.afterFiring c.idx)) e c.due
      if e.periodic then evalPast v c.entry 0 else v :=
  (if_neg (Bool.eq_false_iff.1 hh)).trans (if_neg (Bool.eq_false_iff.1 (bne_eq_false_iff_eq.2 hg)))

theorem fireComm_of_endless (hh : schedHeld (commTaken s c) = false)
    (hg : genMode (commTaken s c) ((commTaken s c).entry c.entry).target = 1) (hp : ((commTaken s c).entry c.entry).periodic = true)
    (hc : ((commTaken s c).entry c.entry).count = 0) (hx : ((commTaken s c).entry c.entry).firedIdx = none) :
    fireComm s c =
      let u := commTaken s c
      let e := u.entry c.entry
      evalPast (act (u.setEntry c.entry { e with fired := e.fired + 1, firedIdx := some c.idx }) e c.due) c.entry 0 := by
  dsimp only
  rw [← PlsEntry.afterFiring_of_endless hp hc hx]
  exact (fireComm_of_pulse hh hg).trans (if_pos hp)

/-- A generator out of mode PULSE: nothing fires, and a one-shot entry is disabled. -/
theorem fireComm_of_conflict (hh : schedHeld (commTaken s c) = false)
    (hg : genMode (commTaken s c) ((commTaken s c).entry c.entry).target ≠ 1) :
    fireComm s c =
      let u := commTaken s c
      let e := u.entry c.entry
      (u.setEntry c.entry { e with enabled := e.enabled && e.periodic }).setFlag Flag.PLS_CONFLICT :=
  (if_neg (Bool.eq_false_iff.1 hh)).trans (if_pos (bne_iff_ne.2 hg))

end

section
variable {s : State} {n : Fin 24}

theorem exec_pulseEnd_of_due {c : Bool} {t : Nat} (he : (s.gen n).ends = some (c, t)) (ht : t ≤ if c then s.tbU else ptNow s n)
    (hb : turnsBack s n (toTb s n c t) false = false) :
    exec (.pulseEnd n) s = .next (driveEdge (s.setGen n { s.gen n with ends := none }) n false (toTb s n c t) 0 false) := by
  show execPulseEnd n s = _
  unfold execPulseEnd
  dsimp only
  rw [he]
  exact congrArg Host.Outcome.next ((if_neg (Nat.not_lt.2 ht)).trans (if_neg (by simp [hb])))

/-! ### IRIG-B frames and ToD messages (R239–R243) -/

/-- Generator n with the frame of symbols f begun at the on-time mark m. -/
def frameBegun (s : State) (n m : Nat) (f : List Nat) : State :=
  showGen (lastFrameEdge ((s.setPls (fun p => { p with frames := p.frames.set (fun _ => []) n f })).setGen n
    { s.gen n with frame := some m, nextMark := none }) n) n

/-- A frame begins at its mark; with its pin not driven, no edge of it is planned. -/
theorem exec_irigFrame_of_undriven (hr : plsRuns s = true) (ht : isTarget n = true) (hg : genMode s n = 2)
    (hd : ptNow s n % secU < 65536) (hm : (s.gen n).nextMark = none)
    (hf : (s.gen n).frame ≠ some (ptNow s n - ptNow s n % secU)) (ha : (s.gen n).align = none) :
    let m := ptNow s n - ptNow s n % secU
    let u := frameBegun s n m (irigFrame s n (tbSec m) (edgeGloss s n (toTb s n false m) (heldPs s n)))
    genDriven u n = false → exec (.irigFrame n) s = .next u := by
  intro m u hu
  have hdue : ¬ (!plsRuns s || !isTarget n || genMode s n != 2 || !(decide (ptNow s n % secU < 65536) && (s.gen n).frame != some m &&
      !(match (s.gen n).align with | some a => !a.slew | none => false) &&
      (match (s.gen n).nextMark with | some k => decide (k ≤ m) | none => true))) = true := by
    simp [hr, ht, hg, hd, hm, hf, ha, m]
  exact congrArg Host.Outcome.next ((if_neg hdue).trans (if_pos (congrArg not hu)))

theorem exec_todTxMessage_of_due {t : Nat} {m : TodMsg} (hp : s.pls.pulse = some (t, m)) (hr : plsRuns s = true)
    (ht : t + s.get Reg.PLS_TOD_CFG_TX_OFS * 1000000 ≤ s.freeNs) :
    exec .todTxMessage s = .next (((s.setPls (fun p => { p with pulse := none, sent := some m })).put Reg.PLS_TOD_SECL_SEC m.sec).publish
      Reg.PLS_TOD_STAT_VALID Reg.PLS_TOD_STAT_SEQ) := by
  show execTodTxMessage s = _
  unfold execTodTxMessage
  rw [hp]
  exact congrArg Host.Outcome.next (if_neg (by simp [hr, Nat.not_lt.2 ht]))

/-! ### Realignment (R244, R246) -/

variable {a : Align}

/-- A step at a quiet instant removes H whole; a generator out of mode IRIGB has no frame to begin again. -/
theorem exec_alignQuietInstant_of_quiet (ha : (s.gen n).align = some a) (hs : a.slew = false) (hq : isQuiet s n = true)
    (hg : genMode (endAlign s n a (heldNow s n)) n ≠ 2) :
    exec (.alignQuietInstant n) s = .next (endAlign s n a (heldNow s n)) := by
  show execAlignQuietInstant n s = _
  unfold execAlignQuietInstant
  rw [ha]
  exact congrArg Host.Outcome.next ((if_neg (by simp [hs, hq])).trans (if_pos (bne_iff_ne.2 hg)))

theorem exec_alignSlewEnd_of_zero (ha : (s.gen n).align = some a) (hs : a.slew = true) (h0 : heldNow s n = 0) :
    exec (.alignSlewEnd n) s = .next (endAlign s n a (a.gone + a.h0)) := by
  show execAlignSlewEnd n s = _
  unfold execAlignSlewEnd
  rw [ha]
  exact congrArg Host.Outcome.next (if_pos (by simp [hs, h0]))

theorem exec_alignTimeout_of_late (ha : (s.gen n).align = some a) (hs : a.slew = false) (ht : a.since + 1000000000 ≤ s.freeNs) :
    exec (.alignTimeout n) s = .next (jobEnds (showGen (s.setGen n { s.gen n with align := none }) n) a.job n none) := by
  show execAlignTimeout n s = _
  unfold execAlignTimeout
  rw [ha]
  exact congrArg Host.Outcome.next (if_neg (by simp [hs, Nat.not_lt.2 ht]))

end

/-- Settles O16: each clause is what its row's meaning answers under the clause's hypotheses; an occurrence with none before it fires alone. -/
theorem pulseEventsAct : Obligations.PulseEventsAct := by
  refine ⟨fun i s hl hm hc hh => ⟨nextTaken s i, rfl, fun ht => ?_, fun ht ho => ?_⟩, fun i s => exec_schedCommit_of_held,
    fun i c s hf hn => ⟨commTaken s c, rfl, ?_⟩, fun n c t s => exec_pulseEnd_of_due,
    fun n s hr ht hg hd hm hf ha => ⟨_, _, _, rfl, rfl, rfl, exec_irigFrame_of_undriven hr ht hg hd hm hf ha⟩,
    fun t m s => exec_todTxMessage_of_due, fun n a s => exec_alignQuietInstant_of_quiet, fun n a s => exec_alignSlewEnd_of_zero,
    fun n a s => exec_alignTimeout_of_late⟩
  · exact (exec_schedCommit_of_running hl hm hc hh).trans (congrArg Host.Outcome.next (if_pos (by simp [ht])))
  · exact (exec_schedCommit_of_running hl hm hc hh).trans (congrArg Host.Outcome.next (if_neg (by simp [ho, ht])))
  · have hi : c.entry = i := by
      have hdue := List.find?_some hf
      exact of_decide_eq_true (Bool.and_eq_true_iff.1 hdue).1
    rw [exec_schedOccurrence_of_first hf hn, ← hi]
    exact ⟨fun hh hg hp hc hx => congrArg Host.Outcome.next (fireComm_of_endless hh hg hp hc hx),
      fun hh hg => congrArg Host.Outcome.next (fireComm_of_conflict hh hg)⟩

/-! ### PLS_SCHED, PLS_SET and PLS_ALIGN (R244, R247, R248) -/

section
variable {s : State} {w : Waiting}

theorem plsSched_apply_write (h : w.d.u8 18 = 0) (hl : lateEntry s (entryOf s (schedImage w.d)) = false) :
    plsSchedOp.apply s w =
      let u := evalPast (replaceEntry s (w.d.u16 16) (entryOf s (schedImage w.d))) (w.d.u16 16) 0
      finishDesc u w St.ok (leBytes 8 (firstFire u (w.d.u16 16))) := by
  simp [plsSchedOp, h, hl]

theorem plsSched_apply_disable (h : w.d.u8 18 = 2) :
    plsSchedOp.apply s w =
      let u := replaceEntry s (w.d.u16 16) { (s.entry (w.d.u16 16)).reopened with enabled := false }
      finishDesc u w St.ok (leBytes 8 (firstFire u (w.d.u16 16))) := by
  simp [plsSchedOp, h]

theorem plsSched_apply_clear (h : w.d.u8 18 = 3) :
    plsSchedOp.apply s w =
      let u := replaceEntry s (w.d.u16 16) PlsEntry.zero
      finishDesc u w St.ok (leBytes 8 (firstFire u (w.d.u16 16))) := by
  simp [plsSchedOp, h]

/-- Settings of one generator that leave no error behind, its mode not among them. -/
theorem plsSet_apply_generator (ht : w.d.u8 16 ≠ 255) (hm : bitOf (w.d.u16 18) 0 = false)
    (hg : genCfgErr (plsStore (rebaseSlews s) w.d) (w.d.u8 16) = false) (he : todCfgErr (plsStore (rebaseSlews s) w.d) = false) :
    plsSetOp.apply s w =
      finishDesc (showTod (showGen (holdEdge s (plsStore (rebaseSlews s) w.d)) (w.d.u8 16))) w St.ok [] := by
  simp [plsSetOp, ht, hm, hg, he]

theorem plsAlign_apply_one (ht : w.d.u8 16 ≠ 255) : plsAlignOp.apply s w = startAlign s w [w.d.u8 16] (w.d.u8 17 = 1) := by
  simp [plsAlignOp, ht]

end

/-! ### The entry window (R233, R249) -/

theorem exec_plsSchWrite_in_setup {s : State} {i : Fin 2048} (h : s.mode = .setup) :
    exec (.plsSchWrite i) s =
      let u := s.put Reg.PLS_SCH_ADDR_INDEX i
      .next (if imageValid (entryOf u (schData u)) then
        evalPast (replaceEntry (u.putB Reg.PLS_SCH_ADDR_ERR false) i (entryOf u (schData u))) i 0
      else u.putB Reg.PLS_SCH_ADDR_ERR true) :=
  congrArg Host.Outcome.next (if_neg (by simp [h]))

/-- Settles O17: an accepted command is applied at once, and its application does what each clause says; the rows of the entry window act
as they come. -/
theorem pulseCommandsAct : Obligations.PulseCommandsAct := by
  refine ⟨fun s d ha h0 hl => ⟨_, rfl, congrArg Host.Outcome.next (ha.submit.trans ?_)⟩,
    fun s d ha h2 => ⟨_, rfl, congrArg Host.Outcome.next (ha.submit.trans ?_)⟩,
    fun s d ha h3 => ⟨_, rfl, congrArg Host.Outcome.next (ha.submit.trans ?_)⟩,
    fun s d ha ht hm hg he => congrArg Host.Outcome.next (ha.submit.trans ?_),
    fun s d ha ht => congrArg Host.Outcome.next (ha.submit.trans ?_), fun i s => ⟨_, rfl, rfl⟩,
    fun i s hs => ⟨_, rfl, fun hv => ?_, fun hv => ?_⟩⟩
  · exact plsSched_apply_write (w := takenAs s d plsSchedOp.opcode) h0 hl
  · exact plsSched_apply_disable (w := takenAs s d plsSchedOp.opcode) h2
  · exact plsSched_apply_clear (w := takenAs s d plsSchedOp.opcode) h3
  · exact plsSet_apply_generator (w := takenAs s d plsSetOp.opcode) ht hm hg he
  · exact plsAlign_apply_one (w := takenAs s d plsAlignOp.opcode) ht
  · exact (exec_plsSchWrite_in_setup hs).trans (congrArg Host.Outcome.next (if_pos hv))
  · exact (exec_plsSchWrite_in_setup hs).trans (congrArg Host.Outcome.next (if_neg (by simp [hv])))

end Sys2Proof.Machine
end

section
/-!
SUPPORT. What the operations of lanes, ports and host rings leave as it is, for the statements of chapter 08.
-/

namespace Sys2Proof.Machine

/-! ### Reads after writes elsewhere -/

theorem State.get_hif (s : State) (x : Hif) (g : Field) : State.get { s with hif := x } g = s.get g := rfl

theorem State.get_lan (s : State) (x : Lan) (g : Field) : State.get { s with lan := x } g = s.get g := rfl

/-- A flag that hardware has set reads 1 (R14). -/
theorem State.bit_setFlag {s : State} {f : FlagBit} (h : f.bit.key ≠ f.cnt.key) (hw : f.bit.w = 1) : (s.setFlag f).bit f.bit = true := by
  have hg : (s.setFlag f).get f.bit = (s.put f.bit 1).get f.bit := State.get_put_ne h
  rw [State.bit, hg, State.get_put_same, hw]
  rfl

/-- A record is committed now, with s's causal counter, after changes that the journal does not see. -/
theorem committed_journal_of_same {s w : State} (hh : w.get Reg.OBS_JRNL_HEAD_JIDX = s.get Reg.OBS_JRNL_HEAD_JIDX)
    (hu : w.get Reg.GEN_STRAP_UNIT_ID = s.get Reg.GEN_STRAP_UNIT_ID) (hj : w.jr = s.jr) (ht : w.tb = s.tb)
    (sev src code : Nat) (pay : List Byte) : committed s (w.journal sev src code pay) (s.recordOf s.nowShort sev src code pay) := by
  have hn : w.nowShort = s.nowShort := by simp [State.nowShort, State.tbLive, State.tbU, ht]
  have hc := committed_journal w sev src code pay
  rw [hn, recordOf_congr (congrArg Jrnl.cseq hj) hu] at hc
  exact committed_of_pre hh hc

/-! ### Registers below block HIF

Posting an event changes registers of block HIF and above (from 0x02_0000 on), and so does counting in a MAC counter. -/

section
variable {s : State} {g : Field} (hg : g.key < 0x400000)
include hg

theorem get_fire_of_low (v : Nat) : (s.fire v).get g = s.get g := by
  unfold State.fire
  split
  · exact State.get_put_ne (key_ne hg (by simp only [Field.key, Reg.MSIX_PBA_PENDING]; omega))
  · rfl

theorem get_setProd_of_low (r pos : Nat) : (setProd s r pos).get g = s.get g := by
  unfold setProd
  simp only [State.publish]
  iterate 4 rw [State.get_put_ne (key_ne hg (by
    simp only [Field.key, Reg.HR_STAT_SEQ, Reg.HR_STAT_VALID, Reg.HR_PROD_IDX, Reg.HR_PROD_GEN]; omega))]

theorem get_noteEntry_of_low (r : Nat) (atOnce : Bool) : (noteEntry s r atOnce).get g = s.get g := by
  unfold noteEntry
  extract_lets k hif t hif' u
  have hu : u.get g = s.get g := by
    refine (State.get_hif t hif' g).trans ?_
    unfold t
    split
    · exact State.get_hif s _ g
    · rfl
  split
  · exact (get_fire_of_low hg r).trans hu
  · exact hu

theorem get_writeEntry_of_low (r : Nat) (e : Entry) (atOnce : Bool) : (writeEntry s r e atOnce).get g = s.get g := by
  unfold writeEntry
  rw [get_noteEntry_of_low hg, get_setProd_of_low hg]
  rfl

theorem get_dropEntry_of_low (r : Nat) : (dropEntry s r).get g = s.get g :=
  State.get_bump_ne (key_ne hg (by simp only [Field.key, Reg.HR_DROP_LO_DROP]; omega))
    (key_ne hg (by simp only [Field.key, Reg.HR_DROP_HI_DROP]; omega))

theorem get_postEvent_of_low (r type source stampU : Nat) (pay : List Byte) :
    (postEvent s r type source stampU pay).get g = s.get g := by
  unfold postEvent
  split
  · exact get_dropEntry_of_low hg r
  split
  · refine (State.get_hif ((dropEntry s r).setFlag Flag.HIF_EV_LOST) _ g).trans ?_
    rw [State.get_setFlag_ne (key_ne hg (by decide)) (key_ne hg (by decide)), get_dropEntry_of_low hg]
  · exact get_writeEntry_of_low hg ..

theorem get_macBump_of_low (p k n : Nat) : (macBump s p k n).get g = s.get g := by
  unfold macBump
  extract_lets lo hi old new t lan u v
  have hu : u.get g = s.get g := by
    refine (State.get_lan t _ g).trans ?_
    unfold t
    rw [State.putPair, State.get_put_ne (key_ne hg (by simp only [hi, Field.key, Reg.MAC_CNT_HI_CNT]; omega)),
      State.get_put_ne (key_ne hg (by simp only [lo, Field.key, Reg.MAC_CNT_LO_CNT]; omega))]
  have hv : v.get g = s.get g := by
    unfold v
    rw [State.get_setFlag_ne (key_ne hg (by simp only [Field.key, Flag.MAC_CNT_HALF]; omega))
      (key_ne hg (by simp only [Field.key, Flag.MAC_CNT_HALF]; omega)), hu]
  split
  · exact hu
  split
  · exact (get_postEvent_of_low hg ..).trans hv
  · exact hv

theorem get_macIf_of_low (b : Bool) (p k : Nat) : (macIf s b p k).get g = s.get g := by
  unfold macIf
  split
  · exact get_macBump_of_low hg ..
  · rfl

/-- The counters of a received frame leave the registers of the blocks below as they are. -/
theorem get_countRx_of_low (p : Nat) (f : FrameIn) : (countRx s p f).get g = s.get g := by
  unfold countRx
  extract_lets mx good t1 t2 t3 short long t4 t5 t6 t7 t8 t9
  have h1 : t1.get g = s.get g := (State.get_perf ..).trans (get_macBump_of_low hg ..)
  have h3 : t3.get g = s.get g := by
    unfold t3 t2
    split
    · rw [get_macBump_of_low hg, get_macBump_of_low hg, get_macBump_of_low hg, h1]
    · exact h1
  have h9 : t9.get g = s.get g := by
    unfold t9 t8 t7 t6 t5 t4
    simp only [get_macIf_of_low hg, h3]
  split
  · exact (get_macBump_of_low hg ..).trans h9
  · exact h9

end

theorem countRx_mode (s : State) (p : Nat) (f : FrameIn) : (countRx s p f).mode = s.mode :=
  congrArg Mode.ofCode (get_countRx_of_low (by decide) p f)

end Sys2Proof.Machine
end

section
/-!
Lanes and ports: the rows of their events (O18, O58).
-/

namespace Sys2Proof.Machine

/-! ### Links (R263–R266) -/

section
variable {p : Fin 8} {s : State}

theorem exec_signalDetect_of_down (hl : link s p = 1) (hr : (s.port p).retryAt = none)
    (ha : s.mapBit Reg.SYN_APLL_STAT_LOCK 1 = true) :
    exec (.signalDetect p) s =
      .next (setLink ((lanesOf s p).foldl (fun s l => (startLane s l).putB (Reg.LN_STAT_SIG_DET l) true) s) p 2 0) :=
  congrArg Host.Outcome.next (if_neg (by simp [hl, hr, ha]))

theorem exec_polarityTimeout_in_bringup {l : Fin 16} {q : Nat} (hq : portOfLane s l = some q) (hl : link s q = 2)
    (ha : s.bit (Reg.LN_CFG_RX_POL_AUTO l) = true) (ht : (s.lane l).tried < 2) :
    exec (.polarityTimeout l) s = .next (setLaneState (s.setLane l { s.lane l with
      tried := (s.lane l).tried + 1, inv := !(s.lane l).inv }) l 4) := by
  show execPolarityTimeout l s = _
  unfold execPolarityTimeout
  rw [hq]
  exact congrArg Host.Outcome.next (if_neg (by simp [hl, ha, ht]))

/-- A port in BRINGUP without local fault, its auto-negotiation done where it has one, comes UP; of four lanes each carries its own FEC
lane. -/
theorem exec_bringupComplete_of_aligned {map : Byte} {skew : Fin 181} {an : Bool} (hl : link s p = 2)
    (hf : s.bit (Reg.MAC_STAT_LF p) = false)
    (ha : s.get (Reg.MAC_MODE_MODE p) = 0 → s.bit (Reg.MAC_MODE_AN_EN p) = true → an = true)
    (hm : s.get (Reg.MAC_MODE_MODE p) = 3 → isPermutation map.toNat = true) :
    exec (.bringupComplete p map skew an) s =
      let four : Bool := s.get (Reg.MAC_MODE_MODE p) = 3
      let v := ((lanesOf s p).zipIdx).foldl (fun s q => laneUp s q.1 (if four then map.toNat / 4 ^ q.2 % 4 else 0)) s
      let u := (v.put (Reg.MAC_STAT_LANE_MAP p) (if four then map.toNat else 0)).putB (Reg.MAC_STAT_REV p) (four && map.toNat = 27)
      .next (setLink (((u.put (Reg.MAC_DESKEW_DESKEW p) (if four then skew else 0)).putB (Reg.MAC_STAT_FEC_LOCK p)
        (u.get (Reg.MAC_MODE_FEC p) != 0)).putB (Reg.MAC_STAT_AN_DONE p) (s.get (Reg.MAC_MODE_MODE p) = 0 && an)) p 3 0) := by
  refine congrArg Host.Outcome.next (if_neg ?_)
  by_cases h0 : s.get (Reg.MAC_MODE_MODE p) = 0
  · cases hn : s.bit (Reg.MAC_MODE_AN_EN p) <;> simp [hl, hf, h0, hn, ha]
  · by_cases h3 : s.get (Reg.MAC_MODE_MODE p) = 3 <;> simp [hl, hf, h0, h3, hm]

theorem exec_bringupFail_in_bringup {lost : Bool} (hl : link s p = 2) :
    exec (.bringupFail p lost) s =
      let u := portDown s p (if lost then 1 else 3) (!lost)
      .next (u.setPort p { u.port p with retryAt := some (u.freeNs + 1000000) }) :=
  congrArg Host.Outcome.next (if_neg (by simp [hl]))

/-- Once the retry is due it is over, and a port that is DOWN with a signal on every lane comes up again. -/
theorem exec_bringupRetry_of_due {t : Nat} (hr : (s.port p).retryAt = some t) (ht : t ≤ s.freeNs) :
    exec (.bringupRetry p) s =
      let u := s.setPort p { s.port p with retryAt := none }
      .next (if link u p = 1 && (lanesOf u p).all (fun l => u.bit (Reg.LN_STAT_SIG_DET l)) then
        setLink ((lanesOf u p).foldl startLane u) p 2 0 else u) := by
  show execBringupRetry p s = _
  unfold execBringupRetry
  rw [hr]
  exact congrArg Host.Outcome.next (if_neg (Nat.not_lt.2 ht))

theorem exec_linkLoss_of_up {c : Fin 7} (hl : link s p = 3) (hc : c ≠ 0) :
    exec (.linkLoss p c) s = .next (portDown (macIf s (c.val = 4) p 40) p c (c.val != 1)) :=
  congrArg Host.Outcome.next (if_neg (by simp [hl, Fin.val_eq_zero_iff, hc]))

/-- The state in which the flags of the fault signalling k are set: of local (1) or remote (2) fault that begins. -/
def faultFlagged (s : State) (p : Nat) (k : Fin 3) : State :=
  let v := s.flagIf (decide (k.val = 1) && !s.bit (Reg.MAC_STAT_LF p)) (Flag.MAC_LF p)
  v.flagIf (decide (k.val = 2) && !v.bit (Reg.MAC_STAT_RF p)) (Flag.MAC_RF p)

/-- The state u with the fault signalling k shown, before it is published. -/
def faultShown (u : State) (p : Nat) (k : Fin 3) : State :=
  (u.putB (Reg.MAC_STAT_LF p) (k.val = 1)).putB (Reg.MAC_STAT_RF p) (k.val = 2)

/-- A change of the fault signalling is published; local fault takes an UP port down. -/
theorem exec_linkFaultRx (p : Fin 8) (k : Fin 3) (s : State) :
    exec (.linkFaultRx p k) s =
      let u := faultFlagged s p k
      let w := faultShown u p k
      let x := if w.regs = u.regs then u else w.publish (Reg.MAC_STAT_VALID p) (Reg.MAC_STAT_SEQ p)
      .next (if k.val = 1 && link x p = 3 then portDown x p 5 true else x) := rfl

theorem exec_linkFaultRx_of_not_local {k : Fin 3} (hk : k ≠ 1) :
    exec (.linkFaultRx p k) s =
      let u := faultFlagged s p k
      let w := faultShown u p k
      .next (if w.regs = u.regs then u else w.publish (Reg.MAC_STAT_VALID p) (Reg.MAC_STAT_SEQ p)) := by
  rw [exec_linkFaultRx]
  have h1 : k.val ≠ 1 := fun h => hk (Fin.ext h)
  exact congrArg Host.Outcome.next (if_neg (by simp [h1]))

/-! ### Pauses (R283, R285) -/

variable {c : Fin 9} {t : Nat}

theorem exec_pauseRx_of_up {q : List (Fin 9 × BitVec 16)} (h : portUp s p = true) :
    exec (.pauseRx p q) s = .next (q.foldl (fun s q => receivePause s p q.1 q.2.toNat) s) :=
  congrArg Host.Outcome.next (if_neg (by simp [h]))

theorem exec_pauseExpiry_of_over (hs : (pauseOf s p c).since = some t) (hh : (pauseOf s p c).holdTo ≤ s.freeNs) :
    exec (.pauseExpiry p c) s =
      .next ((setPause s p c { pauseOf s p c with since := none }).putMapBit (Reg.MAC_PAUSE_STAT_PAUSED p) c false) :=
  congrArg Host.Outcome.next (if_neg (by simp [hs, hh]))

theorem exec_pauseWatchdog_of_long (hs : (pauseOf s p c).since = some t)
    (ht : t + s.get (Reg.MAC_PWD_PWD_LIM p) * 1000000 < s.freeNs) :
    exec (.pauseWatchdog p c) s =
      let u := setPause s p c ⟨s.freeNs, none, s.freeNs + s.get (Reg.MAC_PWD_PWD_HOLD p) * 1000000⟩
      let v := macBump (((u.putMapBit (Reg.MAC_PAUSE_STAT_PAUSED p) c false).putMapBit (Reg.MAC_PAUSE_STAT_HOLD p) c true).setFlag
        (Flag.MAC_PWD_TRIP p)) p 43 1
      .next (v.journal 1 0x000B 0x0B02 (leBytes 1 p ++ leBytes 1 c ++ leBytes 2 0 ++ leBytes 4 ((v.freeNs - t) / 1000))) := by
  show execPauseWatchdog p c s = _
  unfold execPauseWatchdog
  dsimp only
  rw [hs]
  exact congrArg Host.Outcome.next (if_neg (Nat.not_le.2 ht))

theorem exec_pwdHoldExpiry_of_over (h : (pauseOf s p c).ignore ≤ s.freeNs) :
    exec (.pwdHoldExpiry p c) s = .next (s.putMapBit (Reg.MAC_PAUSE_STAT_HOLD p) c false) :=
  congrArg Host.Outcome.next (if_neg (Nat.not_lt.2 h))

/-! ### Disturbing changes (R291) -/

/-- With no frame on the line the change acts, or, while another port is still to go down for it, takes its own port down. -/
theorem exec_portDisturb_of_quiet {d : Disturb} (hd : (s.port p).disturb = some d) (hb : lineBusy s p = false) :
    exec (.portDisturb p) s =
      let u := s.setPort p { s.port p with disturb := none }
      .next (if disturbPeer u p d then (if link u p = baseLink u p then u else portDown u p d.cause true) else disturbActs u p d) := by
  show execPortDisturb p s = _
  unfold execPortDisturb
  rw [hd]
  exact congrArg Host.Outcome.next (if_neg (by simp [hb]))

end

/-! ### Patterns and supervision (R270, R282) -/

theorem exec_prbsLock_of_allowed {l : Fin 16} {errs : BitVec 48} {s : State} (hp : s.get (Reg.LN_CFG_PRBS l) ≠ 0)
    (hl : portOfLane s l ≠ none) (ha : prbsAllowed s l = true) :
    exec (.prbsLock l errs) s = .next (((s.putB (Reg.LN_STAT_PRBS_LOCK l) true).publish (Reg.LN_STAT_VALID l) (Reg.LN_STAT_SEQ l)).bump
      (Reg.LN_PRBS_LO_ERR l) (Reg.LN_PRBS_HI_ERR l) errs.toNat) :=
  congrArg Host.Outcome.next (if_neg (by simp [hp, hl, ha]))

/-- The first supervision frame of a group in force goes out on each of its ports, at the length of log 24. -/
theorem exec_supervisionTx_first {g : Fin 4} {s : State} (hm : s.get (Reg.RG_CFG_MODE g) ≠ 0) (he : groupErr s g = false)
    (hs : s.bit (Reg.RG_CFG_SUP_EN g) = true) (hboot : s.mode ≠ .boot) (hsafe : s.mode ≠ .safe) (htest : s.mode ≠ .test)
    (ht : s.lan.supAt.get (fun _ => 0) g = 0) :
    exec (.supervisionTx g) s =
      let n := s.lan.supSeq.get (fun _ => 0) g
      let u := { s with lan := { s.lan with supAt := s.lan.supAt.set (fun _ => 0) g (s.freeNs + 1),
                                            supSeq := s.lan.supSeq.set (fun _ => 0) g ((n + 1) % 65536) } }
      .next ((portsOf u (16 + g)).foldl (fun t p => enqueue t ⟨p, .supervision n, supLen, none, none⟩) u) :=
  congrArg Host.Outcome.next (if_neg (by simp [hm, he, hs, hboot, hsafe, htest, ht]))

/-! ### Eye monitors (R272) -/

/-- The eye monitor of lane l is on and gives its first result: EYE_INT is not 0, the time base runs in a mode that measures, and the lane
is one of the ports' or, with the pair's straps, one of the pair's. -/
structure FirstEye (s : State) (l : Fin 18) : Prop where
  int : s.get (Reg.LN_EYE_CFG_EYE_INT l) ≠ 0
  live : s.tbLive = true
  boot : s.mode ≠ .boot
  test : s.mode ≠ .test
  first : (s.lane l).eyeAt = 0
  lane : l.val < 16 ∨ s.bit Reg.GEN_STRAP_PAIR_EN = true

/-- The state in which the result h, v of lane l is published. -/
def eyeShown (s : State) (l h v : Nat) : State :=
  ((s.put (Reg.LN_EYE_EYE_H l) h).put (Reg.LN_EYE_EYE_V l) v).publish (Reg.LN_STAT_VALID l) (Reg.LN_STAT_SEQ l)

/-- The result h, v of lane l is below one of its limits. -/
def eyeBelow (s : State) (l h v : Nat) : Bool :=
  decide (h < s.get (Reg.LN_EYE_CFG_EYE_MIN_H l)) || decide (v < 4 * s.get (Reg.LN_EYE_CFG_EYE_MIN_V l))

/-- The result published, remembered with its instant, and EYE_LOW set if it is below a limit. -/
def eyeTaken (s : State) (l h v : Nat) (low : Bool) : State :=
  ((eyeShown s l h v).setLane l { s.lane l with eyeAt := (eyeShown s l h v).freeNs + 1, eyeLow := low }).flagIf low (Flag.LN_EYE_LOW l)

/-- The payload of LANE_EYE. -/
def eyePay (l : Nat) (low : Bool) (h v : Nat) : List Byte := leBytes 1 l ++ leBytes 1 (b2n low) ++ leBytes 2 h ++ leBytes 2 v

section
variable {s : State} {g : Field} {h v : Nat} {low : Bool}

/-- Publishing a result changes the lane's registers LN_STAT and LN_EYE alone. -/
theorem get_eyeShown {l : Nat} (hg : g.key < (0xB1040 + 0x100 * l) * 32 ∨ (0xB1048 + 0x100 * l) * 32 ≤ g.key) :
    (eyeShown s l h v).get g = s.get g := by
  unfold eyeShown State.publish
  iterate 4 rw [State.get_put_ne (by
    simp only [Field.key, Reg.LN_STAT_VALID, Reg.LN_STAT_SEQ, Reg.LN_EYE_EYE_H, Reg.LN_EYE_EYE_V] at hg ⊢; omega)]

/-- The limits are no part of the result. -/
theorem eyeBelow_eyeShown (s : State) (l h v : Nat) : eyeBelow (eyeShown s l h v) l h v = eyeBelow s l h v := by
  have hH : (eyeShown s l h v).get (Reg.LN_EYE_CFG_EYE_MIN_H l) = s.get (Reg.LN_EYE_CFG_EYE_MIN_H l) :=
    get_eyeShown (.inl (by simp only [Field.key, Reg.LN_EYE_CFG_EYE_MIN_H]; omega))
  have hV : (eyeShown s l h v).get (Reg.LN_EYE_CFG_EYE_MIN_V l) = s.get (Reg.LN_EYE_CFG_EYE_MIN_V l) :=
    get_eyeShown (.inl (by simp only [Field.key, Reg.LN_EYE_CFG_EYE_MIN_V]; omega))
  rw [eyeBelow, eyeBelow, hH, hV]

/-- The first result of a lane is published, and journalled unless it and the one before it are good (log 42). -/
theorem exec_eyeMeasure_first {l : Fin 18} {h v : BitVec 16} (hf : FirstEye s l) :
    exec (.eyeMeasure l h v) s =
      let low := eyeBelow s l h.toNat v.toNat
      let w := eyeTaken s l h.toNat v.toNat low
      .next (if !low && !(s.lane l).eyeLow then w else w.journal 1 0x000B 0x0B03 (eyePay l low h.toNat v.toNat)) := by
  obtain ⟨hint, hlive, hboot, htest, hfirst, hlane⟩ := hf
  have hp : ¬ (16 ≤ l.val ∧ s.bit Reg.GEN_STRAP_PAIR_EN = false) := fun ⟨h16, hb⟩ =>
    hlane.elim (Nat.not_lt.2 h16) (by simp [hb])
  rw [← eyeBelow_eyeShown]
  exact congrArg Host.Outcome.next (if_neg (by simp [hint, hlive, hboot, htest, hfirst, hp]))

/-- A result at or above both limits after one that was is not journalled. -/
theorem exec_eyeMeasure_of_good {l : Fin 18} {h v : BitVec 16} (hf : FirstEye s l) (hb : eyeBelow s l h.toNat v.toNat = false)
    (hw : (s.lane l).eyeLow = false) : exec (.eyeMeasure l h v) s = .next (eyeTaken s l h.toNat v.toNat false) := by
  rw [exec_eyeMeasure_first hf, hb]
  exact congrArg Host.Outcome.next (if_pos (by simp [hw]))

/-- A result is journalled that is below a limit, or follows one that was. -/
theorem exec_eyeMeasure_of_low {l : Fin 18} {h v : BitVec 16} (hf : FirstEye s l)
    (hb : eyeBelow s l h.toNat v.toNat = true ∨ (s.lane l).eyeLow = true) :
    exec (.eyeMeasure l h v) s = .next ((eyeTaken s l h.toNat v.toNat (eyeBelow s l h.toNat v.toNat)).journal 1 0x000B 0x0B03
      (eyePay l (eyeBelow s l h.toNat v.toNat) h.toNat v.toNat)) := by
  rw [exec_eyeMeasure_first hf]
  exact congrArg Host.Outcome.next (if_neg (by rcases hb with hb | hb <;> simp [hb]))

/-- Taking a result changes no register outside the lanes' block 0x0B_0000. -/
theorem get_eyeTaken {l : Fin 18} (hg : g.key < 0x0B0000 * 32 ∨ 0x0C0000 * 32 ≤ g.key) :
    (eyeTaken s l h v low).get g = s.get g := by
  have hl := l.isLt
  rw [eyeTaken, State.get_flagIf_ne, State.get_setLane, get_eyeShown (by omega)] <;>
    simp only [Field.key, Flag.LN_EYE_LOW] at hg ⊢ <;> omega

@[simp] theorem eyeTaken_jr {l : Nat} : (eyeTaken s l h v low).jr = s.jr := by simp [eyeTaken, eyeShown]

@[simp] theorem eyeTaken_tb {l : Nat} : (eyeTaken s l h v low).tb = s.tb := by simp [eyeTaken, eyeShown]

/-- LANE_EYE is committed after the result is taken as it would have been before. -/
theorem committed_laneEye (l : Fin 18) (pay : List Byte) :
    committed s ((eyeTaken s l h v low).journal 1 0x000B 0x0B03 pay) (s.recordOf s.nowShort 1 0x000B 0x0B03 pay) :=
  committed_journal_of_same (get_eyeTaken (by decide)) (get_eyeTaken (by decide)) eyeTaken_jr eyeTaken_tb ..

/-- Neither a result nor its record changes a port's link state. -/
theorem link_eyeTaken (l : Fin 18) (p : Fin 8) : (eyeTaken s l h v low).get (Reg.MAC_STAT_LINK p) = s.get (Reg.MAC_STAT_LINK p) :=
  get_eyeTaken (.inr (by simp only [Field.key, Reg.MAC_STAT_LINK]; omega))

theorem link_journal (p : Fin 8) (sev src code : Nat) (pay : List Byte) :
    (s.journal sev src code pay).get (Reg.MAC_STAT_LINK p) = s.get (Reg.MAC_STAT_LINK p) :=
  State.get_journal (by have := p.isLt; simp only [Field.key, Reg.MAC_STAT_LINK]; omega)

/-- EYE_LOW stays set as the record is made. -/
theorem bit_eyeLow_journal (l : Fin 18) (pay : List Byte) :
    ((eyeTaken s l h v true).journal 1 0x000B 0x0B03 pay).bit (Flag.LN_EYE_LOW l).bit = true := by
  have hl := l.isLt
  rw [State.bit, State.get_journal (by simp only [Field.key, Flag.LN_EYE_LOW]; omega)]
  exact State.bit_setFlag (by simp only [Field.key, Flag.LN_EYE_LOW]; omega) rfl

end

/-- Settles O58: a first result below a limit sets its flag and is journalled, as is the first one at or above both after a low one; the
lane's registers and the journal's are all that it changes. -/
theorem eyeResultsAreJournalled : Obligations.EyeResultsAreJournalled := by
  intro l h v s hint hlive hboot htest hfirst hlane
  have hf : FirstEye s l := ⟨hint, hlive, hboot, htest, hfirst, hlane⟩
  cases hb : eyeBelow s l h.toNat v.toNat with
  | true =>
    refine ⟨_, exec_eyeMeasure_of_low hf (.inl hb), fun p => (link_journal ..).trans (link_eyeTaken l p), fun _ => ?_, fun hH hV => ?_⟩
    · rw [hb]
      exact ⟨bit_eyeLow_journal l _, committed_laneEye l _⟩
    · simp [eyeBelow, Nat.not_lt.2 hH, Nat.not_lt.2 hV] at hb
  | false =>
    have hlim : ¬ (h.toNat < s.get (Reg.LN_EYE_CFG_EYE_MIN_H l) ∨ v.toNat < 4 * s.get (Reg.LN_EYE_CFG_EYE_MIN_V l)) := by
      simpa [eyeBelow] using hb
    cases hw : (s.lane l).eyeLow with
    | true =>
      refine ⟨_, exec_eyeMeasure_of_low hf (.inr hw), fun p => (link_journal ..).trans (link_eyeTaken l p), fun h => absurd h hlim,
        fun _ _ _ => ?_⟩
      rw [hb]
      exact committed_laneEye l _
    | false =>
      exact ⟨_, exec_eyeMeasure_of_good hf hb hw, link_eyeTaken l, fun h => absurd h hlim, fun _ _ h => absurd h Bool.false_ne_true⟩

/-- Settles O18: each clause is what its row's meaning answers under the clause's hypotheses. -/
theorem portEventsAct : Obligations.PortEventsAct := by
  refine ⟨fun p s => exec_signalDetect_of_down, fun l p s => exec_polarityTimeout_in_bringup,
    fun p map skew an s hl hf hm hp => ⟨_, _, rfl, rfl, ?_⟩, fun p map skew an s hl hf hm ha => ⟨_, _, rfl, rfl, ?_⟩,
    fun p lost s hl => ⟨_, rfl, exec_bringupFail_in_bringup hl⟩, fun p t s hr ht => ⟨_, rfl, fun hl hg => ?_, fun hl => ?_⟩,
    fun p c s hl h0 h4 => ?_, fun p s hl => ?_,
    fun p k s => ⟨_, faultFlagged s p k, faultShown (faultFlagged s p k) p k, rfl, rfl, rfl, fun hw hk => ?_, fun hw hk => ?_,
      fun hw hk hl => ?_⟩,
    fun p q s => exec_pauseRx_of_up, fun p c t s => exec_pauseExpiry_of_over,
    fun p c t s hs ht => ⟨_, _, rfl, rfl, exec_pauseWatchdog_of_long hs ht⟩, fun p c s => exec_pwdHoldExpiry_of_over,
    fun l h v s hint hlive hboot htest hfirst hlane => ⟨eyeShown s l h.toNat v.toNat, eyeBelow s l h.toNat v.toNat, rfl,
      (eyeBelow_eyeShown ..).symm, eyeTaken s l h.toNat v.toNat (eyeBelow s l h.toNat v.toNat), rfl, fun hb hw => ?_,
      fun hbw => exec_eyeMeasure_of_low ⟨hint, hlive, hboot, htest, hfirst, hlane⟩ hbw⟩,
    fun l errs s => exec_prbsLock_of_allowed,
    fun g s hm he hs hboot hsafe htest ht => ⟨_, _, _, _, rfl, rfl, rfl, rfl, exec_supervisionTx_first hm he hs hboot hsafe htest ht⟩,
    fun p d s hd hb => ⟨_, rfl, fun hp => ?_, fun hp hl => ?_⟩⟩
  · rw [exec_bringupComplete_of_aligned hl hf (by simp [hm]) (fun _ => hp)]
    simp [hm]
  · rw [exec_bringupComplete_of_aligned hl hf ha (fun h => absurd h hm)]
    simp [hm]
  · rw [exec_bringupRetry_of_due hr ht]
    exact congrArg Host.Outcome.next (if_pos (Bool.and_eq_true_iff.2 ⟨decide_eq_true hl, hg⟩))
  · rw [exec_bringupRetry_of_due hr ht]
    exact congrArg Host.Outcome.next (if_neg (by simp [hl]))
  · have hv : c.val ≠ 4 := fun h => h4 (Fin.ext h)
    simp [exec_linkLoss_of_up hl h0, macIf, hv]
  · simp [exec_linkLoss_of_up (c := 4) hl (by decide), macIf]
  · exact (exec_linkFaultRx_of_not_local hk).trans (congrArg Host.Outcome.next (if_neg hw))
  · exact (exec_linkFaultRx_of_not_local hk).trans (congrArg Host.Outcome.next (if_pos hw))
  · subst hk
    rw [exec_linkFaultRx]
    dsimp only
    rw [if_neg hw]
    exact congrArg Host.Outcome.next (if_pos (by simp [hl]))
  · rw [hb]
    exact exec_eyeMeasure_of_good ⟨hint, hlive, hboot, htest, hfirst, hlane⟩ hb hw
  · exact (exec_portDisturb_of_quiet hd hb).trans (congrArg Host.Outcome.next (if_neg (by simp [hp])))
  · exact (exec_portDisturb_of_quiet hd hb).trans (congrArg Host.Outcome.next ((if_pos hp).trans (if_neg hl)))

end Sys2Proof.Machine
end

section
/-!
The commands of ports, lanes and redundancy groups, accepted (O19), and the reception of a frame (O22).
-/

namespace Sys2Proof.Machine

/-! ### PORT_SET (R290) -/

section
variable {s : State} {w : Waiting}

/-- The values of PORT_SET stored, with what follows from them shown. -/
def portSetStored (s : State) (d : Desc) : State :=
  showPorts ((maskedRegs d (d.u16 18) (portAddrs (d.u8 16))).foldl (fun s r => s.storeWord r.1 r.2) s)

/-- CFGERR is set in u of a port that has none in s. -/
def newCfgErr (s u : State) : Bool :=
  (List.range 8).any (fun q => u.bit (Reg.MAC_STAT_CFGERR q) && !s.bit (Reg.MAC_STAT_CFGERR q))

theorem portSet_apply_undisturbing (he : newCfgErr s (portSetStored s w.d) = false)
    (hd : disturbs s (portSetStored s w.d) (w.d.u8 16) = false) :
    portSetOp.apply s w = finishDesc (portSetStored s w.d) w St.ok [] := by
  unfold newCfgErr portSetStored at *
  simp only [portSetOp, he, hd, Bool.not_false, if_true, Bool.false_eq_true, if_false]

/-- FORCE lets a disturbing change begin, also on a protected port. -/
theorem portSet_apply_disturbing (he : newCfgErr s (portSetStored s w.d) = false)
    (hd : disturbs s (portSetStored s w.d) (w.d.u8 16) = true) (hn : (s.port (w.d.u8 16)).disturb = none) (hf : bitOf (w.d.u8 17) 0 = true) :
    portSetOp.apply s w =
      disturb s (w.d.u8 16) ⟨1, maskedRegs w.d (w.d.u16 18) (portAddrs (w.d.u8 16)), 0, 7, some w⟩ := by
  unfold newCfgErr portSetStored at *
  simp only [portSetOp, he, hd, hn, hf, Bool.not_true, Bool.and_false, Option.isSome_none, Bool.false_eq_true, if_false]

/-! ### LANE_SET (R292) -/

/-- The values of LANE_SET stored. -/
def laneSetStored (s : State) (d : Desc) : State :=
  (maskedRegs d (d.u16 18) (laneAddrs (d.u8 16))).foldl (fun s r => s.storeWord r.1 r.2) s

theorem laneSet_apply_undisturbing
    (hp : (laneSetStored s w.d).get (Reg.LN_CFG_PRBS (w.d.u8 16)) = s.get (Reg.LN_CFG_PRBS (w.d.u8 16)))
    (hc : s.loadWord (0x0B1000 + 0x100 * w.d.u8 16) = (laneSetStored s w.d).loadWord (0x0B1000 + 0x100 * w.d.u8 16)) :
    laneSetOp.apply s w = finishDesc (laneStored (laneSetStored s w.d) (w.d.u8 16)) w St.ok [] := by
  unfold laneSetStored at *
  simp [laneSetOp, hp, hc]

/-- A change of LN_CFG of a lane whose port is UP disturbs the port. -/
theorem laneSet_apply_disturbing {p : Nat}
    (hp : (laneSetStored s w.d).get (Reg.LN_CFG_PRBS (w.d.u8 16)) = s.get (Reg.LN_CFG_PRBS (w.d.u8 16)))
    (hc : s.loadWord (0x0B1000 + 0x100 * w.d.u8 16) ≠ (laneSetStored s w.d).loadWord (0x0B1000 + 0x100 * w.d.u8 16))
    (hl : portOfLane s (w.d.u8 16) = some p) (hu : link s p = 3) (hn : (s.port p).disturb = none) (hf : bitOf (w.d.u8 17) 0 = true) :
    laneSetOp.apply s w =
      disturb s p ⟨1, maskedRegs w.d (w.d.u16 18) (laneAddrs (w.d.u8 16)), (s.port p).kind, 7, some w⟩ := by
  unfold laneSetStored at *
  simp [laneSetOp, hp, hc, hl, hu, hn, hf]

/-! ### PORT_LOOPBACK and RG_SET (R293, R294) -/

/-- A port that is UP or in LOOPBACK and not asked to stay UP begins a change, to the link state x: into LOOPBACK, or out of it. -/
theorem portLoopback_apply {x : Nat} (hx : (if w.d.u8 17 = 0 then 1 else 4) = x)
    (hl : link s (w.d.u8 16) = 4 ∨ link s (w.d.u8 16) = 3 ∧ w.d.u8 17 ≠ 0)
    (hn : (s.port (w.d.u8 16)).disturb = none) (hf : bitOf (w.d.u8 18) 0 = true) :
    portLoopbackOp.apply s w = disturb s (w.d.u8 16) ⟨x, [], w.d.u8 17, 9, some w⟩ := by
  subst hx
  have hk : ¬ (link s (w.d.u8 16) != 4 && (w.d.u8 17 = 0 || link s (w.d.u8 16) != 3)) = true := by
    rcases hl with hl | ⟨hl, h0⟩
    · simp [hl]
    · simp [hl, h0]
  exact (if_neg hk).trans <| (if_neg (by simp [hn])).trans (if_neg (by simp [hf]))

/-- The settings of RG_SET stored, with what follows from them shown. -/
def groupSetStored (s : State) (d : Desc) : State :=
  showPorts ((maskedRegs d (d.u16 18) [0x0D0000 + 0x20 * d.u8 16, 0x0D0000 + 0x20 * d.u8 16 + 4]).foldl
    (fun s r => s.storeWord r.1 r.2) s)

theorem rgSet_apply_unmoved (he : groupErr (groupSetStored s w.d) (w.d.u8 16) = false)
    (hm : [Reg.RG_CFG_MODE (w.d.u8 16), Reg.RG_CFG_PORT_A (w.d.u8 16), Reg.RG_CFG_PORT_B (w.d.u8 16)].any
      (fun f => s.get f != (groupSetStored s w.d).get f) = false) :
    rgSetOp.apply s w = finishDesc (groupSetStored s w.d) w St.ok [] := by
  unfold groupSetStored at *
  simp only [rgSetOp, he, hm, Bool.not_false, Bool.true_or, if_true, Bool.false_eq_true, if_false]

end

/-- Settles O19: an accepted command is applied at once, and its application does what each clause says. -/
theorem portCommandsAct : Obligations.PortCommandsAct := by
  refine ⟨fun s d ha => ⟨_, portSetStored (taken s d) d, rfl, rfl, fun he => ⟨fun hd => ?_, fun hd hn hf => ?_⟩⟩,
    fun s d ha => ⟨_, laneSetStored (taken s d) d, rfl, rfl, fun hp => ⟨fun hc => ?_, fun p hc hl hu hn hf => ?_⟩⟩,
    fun s d ha hl h0 hn hf => ?_, fun s d ha hl hn hf => ?_, fun s d ha => ⟨groupSetStored (taken s d) d, rfl, fun he hm => ?_⟩⟩
  · exact congrArg Host.Outcome.next (ha.submit.trans (portSet_apply_undisturbing (w := takenAs s d portSetOp.opcode) he hd))
  · exact congrArg Host.Outcome.next (ha.submit.trans (portSet_apply_disturbing (w := takenAs s d portSetOp.opcode) he hd hn hf))
  · exact congrArg Host.Outcome.next (ha.submit.trans (laneSet_apply_undisturbing (w := takenAs s d laneSetOp.opcode) hp hc))
  · exact congrArg Host.Outcome.next (ha.submit.trans (laneSet_apply_disturbing (w := takenAs s d laneSetOp.opcode) hp hc hl hu hn hf))
  · exact congrArg Host.Outcome.next (ha.submit.trans (portLoopback_apply (w := takenAs s d portLoopbackOp.opcode) (if_neg h0)
      (.inr ⟨hl, h0⟩) hn hf))
  · exact congrArg Host.Outcome.next (ha.submit.trans (portLoopback_apply (w := takenAs s d portLoopbackOp.opcode) rfl (.inl hl) hn hf))
  · exact congrArg Host.Outcome.next (ha.submit.trans (rgSet_apply_unmoved (w := takenAs s d rgSetOp.opcode) he hm))

/-! ### The reception of a frame (R273, R276, R286) -/

section
variable {p : Fin 8} {f : FrameIn} {s : State}

/-- In SAFE a frame is counted and no more. -/
theorem exec_frameRx_in_safe (hl : link s p = 3 ∨ link s p = 4) (hm : s.mode = .safe) :
    exec (.frameRx p f) s = .next (countRx s p f) := by
  have hup : ¬ (link s p != 3 && link s p != 4) = true := by
    rcases hl with hl | hl <;> simp [hl]
  exact congrArg Host.Outcome.next ((if_neg hup).trans (if_pos (by simp [countRx_mode, hm])))

/-- On an UP port in SERVICE the frame counted is dropped for its destination or for its source, or else stored. -/
theorem exec_frameRx_in_service (hl : link s p = 3) (hm : s.mode = .service) (hu : link (countRx s p f) p = 3) :
    exec (.frameRx p f) s =
      let u := countRx s p f
      .next (if !daOk u p f.da then macBump u p 24 1 else if f.sa = macAddr u p then macBump u p 25 1 else storeFrame u p f) := by
  have hup : ¬ (link s p != 3 && link s p != 4) = true := by simp [hl]
  exact congrArg Host.Outcome.next <| (if_neg hup).trans <|
    (if_neg (by simp [countRx_mode, hm, hu])).trans (if_neg (by simp [countRx_mode, hm]))

theorem storeFrame_without_room (hr : f.room = false) :
    storeFrame s p f = (macBump s p 23 1).setFlag (Flag.MAC_BUF_DROP p) :=
  if_pos (by simp [hr])

end

/-- Settles O22: counting leaves the mode, and what follows goes by the destination, the source and the room, in this order (log 50). -/
theorem frameReceived : Obligations.FrameReceived := by
  refine ⟨fun p f s => exec_frameRx_in_safe, fun p f s hl hm => ⟨_, rfl, fun _ hu => ?_⟩⟩
  rw [exec_frameRx_in_service hl hm hu]
  have accepted {u : State} (hd : daOk u p f.da = true) : ¬ (!daOk u p f.da) = true := by simp [hd]
  refine ⟨fun hd => ?_, fun hd hs => ?_, fun hd hs => ?_, fun hd hs hr => ?_⟩
  · exact congrArg Host.Outcome.next (if_pos (congrArg not hd))
  · exact congrArg Host.Outcome.next ((if_neg (accepted hd)).trans (if_pos hs))
  · exact congrArg Host.Outcome.next ((if_neg (accepted hd)).trans (if_neg hs))
  · rw [← storeFrame_without_room hr]
    exact congrArg Host.Outcome.next ((if_neg (accepted hd)).trans (if_neg hs))

end Sys2Proof.Machine
end

section
/-!
Scheduled egress: the rows of booked frames, of frames that are not booked and of calibration (O20), and PORT_CALIBRATE and TSU_SET, accepted (O21).
-/

namespace Sys2Proof.Machine

/-! ### Booked frames (R308, R310, R312) -/

section
variable {s : State} {p : Fin 8} {b : Booking}

/-- What becomes of the first booking whose D is reached goes by whether its data are in the TSU and whether it is already counted. -/
theorem exec_frameArm_of_due (h : (booksOf s p).find? (fun b => !b.armed && deadlineAt s b ≤ (s.tbU : Int)) = some b) :
    exec (.frameArm p) s =
      .next (if b.inTsu then putBook s { b with armed := true } else if b.dead then freeBook s b else discard s b 0) := by
  show execFrameArm p s = _
  rw [execFrameArm, h]

/-- What becomes of the first armed booking whose L is reached goes by the cause that withholds it. -/
theorem exec_frameLaunch_of_due {o : Option Nat}
    (h : (booksOf s p).find? (fun b => b.armed && !b.launched && launchAt s b ≤ (s.tbU : Int)) = some b) (hc : launchCause s b = o) :
    exec (.frameLaunch p) s = .next (o.elim (putBook s { b with launched := true }) (discard s b)) := by
  show execFrameLaunch p s = _
  simp only [execFrameLaunch, h, hc]
  cases o <;> rfl

/-- Freeing a booking leaves VTOL, so the frame is judged by the VTOL in force. -/
theorem exec_egressVerify_within_vtol {edge : Edge} {stamp : Nat} {diff : Int} (h : (booksOf s p).find? (fun b => b.launched) = some b)
    (hc : b.cut = false) (hs : stamp = egressStamp s p edge b.txDly)
    (hd : diff = roundQ ((((stamp : Int) - (b.ttx : Int) : Int) : Rat) * 1000 / 65536)) (hv : absN diff ≤ s.get Reg.TSU_CFG_VTOL) :
    exec (.egressVerify p edge) s =
      .next (stampReturns (departs (lineTick (checkAt (freeBook s b) (0x40 + p) false 0 0xFF 0 (satS 32 diff)))
        p b.msg b.red b.clen stamp true) b stamp) := by
  subst hs hd
  have hgood : ¬ (freeBook s b).get Reg.TSU_CFG_VTOL < absN
      (roundQ ((((egressStamp s p edge b.txDly : Int) - (b.ttx : Int) : Int) : Rat) * 1000 / 65536)) := Nat.not_lt.2 hv
  show execEgressVerify p edge s = _
  simp only [execEgressVerify, h, hc, hgood, decide_false, Bool.false_and, Bool.false_eq_true, if_false]

end

/-! ### Frames that are not booked (R309) -/

theorem exec_unbookedTx_of_fit {s : State} {p : Fin 8} {edge : Edge} {u : Unbooked} {stamp : Nat}
    (h : s.lan.unb.find? (fun u => u.port = p.val && !pauseHolds s u && mayLeave s u) = some u)
    (hs : stamp = egressStamp s p edge (s.get (Reg.TSU_TXDLY_TX_DLY p))) (hm : mayTransmit s p = true)
    (hf : fitsNow s p u.len stamp = true) (hi : u.inj = none) :
    exec (.unbookedTx p edge) s = .next (departs (lineTick
      { s with lan := { s.lan with unb := takeFirst (fun u => u.port = p.val && !pauseHolds s u && mayLeave s u) s.lan.unb } })
      p u.msg u.red u.len stamp false) := by
  subst hs
  show execUnbookedTx p edge s = _
  simp only [execUnbookedTx, h, hm, hf, hi, Bool.not_true, Bool.or_self, Bool.false_eq_true, if_false]

/-! ### Calibration (R315, R316) -/

section
variable {s : State} {p : Fin 8} {tx rx : Int} {l : LongOp}

/-- A probe is sent 10 µs after the one before it, of METHOD 0 where that runs and else of METHOD 1. -/
theorem exec_calProbe_of_due (h : (s.cal p).probeAt + 10000 ≤ s.freeNs) :
    exec (.calProbe p tx rx) s = .next (
      if calRuns s p 0 then calSample s p (rx - tx - Config.kLoop p - (s.tsu.trims.get (fun _ => 0) p) * 512 / 1000)
      else if calRuns s p 1 then calSample s p (rx - tx) else s) :=
  congrArg Host.Outcome.next (if_neg (Nat.not_lt.2 h))

theorem exec_portCalibrateDone_of_cancel (h : calOp s p = some l) (hc : l.cancelReq = true) :
    exec (.portCalibrateDone p) s = .next (endCal s l St.cancelled) := by
  show execPortCalibrateDone p s = _
  simp only [execPortCalibrateDone, h, hc, if_true]

theorem exec_portCalibrateDone_of_count (h : calOp s p = some l) (hc : l.cancelReq = false) (hs : l.suspended = false)
    (hn : l.d.u32 20 ≤ (s.cal p).n) : exec (.portCalibrateDone p) s = .next (endCal s l St.ok) := by
  show execPortCalibrateDone p s = _
  simp only [execPortCalibrateDone, h, hc, hs, hn, Bool.false_eq_true, if_false, if_true]

end

/-- Settles O20: each clause is what its row's meaning answers under the clause's hypotheses (logs 49 and 95). -/
theorem egressEventsAct : Obligations.EgressEventsAct := by
  refine ⟨fun p b s h => ⟨fun hi => ?_, fun hi hd => ?_, fun hi hd => ?_⟩,
    fun p b s h => ⟨exec_frameLaunch_of_due h, fun c => exec_frameLaunch_of_due h⟩,
    fun p edge b s h hc => ⟨_, _, rfl, rfl, exec_egressVerify_within_vtol h hc rfl rfl⟩,
    fun p edge u s h => ⟨_, rfl, exec_unbookedTx_of_fit h rfl⟩, fun p s => rfl, fun p tx rx s ht h0 => ?_, fun p tx rx s ht h0 h1 => ?_,
    fun p l s => exec_portCalibrateDone_of_count, fun p l s => exec_portCalibrateDone_of_cancel⟩
  · rw [exec_frameArm_of_due h, if_pos hi]
  · rw [exec_frameArm_of_due h, if_neg (by simp [hi]), if_neg (by simp [hd])]
  · rw [exec_frameArm_of_due h, if_neg (by simp [hi]), if_pos hd]
  · rw [exec_calProbe_of_due ht, if_pos h0]
  · rw [exec_calProbe_of_due ht, if_neg (by simp [h0]), if_pos h1]

/-! ### PORT_CALIBRATE and TSU_SET (R315, R319) -/

section
variable {s : State} {w : Waiting}

/-- FORCE lets METHOD 0 and 1 disturb a protected port, and METHOD 2 asks for the lock alone. -/
theorem portCalibrate_apply (hn : calOp s (w.d.u8 16) = none) (hl : link s (w.d.u8 16) ≠ 4)
    (hm : (calMethod w.d ≤ 1 ∧ bitOf (w.d.u8 18) 0 = true) ∨ (calMethod w.d = 2 ∧ calLocked s (w.d.u8 16) = true)) :
    portCalibrateOp.apply s w = showCal (calDisturb (startLong (s.setCal (w.d.u8 16) { Cal.zero with probeAt := s.freeNs }) w (w.d.u8 16))
      (w.d.u8 16) (calMethod w.d)) (w.d.u8 16) := by
  have hprotect : ¬ (calMethod w.d ≤ 1 && portProtected s (w.d.u8 16) && !bitOf (w.d.u8 18) 0) = true := by
    rcases hm with ⟨-, hf⟩ | ⟨h2, -⟩
    · simp [hf]
    · simp [h2]
  have hlocked : ¬ (calMethod w.d = 2 && !calLocked s (w.d.u8 16)) = true := by
    rcases hm with ⟨h1, -⟩ | ⟨-, hk⟩
    · have : calMethod w.d ≠ 2 := by omega
      simp [this]
    · simp [hk]
  exact (if_neg (by simp [hn, hl])).trans <| (if_neg hprotect).trans (if_neg hlocked)

/-- TSU_SET stores what it is given where it does not move the stamps of a protected port. -/
theorem tsuSet_apply (h : w.d.u8 16 = 255 ∨ portProtected s (w.d.u8 16) = false) :
    tsuSetOp.apply s w = finishDesc (storeMasked s w.d (w.d.u16 18) (tsuAddrs (w.d.u8 16))) w St.ok [] := by
  rcases h with h | h <;> simp [tsuSetOp, h]

end

/-- Settles O21: an accepted command is applied at once, and its application does what each clause says. -/
theorem egressCommandsAct : Obligations.EgressCommandsAct := by
  refine ⟨fun s d ha hn hl hm => congrArg Host.Outcome.next (ha.submit.trans ?_),
    fun s d ha ht => congrArg Host.Outcome.next (ha.submit.trans ?_), fun s d ha _ hp => congrArg Host.Outcome.next (ha.submit.trans ?_)⟩
  · exact portCalibrate_apply (w := takenAs s d portCalibrateOp.opcode) hn hl hm
  · have hvtol : tsuAddrs (d.u8 16) = [0x0E0000] := if_pos ht
    rw [← hvtol]
    exact tsuSet_apply (w := takenAs s d tsuSetOp.opcode) (.inl ht)
  · exact tsuSet_apply (w := takenAs s d tsuSetOp.opcode) (.inr hp)

end Sys2Proof.Machine
end

section
/-!
The commands of the service engines, accepted, and the windows of their tables (O24).
-/

namespace Sys2Proof.Machine

section
variable {s : State} {w : Waiting}

/-! ### CLA_SET (R355) -/

/-- Values that leave no error behind, alter no feeding client and change no W_cls are stored at once. -/
theorem claSet_apply_undisturbing {l : List Nat} {u : State} (hl : claAddrs (w.d.u8 16) = some l)
    (hu : storeService s (maskedWords w.d (w.d.u16 18) l) = u) (he : claCfgErr u = false) (hc : clientsAltered s u = [])
    (hw : wChanged s u = []) :
    claSetOp.apply s w = finishDesc { u with sel := { u.sel with dq := u.sel.dq ++ [] } } w St.ok [] := by
  simp [claSetOp, hl, hu, he, hc, hw]

/-! ### CLA_RULE and STREAM_SET (R325, R356) -/

theorem claRule_apply_write (h : w.d.u8 18 = 0) :
    claRuleOp.apply s w = finishDesc (putRule s (w.d.u16 16) (opImage w.d)) w St.ok [] := by
  simp [claRuleOp, h]

theorem claRule_apply_enable (h : w.d.u8 18 = 1) :
    claRuleOp.apply s w = finishDesc (putRule s (w.d.u16 16) (withBit (s.rule (w.d.u16 16)) 25 true)) w St.ok [] := by
  simp [claRuleOp, h]

theorem claRule_apply_clear (h : w.d.u8 18 = 3) : claRuleOp.apply s w = finishDesc (putRule s (w.d.u16 16) []) w St.ok [] := by
  simp [claRuleOp, h]

/-- What STREAM_SET's check passes leaves a valid stream. -/
theorem streamOk_of_check {d : Desc} (h : streamSetOp.check s d = 0) : streamOk s d = true := by
  by_contra hk
  exact absurd ((if_pos (by simp [hk])).symm.trans h) (by decide : St.invalid ≠ 0)

theorem streamSet_apply_valid (h : streamOk s w.d = true) :
    streamSetOp.apply s w = finishDesc (putStream s (w.d.u16 16) (streamImage s w.d)) w St.ok [] :=
  if_neg (by simp [h])

end

/-! ### The windows of streams and rules (R331) -/

theorem exec_claStrWrite_in_setup {s : State} {i : Fin 512} (h : s.mode = .setup) :
    exec (.claStrWrite i) s =
      let u := s.put Reg.CLA_STR_ADDR_INDEX i
      let r := dataImage u Reg.CLA_STR_DATA_DATA
      .next (if streamValid u i r then putStream (u.putB Reg.CLA_STR_ADDR_ERR false) i r else u.putB Reg.CLA_STR_ADDR_ERR true) :=
  congrArg Host.Outcome.next (if_neg (by simp [h]))

theorem exec_claRuleWrite_in_setup {s : State} {i : Fin 4096} (h : s.mode = .setup) :
    exec (.claRuleWrite i) s =
      let u := s.put Reg.CLA_RULE_ADDR_INDEX i
      let r := dataImage u Reg.CLA_RULE_DATA_DATA
      .next (if ruleValid r then putRule (u.putB Reg.CLA_RULE_ADDR_ERR false) i r else u.putB Reg.CLA_RULE_ADDR_ERR true) :=
  congrArg Host.Outcome.next (if_neg (by simp [h]))

/-- Settles O24: an accepted command is applied at once, and its application does what each clause says; the rows of the windows act as
they come. -/
theorem serviceCommandsAct : Obligations.ServiceCommandsAct := by
  refine ⟨fun s d l ha hl => ⟨_, rfl, fun he hc hw => congrArg Host.Outcome.next (ha.submit.trans ?_)⟩,
    fun s d ha h0 => congrArg Host.Outcome.next (ha.submit.trans ?_), fun s d ha h1 => congrArg Host.Outcome.next (ha.submit.trans ?_),
    fun s d ha h3 => congrArg Host.Outcome.next (ha.submit.trans ?_), fun s d ha => congrArg Host.Outcome.next (ha.submit.trans ?_),
    fun i s => rfl, fun i s => rfl, fun i s hs => ⟨_, _, rfl, rfl, fun hv => ?_, fun hv => ?_⟩,
    fun i s hs => ⟨_, _, rfl, rfl, fun hv => ?_, fun hv => ?_⟩⟩
  · exact claSet_apply_undisturbing (w := takenAs s d claSetOp.opcode) hl rfl he hc hw
  · exact claRule_apply_write (w := takenAs s d claRuleOp.opcode) h0
  · exact claRule_apply_enable (w := takenAs s d claRuleOp.opcode) h1
  · exact claRule_apply_clear (w := takenAs s d claRuleOp.opcode) h3
  · exact streamSet_apply_valid (w := takenAs s d streamSetOp.opcode) (streamOk_of_check ha.check)
  · exact (exec_claStrWrite_in_setup hs).trans (congrArg Host.Outcome.next (if_pos hv))
  · exact (exec_claStrWrite_in_setup hs).trans (congrArg Host.Outcome.next (if_neg (by simp [hv])))
  · exact (exec_claRuleWrite_in_setup hs).trans (congrArg Host.Outcome.next (if_pos hv))
  · exact (exec_claRuleWrite_in_setup hs).trans (congrArg Host.Outcome.next (if_neg (by simp [hv])))

end Sys2Proof.Machine
end

section
/-!
What every step keeps: the memories' canonical form (O45, O46) and the count of free values (O49).
-/

namespace Sys2Proof.Machine

/-- The queue is no memory. -/
theorem State.Canon.with_pending {s : State} (h : s.Canon) (q : List Instr) : State.Canon { s with pending := q } :=
  ⟨h.regs, h.mem, h.host, h.ring, h.sram⟩

/-- The end of a cycle writes none of the memories. -/
theorem State.Canon.cycleEnd {s : State} (h : s.Canon) (live : Bool) : (cycleEnd s live).Canon :=
  ⟨h.regs, h.mem, h.host, h.ring, h.sram⟩

/-- What the units do as a cycle passes, and what follows its end, are in their frames, which keep the canonical form. -/
theorem State.Canon.tick {s : State} (h : s.Canon) : (tick s).Canon :=
  ((within_tick s).kept (covers_partSet _)).canon
    ((((within_cycleWork s).kept (covers_partSet _)).canon h).cycleEnd s.tbLive)

theorem cycleEnd_free (s : State) (live : Bool) : (cycleEnd s live).free = s.free := rfl

theorem free_le_tick (s : State) : s.free ≤ (tick s).free :=
  calc s.free ≤ (cycleWork s).free := ((within_cycleWork s).kept (covers_partSet _)).free
    _ = (cycleEnd (cycleWork s) s.tbLive).free := (cycleEnd_free ..).symm
    _ ≤ (tick s).free := ((within_tick s).kept (covers_partSet _)).free

/-- A step is a cycle that passes or a command's effect on the state with the queue's rest. -/
theorem step_cases {s t : State} (h : step s = .next t) :
    t = tick s ∨ ∃ c q, s.pending = c :: q ∧ exec c { s with pending := q } = .next t := by
  unfold step at h
  split at h
  next => exact .inl (Host.Outcome.next.inj h).symm
  next c q hq => exact .inr ⟨c, q, hq, h⟩

/-- Settles O45: the memories of the reset state list no entry. -/
theorem resetIsCanonical : Obligations.ResetIsCanonical :=
  ⟨rfl, rfl, rfl, rfl, rfl⟩

/-- Settles O46: a cycle that passes keeps the canonical form, and a command does by its frame. -/
theorem everyStepKeepsCanonicalForm : Obligations.EveryStepKeepsCanonicalForm := by
  intro s t hs h
  rcases step_cases h with rfl | ⟨c, q, -, hc⟩
  · exact hs.tick
  · exact (kept_exec hc).canon (hs.with_pending q)

/-- Settles O49: neither a cycle that passes nor a command gives a free value back. -/
theorem freeValuesAreNeverReused : Obligations.FreeValuesAreNeverReused := by
  intro s t h
  rcases step_cases h with rfl | ⟨c, q, -, hc⟩
  · exact free_le_tick s
  · exact (kept_exec hc).free

end Sys2Proof.Machine
end

section
/-!
What of the fault records survives a device reset (O54), the sources whose events are never consequential (O55), and the journal window (O56).
-/

namespace Sys2Proof.Machine

/-! ### The registers that a device reset keeps (R475) -/

/-- Dropping the entries of some keys leaves those keys at their defaults and the others as they were. -/
theorem get_filter_key {α : Type} (d : Nat → α) (f : Nat → Bool) (k : Nat) (m : SMap α) :
    SMap.get d (List.filter (fun p => f p.1) m) k = if f k then SMap.get d m k else d k := by
  induction m with
  | nil => simp [SMap.get]
  | cons p m ih =>
    rw [List.filter_cons]
    by_cases hk : p.1 = k
    · subst hk
      split
      next => simp [SMap.get]
      next hf => simp [ih, hf]
    · split <;> simp [SMap.get, hk, ih]

/-- What a device reset leaves before PRIOR is set: the reset state but for what R475 keeps, the AO time and what lies outside. -/
def heldOver (s : State) : State :=
  { powerOn s with
    regs := s.regs.filter (fun p => keptReg p.1),
    tb := { (powerOn s).tb with ao := s.tb.ao },
    flt := { (powerOn s).flt with hist := s.flt.hist },
    sys := { (powerOn s).sys with aoPor := s.sys.aoPor } }

theorem deviceReset_eq (s : State) : deviceReset s =
    if (heldOver s).bit Reg.FLT_FF_STAT_VALID then (heldOver s).putB Reg.FLT_FF_STAT_PRIOR true else heldOver s := rfl

section
variable {s : State} {g : Field}

theorem get_heldOver (s : State) (g : Field) : (heldOver s).get g = if keptReg g.key then s.get g else State.reset.get g :=
  get_filter_key ..

theorem deviceReset_hist (s : State) : (deviceReset s).flt.hist = s.flt.hist := by
  rw [deviceReset_eq]
  split <;> rfl

theorem get_deviceReset (hg : g.key ≠ Reg.FLT_FF_STAT_PRIOR.key) :
    (deviceReset s).get g = if keptReg g.key then s.get g else State.reset.get g := by
  rw [deviceReset_eq, ← get_heldOver]
  split
  · exact State.get_put_ne hg
  · rfl

theorem get_deviceReset_of_kept (hg : g.key ≠ Reg.FLT_FF_STAT_PRIOR.key) (hk : keptReg g.key = true) :
    (deviceReset s).get g = s.get g := by
  rw [get_deviceReset hg, if_pos hk]

/-- A register that R475 does not keep is at its reset value. -/
theorem get_deviceReset_of_not_kept (hk : keptReg g.key = false) : (deviceReset s).get g = State.reset.get g := by
  have hg : g.key ≠ Reg.FLT_FF_STAT_PRIOR.key := fun h => absurd (h ▸ hk) (by decide)
  rw [get_deviceReset hg, if_neg (by simp [hk])]

theorem bit_prior_of_held (h : s.bit Reg.FLT_FF_STAT_VALID = true) : (deviceReset s).bit Reg.FLT_FF_STAT_PRIOR = true := by
  have hv : (heldOver s).bit Reg.FLT_FF_STAT_VALID = true := by
    rw [State.bit, get_heldOver, if_pos (by decide)]
    exact h
  rw [deviceReset_eq, if_pos hv, State.bit, State.putB, State.get_put_same]
  rfl

/-- The key of a field names its register. -/
theorem key_div (hl : g.lo < 32) : g.key / 32 = g.addr := by
  unfold Field.key
  omega

/-- The first-fault record's registers are kept. -/
theorem keptReg_record (hl : g.lo < 32) (h : 0x140040 ≤ g.addr) (h' : g.addr < 0x1400A0) : keptReg g.key = true := by
  simp [keptReg, key_div hl, h, h']

/-- Of a source's registers the counts are kept, and the settings are not. -/
theorem keptReg_source {i : Nat} (hi : i < 256) (hl : g.lo < 32) {o : Nat} (ho : o < 16) (ha : g.addr = 0x141000 + 0x10 * i + o) :
    keptReg g.key = decide (8 ≤ o) := by
  have hm : (0x141000 + 0x10 * i + o) % 16 = o := by omega
  have hr : ¬ 0x141000 + 0x10 * i + o < 0x1400A0 := by omega
  have hlo : 0x141000 ≤ 0x141000 + 0x10 * i + o := by omega
  have hhi : 0x141000 + 0x10 * i + o < 0x142000 := by omega
  simp only [keptReg, key_div hl, ha, hm, hr, hlo, hhi, decide_false, decide_true, Bool.and_false, Bool.false_or, Bool.true_and]

end

/-- Settles O54: PRIOR apart, a device reset leaves the registers of R475 as they were and every other one at its reset value. -/
theorem faultRecordsSurviveDeviceReset : Obligations.FaultRecordsSurviveDeviceReset := by
  have hprior {g : Field} (hl : g.lo < 32) (ha : g.addr ≠ 0x140040) : g.key ≠ Reg.FLT_FF_STAT_PRIOR.key := by
    simp only [Field.key, Reg.FLT_FF_STAT_PRIOR]
    omega
  refine ⟨fun s t h => ?_, fun s t h => ?_⟩
  · cases h
    refine ⟨deviceReset_hist s, fun g hl ha ha' => ?_, fun g hl ha _ hp => ?_, fun i hi => ⟨?_, ?_, ?_, ?_, ?_⟩, bit_prior_of_held,
      get_deviceReset_of_not_kept (by decide), get_deviceReset_of_not_kept (by decide)⟩
    · exact get_deviceReset_of_kept (hprior hl (by omega)) (keptReg_record hl (by omega) ha')
    · refine get_deviceReset_of_kept ?_ (keptReg_record hl (by omega) (by omega))
      simp only [Field.key, Reg.FLT_FF_STAT_PRIOR]
      omega
    · exact get_deviceReset_of_kept (hprior (by simp [Reg.FLT_SRC_CNT_COUNT]) (by simp only [Reg.FLT_SRC_CNT_COUNT]; omega))
        (keptReg_source (o := 8) hi (by simp [Reg.FLT_SRC_CNT_COUNT]) (by decide) (by simp only [Reg.FLT_SRC_CNT_COUNT]; omega))
    · exact get_deviceReset_of_kept (hprior (by simp [Reg.FLT_SRC_CONSEQ_CONSEQ]) (by simp only [Reg.FLT_SRC_CONSEQ_CONSEQ]; omega))
        (keptReg_source (o := 12) hi (by simp [Reg.FLT_SRC_CONSEQ_CONSEQ]) (by decide) (by simp only [Reg.FLT_SRC_CONSEQ_CONSEQ]; omega))
    · exact get_deviceReset_of_not_kept (keptReg_source (o := 0) hi (by simp [Reg.FLT_SRC_CFG_CLASS]) (by decide) rfl)
    · exact get_deviceReset_of_not_kept (keptReg_source (o := 0) hi (by simp [Reg.FLT_SRC_CFG_N]) (by decide) rfl)
    · exact get_deviceReset_of_not_kept (keptReg_source (o := 0) hi (by simp [Reg.FLT_SRC_CFG_W]) (by decide) rfl)
  · cases h
    exact ⟨rfl, fun g => rfl⟩

/-! ### Sources whose events are never consequential (R478) -/

theorem causeWin_of_never {s : State} {src m t : Nat} (h : src = 0 ∨ fixedFatal src = true) : causeWin s src m t = none :=
  if_pos (by simpa [neverConseq] using h)

/-- An event's decision names the window that makes it consequential. -/
theorem classEvent_cause (s : State) (e : FltEvent) : (classEvent s e).2.cause = causeOfEvent s e := by
  unfold classEvent
  extract_lets cause
  split <;> rfl

/-- Settles O55: no window makes an event of these sources consequential. -/
theorem fixedFatalEventsAreNeverConsequential : Obligations.FixedFatalEventsAreNeverConsequential :=
  ⟨by decide, fun s e h => (classEvent_cause s e).trans (causeWin_of_never h), fun _ _ _ _ => causeWin_of_never⟩

/-! ### The journal window (R538) -/

/-- The eight words of a window, latched from bytes. -/
def latched (s : State) (F : Nat → Field) (b : List Byte) : State :=
  (List.range 8).foldl (fun s k => s.put (F k) (leNat b (4 * k) 4)) s

/-- The journal window as a write of its address leaves it. -/
def jrnlWindow (s : State) (ok : Bool) (b : List Byte) : State :=
  latched ((s.putB Reg.OBS_JRNL_WSTAT_VALID ok).putB Reg.OBS_JRNL_WSTAT_ERR (!ok)) Reg.OBS_JRNL_WDATA_DATA b

section
variable {s : State}

theorem get_foldl_put_ne {F : Nat → Field} {v : Nat → Nat} {l : List Nat} {g : Field} (h : ∀ k ∈ l, g.key ≠ (F k).key) :
    (l.foldl (fun s k => s.put (F k) (v k)) s).get g = s.get g := by
  induction l generalizing s with
  | nil => rfl
  | cons k l ih =>
    rw [List.foldl_cons, ih fun j hj => h j (List.mem_cons_of_mem _ hj), State.get_put_ne (h k List.mem_cons_self)]

/-- Of fields with different keys each reads what was put there. -/
theorem get_foldl_put {F : Nat → Field} {v : Nat → Nat} {l : List Nat} {j : Nat} (hj : j ∈ l)
    (h : ∀ k ∈ l, (F j).key = (F k).key → j = k) :
    (l.foldl (fun s k => s.put (F k) (v k)) s).get (F j) = v j % 2 ^ (F j).w := by
  induction l generalizing s with
  | nil => cases hj
  | cons k l ih =>
    rw [List.foldl_cons]
    by_cases hl : j ∈ l
    · exact ih hl fun k hk => h k (List.mem_cons_of_mem _ hk)
    · obtain rfl : j = k := (List.mem_cons.1 hj).resolve_right hl
      rw [get_foldl_put_ne fun k hk he => hl (h k (List.mem_cons_of_mem _ hk) he ▸ hk), State.get_put_same]

theorem leNat_nil (o n : Nat) : leNat [] o n = 0 := by
  induction n generalizing o with
  | zero => rfl
  | succ n ih => simp [leNat, ih]

/-- The journal window latches the slot of a JIDX that is retained, and nothing of another. -/
theorem exec_obsJrnlWaddr {j : Word} (h : s.mode ≠ .test) :
    exec (.obsJrnlWaddr j) s =
      let u := s.put Reg.OBS_JRNL_WADDR_JIDX j.toNat
      let ok := jrnlRetained u j.toNat
      .next (jrnlWindow u ok (if ok then (jrnlSlot u j.toNat).item.bytes else [])) :=
  congrArg Host.Outcome.next (if_neg h)

/-- The written address is neither of the bounds of what is retained. -/
theorem jrnlRetained_put_waddr (v j : Nat) : jrnlRetained (s.put Reg.OBS_JRNL_WADDR_JIDX v) j = jrnlRetained s j := by
  simp only [jrnlRetained]
  rw [State.get_put_ne (by decide), State.get_put_ne (by decide)]

end

section
variable (s : State) (ok : Bool) (b : List Byte)

theorem get_jrnlWindow_of_below {g : Field} (hg : g.key < 46144512) :
    (jrnlWindow s ok b).get g = ((s.putB Reg.OBS_JRNL_WSTAT_VALID ok).putB Reg.OBS_JRNL_WSTAT_ERR (!ok)).get g :=
  get_foldl_put_ne fun k _ => key_ne hg (by simp only [Field.key, Reg.OBS_JRNL_WDATA_DATA]; omega)

theorem jrnlWindow_valid : (jrnlWindow s ok b).bit Reg.OBS_JRNL_WSTAT_VALID = ok := by
  rw [State.bit, get_jrnlWindow_of_below _ _ _ (by decide), State.putB, State.get_put_ne (by decide), State.putB, State.get_put_same]
  cases ok <;> rfl

theorem jrnlWindow_err : (jrnlWindow s ok b).bit Reg.OBS_JRNL_WSTAT_ERR = !ok := by
  rw [State.bit, get_jrnlWindow_of_below _ _ _ (by decide), State.putB, State.get_put_same]
  cases ok <;> rfl

theorem jrnlWindow_data {k : Nat} (hk : k < 8) : (jrnlWindow s ok b).get (Reg.OBS_JRNL_WDATA_DATA k) = leNat b (4 * k) 4 % 2 ^ 32 :=
  get_foldl_put (List.mem_range.2 hk) fun j _ h => by
    simp only [Field.key, Reg.OBS_JRNL_WDATA_DATA] at h
    omega

end

/-- Settles O56: the JIDX is retained or it is not, and the window's words are those of its slot or all 0. -/
theorem journalWindowLatchesRecord : Obligations.JournalWindowLatchesRecord := by
  intro j s hm
  have he : exec (.obsJrnlWaddr j) s = .next (jrnlWindow (s.put Reg.OBS_JRNL_WADDR_JIDX j.toNat) (jrnlRetained s j.toNat)
      (if jrnlRetained s j.toNat then (jrnlSlot s j.toNat).item.bytes else [])) := by
    simp only [exec_obsJrnlWaddr hm, jrnlRetained_put_waddr]
    rfl
  have hsame (p : Part) (hp : p ≠ .regs) := everyCommandKeepsItsFrame _ _ _ he p (by simpa [mayChange] using hp)
  refine ⟨_, he, fun h => ?_, fun h => ?_, hsame .jr (by decide), hsame .hif (by decide), hsame .obs (by decide)⟩
  · have hok : jrnlRetained s j.toNat = true := decide_eq_true h
    rw [hok]
    exact ⟨jrnlWindow_valid .., jrnlWindow_err .., fun k hk => jrnlWindow_data _ _ _ hk⟩
  · have hok : jrnlRetained s j.toNat = false := decide_eq_false (Nat.not_lt.2 h)
    rw [hok]
    exact ⟨jrnlWindow_valid .., jrnlWindow_err .., fun k hk => (jrnlWindow_data _ _ _ hk).trans (by simp [leNat_nil])⟩

end Sys2Proof.Machine
end

section
/-!
PCIe events, register aborts and the return of a supervisor (O27), the commands of the host interface (O28), and the SMBus view (O29).
-/

namespace Sys2Proof.Machine

/-! ### PCIe events (R392–R394) -/

section
variable {s : State}

theorem exec_dmaError {r : Fin 64} (h : ringState s r = 1) :
    exec (.dmaError r) s =
      let u := ringError (s.setFlag Flag.HIF_DMA_ERR) r 2 (s.get (Reg.HR_CONS_IDX r))
      .next (check (u.journal 1 0x0002 0x02F5 (leBytes 1 4 ++ leBytes 1 (u.get Reg.HIF_STAT_SPEED) ++
        leBytes 1 (u.get Reg.HIF_STAT_WIDTH))) 0x1A true) :=
  congrArg Host.Outcome.next (if_neg (by simp [h]))

variable (hp : pcieRuns s = true)
include hp

theorem exec_pcieFlr (h : s.bit Reg.HIF_STAT_LINK_UP = true) :
    exec .pcieFlr s = .next (msixReset (pcieEvent (stallRings (configReset (s.setFlag Flag.HIF_FLR))) 2)) :=
  congrArg Host.Outcome.next (if_neg (by simp [hp, h]))

theorem exec_pcieBmeClear (h : s.bit Reg.HIF_STAT_BME = true) :
    exec .pcieBmeClear s = .next (pcieEvent (stallRings (hifShow s (fun s => s.putB Reg.HIF_STAT_BME false))) 3) :=
  congrArg Host.Outcome.next (if_neg (by simp [hp, h]))

theorem exec_pcieD3hot (h : s.bit Reg.HIF_STAT_LINK_UP = true) (hd : s.hif.d3hot = false) :
    exec .pcieD3hot s = .next (pcieEvent (stallRings { s with hif := { s.hif with d3hot := true } }) 5) :=
  congrArg Host.Outcome.next (if_neg (by simp [hp, h, hd]))

theorem exec_pcieLinkDown (h : s.bit Reg.HIF_STAT_LINK_UP = true) :
    exec .pcieLinkDown s = .next (msixReset (configReset (linkDown s))) :=
  congrArg Host.Outcome.next (if_neg (by simp [hp, h]))

theorem exec_pcieLinkUp {speed : Fin 6} {width : Fin 9} (h : s.bit Reg.HIF_STAT_LINK_UP = false) :
    exec (.pcieLinkUp speed width) s = .next (pcieEvent (hifShow s (fun s =>
      ((s.putB Reg.HIF_STAT_LINK_UP true).put Reg.HIF_STAT_SPEED speed).put Reg.HIF_STAT_WIDTH width)) 1) :=
  congrArg Host.Outcome.next (if_neg (by simp [hp, h]))

theorem exec_perst : exec .perst s = .next (msixReset (configReset (linkDown s))) :=
  congrArg Host.Outcome.next (if_neg (by simp [hp]))

theorem exec_dmaPermitted (h : s.bit Reg.HIF_STAT_LINK_UP = true) (hd : s.dmaOk = false) :
    exec .dmaPermitted s =
      let u := hifShow s (fun s => s.putB Reg.HIF_STAT_BME true)
      .next ((List.range 72).foldl releaseVector { u with hif := { u.hif with d3hot := false } }) :=
  congrArg Host.Outcome.next (if_neg (by simp [hp, h, hd]))

/-! ### Register aborts (R420) -/

/-- An abort that R418 and R421 let through is carried out, and its counts are published. -/
theorem regAbort_of_runAbort {kind engine ring : Nat} {a : AbortDone}
    (hk : (kind = 0 ∧ engine ≤ 19) ∨ (kind = 2 ∧ s.get (Reg.HR_CFG_TYPE ring) ≠ 1)) (ha : runAbort s kind engine ring 0 = some a) :
    regAbort s kind engine ring = ((((((abortDone a kind ring 1).putSatU Reg.HIF_ABORT_RES_DESCS a.ended).putSatU
      Reg.HIF_ABORT_RES_DROPPED a.dropped).putB Reg.HIF_ABORT_STAT_ERR false).publish Reg.HIF_ABORT_STAT_VALID
        Reg.HIF_ABORT_STAT_SEQ).fire 64) := by
  have hok : ¬ ((kind = 0 && 19 < engine) || (kind = 2 && s.get (Reg.HR_CFG_TYPE ring) = 1) || !(kind = 0 || kind = 2)) = true := by
    rcases hk with ⟨rfl, he⟩ | ⟨rfl, ht⟩
    · simp [he]
    · simp [ht]
  rw [regAbort, if_neg (by simp [hp]), if_neg hok, ha]

end

/-! ### Supervisors (R569) -/

/-- A supervisor that comes back while the other runs opens its window, and no descriptor has waited for it. -/
theorem exec_supervisorRejoin {s : State} {k : Fin 2} (h : bitOf s.sys.engReset (18 + k) = true) (hr : s.tb.running = true)
    (hd : supervisorsDown s = false) :
    exec (.supervisorRejoin k) s =
      .next (windowEvent (s.setSys (fun y => { y with engReset := setBit y.engReset (18 + k) false })) 2 k 100000) :=
  congrArg Host.Outcome.next <| (if_neg (by simp [h, hr])).trans (if_pos (by simp [hd]))

/-- Settles O27: each clause is what its row's meaning answers under the clause's hypotheses. Which resets take the
vectors back is log 23, and the edges of the aborts are log 25. -/
theorem pcieEventsAct : Obligations.PcieEventsAct :=
  ⟨fun _ _ h => ⟨_, rfl, exec_dmaError h⟩, fun _ => exec_pcieFlr, fun _ => exec_pcieBmeClear, fun _ => exec_pcieD3hot,
    fun _ => exec_pcieLinkDown, fun _ _ _ hp => exec_pcieLinkUp hp, fun _ => exec_perst, fun _ => rfl,
    fun _ hp h hd => ⟨_, rfl, exec_dmaPermitted hp h hd⟩,
    fun _ _ _ hp he ha => ⟨_, rfl, congrArg Host.Outcome.next (regAbort_of_runAbort hp (.inl ⟨rfl, he⟩) ha)⟩,
    fun _ _ _ hp ht ha => ⟨_, rfl, congrArg Host.Outcome.next (regAbort_of_runAbort hp (.inr ⟨rfl, ht⟩) ha)⟩,
    fun _ _ => exec_supervisorRejoin⟩

/-! ### The commands of the host interface (R412–R419) -/

section
variable {s : State} {w : Waiting}

theorem nop_apply : nopOp.apply s w = finishDesc s w St.ok [] := rfl

theorem modeSet_apply_setup (ht : w.d.u8 16 = 1) (hm : s.mode = .service) :
    modeSetOp.apply s w = finishDesc (enterSetup s 2 w.d.tag.toNat) w St.ok [] := by
  simp [modeSetOp, ht, hm]

theorem modeSet_apply_recovery (ht : w.d.u8 16 = 3) (hm : s.mode = .service) :
    modeSetOp.apply s w = finishDesc (enterRecovery s 2 w.d.tag.toNat) w St.ok [] := by
  simp [modeSetOp, ht, hm]

/-- From RECOVERY, but not that of the ROM, SERVICE is entered when nothing refuses it. -/
theorem modeSet_apply_service (ht : w.d.u8 16 = 2) (hm : s.mode = .recovery) (hr : s.bit Reg.GEN_MODE_ROM_REC = false)
    (hb : refuseBits s = 0) : modeSetOp.apply s w = finishDesc (enterService s 2 w.d.tag.toNat) w St.ok [] := by
  simp [modeSetOp, ht, hm, hr, hb]

/-- The settings of a DISABLED ring are stored, and EN starts it where the mask names HR_CFG. -/
theorem ringSet_apply_disabled (h : ringState s (w.d.u8 16) = 0) :
    ringSetOp.apply s w =
      let u := storeMasked s w.d (w.d.u16 18) (ringAddrs (w.d.u8 16))
      finishDesc (if bitOf (w.d.u16 18) 2 then ringStored u (w.d.u8 16) else u) w St.ok [] := by
  simp [ringSetOp, h]

theorem longCtl_apply_suspend {l : LongOp} (ha : w.d.u8 19 = 0) (hl : longFor s w.d = some l) (hs : l.suspended = false)
    (ho : l.opcode ≠ 0x0010) : longCtlOp.apply s w = updateLong (finishDesc s w St.ok []) { l with suspReq := true } := by
  simp [longCtlOp, ha, hl, hs, ho]

/-- Only a RESUME reserves a second entry. -/
theorem reserveResume_of_no_resume {opcode : Nat} {d : Desc} (h : d.u8 19 ≠ 1) : reserveResume s opcode d = s := by
  simp [reserveResume, resumeRing, h]

theorem exec_longCtl {d : Desc} (ha : Accepts longCtlOp s d) (h : d.u8 19 ≠ 1) :
    exec (.longCtl d) s = .next (longCtlOp.apply (taken s d) (takenAs s d 3)) := by
  show Host.Outcome.next (if s.mode = .boot || s.mode = .test then s else submit longCtlOp (reserveResume s 0x0003 d) d) = _
  rw [if_neg (by simp [ha.running]), reserveResume_of_no_resume h, ha.submit]
  rfl

/-- An ABORT that is well formed and accepted by the mode ends what its target names and returns the counts. -/
theorem acceptAbort_of_runAbort {d : Desc} {a : AbortDone} (hf : d.flags.toNat < 64) (hb : d.byte3 = 0)
    (hm : modeAccepts (taken s d).mode 2 = true) (hbad : abortBad (taken s d) d = false)
    (ha : runAbort (taken s d) (d.u8 16) (d.u8 18) (d.u8 20) (d.u32 24) = some a) :
    acceptAbort s d = finishDesc (abortDone a (d.u8 16) (d.u8 20) 0) (takenAs s d 2) St.ok
      (leBytes 4 (satU 32 a.dropped) ++ leBytes 2 (satU 16 a.ended) ++ leBytes 1 a.engine) := by
  unfold acceptAbort
  extract_lets t u w
  have hu : u = taken s d := rfl
  have hw : w = takenAs s d 2 := rfl
  clear_value u w
  subst hu hw
  rw [if_neg (by simp [hb]; exact hf), if_neg (by simp [hm]), if_neg (by simp [hbad]), ha]

end

/-- Settles O28: an accepted command is applied at once, and its application does what each clause says; an ABORT is carried out as it is
accepted. -/
theorem hostCommandsAct : Obligations.HostCommandsAct := by
  refine ⟨fun s d ha => congrArg Host.Outcome.next (ha.submit.trans nop_apply), fun s d ha ht hm => congrArg Host.Outcome.next (ha.submit.trans ?_),
    fun s d ha ht hm => congrArg Host.Outcome.next (ha.submit.trans ?_),
    fun s d ha ht hm hr hb => congrArg Host.Outcome.next (ha.submit.trans ?_),
    fun s d ha h => ⟨_, rfl, congrArg Host.Outcome.next (ha.submit.trans ?_)⟩,
    fun s d l ha h0 hl hs ho => (exec_longCtl ha (by simp [h0])).trans (congrArg Host.Outcome.next ?_),
    fun s d a hb ht hf h3 hm hbad ha => congrArg Host.Outcome.next ((if_neg (by simp [hb, ht])).trans ?_)⟩
  · exact modeSet_apply_setup (w := takenAs s d modeSetOp.opcode) ht hm
  · exact modeSet_apply_recovery (w := takenAs s d modeSetOp.opcode) ht hm
  · exact modeSet_apply_service (w := takenAs s d modeSetOp.opcode) ht hm hr hb
  · exact ringSet_apply_disabled (w := takenAs s d ringSetOp.opcode) h
  · exact longCtl_apply_suspend (w := takenAs s d 3) h0 hl hs ho
  · exact acceptAbort_of_runAbort hf h3 hm hbad ha

/-! ### The SMBus view (R426, R427, R514) -/

section
variable {s : State}

theorem smbRead_of_snap {c : Nat} (h : s.mode ≠ .test) (hs : s.sys.snap.get (fun _ => []) c ≠ []) :
    smbRead s c = smbAnswer s (some (s.sys.snap.get (fun _ => []) c)) := by
  simp [smbRead, h, hs]

theorem exec_smbAlertResponse (h : s.mode ≠ .test) (ha : s.sys.alert &&& s.sys.alertMask ≠ 0) :
    exec .smbAlertResponse s = .next (smbAnswer (s.setSys (fun y => { y with alert := y.alert &&& (15 - y.alertMask) }))
      (some (leBytes 1 (0x58 + s.get Reg.GEN_STRAP_ADDR_SEL)))) :=
  congrArg Host.Outcome.next (if_neg (by simp [h, alertLine, ha]))

end

/-- Settles O29: the rows of the codes are reads of the code, and in a mode other than TEST the target answers
(log 27). -/
theorem smbusActs : Obligations.SmbusActs :=
  ⟨fun _ => ⟨rfl, rfl, rfl, rfl, rfl, rfl, rfl, rfl, rfl, rfl⟩, fun _ _ h => if_pos h, fun _ _ => smbRead_of_snap,
    fun _ _ h => congrArg Host.Outcome.next (if_neg h), fun _ h => congrArg (fun l => Host.Outcome.next (smbAnswer _ l)) (if_neg h),
    fun _ _ h => congrArg Host.Outcome.next (if_neg h), fun _ => exec_smbAlertResponse⟩

end Sys2Proof.Machine
end

section
/-!
The commands of the margin unit and SYN_SET (O31) and of the fault collector (O35), accepted.
-/

namespace Sys2Proof.Machine

section
variable {s : State} {w : Waiting}

/-! ### The margin unit and SYN_SET (R223, R457–R460) -/

theorem marginSweep_apply (h : longOp s 0x02B0 0 = none) :
    marginSweepOp.apply s w = startLong { s with fab := { s.fab with
      sweepLeft := (List.range 64).filter (fun k => w.d.u64 16 = 0 || bitOf (w.d.u64 16) k), sweepLow := none, sweepN := 0 } } w 0 :=
  if_neg (by simp [h])

/-- FAB_SET that does not name FAB_PLAN_CFG stores its values; VFAB_BOOT keeps its own. -/
theorem fabSet_apply (h : bitOf (w.d.u16 18) 4 = false) :
    fabSetOp.apply s w = finishDesc (showVmax (normVlim ((storeMasked s w.d (fabMask w.d) fabSetAddrs).put Reg.PWR_AVS_CFG_VFAB_BOOT
      (s.get Reg.PWR_AVS_CFG_VFAB_BOOT)))) w St.ok [] :=
  congrArg (finishDesc · w St.ok []) (if_neg (by simp [h]))

theorem marginReport_apply_of_dma (h : s.dmaOk = true) :
    marginReportOp.apply s w = finishDesc { s with hif := { s.hif with
      host := s.hif.host.set (fun _ => []) (w.d.u64 16) (marginReportBytes s) } } w St.ok [] :=
  congrArg (finishDesc · w St.ok []) (if_pos h)

theorem marginReport_apply_of_no_dma (h : s.dmaOk = false) :
    marginReportOp.apply s w = finishDesc (s.bumpSat Reg.FAB_HOST_ERR_COUNT 1) w St.ok [] :=
  congrArg (finishDesc · w St.ok []) (if_neg (by simp [h]))

/-- DPLL2 and DPLL3 are not guarded by FORCE. -/
theorem synSet_apply_dpll (h : w.d.u8 16 = 2 ∨ w.d.u8 16 = 3) :
    synSetOp.apply s w =
      finishDesc (dpllStored s (storeMasked s w.d (w.d.u16 18) (dpllAddrs (w.d.u8 16))) (w.d.u8 16)) w St.ok [] := by
  have h4 : w.d.u8 16 < 4 := by omega
  have h1 : w.d.u8 16 ≠ 1 := by omega
  simp [synSetOp, h4, h1]

theorem synSet_apply_out (h : 16 ≤ w.d.u8 16) (h' : w.d.u8 16 < 28) : synSetOp.apply s w = synSetOut s w (w.d.u8 16 - 16) :=
  (if_neg (by omega)).trans (if_neg (by omega))

/-! ### The fault collector (R484–R486) -/

theorem fltSet_apply_global (ht : w.d.u16 16 = 0xFFFF) (hm : bitOf (w.d.u16 18) 0 = true) :
    fltSetOp.apply s w = finishDesc (s.storeWord 0x140000 (w.d.u32 20)) w St.ok [] := by
  simp [fltSetOp, ht, hm]

theorem fltSet_apply_source (ht : w.d.u16 16 ≠ 0xFFFF) (hm : bitOf (w.d.u16 18) 0 = true) :
    fltSetOp.apply s w = finishDesc (showHist (s.storeWord (0x141000 + 0x10 * w.d.u16 16) (w.d.u32 20)) (w.d.u16 16)) w St.ok [] := by
  simp [fltSetOp, ht, hm]

/-- Without REACT nothing protects against an injection, and no memory's word is spoilt for a source of another kind. -/
theorem fltInject_apply (hi : s.flt.inj = none) (hr : bitOf (w.d.u8 17) 0 = false) (hm : ¬(0x21 ≤ w.d.u8 16 ∧ w.d.u8 16 ≤ 0x26)) :
    fltInjectOp.apply s w =
      openDesc { s with flt := { s.flt with inj := some ⟨w.d.u8 16, w.d.u64 20, false, s.freeNs⟩ } } w (w.d.u8 16) := by
  have hmem : ¬ (decide (0x21 ≤ w.d.u8 16) && decide (w.d.u8 16 ≤ 0x26)) = true := by simpa using hm
  simp only [fltInjectOp, hi, hr, if_neg hmem, Option.isSome_none, Bool.false_and, Bool.false_eq_true, if_false]

theorem fltSafe_apply : fltSafeOp.apply s w = check (finishDesc s w St.ok []) 0x82 true := rfl

end

/-- Settles O31: an accepted command is applied at once, and its application does what each clause says. -/
theorem marginCommandsAct : Obligations.MarginCommandsAct := by
  refine ⟨fun s d ha h => ⟨_, rfl, congrArg Host.Outcome.next (ha.submit.trans ?_)⟩,
    fun s d ha h => congrArg Host.Outcome.next (ha.submit.trans ?_),
    fun s d ha => ⟨_, rfl, fun h => congrArg Host.Outcome.next (ha.submit.trans ?_),
      fun h => congrArg Host.Outcome.next (ha.submit.trans ?_)⟩,
    fun s d ha h => congrArg Host.Outcome.next (ha.submit.trans ?_), fun s d ha h h' => congrArg Host.Outcome.next (ha.submit.trans ?_)⟩
  · exact marginSweep_apply (w := takenAs s d marginSweepOp.opcode) h
  · exact fabSet_apply (w := takenAs s d fabSetOp.opcode) h
  · exact marginReport_apply_of_dma (w := takenAs s d marginReportOp.opcode) h
  · exact marginReport_apply_of_no_dma (w := takenAs s d marginReportOp.opcode) h
  · exact synSet_apply_dpll (w := takenAs s d synSetOp.opcode) h
  · exact synSet_apply_out (w := takenAs s d synSetOp.opcode) h h'

/-- Settles O35: an accepted command is applied at once, and its application does what each clause says. -/
theorem faultCommandsAct : Obligations.FaultCommandsAct := by
  refine ⟨fun s d ha ht hm => congrArg Host.Outcome.next (ha.submit.trans ?_),
    fun s d ha ht hm => congrArg Host.Outcome.next (ha.submit.trans ?_),
    fun s d ha hi hr hm => ⟨_, rfl, congrArg Host.Outcome.next (ha.submit.trans ?_)⟩,
    fun s d ha => congrArg Host.Outcome.next (ha.submit.trans ?_)⟩
  · exact fltSet_apply_global (w := takenAs s d fltSetOp.opcode) ht hm
  · exact fltSet_apply_source (w := takenAs s d fltSetOp.opcode) ht hm
  · exact fltInject_apply (w := takenAs s d fltInjectOp.opcode) hi hr hm
  · exact fltSafe_apply (w := takenAs s d fltSafeOp.opcode)

end Sys2Proof.Machine
end

section
/-!
Events and windows of observation (O32), and the commands of observation, accepted (O33).
-/

namespace Sys2Proof.Machine

section
variable {s : State}

/-! ### Sampling (R533) -/

theorem exec_sampleCapture_of_off {e : Fin 16} {n : BitVec 24} {c : Fin 4} {w : Fin 5} {a i l : Word} {t : Fin 8}
    (h : (s.perf 0x020 e (n.toNat + 1)).bit Reg.OBS_SMP_CFG_EN = false) :
    exec (.sampleCapture e n c w a i l t) s = .next (s.perf 0x020 e (n.toNat + 1)) :=
  congrArg Host.Outcome.next (if_pos (by simp [h]))

/-- The sample that an engine computing, and so waiting for no target, leaves. -/
def computingSample (u : State) (e : Fin 16) (c : Fin 4) (w : Fin 5) (a i l : Word) : Sample :=
  ⟨u.nowShort, e, c, u.get (Reg.CLA_ENG_MAP_ROLE (e.val / 8)) / 2 ^ (4 * (e.val % 8)) % 16, w, a.toNat, i.toNat, l.toNat, 0xFF, u.jr.cseq⟩

theorem exec_sampleCapture_of_on {e : Fin 16} {n : BitVec 24} {c : Fin 4} {w : Fin 5} {a i l : Word} {t : Fin 8} (hw : w = 0) {u : State}
    (hu : u = s.perf 0x020 e (n.toNat + 1)) (h : u.bit Reg.OBS_SMP_CFG_EN = true) (hm : u.mapBit Reg.OBS_SMP_CFG_MASK e = true)
    (hr : bitOf u.sys.engReset e = false) :
    exec (.sampleCapture e n c w a i l t) s = .next (
      if n.toNat + 1 < u.obs.countdown.get (fun _ => 0) e then
        { u with obs := { u.obs with countdown := u.obs.countdown.set (fun _ => 0) e (u.obs.countdown.get (fun _ => 0) e - (n.toNat + 1)) } }
      else loadCountdown (enterSample u (computingSample u e c w a i l)).commitMark e) := by
  subst hu hw
  have hr' : bitOf s.sys.engReset e = false := hr
  exact congrArg Host.Outcome.next (if_neg (by simp [h, hm, hr']))

/-! ### Bandwidth (R530) -/

theorem exec_bandwidthWindow {p : Fin 8} (h : s.reached (s.obs.bwWin.get (fun _ => 100) p * msU) 0 = true)
    {win rx tx drx dtx : Nat} {u v : State} (hwin : win = s.obs.bwWin.get (fun _ => 100) p)
    (hrx : rx = s.getPair (Reg.MAC_CNT_LO_CNT p 0) (Reg.MAC_CNT_HI_CNT p 0))
    (htx : tx = s.getPair (Reg.MAC_CNT_LO_CNT p 26) (Reg.MAC_CNT_HI_CNT p 26))
    (hdrx : drx = (rx + 2 ^ 48 - s.obs.bwRx.get (fun _ => 0) p) % 2 ^ 48)
    (hdtx : dtx = (tx + 2 ^ 48 - s.obs.bwTx.get (fun _ => 0) p) % 2 ^ 48)
    (hu : u = (((s.putPair (Reg.BW_RXO_LO_RX_OCT p) (Reg.BW_RXO_HI_RX_OCT p) drx).putPair (Reg.BW_TXO_LO_TX_OCT p)
      (Reg.BW_TXO_HI_TX_OCT p) dtx).put (Reg.BW_RXR_RATE p) (drx * 8 / (win * 1000))).put (Reg.BW_TXR_RATE p) (dtx * 8 / (win * 1000)))
    (hv : v = ((u.put (Reg.BW_END_NS p) (tbNs u.tbU)).putB (Reg.BW_STAT_SHORT p)
      (decide (s.freeNs - s.obs.winStart.get (fun _ => 0) p < win * 1000000))).publish (Reg.BW_STAT_VALID p) (Reg.BW_STAT_SEQ p)) :
    exec (.bandwidthWindow p) s = .next { v with obs := { v.obs with
      bwRx := v.obs.bwRx.set (fun _ => 0) p rx, bwTx := v.obs.bwTx.set (fun _ => 0) p tx,
      winStart := v.obs.winStart.set (fun _ => 0) p v.freeNs, bwWin := v.obs.bwWin.set (fun _ => 100) p (v.get Reg.OBS_BW_CFG_WIN) } } := by
  subst hv hu hdrx hdtx hrx htx hwin
  exact congrArg Host.Outcome.next (if_neg (by simp [h]))

/-! ### Trace destinations (R541, R542) -/

theorem exec_traceFrameTx {r : Staged} (hp : s.bit Reg.OBS_TRC_CFG_PORT = true) (hb : s.mode ≠ .boot) (ht : s.mode ≠ .test)
    (h : s.obs.staged.find? (fun r => !r.port) = some r) :
    exec .traceFrameTx s =
      let b := r.item.bytes s
      .next (freeStaged { s with obs := { s.obs with
        portFrame := [0xA5, 0x5A] ++ b ++ leBytes 1 (crc16 b / 256) ++ leBytes 1 (crc16 b % 256),
        staged := markFirst (fun r => !r.port) (fun r => { r with port := true }) s.obs.staged } }) := by
  refine congrArg Host.Outcome.next ((if_neg (by simp [hp, hb, ht])).trans ?_)
  rw [h]

theorem exec_traceDma {x : Staged} {r : Nat} (hr : r = s.get Reg.OBS_TRC_CFG_RING) (he : s.bit Reg.OBS_TRC_CFG_RING_EN = true)
    (hs : ringState s r = 1) (ht : s.get (Reg.HR_CFG_TYPE r) = 5) (hd : s.dmaOk = true) (hroom : ringUsed s r < ringSize s r)
    (h : s.obs.staged.find? (fun r => !r.ring) = some x) :
    exec .traceDma s =
      let u := writeEntry s r (.trace x.item) false
      .next (freeStaged { u with obs := { u.obs with
        staged := markFirst (fun r => !r.ring) (fun r => { r with ring := true }) u.obs.staged } }) := by
  subst hr
  refine congrArg Host.Outcome.next ((if_neg (by simp [he, hs, ht, hd, hroom])).trans ?_)
  rw [h]

theorem exec_obsTrcFifoRead {x : Staged} (hm : s.mode ≠ .test) (hw : s.bit Reg.OBS_TRC_CFG_WIN = true)
    (h : s.obs.staged.find? (fun r => !r.win) = some x) :
    exec .obsTrcFifoRead s =
      let u := answerRead s (leNat (x.item.bytes s) (4 * x.words) 4)
      .next (freeStaged { u with obs := { u.obs with
        staged := markFirst (fun r => !r.win) (fun r => { r with words := r.words + 1, win := 15 ≤ r.words }) u.obs.staged } }) := by
  refine congrArg Host.Outcome.next ((if_neg hm).trans ((if_neg (by simp [hw])).trans ?_))
  rw [h]

theorem exec_obsTrcFifoRead_of_off (hm : s.mode ≠ .test) (hw : s.bit Reg.OBS_TRC_CFG_WIN = false) :
    exec .obsTrcFifoRead s = .next (answerRead s 0) :=
  congrArg Host.Outcome.next ((if_neg hm).trans (if_pos (by simp [hw])))

/-! ### PF1 (R532) -/

/-- The grants in force at a read of a page: none in BOOT, and those before the change in the cycle of one. -/
def pageGranted (s : State) (p : Fin 1024) : Bool :=
  s.mode != .boot && (if s.obs.grantAt = some s.tb.cyc then bitOf (s.obs.grantWas.getD (p.val / 32) 0) (p.val % 32)
    else s.mapBit (Reg.OBS_GRANT_GRANT (p.val / 32)) (p.val % 32))

theorem exec_pf1PageRead {p w : Fin 1024} (hm : s.mode ≠ .test) (hp : p.val ≤ 136) :
    exec (.pf1PageRead p w) s = .next (if pageGranted s p then answerRead s (pageWord s p (4 * w))
      else answerRead ((s.bumpSat Reg.OBS_PF1_DENY_DENY 1).setFlag Flag.OBS_PF1_DENY) 0xFFFFFFFF) :=
  congrArg Host.Outcome.next ((if_neg hm).trans (if_neg (by omega)))

theorem pageGranted_of_boot {p : Fin 1024} (h : s.mode = .boot) : pageGranted s p = false := by
  simp [pageGranted, h]

theorem pageGranted_of_running {p : Fin 1024} (h : s.mode ≠ .boot) (hg : s.obs.grantAt ≠ some s.tb.cyc) :
    pageGranted s p = s.mapBit (Reg.OBS_GRANT_GRANT (p.val / 32)) (p.val % 32) := by
  simp [pageGranted, h, hg]

/-! ### The window of the sampler (R538) -/

/-- The window latches the entry of an index that is written, and nothing of another. -/
theorem exec_obsSmpWaddr {i : BitVec 12} (hm : s.mode ≠ .test) :
    exec (.obsSmpWaddr i) s =
      let u := s.put Reg.OBS_SMP_WADDR_INDEX i.toNat
      let ok := decide (i.toNat < u.get Reg.OBS_SMP_HEAD_HEAD)
      let b := if ok then (u.obs.samples.get (fun _ => Sample.zero) i.toNat).bytes else []
      .next (latched ((u.putB Reg.OBS_SMP_WSTAT_VALID ok).putB Reg.OBS_SMP_WSTAT_ERR (!ok)) Reg.OBS_SMP_WDATA_DATA b) := by
  show execObsSmpWaddr i s = _
  unfold execObsSmpWaddr latched
  rw [if_neg hm]
  simp only [decide_eq_true_eq]

/-! ### JOURNAL_EXPORT_BURST (R546) -/

theorem longPoint_of_no_request {l : LongOp} {r : List Byte} (hc : l.cancelReq = false) (hs : l.suspReq = false) :
    longPoint s l r = none := by
  simp [longPoint, hc, hs]

/-- A burst copies its records, and ends the operation at the journal's end. -/
theorem exec_journalExportBurst {n : Fin 16} {l : LongOp} {e : Export} (hl : longOp s 0x02E0 0 = some l) (he : s.obs.exp = some e)
    (hs : l.suspended = false) (hd : s.dmaOk = true) {u : State} {x : Export} (hx : exportBurst (n + 1) s e = (u, x)) {v : State}
    (hv : v = { u with obs := { u.obs with exp := some x } }) :
    exec (.journalExportBurst n) s = .next (
      if exportAtEnd v x then endLong { v with obs := { v.obs with exp := none } } l
        (if x.copied = l.d.u32 28 && !x.skipped then St.ok else St.partialDone) x.result
      else (longPoint v l x.result).getD v) := by
  subst hv
  show execJournalExportBurst n s = _
  unfold execJournalExportBurst
  split
  next l' e' hl' he' =>
    cases hl.symm.trans hl'
    cases he.symm.trans he'
    rw [if_neg (by simp [hs, hd]), hx]
  next hn => exact (hn l e hl he).elim

end

/-- Settles O32: each clause is what its row's meaning answers under the clause's hypotheses. The octets transmitted come from
counter 26 (log 48). -/
theorem observationActs : Obligations.ObservationActs := by
  refine ⟨fun e n c w a i l t s => ⟨_, rfl, exec_sampleCapture_of_off⟩,
    fun e n c w a i l t s hw => ⟨_, rfl, fun h hm hr => ⟨fun hlt => ⟨_, rfl, ?_⟩, fun hle => ?_⟩⟩,
    fun p s h win rx tx drx dtx u v hwin hrx htx hdrx hdtx hu hv => exec_bandwidthWindow h hwin hrx htx hdrx hdtx hu hv,
    fun r s hp hb ht h => ⟨_, _, rfl, rfl, exec_traceFrameTx hp hb ht h⟩,
    fun x r s hr he hs ht hd hroom h => ⟨_, rfl, exec_traceDma hr he hs ht hd hroom h⟩,
    fun x s hm hw h => ⟨_, rfl, exec_obsTrcFifoRead hm hw h⟩, fun s => exec_obsTrcFifoRead_of_off,
    fun j s hm => ⟨_, _, _, rfl, rfl, rfl, exec_obsJrnlWaddr hm⟩,
    fun i s hm => ⟨_, _, _, rfl, rfl, rfl, exec_obsSmpWaddr hm⟩,
    fun s hm => congrArg Host.Outcome.next (if_pos hm), fun s b hm => congrArg Host.Outcome.next (if_pos hm),
    fun p w s hm hp => ⟨fun hb => ?_, fun hb hg => ⟨fun hy => ?_, fun hn => ?_⟩⟩,
    fun n l e s hl he hs hd u x v hx hv => ⟨fun hend => ?_, fun hend hc hr => ?_⟩⟩
  · exact (exec_sampleCapture_of_on hw rfl h hm hr).trans (congrArg Host.Outcome.next (if_pos hlt))
  · exact (exec_sampleCapture_of_on hw rfl h hm hr).trans (congrArg Host.Outcome.next (if_neg (Nat.not_lt.2 hle)))
  · rw [exec_pf1PageRead hm hp, if_neg (by simp [pageGranted_of_boot hb])]
  · rw [exec_pf1PageRead hm hp, if_pos ((pageGranted_of_running hb hg).trans hy)]
  · rw [exec_pf1PageRead hm hp, if_neg (by simp [pageGranted_of_running hb hg, hn])]
  · rw [exec_journalExportBurst hl he hs hd hx hv, if_pos hend]
  · rw [exec_journalExportBurst hl he hs hd hx hv, if_neg (by simp [hend]), longPoint_of_no_request hc hr]
    rfl

/-! ### The commands of observation (R543–R546) -/

section
variable {s : State} {w : Waiting}

theorem obsSet_apply_event (ht : w.d.u16 16 < 1024) (hm : w.d.u16 18 = 1) :
    obsSetOp.apply s w =
      finishDesc (changePc s (w.d.u16 16) (fun s => s.storeWord (0x161000 + 0x10 * w.d.u16 16) (w.d.u32 20))) w St.ok [] := by
  have h : w.d.u16 16 ≠ 0xFFFF := by omega
  simp [obsSetOp, h, hm, bitOf]

theorem obsSet_apply_global (ht : w.d.u16 16 = 0xFFFF) (hm : bitOf (w.d.u16 18) 4 = false) :
    obsSetOp.apply s w = finishDesc ((List.range 6).foldl (fun s k =>
      if bitOf (w.d.u16 18) k then s.storeWord (obsSetAddrs.getD k 0) (maskedValue w.d (w.d.u16 18) k) else s) s) w St.ok [] := by
  simp only [obsSetOp, if_pos ht, hm, Bool.false_eq_true, if_false]

theorem obsSnap_apply_snapshot (h : w.d.u8 16 = 0) :
    obsSnapOp.apply s w = finishDesc (takeSnapshot s) w St.ok (leBytes 1 ((takeSnapshot s).get Reg.OBS_SNAP_STAT_SEQ)) :=
  if_pos h

theorem obsSnap_apply_freeze (h : w.d.u8 16 ≠ 0) :
    obsSnapOp.apply s w = finishDesc (setFreeze s (w.d.u8 16 = 1)) w St.ok [] :=
  if_neg h

theorem obsGrant_apply : obsGrantOp.apply s w =
    finishDesc ((List.range 5).foldl (fun s k => storeGrant s k (w.d.u32 (16 + 4 * k))) (noteGrants s)) w St.ok [] := by
  simp only [obsGrantOp]

theorem journalExport_apply (h : longOp s 0x02E0 0 = none) (hr : jrnlRetained s (w.d.u32 24) = true) :
    journalExportOp.apply s w = startLong { s with obs := { s.obs with
      exp := some ⟨w.d.u32 24, (w.d.u32 24 + w.d.u32 28) % 2 ^ 32, none, 0, w.d.u64 16, false⟩ } } w 0 := by
  simp [journalExportOp, h, hr]

end

/-- Settles O33: an accepted command is applied at once, and its application does what each clause says. -/
theorem observationCommandsAct : Obligations.ObservationCommandsAct := by
  refine ⟨fun s d ha ht hm => congrArg Host.Outcome.next (ha.submit.trans ?_),
    fun s d ha ht hm => congrArg Host.Outcome.next (ha.submit.trans ?_),
    fun s d ha h => ⟨_, rfl, congrArg Host.Outcome.next (ha.submit.trans ?_)⟩,
    fun s d ha h => congrArg Host.Outcome.next (ha.submit.trans ?_), fun s d ha => congrArg Host.Outcome.next (ha.submit.trans ?_),
    fun s d ha h hr => ⟨_, rfl, congrArg Host.Outcome.next (ha.submit.trans ?_)⟩⟩
  · exact obsSet_apply_event (w := takenAs s d obsSetOp.opcode) ht hm
  · exact obsSet_apply_global (w := takenAs s d obsSetOp.opcode) ht hm
  · exact obsSnap_apply_snapshot (w := takenAs s d obsSnapOp.opcode) h
  · exact obsSnap_apply_freeze (w := takenAs s d obsSnapOp.opcode) h
  · exact obsGrant_apply (w := takenAs s d obsGrantOp.opcode)
  · exact journalExport_apply (w := takenAs s d journalExportOp.opcode) h hr

end Sys2Proof.Machine
end

section
/-!
The authentication unit: reseeding, expiry, installation, rotation, rekeying and the query window (O25).
-/

namespace Sys2Proof.Machine

section
variable {s : State}

/-! ### Reseeding and expiry (R365, R370) -/

theorem exec_drbgReseed {healthy : Bool} (ht : s.atSec = true) (hc : cyRuns s = true) (hb : s.mode ≠ .boot) (hm : s.mode ≠ .test) :
    exec (.drbgReseed healthy) s = .next (reseed s healthy) :=
  congrArg Host.Outcome.next (if_neg (by simp [ht, hc, hb, hm]))

/-- What an entry whose NOT_AFTER is reached becomes goes by whether a target names it. -/
theorem exec_satExpiry_of_due {i : Fin 8192} (ht : s.atSec = true) (hv : (s.sat i).valid = true) (hn : (s.sat i).notAfter ≠ 0)
    (he : s.expand ((s.sat i).notAfter * 2 ^ 32) ≤ s.tbU) :
    exec (.satExpiry i) s = .next (
      if isCurrent s i then
        (if (s.sat i).held then s else (s.setSat i { s.sat i with held := true }).setFlag Flag.SAT_EXP_HELD)
      else satChange ((s.setSat i { s.sat i with valid := false, held := false }).setFlag Flag.SAT_EXPIRED) i 2 (s.sat i)) :=
  congrArg Host.Outcome.next (if_neg (by simpa [ht, hv, hn] using he))

/-! ### Installation by register (R383) and the query window (R372) -/

/-- The image in the data registers. -/
def satRegImage (s : State) : List Byte := (List.range 12).flatMap (fun k => leBytes 4 (s.get (Reg.SAT_INST_DATA_DATA k)))

/-- The data registers cleared. -/
def satRegsCleared (s : State) : State := (List.range 12).foldl (fun s k => s.put (Reg.SAT_INST_DATA_DATA k) 0) s

theorem exec_satInstGo (h : s.mode = .setup) :
    exec .satInstGo s = .next (
      if satImageOk (satRegImage s) && !isCurrent (satRegsCleared s) (leNat (satRegImage s) 0 2) then
        installImage ((satRegsCleared s).putB Reg.SAT_INST_CTL_ERR false) (satRegImage s)
      else (satRegsCleared s).putB Reg.SAT_INST_CTL_ERR true) :=
  congrArg Host.Outcome.next (if_neg (by simp [h]))

/-- The attributes of entry i with a key check value shown in the query window. -/
def satQueryShown (s : State) (i : Fin 8192) (kcv : Nat) : State :=
  let u := (s.put Reg.SAT_QRY_ADDR_INDEX i).putB Reg.SAT_QRY_ADDR_ERR false
  let v := u.putB Reg.SAT_QRY_DATA0_VALID (s.sat i).valid
  ((((((v.putB Reg.SAT_QRY_DATA0_CURRENT (isCurrent u i)).put Reg.SAT_QRY_DATA0_SPP (s.sat i).spp).put
    Reg.SAT_QRY_DATA0_FLAGS (s.sat i).flags).put Reg.SAT_QRY_DATA0_TYPE (s.sat i).type).put Reg.SAT_QRY_DATA1_KEY_ID
      (s.sat i).keyId).put Reg.SAT_QRY_DATA2_NOT_AFTER (s.sat i).notAfter).put Reg.SAT_QRY_DATA3_KCV kcv

theorem exec_satQryGo (i : Fin 8192) (s : State) :
    exec (.satQryGo i) s = .next (satQueryShown s i (if (s.sat i).key = [] then 0 else kcvOf (s.sat i).key)) := by
  have h : exec (.satQryGo i) s = .next (satQueryShown s i (if (s.sat i).key.isEmpty then 0 else kcvOf (s.sat i).key)) := rfl
  rw [h]
  simp only [List.isEmpty_iff]

/-! ### A record of a rekey (R385) -/

/-- With nothing else asked for, the record of a rekey that runs is applied, and the last one ends it. -/
theorem exec_satRekeyRecord {r : List Byte} {l : LongOp} {k j : Rekey} (hl : longOp s 0x02A2 0 = some l) (hk : s.auth.rekey = some k)
    (hs : l.suspended = false) (hd : s.dmaOk = true) (hc : l.cancelReq = false) (hr : l.suspReq = false)
    (hj : (rekeyRecord s k r).auth.rekey = some j) :
    exec (.satRekeyRecord r) s = .next (
      if l.d.u32 24 ≤ j.next then endRekey (rekeyRecord s k r) l (if j.skipped = 0 then St.ok else St.partialDone)
      else rekeyRecord s k r) := by
  show execSatRekeyRecord r s = _
  unfold execSatRekeyRecord
  split
  next l' k' hl' hk' =>
    cases hl.symm.trans hl'
    cases hk.symm.trans hk'
    rw [if_neg (by simp [hs, hd]), if_neg (by simp [hc]), if_neg (c := l.suspReq = true) (by simp [hr]), hj]
    rfl
  next hn => exact (hn l k hl hk).elim

end

/-! ### The commands (R377, R383–R385) -/

section
variable {s : State} {w : Waiting}

theorem satInstall_apply (h : isCurrent s (leNat w.d.op 0 2) = false) :
    satInstallOp.apply s w = finishDesc (installImage s w.d.op) w St.ok (leBytes 3 (imageKcv w.d.op)) :=
  if_neg (by simp [h])

/-- The entry CURRENT of a target before it is rotated, 0xFFFF for none. -/
def currentOf (s : State) (t : Nat) : Nat := if s.bit (curFields t).1 then s.get (curFields t).2 else 0xFFFF

theorem satRotate_apply_none (h : w.d.u16 18 = 0xFFFF) :
    satRotateOp.apply s w = finishDesc ((s.putB (curFields (w.d.u8 16)).1 false).journal 0 0x0012 0x1202
      (leBytes 1 (w.d.u8 16) ++ leBytes 1 0 ++ leBytes 2 0xFFFF ++ leBytes 2 (currentOf s (w.d.u8 16)))) w St.ok
        (leBytes 2 (currentOf s (w.d.u8 16))) := by
  simp [satRotateOp, h, currentOf]

theorem satRotate_apply_entry (h : w.d.u16 18 ≠ 0xFFFF) (hm : meetsTarget s (w.d.u8 16) (w.d.u16 18) = true) :
    satRotateOp.apply s w = finishDesc (((s.putB (curFields (w.d.u8 16)).1 true).put (curFields (w.d.u8 16)).2 (w.d.u16 18)).journal
      0 0x0012 0x1202 (leBytes 1 (w.d.u8 16) ++ leBytes 1 0 ++ leBytes 2 (w.d.u16 18) ++ leBytes 2 (currentOf s (w.d.u8 16)))) w St.ok
        (leBytes 2 (currentOf s (w.d.u8 16))) := by
  simp [satRotateOp, h, hm, currentOf]

theorem satRekey_apply (h : longOp s 0x02A2 0 = none) :
    satRekeyOp.apply s w = showRekey { startLong s w 0 with auth := { s.auth with rekey := some ⟨0, 0, 0⟩ } } :=
  if_neg (by simp [h])

end

/-- Settles O25: the rows answer what each clause says, and an accepted command is applied at once (logs 34 and 52). -/
theorem authenticationActs : Obligations.AuthenticationActs := by
  refine ⟨fun s healthy => exec_drbgReseed, fun i s ht hv hn he => ⟨fun hc => ?_, fun hc hh => ?_⟩,
    fun s d ha h => congrArg Host.Outcome.next (ha.submit.trans ?_),
    fun s d ha h => ⟨_, rfl, congrArg Host.Outcome.next (ha.submit.trans ?_)⟩,
    fun s d ha h hm => ⟨_, rfl, congrArg Host.Outcome.next (ha.submit.trans ?_)⟩,
    fun s d ha h => ⟨_, rfl, congrArg Host.Outcome.next (ha.submit.trans ?_)⟩,
    fun s r l k hl hk hs hd hc hr => ⟨_, rfl, fun j hj => ⟨fun hlt => ?_, fun hle => ?_⟩⟩,
    fun s hm => ⟨_, _, rfl, rfl, fun hbad => ?_, fun hok hc => ?_⟩, fun i s => ⟨_, _, rfl, rfl, exec_satQryGo i s⟩⟩
  · rw [exec_satExpiry_of_due ht hv hn he, if_neg (by simp [hc])]
  · rw [exec_satExpiry_of_due ht hv hn he, if_pos hc, if_neg (by simp [hh])]
  · exact satInstall_apply (w := takenAs s d satInstallOp.opcode) h
  · exact satRotate_apply_none (w := takenAs s d satRotateOp.opcode) h
  · exact satRotate_apply_entry (w := takenAs s d satRotateOp.opcode) h hm
  · exact satRekey_apply (w := takenAs s d satRekeyOp.opcode) h
  · rw [exec_satRekeyRecord hl hk hs hd hc hr hj, if_neg (Nat.not_le.2 hlt)]
  · rw [exec_satRekeyRecord hl hk hs hd hc hr hj, if_pos hle]
  · exact (exec_satInstGo hm).trans (congrArg Host.Outcome.next (if_neg (by simp [satRegImage, hbad])))
  · exact (exec_satInstGo hm).trans (congrArg Host.Outcome.next (if_pos (by simp [satRegImage, satRegsCleared, hok, hc])))

end Sys2Proof.Machine
end

section
/-!
Power, reset, boot and entry to SERVICE (O39), and the firmware (O40).
-/

namespace Sys2Proof.Machine

section
variable {s : State}

/-! ### Resets and straps (R553, R554) -/

/-- The state a power-on starts from: a stage that was writing leaves its slot spoilt. -/
def stageCut (s : State) : State := match longOp s 0x0010 0 with | some l => if verifyOnly l.d then s else spoilSlot s | none => s

theorem stageCut_cases (s : State) :
    (∃ l, longOp s 0x0010 0 = some l ∧ verifyOnly l.d = false ∧ stageCut s = spoilSlot s) ∨
      (∀ l, longOp s 0x0010 0 = some l → verifyOnly l.d = true) ∧ stageCut s = s := by
  unfold stageCut
  cases hl : longOp s 0x0010 0 with
  | none => exact .inr ⟨fun _ h => (Option.some_ne_none _ h.symm).elim, rfl⟩
  | some l =>
    cases hv : verifyOnly l.d with
    | true => exact .inr ⟨fun _ h => Option.some.inj h ▸ hv, if_pos hv⟩
    | false => exact .inl ⟨l, rfl, hv, if_neg (by simp [hv])⟩

theorem powerOn_eq (s : State) : powerOn s = { State.reset with
    hif := { State.reset.hif with host := (stageCut s).hif.host },
    sys := { State.reset.sys with trend := (stageCut s).sys.trend, hdr := (stageCut s).sys.hdr },
    free := (stageCut s).free, pending := (stageCut s).pending } := rfl

/-- The straps sampled and the reset left, journalled. -/
def strapsSampled (s : State) (n : Nat) : State :=
  let a := (((s.put Reg.GEN_STRAP_TEST_MODE (n / 64)).put Reg.GEN_STRAP_ADDR_SEL (n / 16 % 4)).put
    Reg.GEN_STRAP_BOOT_SRC (n / 4 % 4)).put Reg.GEN_STRAP_PAIR_EN (n / 2 % 2)
  let b := ((a.put Reg.GEN_STRAP_UNIT_ID (n % 2)).putB Reg.BOOT_RSTC_AO_POR s.sys.aoPor).putB Reg.BOOT_RSTC_PIN (!s.sys.aoPor)
  let c := b.setSys (fun y => { y with inReset := false, aoPor := false, step := 1 })
  c.journalAt 0 0 0x0001 0x0101 (leBytes 1 (b2n (!s.sys.aoPor)) ++ leBytes 1 n ++ leBytes 1 (c.get Reg.FLT_FF_STAT_HELD))

/-- What the straps select: TEST, or BOOT with ROM recovery, a wait for the host, or neither. -/
theorem exec_resetRelease {v : BitVec 7} (h : s.sys.inReset = true) :
    exec (.resetRelease v) s =
      let d := histTick (strapsSampled s v.toNat)
      let u := bootStat (modeFromReset d .boot) (fun s => s)
      .next (if v.toNat / 64 = 1 then zeroise (modeFromReset d .test)
        else if v.toNat / 4 % 4 = 3 then romRecovery u 1
        else if v.toNat / 4 % 4 = 1 then bootStat u (fun s => (s.put Reg.BOOT_STAT_PHASE 1).putB Reg.BOOT_STAT_WAIT_HOST true)
        else u) :=
  congrArg Host.Outcome.next (if_neg (by simp [h]))

/-! ### Boot (R556, R557, R560) -/

section
variable {pri cpy : List Byte} {osc : BitVec 32} (hm : s.mode = .boot) (hs : s.sys.step = 1) (hb : s.get Reg.GEN_STRAP_BOOT_SRC ≠ 1)
include hm hs hb

/-- The primary header is taken when it is valid, and else its copy. -/
theorem exec_bootHeaderRead_of_valid {h : BootHdr}
    (hh : hdrOk pri = true ∧ h = hdrOf pri ∨ hdrOk pri = false ∧ hdrOk cpy = true ∧ h = hdrOf cpy) :
    exec (.bootHeaderRead pri cpy osc) s = .next (bootStat (loadOsc ((s.setSys (fun y => { y with hdr := some h })).put
      Reg.PWR_AVS_CFG_VFAB_BOOT h.vfab) h.osc) (fun s => s.put Reg.BOOT_STAT_PHASE 2)) := by
  have hsel : (if hdrOk pri then some (hdrOf pri) else if hdrOk cpy then some (hdrOf cpy) else none) = some h := by
    rcases hh with ⟨hp, rfl⟩ | ⟨hp, hc, rfl⟩
    · simp [hp]
    · simp [hp, hc]
  refine congrArg Host.Outcome.next ((if_neg (by simp [hm, hs, hb])).trans ?_)
  dsimp only
  rw [hsel]

theorem exec_bootHeaderRead_of_invalid (hp : hdrOk pri = false) (hc : hdrOk cpy = false) :
    exec (.bootHeaderRead pri cpy osc) s =
      .next (romRecovery (loadOsc (s.setSys (fun y => { y with hdr := none })) ((osc.toNat + 500) / 1000 * 1000)) 2) := by
  have hsel : (if hdrOk pri then some (hdrOf pri) else if hdrOk cpy then some (hdrOf cpy) else none) = none := by simp [hp, hc]
  refine congrArg Host.Outcome.next ((if_neg (by simp [hm, hs, hb])).trans ?_)
  dsimp only
  rw [hsel]

end

/-- The oscillator that the host gives, loaded where none is yet. -/
def hostOsc (s : State) : State :=
  if s.sys.step = 1 then loadOsc (s.put Reg.PWR_AVS_CFG_VFAB_BOOT (s.get Reg.BOOT_PCI_VFAB_VFAB)) (s.get Reg.BOOT_PCI_OSC_FREQ) else s

theorem hostOsc_cases (s : State) :
    s.sys.step ≠ 1 ∧ hostOsc s = s ∨ s.sys.step = 1 ∧ ∃ v, v = s.put Reg.PWR_AVS_CFG_VFAB_BOOT (s.get Reg.BOOT_PCI_VFAB_VFAB) ∧
      hostOsc s = loadOsc v (s.get Reg.BOOT_PCI_OSC_FREQ) := by
  by_cases h : s.sys.step = 1
  · exact .inr ⟨h, _, rfl, if_pos h⟩
  · exact .inl ⟨h, if_neg h⟩

theorem exec_bootPciGo (h : s.bit Reg.BOOT_STAT_WAIT_HOST = true) :
    exec .bootPciGo s = .next (bootStat (hostOsc s) (fun s =>
      ((s.put Reg.BOOT_STAT_PHASE 2).putB Reg.BOOT_STAT_WAIT_HOST false).put Reg.BOOT_STAT_SLOT 2)) :=
  congrArg Host.Outcome.next (if_neg (by simp [h]))

/-! ### Images (R556, R558, R559) -/

section
variable {a b p : ImageSet} {kat : Bool} (hm : s.mode = .boot) (hs : s.sys.step = 3) (hw : s.bit Reg.BOOT_STAT_WAIT_HOST = false)
include hm hs hw

/-- The set read from the host runs when it verifies. -/
theorem exec_imageVerified_host (hk : s.get Reg.BOOT_STAT_SLOT = 2) :
    exec (.imageVerified a b p kat) s =
      let u := journalSet s 2 p
      .next (if setOk p then runImages u 2 p.sup.release.toNat (u.get Reg.GEN_STRAP_BOOT_SRC = 2) kat else romRecovery u 3) :=
  congrArg Host.Outcome.next ((if_neg (by simp [hm, hs, hw])).trans (if_pos hk))

/-- The set of a slot. -/
def imageOf (a b p : ImageSet) (k : Nat) : ImageSet := if k = 0 then a else if k = 1 then b else p

/-- The slots of QSPI tried in their order. -/
def slotsTried (s : State) (a b p : ImageSet) (h : BootHdr) : State × Option Nat :=
  trySlots (s.setSys (fun y => { y with hdr := some { h with pending := 0xFF } })) (imageOf a b p) (slotOrder h)

/-- What follows once the slots are tried: the first set that verified runs, and without one the host is awaited or the ROM recovers. -/
def bootTried (a b p : ImageSet) (h : BootHdr) (kat : Bool) (u : State) : Option Nat → State
  | some k => runImages (u.setSys (fun y => { y with bootPend := if k = h.pending then some k else none })) k
      (imageOf a b p k).sup.release.toNat ((slotOrder h).head? != some k) kat
  | none =>
    if u.get Reg.GEN_STRAP_BOOT_SRC = 2 then
      bootStat u (fun s => ((s.put Reg.BOOT_STAT_PHASE 1).putB Reg.BOOT_STAT_WAIT_HOST true).putB Reg.BOOT_STAT_FALLBACK true)
    else romRecovery u 3

theorem exec_imageVerified_qspi {h : BootHdr} (hk : s.get Reg.BOOT_STAT_SLOT ≠ 2) (hh : s.sys.hdr = some h) :
    exec (.imageVerified a b p kat) s =
      .next (bootTried a b p h kat (slotsTried s a b p h).1 (slotsTried s a b p h).2) := by
  refine congrArg Host.Outcome.next ((if_neg (by simp [hm, hs, hw])).trans ((if_neg hk).trans ?_))
  rw [hh]
  split
  next hn => cases hn
  next h' he =>
    cases he
    extract_lets order s1
    split
    next x o hx =>
      have ht : slotsTried s a b p h = (x, o) := hx
      rw [ht]
      cases o <;> rfl

end

/-! ### Entry to SERVICE by register (R561, R562) and trend storage (R572) -/

theorem exec_genModeReqGo {t : Fin 8} (h : s.mode = .setup) :
    exec (.genModeReqGo t) s = .next ((s.put Reg.GEN_MODE_REQ_TARGET t).putB Reg.GEN_MODE_REQ_GO true) :=
  congrArg Host.Outcome.next (if_neg (by simp [h]))

/-- In SETUP a request for SERVICE is granted where nothing refuses it, and one for another mode is refused. -/
theorem exec_modeGoEvaluate (hg : s.bit Reg.GEN_MODE_REQ_GO = true) (ht : s.atMs = true)
    (hm : (s.putB Reg.GEN_MODE_REQ_GO false).mode = .setup) :
    exec .modeGoEvaluate s =
      let u := s.putB Reg.GEN_MODE_REQ_GO false
      let n := u.get Reg.GEN_MODE_REQ_TARGET
      .next (if n != 2 then refuseMode u n 0 0 else if refuseBits u != 0 then refuseMode u n (refuseBits u) 0 else enterService u 1 0) :=
  congrArg Host.Outcome.next ((if_neg (by simp [hg, ht])).trans (if_neg (by simp [hm])))

theorem exec_trendSave {bad : Bool} (ht : s.atSec = true) (hd : s.sys.trendDue = true) (hm : s.mode = .service)
    (hr : s.bit Reg.GEN_MODE_ROM_REC = false) (he : bitOf s.sys.engReset 19 = false) (hb : s.get Reg.GEN_STRAP_BOOT_SRC ≠ 1) :
    exec (.trendSave bad) s = .next (
      if s.sys.stageSlot.isSome then s.setSys (fun y => { y with trendDue := true }) else writeTrend s bad) :=
  congrArg Host.Outcome.next (if_neg (by simp [ht, hd, hm, hr, he, hb]))

end

/-- Settles O39: each clause is what its row's meaning answers under the clause's hypotheses (logs 9 and 58). -/
theorem startupEventsAct : Obligations.StartupEventsAct := by
  refine ⟨fun s => ⟨rfl, rfl, rfl⟩, fun s => ⟨_, stageCut s, rfl, stageCut_cases s, powerOn_eq s⟩,
    fun v s h => ⟨_, _, _, _, strapsSampled s v.toNat, rfl, rfl, rfl, rfl, rfl, fun h1 => ?_, fun h0 h3 => ?_, fun h0 hb => ?_,
      fun h0 h1 => ?_⟩,
    fun pri cpy osc s hm hs hb => ⟨fun h => exec_bootHeaderRead_of_valid hm hs hb, exec_bootHeaderRead_of_invalid hm hs hb⟩,
    fun s h => ⟨hostOsc s, hostOsc_cases s, exec_bootPciGo h⟩,
    fun a b p kat s hm hs hw => ⟨fun hk hok => ?_, fun hk hbad => ?_, fun h hk hh => ⟨_, slotsTried s a b p h, rfl, rfl,
      fun k ht => ?_, fun ht h2 => ?_, fun ht h2 => ?_⟩⟩,
    fun t s => exec_genModeReqGo, fun s hg ht => ⟨_, rfl, fun hm => ⟨fun h2 h0 => ?_, fun h2 h0 => ?_, fun n hn h2 => ?_⟩⟩,
    fun bad s ht hd hm hr he hb => ⟨fun hn => ?_, fun k hk => ?_⟩⟩
  · exact (exec_resetRelease h).trans (congrArg Host.Outcome.next (if_pos h1))
  · exact (exec_resetRelease h).trans (congrArg Host.Outcome.next ((if_neg (by omega)).trans (if_pos h3)))
  · exact (exec_resetRelease h).trans (congrArg Host.Outcome.next
      ((if_neg (by omega)).trans ((if_neg (by omega)).trans (if_neg (by omega)))))
  · exact (exec_resetRelease h).trans (congrArg Host.Outcome.next
      ((if_neg (by omega)).trans ((if_neg (by omega)).trans (if_pos h1))))
  · exact (exec_imageVerified_host hm hs hw hk).trans (congrArg Host.Outcome.next (if_pos hok))
  · exact (exec_imageVerified_host hm hs hw hk).trans (congrArg Host.Outcome.next (if_neg (by simp [hbad])))
  · rw [exec_imageVerified_qspi hm hs hw hk hh, ht]
    rfl
  · rw [exec_imageVerified_qspi hm hs hw hk hh, ht, bootTried, if_neg h2]
  · rw [exec_imageVerified_qspi hm hs hw hk hh, ht, bootTried, if_pos h2]
  · exact (exec_modeGoEvaluate hg ht hm).trans (congrArg Host.Outcome.next
      ((if_neg (by simp [h2])).trans (if_neg (by simp [h0]))))
  · have hr := (exec_modeGoEvaluate hg ht hm).trans (congrArg Host.Outcome.next
      ((if_neg (by simp [h2])).trans (if_pos (by simpa using h0))))
    rwa [h2] at hr
  · have hr := (exec_modeGoEvaluate hg ht hm).trans (congrArg Host.Outcome.next (if_pos (by simpa [hn] using h2)))
    rwa [hn] at hr
  · rw [exec_trendSave ht hd hm hr he hb, if_neg (by simp [hn])]
  · rw [exec_trendSave ht hd hm hr he hb, if_pos (by simp [hk])]

/-! ### Firmware (R571) -/

theorem stage_apply {s : State} {w : Waiting} (h : longOp s 0x0010 0 = none) :
    stageOp.apply s w = startLong (s.setSys (fun y => { y with stageSlot := some (spareSlot s) })) w 0 :=
  if_neg (by simp [h])

/-- How a stage ends goes by its cause, and what it wrote stays or is spoilt unless it only verified. -/
theorem exec_firmwareStageDone {c : Fin 8} {r : BitVec 16} {l : LongOp} {s : State} (h : longOp s 0x0010 0 = some l) :
    exec (.firmwareStageDone c r) s = .next (
      if c.val = 0 then endStage (if verifyOnly l.d then s else stagedSlot s (bitOf (l.d.u8 28) 0)) l St.ok r.toNat 0
      else if c.val = 1 then s
      else if c.val ≤ 5 then endStage s l St.invalid r.toNat c
      else endStage (if verifyOnly l.d then s else spoilSlot s) l St.partialDone r.toNat c) := by
  show execFirmwareStageDone c r s = _
  unfold execFirmwareStageDone
  rw [h]

/-- Settles O40: an accepted FIRMWARE_STAGE is applied at once, and FIRMWARE_STAGE_DONE goes by its cause (log 58). -/
theorem firmwareActs : Obligations.FirmwareActs := by
  refine ⟨fun s d ha h => congrArg Host.Outcome.next (ha.submit.trans ?_),
    fun c r l s h => ⟨fun h0 hv => ?_, fun h0 hv => ?_, fun h2 h5 => ?_, fun h6 hv => ?_⟩⟩
  · exact stage_apply (w := takenAs s d stageOp.opcode) h
  · rw [exec_firmwareStageDone h, if_pos (by simp [h0]), if_pos hv]
  · rw [exec_firmwareStageDone h, if_pos (by simp [h0]), if_neg (by simp [hv])]
  · rw [exec_firmwareStageDone h, if_neg (by omega), if_neg (by omega), if_pos h5]
  · rw [exec_firmwareStageDone h, if_neg (by omega), if_neg (by omega), if_neg (by omega), if_neg (by simp [hv])]

end Sys2Proof.Machine
end

section
/-!
The rows of the pair link: frames sent at their intervals, the first copy of a frame, presence, lanes and the joining (R492–R498, R506).
-/

namespace Sys2Proof.Machine

/-! ### Copies of a frame and lanes -/

/-- A lane takes frames in only while the pair unit runs and the lane is synchronised. -/
theorem pairRuns_of_laneTakes {s : State} {l : Nat} (h : laneTakes s l = true) : pairRuns s = true :=
  (Bool.and_eq_true_iff.mp h).1

theorem firstCopy_of_seen {s : State} {q : Nat} (h : q ∈ s.cnj.seen) : firstCopy s q = (s, false) := if_pos h

/-- FSEQ noted as seen. -/
def noteSeen (s : State) (q : Nat) : State := s.setCnj (fun c => { c with seen := (q :: c.seen).take fseqKept })

theorem firstCopy_of_new {s : State} {q : Nat} (h : q ∉ s.cnj.seen) : firstCopy s q = (noteSeen s q, true) := if_neg h

/-! ### Frames sent -/

theorem exec_heartbeatTx {s : State} (hp : pairRuns s = true) (ht : since s s.cnj.hbTx 1000 = true) :
    exec .heartbeatTx s = .next ((sendFrame s (.heartbeat
        ⟨s.get Reg.GEN_STRAP_UNIT_ID, s.get Reg.GEN_MODE_MODE, role s, pstate s, hbFlags s, tsState s⟩)).setCnj
      (fun c => { c with hbTx := some s.freeNs, hbOut := !c.hbOut })) :=
  congrArg Host.Outcome.next (if_neg (by simp [hp, ht]))

/-- The IDENT of a unit whose digest is shown. -/
def identOf (s : State) : IdentPay :=
  ⟨0x9600, 0x20, s.get Reg.GEN_STRAP_UNIT_ID, s.get Reg.BOOT_STAT_RELEASE, s.bit Reg.CNJ_CFG_Q58, s.get Reg.CNJ_DIGEST_DIGEST⟩

theorem exec_identTx {s : State} (hp : pairRuns s = true)
    (ht : since s s.cnj.identTx (if pstate s = 3 then 1000000000 else 100000000) = true) :
    exec .identTx s = .next ((sendFrame (showDigest s) (.ident (identOf (showDigest s)))).setCnj
      (fun c => { c with identTx := some (showDigest s).freeNs })) :=
  congrArg Host.Outcome.next (if_neg (by simp [hp, ht]))

/-! ### Frames received -/

/-- A HEARTBEAT's CSEQ and the lane's liveness, which every copy of it brings. -/
def liveLane (s : State) (l : Fin 2) (cseq : Nat) : State :=
  let a := (takeCseq s cseq).putB (Reg.CNJ_LSTAT_CROSSED l) false
  showLane (a.setCl l { a.cl l with hbAt := some a.freeNs }) l

theorem exec_heartbeatRx {l : Fin 2} {h : LinkHdr} {p : HbPay} {s : State} (hl : laneTakes s l = true) (hh : h.lane = l) :
    exec (.heartbeatRx l h p) s = .next (showPair (
      if (firstCopy (liveLane s l h.cseq.toNat) h.fseq.toNat).2
      then takeHeartbeat (firstCopy (liveLane s l h.cseq.toNat) h.fseq.toNat).1 p
      else (firstCopy (liveLane s l h.cseq.toNat) h.fseq.toNat).1)) := by
  refine congrArg Host.Outcome.next ((if_neg (by simp [hl])).trans ?_)
  simp only [hh, ne_eq, not_true_eq_false, decide_false, Bool.false_and, Bool.false_eq_true, if_false]
  rfl

theorem exec_heartbeatRx_of_seen {l : Fin 2} {h : LinkHdr} {p : HbPay} {s : State} (hl : laneTakes s l = true) (hh : h.lane = l)
    (hq : h.fseq.toNat ∈ (liveLane s l h.cseq.toNat).cnj.seen) :
    exec (.heartbeatRx l h p) s = .next (showPair (liveLane s l h.cseq.toNat)) := by
  rw [exec_heartbeatRx hl hh, firstCopy_of_seen hq, if_neg Bool.false_ne_true]

theorem exec_heartbeatRx_of_new {l : Fin 2} {h : LinkHdr} {p : HbPay} {s : State} (hl : laneTakes s l = true) (hh : h.lane = l)
    (hq : h.fseq.toNat ∉ (liveLane s l h.cseq.toNat).cnj.seen) :
    exec (.heartbeatRx l h p) s = .next (showPair (takeHeartbeat (noteSeen (liveLane s l h.cseq.toNat) h.fseq.toNat) p)) := by
  rw [exec_heartbeatRx hl hh, firstCopy_of_new hq, if_pos rfl]

theorem exec_identRx_of_seen {l : Fin 2} {h : LinkHdr} {p : IdentPay} {s : State} (hl : laneTakes s l = true)
    (hq : h.fseq.toNat ∈ s.cnj.seen) : exec (.identRx l h p) s = .next (takeCseq s h.cseq.toNat) := by
  refine congrArg Host.Outcome.next ((if_neg (by simp [hl])).trans ?_)
  rw [firstCopy_of_seen hq]
  rfl

/-- An IDENT taken: it joins the units where it can, and its digest is compared. -/
def takeIdent (s : State) (p : IdentPay) (cseq : Nat) : State :=
  showPair (compareDigest (if joinsNow s then joinPeer s p cseq else takeCseq s cseq) (p.digest % 2 ^ 32))

theorem exec_identRx_of_new {l : Fin 2} {h : LinkHdr} {p : IdentPay} {s : State} (hl : laneTakes s l = true)
    (hq : h.fseq.toNat ∉ s.cnj.seen) :
    ∃ w, w = takeIdent (noteSeen s h.fseq.toNat) p h.cseq.toNat ∧
      exec (.identRx l h p) s = .next (if w.tbLive then settle w else w) := by
  refine ⟨_, rfl, congrArg Host.Outcome.next ((if_neg (by simp [hl])).trans ?_)⟩
  rw [firstCopy_of_new hq]
  rfl

theorem joinPeer_of_equal {s : State} {p : IdentPay} {c : Nat} (h : identDiffers (setPstate s 2 2) p = none) :
    joinPeer s p c = enterPaired (setPstate s 2 2) c := by
  simp only [joinPeer, h]

theorem joinPeer_of_differs {s : State} {p : IdentPay} {c k a b : Nat} (h : identDiffers (setPstate s 2 2) p = some (k, a, b)) :
    joinPeer s p c = ((setPstate (takeCseq (setPstate s 2 2) c) 5 2).setFlag Flag.CNJ_MISMATCH).journal
      2 0x0015 0x1504 (leBytes 1 k ++ leBytes 1 0 ++ leBytes 2 a ++ leBytes 2 b) := by
  simp only [joinPeer, h]

/-! ### Presence -/

theorem exec_hbInEdge_of_first {s : State} (hp : pairRuns s = true) (hn : s.cnj.hbIn = none) :
    exec .hbInEdge s = .next (showPair (s.setCnj (fun c => { c with hbIn := some s.freeNs, hbInRun := 1 }))) := by
  show execHbInEdge s = _
  simp [execHbInEdge, hp, hn]

theorem exec_hbInEdge_of_sixteenth {t : Nat} {s : State} (hp : pairRuns s = true) (hi : s.cnj.hbIn = some t)
    (hlo : t + 900 ≤ s.freeNs) (hhi : s.freeNs ≤ t + 1100) (hr : 15 ≤ s.cnj.hbInRun) :
    exec .hbInEdge s =
      .next (showPair (setPresent (s.setCnj (fun c => { c with hbIn := some s.freeNs, hbInRun := 16 })) true 0)) := by
  show execHbInEdge s = _
  have h16 : 16 ≤ s.cnj.hbInRun + 1 := by omega
  simp [execHbInEdge, hp, hi, hlo, hhi, h16]

theorem exec_peerAbsenceTimeout {s : State} (hp : pairRuns s = true) (hb : s.bit Reg.CNJ_STAT_PEER_PRESENT = true)
    (hq : peerSilent s = true) :
    ∃ u, u = showLane (showLane (setPresent s false 3) 0) 1 ∧
      exec .peerAbsenceTimeout s = .next (showPair (if pstate u = 2 ∨ pstate u = 3 ∨ pstate u = 4 then enterSearch u 1 else u)) :=
  ⟨_, rfl, congrArg Host.Outcome.next ((if_neg (by simp [hp, hb, hq])).trans (by simp [or_assoc]))⟩

/-! ### Violations and synchronisation of a lane -/

theorem exec_linkViolation {l : Fin 2} {s : State} (hl : laneTakes s l = true) :
    ∃ v, v = (s.freeNs :: recentVio s l).take 65535 ∧
      exec (.linkViolation l) s = .next ((s.setCl l { s.cl l with vio := v }).putSatU (Reg.CNJ_LSTAT_VIO_1S l) v.length) :=
  ⟨_, rfl, congrArg Host.Outcome.next (if_neg (by simp [hl]))⟩

theorem exec_laneRestart {l : Fin 2} {s : State} (hl : laneTakes s l = true)
    (hv : s.get Reg.CNJ_LINK_VIO_MAX < (recentVio s l).length) :
    ∃ u, u = check (journalLane (s.setFlag Flag.CNJ_RESYNC) l 2) 0x78 true ∧ exec (.laneRestart l) s =
      .next (showPair (showLane ((u.setCl l { u.cl l with vio := [], hbAt := none }).putB (Reg.CNJ_LSTAT_SYNC l) false) l)) :=
  ⟨_, rfl, congrArg Host.Outcome.next (if_neg (by simp [hl, hv]))⟩

theorem exec_laneSyncChange {l : Fin 2} {sync : Bool} {s : State} (hp : pairRuns s = true) :
    exec (.laneSyncChange l sync) s = .next (showPair (showLane (s.putB (Reg.CNJ_LSTAT_SYNC l) sync) l)) :=
  congrArg Host.Outcome.next (if_neg (by simp [hp]))

theorem exec_linkHeartbeatTimeout {l : Fin 2} {s : State} (hp : pairRuns s = true) (hf : hbFresh s l = false) :
    exec (.linkHeartbeatTimeout l) s = .next (showPair (leaveMismatch (showLane s l))) :=
  congrArg Host.Outcome.next (if_neg (by simp [hp, hf]))

theorem leaveMismatch_of_other {s : State} (h : pstate s ≠ 5) : leaveMismatch s = s := if_neg (by simp [h])

theorem leaveMismatch_of_down {s : State} (h : pstate s = 5) (hl : s.bit Reg.CNJ_STAT_LINK_UP = false)
    (ht : s.cnj.downAt + 8000 ≤ s.freeNs) : leaveMismatch s = enterSearch s 0 := if_pos (by simp [h, hl, ht])

/-- Settles O36, row by row. The duplicate window and the sliding count of violations are log 57, and that the IDENT which pairs applies
R35 in place of R33 is log 55. -/
theorem pairLinkActs : Obligations.PairLinkActs := by
  refine ⟨fun s hp ht => ⟨_, rfl, exec_heartbeatTx hp ht⟩,
    fun l h p s hl hh _ => ⟨_, _, rfl, rfl, exec_heartbeatRx_of_seen hl hh, exec_heartbeatRx_of_new hl hh⟩,
    fun s => exec_hbInEdge_of_first, fun t s => exec_hbInEdge_of_sixteenth, fun s hp hb hq => ?_,
    fun s hp ht => ⟨_, _, rfl, rfl, exec_identTx hp ht⟩,
    fun l h p s hl => ⟨exec_identRx_of_seen hl, fun hq => ?_⟩,
    fun s p c => ⟨_, rfl, joinPeer_of_equal, fun k a b => joinPeer_of_differs⟩,
    fun l s => exec_linkViolation, fun l s => exec_laneRestart, fun l sync s => exec_laneSyncChange,
    fun l s hp hf => ⟨_, rfl, fun h5 => ?_, fun h5 hl ht => ?_⟩⟩
  · obtain ⟨u, hu, he⟩ := exec_peerAbsenceTimeout hp hb hq
    refine ⟨u, hu, fun h2 h4 => ?_, fun h => ?_⟩
    · rw [he, if_pos (by omega)]
    · rw [he, if_neg (by omega)]
  · obtain ⟨w, rfl, he⟩ := exec_identRx_of_new (p := p) hl hq
    exact ⟨_, _, _, rfl, rfl, rfl, he⟩
  · rw [exec_linkHeartbeatTimeout hp hf, leaveMismatch_of_other h5]
  · rw [exec_linkHeartbeatTimeout hp hf, leaveMismatch_of_down h5 hl ht]

end Sys2Proof.Machine
end

section
/-!
The rows of a pair's time transfer, of its shared key and of its notices (R500–R505, R518).
-/

namespace Sys2Proof.Machine

/-! ### Markers and STATE frames -/

/-- Lane l's marker leaves with the edge `e`, and its STATE frame after it. -/
def sendMarker (s : State) (l : Nat) (e : Edge) : State :=
  let a := s.setCl l { s.cl l with sent := (markerStamp s e (linkUi s) :: (s.cl l).sent).take 2 }
  sendOn a l (.state (markerStamp s e (linkUi s)) ((s.cl l).rcvd.headD 0) (ownState a))

/-- The epoch still open is formed. -/
def formOpen (s : State) : State := match openEpoch s with | some e => formPeer s e | none => s

theorem exec_epochMarkerTx {t0 t1 : Edge} {s : State} (he : exchanges s = true) (hm : s.atMs = true) :
    exec (.epochMarkerTx t0 t1) s = .next (sendMarker (sendMarker (formOpen s) 0 t0) 1 t1) :=
  congrArg Host.Outcome.next (if_neg (by simp [he, hm]))

theorem exec_epochMarkerRx {l : Fin 2} {x : MarkerIn} {s : State} (hl : laneTakes s l = true) :
    exec (.epochMarkerRx l x) s =
      .next (s.setCl l { s.cl l with rcvd := (markerStamp s x.edge ((x.ui : Rat) / 65536) :: (s.cl l).rcvd).take 2 }) :=
  congrArg Host.Outcome.next (if_neg (by simp [hl]))

/-- The exchange that a STATE frame with the peer's stamps t3 and t2 completes, where both own stamps are known. -/
def exchangeOf (s : State) (l : Fin 2) (t3 t2 : Nat) : State :=
  match nearest (s.cl l).sent t2, nearest (s.cl l).rcvd t3 with
  | some t1, some t4 =>
    exchanged (match openEpoch s with | some e => if e < t3 / msU then formPeer s e else s | none => s)
      l (t3 / msU) (phiLane
        (match openEpoch s with | some e => if e < t3 / msU then formPeer s e else s | none => s) l t1 t2 t3 t4)
  | _, _ => s

theorem exchangeOf_of_unsent {s : State} {l : Fin 2} {t3 t2 : Nat} (h : nearest (s.cl l).sent t2 = none) :
    exchangeOf s l t3 t2 = s := by
  simp only [exchangeOf, h]

theorem exchangeOf_of_stamps {s : State} {l : Fin 2} {t1 t2 t3 t4 : Nat} (h1 : nearest (s.cl l).sent t2 = some t1)
    (h4 : nearest (s.cl l).rcvd t3 = some t4) (ho : openEpoch s = none) :
    exchangeOf s l t3 t2 = exchanged s l (t3 / msU) (phiLane s l t1 t2 t3 t4) := by
  simp only [exchangeOf, h1, h4, ho]

theorem exec_stateFrameRx_of_unpaired {l : Fin 2} {h : LinkHdr} {t3 t2 : Nat} {p : PeerState} {s : State}
    (hl : laneTakes s l = true) (h3 : pstate (takeCseq s h.cseq.toNat) ≠ 3) :
    exec (.stateFrameRx l h t3 t2 p) s = .next (takeCseq s h.cseq.toNat) :=
  congrArg Host.Outcome.next ((if_neg (by simp [hl])).trans (if_pos (by simp [h3])))

theorem exec_stateFrameRx_of_paired {l : Fin 2} {h : LinkHdr} {t3 t2 : Nat} {p : PeerState} {s : State}
    (hl : laneTakes s l = true) (h3 : pstate (takeCseq s h.cseq.toNat) = 3) (hu : bitOf p.utc 0 = false)
    (hu1 : bitOf p.utc 1 = false) (hu2 : bitOf p.utc 2 = false) :
    exec (.stateFrameRx l h t3 t2 p) s =
      .next (exchangeOf (settle (notePeer (takeCseq s h.cseq.toNat) p)) l t3 t2) := by
  refine congrArg Host.Outcome.next ((if_neg (by simp [hl])).trans ((if_neg (by simp [h3])).trans ?_))
  simp only [hu, hu1, hu2, Bool.false_eq_true, if_false]
  rfl

/-! ### The shared key -/

theorem exec_keyTx {k : KeySend} {s : State} (hp : pairRuns s = true) (h3 : pstate s = 3) (ha : isUnitA s = true)
    (hk : s.cnj.keys.find? (keyDue s) = some k) :
    ∃ i u, i = k.adopt.getD (boundaryAt (s.tbU + 2 * msU)) ∧ u = sendFrame s (.key k.key (shortOf i)) ∧
      exec .keyTx s = .next (u.setCnj (fun c =>
        { c with keys := mapFirstKey (keyDue s) (fun k => { k with adopt := some i, sentAt := some s.freeNs }) c.keys })) := by
  refine ⟨_, _, rfl, rfl, congrArg Host.Outcome.next ((if_neg (by simp [hp, h3, ha])).trans ?_)⟩
  rw [hk]

theorem exec_keyRx {l : Fin 2} {h : LinkHdr} {k : BitVec 128} {t : Word64} {s : State} (hl : laneTakes s l = true)
    (hq : h.fseq.toNat ∉ (takeCseq s h.cseq.toNat).cnj.seen) :
    ∃ v, v = noteSeen (takeCseq s h.cseq.toNat) h.fseq.toNat ∧ (isUnitA v = false → pstate v = 3 →
      exec (.keyRx l h k t) s =
        .next (sendFrame (v.setCnj (fun c => { c with adopt := some (k.toNat, v.expand t.toNat) })) (.keyAck t.toNat))) := by
  refine ⟨_, rfl, fun ha h3 => congrArg Host.Outcome.next ((if_neg (by simp [hl])).trans ?_)⟩
  dsimp only
  rw [firstCopy_of_new hq]
  exact if_neg (by simp [ha, h3])

theorem exec_keyAckRx {l : Fin 2} {h : LinkHdr} {t : Word64} {s : State} (hl : laneTakes s l = true)
    (hq : h.fseq.toNat ∉ (takeCseq s h.cseq.toNat).cnj.seen) :
    ∃ v, v = noteSeen (takeCseq s h.cseq.toNat) h.fseq.toNat ∧ (isUnitA v = true →
      exec (.keyAckRx l h t) s = .next (v.setCnj (fun c =>
        { c with keys := mapFirstKey (awaitsAck t) (fun k => { k with ackAt := some v.tbU }) c.keys }))) := by
  refine ⟨_, rfl, fun ha => congrArg Host.Outcome.next ((if_neg (by simp [hl])).trans ?_)⟩
  dsimp only
  rw [firstCopy_of_new hq]
  exact if_neg (by simp [ha])

theorem exec_keyAdoption_unitB {k t : Nat} {s : State} (hp : pairRuns s = true) (ha : isUnitA s = false)
    (hk : s.cnj.adopt = some (k, t)) (ht : t ≤ s.tbU) :
    exec .keyAdoption s = .next (journalKey (installKey (s.setCnj (fun c => { c with adopt := none })) k) 2 t) := by
  refine congrArg Host.Outcome.next ((if_neg (by simp [hp])).trans ((if_neg (by simp [ha])).trans ?_))
  rw [hk]
  exact if_pos ht

theorem exec_keyAdoption_unitA {k : KeySend} {s : State} (hp : pairRuns s = true) (ha : isUnitA s = true)
    (hk : s.cnj.keys.find? (keyDone s) = some k) :
    exec .keyAdoption s =
      .next (journalKey (s.setCnj (fun c => { c with keys := c.keys.filter (fun x => !keyDone s x) })) 1 (k.adopt.getD 0)) := by
  refine congrArg Host.Outcome.next ((if_neg (by simp [hp])).trans ((if_pos ha).trans ?_))
  rw [hk]

/-- The keys owed to the command with a sequence number are dropped. -/
def dropOwed (s : State) (aseq : Nat) : State :=
  s.setCnj (fun c => { c with keys := c.keys.filter (fun k => k.aseq != some aseq) })

theorem seqKey_apply {s : State} {w : Waiting} (h : pairOperation s = false) :
    seqKeyOp.apply s w = finishDesc (dropOwed (installKey s (seqKeyOf w.d)) w.aseq) w St.ok [] :=
  (if_neg (by simp [h])).trans (if_neg (by simp [h]))

/-! ### Notices -/

theorem exec_noticeTx {n : Notice} {r : List Notice} {s : State} (hp : pairRuns s = true) (hn : s.cnj.notices = n :: r) :
    exec .noticeTx s =
      .next (sendFrame (s.setCnj (fun c => { c with notices := r })) (.notice n.src n.cls n.flags n.stamp)) := by
  show execNoticeTx s = _
  unfold execNoticeTx
  rw [hn]
  exact congrArg Host.Outcome.next (if_neg (by simp [hp]))

theorem exec_noticeRx {l : Fin 2} {h : LinkHdr} {src : Byte} {cls : Fin 4} {flags : Byte} {t : Nat} {s : State}
    (hl : laneTakes s l = true) (hq : h.fseq.toNat ∉ (takeCseq s h.cseq.toNat).cnj.seen) :
    exec (.noticeRx l h src cls flags t) s = .next ((noteSeen (takeCseq s h.cseq.toNat) h.fseq.toNat).journal
      (min 3 (cls.val + 1)) 0x0015 0x1507
      (leBytes 1 src.toNat ++ leBytes 1 cls ++ leBytes 1 flags.toNat ++ leBytes 1 0 ++ leBytes 8 (shortOf t))) := by
  refine congrArg Host.Outcome.next ((if_neg (by simp [hl])).trans ?_)
  dsimp only
  rw [firstCopy_of_new hq]
  rfl

/-- Settles O37, row by row. That the stamps nearest to the peer's are paired is log 55; the duplicate window and KEY_SHARED at the
adoption are log 57; CLA_SEQKEY rests on R357. A STATE frame outside PAIRED still brings its CSEQ (R33). -/
theorem pairTransferActs : Obligations.PairTransferActs := by
  refine ⟨fun t0 t1 s he hm => ⟨_, _, _, _, _, rfl, rfl, rfl, rfl, rfl, exec_epochMarkerTx he hm⟩,
    fun l x s => exec_epochMarkerRx,
    fun l h t3 t2 p s hl => ⟨exec_stateFrameRx_of_unpaired hl, fun h3 hu hu1 hu2 => ⟨_, rfl, fun h1 => ?_,
      fun t1 t4 h1 h4 ho => ?_⟩⟩,
    fun k s => exec_keyTx, fun l h k t s hl => ⟨_, _, rfl, rfl, fun hq ha h3 => ?_, fun hq ha => ?_⟩,
    fun k t s => exec_keyAdoption_unitB, fun k s => exec_keyAdoption_unitA, fun n r s => exec_noticeTx,
    fun l h src cls flags t s hl => ⟨_, rfl, exec_noticeRx hl⟩, fun s d ha hp => ⟨_, rfl, ?_⟩⟩
  · exact (exec_stateFrameRx_of_paired hl h3 hu hu1 hu2).trans (congrArg Host.Outcome.next (exchangeOf_of_unsent h1))
  · exact (exec_stateFrameRx_of_paired hl h3 hu hu1 hu2).trans (congrArg Host.Outcome.next (exchangeOf_of_stamps h1 h4 ho))
  · obtain ⟨v, rfl, he⟩ := exec_keyRx hl hq
    exact he ha h3
  · obtain ⟨v, rfl, he⟩ := exec_keyAckRx hl hq
    exact he ha
  · exact congrArg (fun u => Host.Outcome.next (shareKey u (s.get Reg.HIF_ASEQ_ASEQ)))
      (ha.submit.trans (seqKey_apply (w := takenAs s d seqKeyOp.opcode) hp))

end Sys2Proof.Machine
end

section
/-!
The rows of a pair's roles, drivers, rehearsals and handovers (R507–R511, R514, R517), and the commands CNJ_SET and CNJ_HANDOVER
(R519, R520).
-/

namespace Sys2Proof.Machine

/-! ### Pins -/

/-- SUBJ_IN has fallen: the guard starts anew. -/
def subjFallen (s : State) : State :=
  let u := putStat s Reg.CNJ_STAT_SUBJ_IN 0
  u.setCnj (fun c => { c with inLow := u.freeNs, guardFrom := u.freeNs })

theorem exec_subjInChange_low {s : State} (he : s.bit Reg.GEN_STRAP_PAIR_EN = true) (hi : s.bit Reg.CNJ_STAT_SUBJ_IN = true)
    (hq : (putStat s Reg.CNJ_STAT_SUBJ_IN 0).bit Reg.CNJ_CFG_Q58 = false) :
    exec (.subjInChange false) s =
      .next (showPair (if role (subjFallen s) = 0 then roleEval (subjFallen s) else subjFallen s)) := by
  refine congrArg Host.Outcome.next ((if_neg (by simp [he, hi])).trans ?_)
  simp only [b2n, hq, Bool.false_eq_true, if_false]
  rfl

/-- SUBJ_IN has risen: the SHARED drivers are off, and one still driven is a fault (R509). -/
def subjRisen (s : State) : State :=
  let u := putStat s Reg.CNJ_STAT_SUBJ_IN 1
  let v := dropDrivers (u.setCnj (fun c => { c with inHigh := u.freeNs })) true
  check v 0x7A (!driversOff v)

/-- What the role becomes once SUBJ_IN has risen. -/
def roleAtRise (s : State) : State :=
  if !pairRuns s then s
  else if role s = 3 then becomeObject s (roleCause s)
  else if role s = 1 && !isUnitA s && !q58Take s then becomeObject (s.setFlag Flag.CNJ_TAKE_CONTEND) 7
  else showPair s

theorem exec_subjInChange_high {s : State} (he : s.bit Reg.GEN_STRAP_PAIR_EN = true) (hi : s.bit Reg.CNJ_STAT_SUBJ_IN = false)
    (hq : (putStat s Reg.CNJ_STAT_SUBJ_IN 1).bit Reg.CNJ_CFG_Q58 = false) :
    exec (.subjInChange true) s = .next (roleAtRise (subjRisen s)) := by
  refine congrArg Host.Outcome.next ((if_neg (by simp [he, hi])).trans ?_)
  simp only [b2n, hq, Bool.not_false, Bool.true_or, Bool.false_eq_true, if_false, if_true]
  rfl

theorem exec_arbValidChange {sel : Option Bool} {s : State} (he : s.bit Reg.GEN_STRAP_PAIR_EN = true) :
    exec (.arbValidChange sel) s = .next (showPair (s.setCnj (fun c => { c with arbPins := sel }))) :=
  congrArg Host.Outcome.next (if_neg (by simp [he]))

/-! ### The role rules -/

/-- The unit starts to take the role: SUBJ_OUT is asserted and the guard starts. -/
def startTaking (s : State) : State :=
  let u := setRole s 1 (roleCause s) 0
  u.setCnj (fun c => { c with subjOut := true, subjAt := u.freeNs, guardFrom := u.freeNs })

theorem roleEval_of_object {s : State} (hp : pairRuns s = true) (he : s.bit Reg.GEN_STRAP_PAIR_EN = true) (hr : role s = 0)
    (hd : decisionD s = some true) (hi : s.bit Reg.CNJ_STAT_SUBJ_IN = false) (hw : waited s = true) :
    roleEval s =
      showPair (if (startTaking s).bit Reg.CNJ_CFG_Q58 then raiseDrivers (startTaking s) else startTaking s) :=
  (if_neg (by simp [hp, he])).trans ((if_pos hr).trans (if_pos (by simp [hd, hi, hw])))

theorem roleEval_of_taking_unnamed {s : State} (hp : pairRuns s = true) (he : s.bit Reg.GEN_STRAP_PAIR_EN = true)
    (hr : role s = 1) (hd : decisionD s ≠ some true) (ha : isUnitA s = true) :
    roleEval s = becomeObject s (roleCause s) := by
  refine (if_neg (by simp [hp, he])).trans ((if_neg (by simp [hr])).trans ((if_pos hr).trans ((if_pos (by simp [hd])).trans ?_)))
  rw [ha]
  rfl

theorem roleEval_of_taking_named {s : State} (hp : pairRuns s = true) (he : s.bit Reg.GEN_STRAP_PAIR_EN = true)
    (hr : role s = 1) (hd : decisionD s = some true) : roleEval s = s :=
  (if_neg (by simp [hp, he])).trans ((if_neg (by simp [hr])).trans ((if_pos hr).trans (if_neg (by simp [hd]))))

theorem exec_takeHoldExpiry {s : State} (hr : role s = 0) (ha : isUnitA s = false) :
    exec .takeHoldExpiry s = .next (roleEval s) :=
  congrArg Host.Outcome.next (if_pos (by simp [hr, ha]))

/-- The unit is SUBJECT, with its drivers as far as the interlock lets them, and its take command is done. -/
def becomeSubject (s : State) (undriven : Nat) : State :=
  endHand (showPair (raiseDrivers ((setRole s 2 (roleCause s) undriven).setCnj (fun c => { c with take := none })))) 1 St.ok []

theorem exec_guardExpiry {n : Nat} {s : State} (hp : pairRuns s = true) (hr : role s = 1)
    (hi : s.bit Reg.CNJ_STAT_SUBJ_IN = false) (hg : s.cnj.guardFrom + s.get Reg.CNJ_TIME_T_GUARD ≤ s.freeNs)
    (hd : decisionD s = some true) (hn : (becomeSubject s n).cnj.reh = none) :
    exec (.guardExpiry n) s = .next (becomeSubject s n) := by
  refine congrArg Host.Outcome.next ((if_neg (by simp [hp, hr, hi, hg, hd])).trans ?_)
  show (match (becomeSubject s n).cnj.reh with | some r => _ | none => becomeSubject s n) = _
  rw [hn]

/-! ### Drivers and releases -/

theorem exec_driverInactiveInstant_of_urgent {n : Fin 12} {s : State} (hp : pairRuns s = true) (hu : s.cnj.urgent.isSome = true) :
    ∃ u, u = setDrv s (setBit s.cnj.drv n false) ∧ exec (.driverInactiveInstant n) s =
      .next (if driversOff u then becomeObject u (if u.cnj.urgent.isSome then 5 else roleCause u) else u) :=
  ⟨_, rfl, congrArg Host.Outcome.next ((if_neg (by simp [hp])).trans (if_pos (by simp [hu])))⟩

theorem exec_driverInactiveInstant_of_subject {n : Fin 12} {s : State} (hp : pairRuns s = true) (hu : s.cnj.urgent = none)
    (hr : role s = 2) (hi : interlock s = true) :
    exec (.driverInactiveInstant n) s = .next (setDrv s (setBit s.cnj.drv n true)) :=
  congrArg Host.Outcome.next ((if_neg (by simp [hp])).trans ((if_neg (by simp [hu, hr])).trans (if_pos (by simp [hi, hr]))))

theorem exec_urgentRelease {s : State} (hp : pairRuns s = true) (hd : urgentDue s = true) :
    ∃ b u v, b = s.cnj.urgent.getD s.freeNs ∧ u = s.setCnj (fun c => { c with urgent := some b }) ∧
      v = dropDrivers u (decide (b + 1000 ≤ u.freeNs)) ∧
      exec .urgentRelease s = .next (if driversOff v then becomeObject v 5 else showPair v) :=
  ⟨_, _, _, rfl, rfl, rfl, congrArg Host.Outcome.next ((if_pos hp).trans (if_neg (by simp [hd])))⟩

theorem exec_releaseDeadline {s : State} (hp : pairRuns s = true) (hr : role s = 3)
    (ht : s.cnj.releasing + 1000000000 ≤ s.freeNs) :
    exec .releaseDeadline s = .next (becomeObject (dropDrivers s true) (roleCause s)) :=
  congrArg Host.Outcome.next (if_neg (by simp [hp, hr, ht]))

/-! ### Rehearsals -/

theorem exec_rehearsalStart {s : State} (hp : pairRuns s = true) (he : s.bit Reg.CNJ_CFG_REH_EN = true)
    (hd : s.bit Reg.CNJ_CFG_DETECT = false) (ht : rehearsalDue s = true) (hr : role s = 2) :
    exec .rehearsalStart s = .next (startRehearsal s) :=
  congrArg Host.Outcome.next (if_neg (by simp [hp, he, hd, ht, hr]))

theorem exec_rehDwellExpiry {r : Rehearse} {s : State} (hp : pairRuns s = true) (hr : s.cnj.reh = some r) (h1 : r.phase = 1)
    (ht : r.since + s.get Reg.CNJ_REH2_REH_DWELL * 1000000000 ≤ s.freeNs) :
    exec .rehDwellExpiry s =
      .next (s.setCnj (fun c => { c with take := some 2, reh := some { r with phase := 2, since := s.freeNs } })) := by
  show execRehDwellExpiry s = _
  unfold execRehDwellExpiry
  rw [hr]
  exact congrArg Host.Outcome.next (if_pos (by simp [hp, h1, ht]))

/-- The peer's take has not completed: the yield ends, and its command is refused. -/
def takeMissed (s : State) : State := endHand (s.setCnj (fun c => { c with yielding := none })) 0 St.busy []

theorem exec_rehLimExpiry {s : State} (hp : pairRuns s = true) (hy : s.cnj.yielding.isSome = true) (ht : s.cnj.take = none)
    (hr : role s = 0) (hl : s.cnj.released + s.get Reg.CNJ_REH2_REH_LIM * 1000 ≤ s.freeNs) :
    exec .rehLimExpiry s = .next (match (takeMissed s).cnj.reh with
      | some r => if r.phase = 0 then endRehearsal (takeMissed s) 2 0 r.take1 0 else takeMissed s
      | none => takeMissed s) := by
  refine congrArg Host.Outcome.next ((if_neg (by simp [hp, hy, hr, hl])).trans ?_)
  simp only [hy, hr, hl, ht, Option.isSome_none, Bool.false_and, decide_true, Bool.and_true, Bool.true_and, Bool.or_false,
    if_true, Bool.false_eq_true, if_false, decide_eq_true_eq]
  rfl

/-! ### CNJ_SET and CNJ_HANDOVER -/

/-- The pair unit's settings after a CNJ_SET: Q58 stays, and REH_TOD is reduced. -/
def pairStored (s : State) (d : Desc) : State :=
  normReh ((storeMasked s d (d.u16 18) cnjAddrs).put Reg.CNJ_CFG_Q58 (s.get Reg.CNJ_CFG_Q58))

theorem cnjSet_apply {s : State} {w : Waiting}
    (hd : (pairStored s w.d).get Reg.CNJ_CFG_DETECT = s.get Reg.CNJ_CFG_DETECT)
    (ha : ∀ l < 2, (pairStored s w.d).get (Reg.CNJ_ASYM_A l) = s.get (Reg.CNJ_ASYM_A l)) :
    cnjSetOp.apply s w = finishDesc (showPair (pairStored s w.d)) w St.ok [] := by
  have hn : ¬ (List.range 2).any (fun l => s.get (Reg.CNJ_ASYM_A l) != (pairStored s w.d).get (Reg.CNJ_ASYM_A l)) = true := by
    rw [List.any_eq_true]
    rintro ⟨l, hl, hne⟩
    exact bne_iff_ne.mp hne (ha l (List.mem_range.mp hl)).symm
  refine (if_neg fun h => ?_).trans ((if_neg fun h => ?_).trans
    (congrArg (fun t => finishDesc (showPair t) w St.ok []) (if_neg fun h => ?_)))
  · exact bne_iff_ne.mp (Bool.and_eq_true_iff.mp h).1 hd.symm
  · exact hn (Bool.and_eq_true_iff.mp (Bool.and_eq_true_iff.mp h).1).1
  · exact hn (Bool.and_eq_true_iff.mp h).1

/-- CNJ_HANDOVER is held as the command under way. -/
def handHeld (s : State) (w : Waiting) : State := s.setCnj (fun c => { c with hand := some ⟨w, w.d.u8 16, none⟩ })

theorem handover_apply_release {s : State} {w : Waiting} (hd : s.bit Reg.CNJ_CFG_DETECT = false) (h3 : pstate s = 3)
    (hf : peerFlag s 0 = true) (hr : handoverRuns s = false) (ha : w.d.u8 16 = 0) (h2 : role s = 2) :
    handoverOp.apply s w = startYield (handHeld s w) 1 :=
  (if_neg (by simp [ha, h2])).trans ((if_neg (by simp [hd, h3, hf, hr])).trans (if_pos ha))

theorem handover_apply_take {s : State} {w : Waiting} (hd : s.bit Reg.CNJ_CFG_DETECT = false) (h3 : pstate s = 3)
    (hf : peerFlag s 0 = true) (hr : handoverRuns s = false) (ha : w.d.u8 16 = 1) (h0 : role s = 0) :
    handoverOp.apply s w = (handHeld s w).setCnj (fun c => { c with take := some 1 }) :=
  (if_neg (by simp [ha, h0])).trans ((if_neg (by simp [hd, h3, hf, hr])).trans ((if_neg (by simp [ha])).trans (if_pos ha)))

/-- Settles O38, row by row. The handover back by this unit's own take request, the causes of a yield, and that an urgent release keeps
the role until the drivers are off, are log 56. -/
theorem pairRoleActs : Obligations.PairRoleActs := by
  refine ⟨fun s he hi => ⟨_, _, rfl, rfl, fun hq hr => ?_, fun hq hr => ?_⟩,
    fun s he hi => ⟨_, _, rfl, rfl, fun hq hp => ?_, fun hq hp hr => ?_⟩, fun sel s => exec_arbValidChange,
    fun s hp he => ⟨fun hr hd hi hw => ⟨_, _, rfl, rfl, fun hq => ?_, fun hq => ?_⟩,
      fun hr hd ha => congrArg Host.Outcome.next (roleEval_of_taking_unnamed hp he hr hd ha),
      fun hr hd => congrArg Host.Outcome.next (roleEval_of_taking_named hp he hr hd), exec_takeHoldExpiry⟩,
    fun s => exec_takeHoldExpiry, fun n s hp hr hi hg hd => ⟨_, _, rfl, rfl, exec_guardExpiry hp hr hi hg hd⟩,
    fun n s hp hu => ?_, fun n s => exec_driverInactiveInstant_of_subject, fun s => exec_urgentRelease,
    fun s => exec_releaseDeadline, fun s => exec_rehearsalStart, fun r s => exec_rehDwellExpiry,
    fun s hp hy ht hr hl => ⟨_, rfl, fun hn => ?_, fun r hs h0 => ?_⟩,
    fun s d ha => ⟨_, _, rfl, rfl, fun hd hy => congrArg Host.Outcome.next (ha.submit.trans ?_)⟩,
    fun s d ha hd h3 hf hn => ⟨_, rfl, fun h0 hr => congrArg Host.Outcome.next (ha.submit.trans ?_),
      fun h1 hr => congrArg Host.Outcome.next (ha.submit.trans ?_)⟩⟩
  · exact (exec_subjInChange_low he hi hq).trans (congrArg (fun t => Host.Outcome.next (showPair t)) (if_neg hr))
  · exact (exec_subjInChange_low he hi hq).trans (congrArg (fun t => Host.Outcome.next (showPair t)) (if_pos hr))
  · exact (exec_subjInChange_high he hi hq).trans (congrArg Host.Outcome.next (if_pos (by simp [subjRisen, hp])))
  · exact (exec_subjInChange_high he hi hq).trans (congrArg Host.Outcome.next
      ((if_neg (by simp [subjRisen, hp])).trans (if_pos hr)))
  · exact congrArg Host.Outcome.next ((roleEval_of_object hp he hr hd hi hw).trans (congrArg showPair (if_neg (by simp [startTaking, hq]))))
  · exact congrArg Host.Outcome.next ((roleEval_of_object hp he hr hd hi hw).trans (congrArg showPair (if_pos hq)))
  · obtain ⟨u, hu, he⟩ := exec_driverInactiveInstant_of_urgent (n := n) hp hu
    exact ⟨u, hu, fun hf => by rw [he, if_neg (by simp [hf])], fun ht => by rw [he, if_pos ht]⟩
  · rw [exec_rehLimExpiry hp hy ht hr hl, takeMissed, hn]
  · rw [exec_rehLimExpiry hp hy ht hr hl, takeMissed, hs]
    exact congrArg Host.Outcome.next (if_pos h0)
  · exact cnjSet_apply (w := takenAs s d cnjSetOp.opcode) hd hy
  · exact handover_apply_release (w := takenAs s d handoverOp.opcode) hd h3 hf hn h0 hr
  · exact handover_apply_take (w := takenAs s d handoverOp.opcode) hd h3 hf hn h1 hr

end Sys2Proof.Machine
end

section
/-!
The rows of the Clause engines: transactions taken up, opened, sealed, granted and committed, the messages the engines originate, the
negotiation of unicast, the grant table, the work of the second, injection and the return of an engine (R331–R361, R375, R382).
-/

namespace Sys2Proof.Machine

/-! ### Transactions -/

theorem exec_requestDispatch {e : Fin 16} {t : Txn} {c : Nat} {s : State} (hd : engDown s e = false)
    (hq : s.cla.queue.find? (fun t => t.engine = e.val) = some t) (hc : freeCtx s e = some c)
    (hk : (inFlight s e).any (fun u => u.cls != t.cls) = false) :
    ∃ x, x = { t with ctx := c } ∧ exec (.requestDispatch e) s = .next (beginTxn (s.setCla (fun k => { k with
      queue := k.queue.filter (fun u => u.id != t.id), flight := k.flight ++ [x] })) x) := by
  refine ⟨_, rfl, congrArg Host.Outcome.next ((if_neg (by simp [hd])).trans ?_)⟩
  rw [hq, hc]
  exact if_neg (by simp [hk])

theorem exec_aeadComplete_opened {e : Fin 16} {c : Fin 4} {x : Txn} {m : NtpIn} {ok intact : Bool} {s : State}
    (hx : txnOf s e c = some x) (hs : x.stage = .op 1) (hj : x.job = .ntp m) (hc : cyRuns s = true) (hn : opBlocks s x ≠ 0) :
    exec (.aeadComplete e c ok intact) s =
      .next (ntsOpDone (aesBlocks s (x.engine / 2) (opBlocks s x)) x m 1 (x.found && ok)) := by
  show execAeadComplete e c ok intact s = _
  simp [execAeadComplete, hx, hs, hj, hc, hn, isSeal]

theorem exec_aeadComplete_sealed {e : Fin 16} {c : Fin 4} {x : Txn} {m : PtpIn} {ok intact : Bool} {s : State}
    (hx : txnOf s e c = some x) (hs : x.stage = .seal) (hj : x.job = .ptp m) (hc : cyRuns s = true) (hn : opBlocks s x = 0)
    (hk : s.bit Reg.SAT_CFG_SEAL_CHK = false) :
    exec (.aeadComplete e c ok intact) s = .next (putTxn (satBump (sealBooks s x) 6 1) { x with stage := .commit }) := by
  show execAeadComplete e c ok intact s = _
  simp [execAeadComplete, hx, hs, hj, hc, hn, hk]

theorem exec_frameCommit {e : Fin 16} {c : Fin 4} {len : Nat} {x : Txn} {s : State} (hx : txnOf s e c = some x)
    (hs : x.stage = .commit) :
    exec (.frameCommit e c len) s = .next (release ((openBooks s x).foldl (fun s b =>
      if deadlineAt s b < (s.tbU : Int) then lateDiscard (freeBook s b) b.port 0 b.ttx b.cls else if b.len < len
      then lateDiscard (freeBook s b) b.port 5 b.ttx b.cls else putBook s { b with inTsu := true, clen := len }) s) x) := by
  show execFrameCommit e c len s = _
  unfold execFrameCommit
  rw [hx]
  exact congrArg Host.Outcome.next (if_neg (by simp [hs]))

/-! ### The grant -/

/-- The one port of a target is granted its best start position. -/
theorem grantsOf_of_port {s : State} {x : Txn} {p q len : Nat} {a b : StartGrid} (hp : portsOf s x.target = [p])
    (hb : bestStart s [p] x.tnom len p a = some q) : grantsOf s x [p] len a b = some [(p, q)] := by
  simp [grantsOf, hp, hb]

theorem exec_ttxGrant {e : Fin 16} {c : Fin 4} {len : Nat} {a b : StartGrid} {x : Txn} {p q : Nat} {s : State}
    (hx : txnOf s e c = some x) (hs : x.stage = .grant) (ho : openBooks s x = []) (hn : needsSeal s x = some false)
    (hp : portsOf s x.target = [p]) (hu : portUp s p = true) (hb : bestStart s [p] x.tnom len p a = some q) :
    exec (.ttxGrant e c len a b) s = .next (afterGrant (book s x p q len false) x false (q / 128 * 128)) := by
  show execTtxGrant e c len a b s = _
  simp [execTtxGrant, hx, hs, ho, hn, hp, hu, grantsOf_of_port (b := b) hp hb]

/-! ### Messages originated -/

/-- The number of the message of stream i that is prepared next. -/
def streamNext (s : State) (i : Fin 512) (ann : Bool) : Nat :=
  max (s.cla.nextN.get (fun _ => 0) (2 * i + b2n ann)) (firstN (s.stream i) ann (s.tbU + 1))

/-- Message n of stream i is behind. -/
def streamPassed (s : State) (i : Fin 512) (ann : Bool) (n : Nat) : State :=
  s.setCla (fun c => { c with nextN := c.nextN.set (fun _ => 0) (2 * i + b2n ann) (n + 1) })

/-- Message n of the stream with image r, to a single port. -/
def streamMsg (s : State) (ann : Bool) (r : List Byte) (n : Nat) : PtpOut :=
  { ptpBase s (strByte r 2) (strByte r 0) (if ann then 0xB else 0) n with
    env := streamEnv r, logInt := strLog r ann, twoStep := !ann && s.bit (Reg.PB_CFG_TWO_STEP (strByte r 2)), fuRed := none }

theorem exec_streamPrepare_late {i : Fin 512} {ann : Bool} {s : State} (hm : s.mode = .service)
    (h0 : bitOf (strByte (s.stream i) 3) 0 = true) (hk : bitOf (strByte (s.stream i) 3) (if ann then 2 else 1) = true)
    (ht : s.tbLive = true) (hl : prepState s (streamAt (s.stream i) ann (streamNext s i ann)) = 2) :
    exec (.streamPrepare i ann) s = .next ((streamPassed s i ann (streamNext s i ann)).setFlag Flag.CLA_STREAM_MISS) :=
  congrArg Host.Outcome.next ((if_neg (by simp [hm, h0, hk, ht])).trans
    ((if_neg (fun h => absurd (hl.symm.trans h) (by decide))).trans (if_pos hl)))

/-- A target below 8 is a port. -/
theorem targetLive_of_port {s : State} {t : Nat} (h : t < 8) : targetLive s t = true := by simp [targetLive, h]

theorem isGroup_of_port {t : Nat} (h : t < 8) : isGroup t = false := by simp only [isGroup]; exact decide_eq_false (by omega)

theorem exec_streamPrepare_port {i : Fin 512} {ann : Bool} {s : State} (hm : s.mode = .service)
    (h0 : bitOf (strByte (s.stream i) 3) 0 = true) (hk : bitOf (strByte (s.stream i) 3) (if ann then 2 else 1) = true)
    (ht : s.tbLive = true) (hp : strByte (s.stream i) 0 < 8)
    (hl : prepState s (streamAt (s.stream i) ann (streamNext s i ann)) = 1)
    (hb : ptpBinding (streamPassed s i ann (streamNext s i ann)) (strByte (s.stream i) 2) = true) :
    exec (.streamPrepare i ann) s = .next (originate (streamPassed s i ann (streamNext s i ann))
      (ownTxn (streamMsg (streamPassed s i ann (streamNext s i ann)) ann (s.stream i) (streamNext s i ann))
        (strByte (s.stream i) 0) (streamAt (s.stream i) ann (streamNext s i ann)) none) Flag.CLA_STREAM_MISS) := by
  have hno : (!targetLive (streamPassed s i ann (streamNext s i ann)) (strByte (s.stream i) 0) ||
      !ptpBinding (streamPassed s i ann (streamNext s i ann)) (strByte (s.stream i) 2)) = false := by
    rw [targetLive_of_port hp, hb]
    rfl
  refine congrArg Host.Outcome.next ((if_neg (by simp [hm, h0, hk, ht])).trans
    ((if_neg (fun h => absurd (hl.symm.trans h) (by decide))).trans
    ((if_neg (fun h => absurd (hl.symm.trans h) (by decide))).trans ((if_neg (Bool.eq_false_iff.mp hno)).trans ?_))))
  simp only [isGroup_of_port hp, Bool.false_eq_true, if_false]
  rfl

/-- The Follow_Up of a two-step event message. -/
def followUpOf (f : FollowUp) : PtpOut :=
  { f.event with
    type := if f.event.type = 0 then 8 else 0xA, twoStep := false, stamp := f.measured / 65536,
    corr := f.event.fuCorr + fracOf f.measured, tlvs := [], ann := none }

theorem exec_followUpPrepare {f : FollowUp} {l : List FollowUp} {s : State} (hf : s.cla.fus = f :: l) (hm : s.mode = .service) :
    ∃ u, u = s.setCla (fun c => { c with fus := l }) ∧ exec .followUpPrepare s = .next (originate u (ownTxn (followUpOf f)
      f.target (f.ttx + u.get Reg.CLA_CTRL_FU_DELAY * 1000 * 65536) f.event.fuRed) Flag.CLA_STREAM_MISS) := by
  refine ⟨_, rfl, ?_⟩
  show execFollowUpPrepare s = _
  unfold execFollowUpPrepare
  rw [hf]
  exact congrArg Host.Outcome.next (if_neg (fun h => bne_iff_ne.mp h hm))

/-! ### The port clients' Delay_Req -/

/-- The number of the Delay_Req that the client of port p prepares next. -/
def dreqNext (s : State) (p : Fin 8) : Nat :=
  max ((s.client p).nreq.getD 0) (ceilDiv (s.tbU + 1 - 1000 * p * 65536) (intervalU (s.getS (Reg.PCL_CFG_LOG_DREQ p))))

/-- Delay_Req n of port p's client is behind. -/
def dreqPassed (s : State) (p : Fin 8) (n : Nat) : State := s.setClient p { s.client p with nreq := some (n + 1) }

/-- The end-to-end Delay_Req n of port p's client. -/
def dreqMsg (s : State) (p : Fin 8) (b n : Nat) : PtpOut :=
  { ptpBase s b (targetOf s p) 1 n with env := ⟨groupDst 1, none, 0⟩, unicast := false }

/-- The MAC address of the chosen master of port p's client. -/
def masterMac (s : State) (p : Fin 8) (mst : Nat) : Nat :=
  (((s.client p).masters.find? (fun a => a.1.ident = mst)).map (fun a => a.1.mac)).getD 0

section
variable {p : Fin 8} {mst : Nat} {s : State} (hc : (s.client p).master = some mst) (hr : clientRuns s p = true)
  (he : s.bit (Reg.PB_CFG_EN (s.get (Reg.PCL_CFG_PROFILE p))) = true)
  (hy : s.get (Reg.PB_CFG_TYPE (s.get (Reg.PCL_CFG_PROFILE p))) = 0 ∨ s.get (Reg.PB_CFG_TYPE (s.get (Reg.PCL_CFG_PROFILE p))) = 2)
  (ht : s.tbLive = true)
include hc hr he hy ht

/-- What a client of the end-to-end mechanism does goes by the instant of its Delay_Req. -/
theorem exec_delayReqTx :
    ∃ u, u = dreqPassed s p (dreqNext s p) ∧ exec (.delayReqTx p) s = .next (
      if prepState s (dreqAt s p (dreqNext s p)) = 0 then s
      else if prepState s (dreqAt s p (dreqNext s p)) = 2 then u.setFlag Flag.CLA_STREAM_MISS
      else originate u (ownTxn (dreqMsg u p (s.get (Reg.PCL_CFG_PROFILE p)) (dreqNext s p)) (targetOf u p)
        (dreqAt s p (dreqNext s p))
        (if isGroup (targetOf u p) then some (grantSeq u (masterMac s p mst) 1 (dreqNext s p)) else none)) Flag.CLA_STREAM_MISS) := by
  have h3 : ¬ s.get (Reg.PB_CFG_TYPE (s.get (Reg.PCL_CFG_PROFILE p))) = 3 := by omega
  refine ⟨_, rfl, ?_⟩
  show execDelayReqTx p s = _
  unfold execDelayReqTx
  extract_lets c b ty e2e
  split
  next h => cases hc.symm.trans h
  next mst' h =>
    cases hc.symm.trans h
    refine congrArg Host.Outcome.next ((if_neg (by obtain h | h := hy <;> simp [e2e, ty, b, hr, he, ht, h])).trans ?_)
    simp +zetaDelta only [h3, decide_false, Bool.false_eq_true, if_false]
    rfl

theorem exec_delayReqTx_late (hl : prepState s (dreqAt s p (dreqNext s p)) = 2) :
    exec (.delayReqTx p) s = .next ((dreqPassed s p (dreqNext s p)).setFlag Flag.CLA_STREAM_MISS) := by
  obtain ⟨u, rfl, hx⟩ := exec_delayReqTx hc hr he hy ht
  rw [hx, if_neg (by omega), if_pos hl]

theorem exec_delayReqTx_port (hl : prepState s (dreqAt s p (dreqNext s p)) = 1)
    (hg : isGroup (targetOf (dreqPassed s p (dreqNext s p)) p) = false) :
    ∃ u, u = dreqPassed s p (dreqNext s p) ∧ exec (.delayReqTx p) s = .next (originate u
      (ownTxn (dreqMsg u p (s.get (Reg.PCL_CFG_PROFILE p)) (dreqNext s p)) (targetOf u p) (dreqAt s p (dreqNext s p)) none)
        Flag.CLA_STREAM_MISS) := by
  obtain ⟨u, rfl, hx⟩ := exec_delayReqTx hc hr he hy ht
  refine ⟨_, rfl, ?_⟩
  rw [hx, if_neg (by omega), if_neg (by omega), if_neg (by simp [hg])]

end

/-! ### Negotiation and the grant table -/

/-- The negotiation TLVs of a Signaling message: the state after, and the TLVs that answer them. -/
def negotiateAll (s : State) (q : CtrlMsg) : State × List SigTlv :=
  q.m.sigs.foldl (fun a g => ((negotiate (takeGrant a.1 q g) q g).1, a.2 ++ (negotiate (takeGrant a.1 q g) q g).2.toList)) (s, [])

/-- A CTRL engine e answers the negotiation TLVs of a message without authentication in one Signaling message of `len` octets, sealed
where the binding says so. -/
def answerTlvs (r : State × List SigTlv) (q : CtrlMsg) (e len : Nat) : State :=
  if r.2.isEmpty then r.1
  else match ownSeal r.1 q.bind with
    | none => withheld r.1 q.bind
    | some sealed =>
      let t := targetOf r.1 q.port
      let m := { ptpBase r.1 q.bind t 0xC q.m.seqId with
        env := replyEnv r.1 q.port q.f, reqPort := q.m.sender, unicast := true, sigs := r.2 }
      sendUnbooked (if sealed then satBump r.1 6 1 else r.1) t
        (.ptp (if sealed then m.withTlv (authOut r.1 q.bind (4 * e)) else m)) len
        (if isGroup t then
          some (replySeq (if sealed then satBump r.1 6 1 else r.1) q.f.sa q.m.seqId 2) else none)
        none

theorem answerTlvs_of_unsealed {r : State × List SigTlv} {q : CtrlMsg} {e len : Nat} (hn : r.2 ≠ [])
    (ho : ownSeal r.1 q.bind = some false) (ht : targetOf r.1 q.port < 8) :
    answerTlvs r q e len = sendUnbooked r.1 (targetOf r.1 q.port) (.ptp
      { ptpBase r.1 q.bind (targetOf r.1 q.port) 0xC q.m.seqId with
        env := replyEnv r.1 q.port q.f, reqPort := q.m.sender, unicast := true, sigs := r.2 }) len none none := by
  refine (if_neg (by simpa using hn)).trans ?_
  rw [ho]
  exact congrArg (fun n => sendUnbooked r.1 _ _ len n none) (if_neg (by simp [isGroup_of_port ht]))

/-- In SERVICE a message without authentication goes by its type and its binding's. -/
theorem exec_signalingRx {s : State} {q : CtrlMsg} {l : List CtrlMsg} {e : Nat} {es : List Nat} {ok : Bool} {len : Nat}
    (hq : s.cla.ctrlq = q :: l) (he : enginesOf s 4 = e :: es) (hm : s.mode = .service) (ha : q.m.auth = none) :
    ∃ u, u = s.setCla (fun c => { c with ctrlq := l }) ∧ exec (.signalingRx ok len) s = .next (
      if q.m.type = 0xD then punt u q.port q.f 4 q.flags q.rule q.trx
      else if u.get (Reg.PB_CFG_TYPE q.bind) != 3 then u else answerTlvs (negotiateAll u q) q e len) := by
  refine ⟨_, rfl, ?_⟩
  show execSignalingRx ok len s = _
  unfold execSignalingRx
  rw [hq, he]
  simp only [List.head?_cons, ha]
  exact congrArg Host.Outcome.next ((if_neg (fun h => bne_iff_ne.mp h hm)).trans (if_neg (by simp)))

theorem exec_grantWalk {late bad : List Nat} {s : State} (hm : s.mode = .service) (he : s.bit Reg.CLA_GT_CFG_EN = true)
    (ht : s.tbLive = true) (hw : s.cla.walkAt + 7812500 ≤ s.freeNs) :
    exec (.grantWalk late bad) s =
      .next (s.cla.tokens.foldl (walkSlot late bad) (s.setCla (fun c => { c with walkAt := s.freeNs }))) :=
  congrArg Host.Outcome.next (if_neg (by simp [hm, he, ht, hw]))

/-! ### Work of the millisecond and of the second -/

theorem exec_admissionRefresh {s : State} (ht : s.atMs = true) (hb : s.mode ≠ .boot) (hc : s.mode ≠ .test) :
    exec .admissionRefresh s =
      .next ((List.range 4).foldl refreshClass (s.put Reg.CLA_SADM_S_ADM (satU 16 (roundQ (sAdm s * 16384)).toNat))) :=
  congrArg Host.Outcome.next (if_neg (by simp [ht, hb, hc]))

theorem exec_reconfDrainEnd {s : State} (hp : s.cla.paused ≠ []) (ho : ∀ c ∈ s.cla.paused, occOf s c = 0) :
    exec .reconfDrainEnd s = .next (storeService { s with cla := { s.cla with reconf := [], paused := [] } } s.cla.reconf) :=
  congrArg Host.Outcome.next (if_neg (by simpa [hp] using ho))

theorem exec_svcViolation {s : State} (h : s.atSec = true) : exec .svcViolation s = .next ((List.range 16).foldl vioRecord s) :=
  congrArg Host.Outcome.next (if_pos h)

theorem exec_grantSummary {s : State} (h : s.atSec = true) (hg : s.cla.grants ≠ (0, 0, 0, 0)) :
    exec .grantSummary s = .next ((s.setCla (fun c => { c with grants := (0, 0, 0, 0) })).journal 0 0x0010 0x1004
      (leBytes 2 (satU 16 s.cla.grants.1) ++ leBytes 2 (satU 16 s.cla.grants.2.1) ++ leBytes 2 (satU 16 s.cla.grants.2.2.1)
        ++ leBytes 2 (satU 16 s.cla.grants.2.2.2) ++ leBytes 4 (s.cla.tokens.filter (fun p => p.2.isSome)).length)) :=
  congrArg Host.Outcome.next (if_neg (by simp [h, hg]))

/-! ### Injection and the return of an engine -/

/-- The entry that an INJECT ring gives, its completion reserved, and what becomes of it in SERVICE. -/
theorem exec_injectEntry {r : Fin 64} {h f : List Byte} {s : State} (he : s.bit Reg.CLA_INJ_EN = true)
    (hr : s.get Reg.CLA_INJ_RING = r.val) (hs : ringState s r = 1) (hy : s.get (Reg.HR_CFG_TYPE r) = 4) (hu : ringUsed s r ≠ 0)
    (hm : s.mode = .service) (hq : cqValid s r = true) (hv : canReserve s (cqOf s r) 1 = true) :
    ∃ u, u = reserve (setCons s r (consPos s r + 1)) (cqOf s r) ∧ (u.mode = .service →
      (injBad u r h f = true → exec (.injectEntry r h f) s =
        .next (postCompletion u (cqOf u r) ⟨leNat h 4 4, St.invalid, false, r, 0, 0, []⟩ false)) ∧
      (injBad u r h f = false → isGroup (leNat h 0 1) = false → exec (.injectEntry r h f) s =
        .next (sendUnbooked u (leNat h 0 1) (.injected f) (f.length + 4) none (some (r, leNat h 4 4, bitOf (leNat h 1 1) 0))))) := by
  refine ⟨_, rfl, fun hs' => ⟨fun hb => ?_, fun hb hg => ?_⟩⟩ <;>
    refine congrArg Host.Outcome.next ((if_neg (by simp [he, hr, hs, hy, hu, hm])).trans ((if_neg (by simp [hq])).trans
      ((if_neg (by simp [hv])).trans ((if_neg (by simp [hs'])).trans ?_))))
  · exact if_pos hb
  · exact (if_neg (by simp [hb])).trans (if_neg (by simp [hg]))

theorem exec_engineRejoin {e : Fin 16} {s : State} (hd : engDown s e = true) (ht : s.atMs = true)
    (hl : s.cla.engAt.get (fun _ => 0) e < s.freeNs) :
    ∃ u, u = windowEvent { s with sys := { s.sys with engReset := setBit s.sys.engReset e false } } 0 e 100000 ∧
      exec (.engineRejoin e) s =
        .next (showClasses (u.journal 1 0x0010 0x1005 (leBytes 1 e ++ leBytes 1 0 ++ leBytes 1 (engRole u e) ++ leBytes 5 0))) :=
  ⟨_, rfl, congrArg Host.Outcome.next (if_neg (by simp [hd, ht, hl]))⟩

/-- Settles O23, row by row. Originating straight into a CTRL context, with its miss, is log 49; management messages after the CTRL queue
are log 50; the types under which Signaling and Delay_Req are answered are log 51. -/
theorem serviceEventsAct : Obligations.ServiceEventsAct := by
  refine ⟨fun e t c s => exec_requestDispatch, fun e c x m ok intact s => exec_aeadComplete_opened,
    fun e c x m ok intact s => exec_aeadComplete_sealed, fun e c len a b x p q s => exec_ttxGrant,
    fun e c len x s => exec_frameCommit,
    fun i ann s hm h0 hk ht => ⟨_, _, rfl, rfl, exec_streamPrepare_late hm h0 hk ht, fun m t hi hp he hl hb => ?_⟩,
    fun s f l hf hm => ⟨_, _, rfl, rfl, ?_⟩,
    fun s q l e es ok len hq he hm ha => ?_,
    fun s late bad => exec_grantWalk,
    fun p mst s hc hr he hy ht => ⟨_, _, rfl, rfl, exec_delayReqTx_late hc hr he hy ht, fun hl hg => ?_⟩,
    fun s => exec_admissionRefresh, fun s => exec_reconfDrainEnd, fun s => exec_svcViolation, fun s => exec_grantSummary,
    fun r h f s => exec_injectEntry, fun e s => exec_engineRejoin⟩
  · subst hi he
    exact exec_streamPrepare_port hm h0 hk ht hp hl hb
  · obtain ⟨u, rfl, he⟩ := exec_followUpPrepare hf hm
    exact he
  · obtain ⟨u, hu, hx⟩ := exec_signalingRx (ok := ok) (len := len) hq he hm ha
    refine ⟨u, hu, fun hd => ?_, fun hd h3 => ?_, fun r t hr ht hd h3 hn ho hp => ?_⟩
    · rw [hx, if_pos hd]
    · rw [hx, if_neg hd, if_pos (by simpa using h3)]
    · subst hr ht
      rw [hx, if_neg hd, if_neg (by simp [h3])]
      exact congrArg Host.Outcome.next (answerTlvs_of_unsealed hn ho hp)
  · obtain ⟨u, rfl, he⟩ := exec_delayReqTx_port hc hr he hy ht hl hg
    exact he

end Sys2Proof.Machine
end
